-- ==== Sys2Proof/Word.lean ====
section
/-!
DEFINITION. Sys2Proof/Word.lean: the words the QSL-3264 moves and the sorted map its sparse stores are kept in.
-/
namespace Sys2Proof

/-- A byte of a packet, a table or a record. -/
abbrev Byte := BitVec 8

/-- A 32-bit parameter value (R3). -/
abbrev Word := BitVec 32

/-- Keys strictly rising: the one form a sparse store is kept in. -/
def rising {α : Type} : List (Nat × α) → Bool
  | [] => true
  | [_] => true
  | (a, _) :: (b, y) :: t => decide (a < b) && rising ((b, y) :: t)

/-- A sparse store by key: a list of pairs with strictly rising keys, so that one content is one list. -/
structure KMap (α : Type) where
  /-- The pairs, keys rising. -/
  cells : List (Nat × α)
  /-- The keys do rise. -/
  ok : rising cells = true
deriving DecidableEq, Repr

/-- The store that holds nothing. -/
def KMap.empty {α : Type} : KMap α := ⟨[], rfl⟩

end Sys2Proof
end

