-- ==== Sys2Proof/Syntax.lean ====
section
/-!
DEFINITION. Sys2Proof/Syntax.lean: the commands of the QSL-3264, one constructor for each row of the operation table,
and the operands they carry. Requests carry their KCP fields and their parameter bytes as they stand on the wire.
-/
namespace Sys2Proof

/-- The transport a request arrives on (R55). -/
inductive Via where
  /-- An uplink, ports 48 to 51. -/
  | uplink
  /-- The chain up port, port 52. -/
  | chain
  /-- The service port, port 55. -/
  | service
  /-- A relay over Seamlink from an ingress device. -/
  | relay
  /-- Another device of the array over Seamlink, in its own right. -/
  | device
  /-- The broadcast flood of the mesh, which receives no reply (R50). -/
  | flood
  /-- The chain up port, for a broadcast that another device of the chain received first: it has no reply (R50). -/
  | passed
deriving DecidableEq, Repr

/-- A host identity (R55). Fields that do not belong to the transport are 0. -/
structure HostId where
  /-- The transport. -/
  via : Via
  /-- Uplink number, 0 to 3. -/
  uplink : Nat
  /-- VLAN ID of a tagged frame, `none` for an untagged one. -/
  vlan : Option Nat
  /-- The source IP address is an IPv6 address. -/
  v6 : Bool
  /-- Source IP address as a number. -/
  ip : Nat
  /-- Source UDP port. -/
  port : Nat
  /-- Ingress device of a relay, or the sending device. -/
  ingress : Nat
  /-- Index of the host identity at the ingress device (R228). -/
  hid : Nat
deriving DecidableEq, Repr

/-- The authentication prefix of Table 2-6 and the 16-byte tag of R42. -/
structure Auth where
  /-- KEY_SLOT. -/
  slot : Nat
  /-- COUNTER, 48 bits. -/
  counter : Nat
  /-- The tag. -/
  tag : List Byte
deriving DecidableEq, Repr

/-- A KCP request that passed the checks of R44: the header of Table 2-1, the authentication prefix apart, and the
parameters that follow it. -/
structure Req where
  /-- Who sends it and how it arrived. -/
  host : HostId
  /-- VERSION. -/
  version : Nat
  /-- DEST. -/
  dest : Nat
  /-- SOURCE. -/
  source : Nat
  /-- SEQ. -/
  seq : Nat
  /-- GEN. -/
  gen : Nat
  /-- RTX. -/
  rtx : Bool
  /-- Prefix and tag, when TAG is set. -/
  auth : Option Auth
  /-- The parameters, the patch prefix included. -/
  params : List Byte
  /-- RSEQ of the relay envelope it came in (R228); 0 on another transport. -/
  rseq : Nat
deriving DecidableEq, Repr

/-- How the programming of flash ends (R355, R358). -/
inductive Prog where
  /-- Programmed and verified. -/
  | good
  /-- A program or erase failed its verify: the sector or block is retired and the record written elsewhere. -/
  | retired
  /-- The failure could not be recovered. -/
  | failed
deriving DecidableEq, Repr

/-- What a reset cuts off in the internal flash (Table 11-6). -/
structure Cut where
  /-- Whole records of the running batch that were programmed. -/
  batch : Nat
  /-- Of the immediate record in hand: 0 nothing, 1 its first copy torn, 2 its first copy whole, 3 that and the second
  torn, 4 everything. -/
  imm : Nat
deriving DecidableEq, Repr

/-- A packet header's check by its ECC (R75). -/
inductive Hdr where
  /-- Right as received. -/
  | good
  /-- A single-bit error, corrected. -/
  | fixed
  /-- An uncorrectable error. -/
  | bad
deriving DecidableEq, Repr

/-- How a write on a sensor control bus ends (R90, R92). -/
inductive WriteEnd where
  /-- The condition for completion holds. -/
  | done
  /-- An address or data byte not acknowledged, or a failed read-back. -/
  | nack
  /-- A bus error (R90). -/
  | busError
  /-- Ended by its STOP, after a read-back that returned these bytes, in the order sent. -/
  | readBack (data : List Byte)
deriving DecidableEq, Repr

/-- A record block read of a line that returned an error (R114). -/
structure BlockErr where
  /-- The block lies in the target bank; else in the applied bank. -/
  target : Bool
  /-- The state plane's block; else the coefficient plane's. -/
  state : Bool
  /-- The 64-byte block within the line's part of the plane (R270). -/
  block : Nat
deriving DecidableEq, Repr

/-- Kinds of latching fault of a shutter channel: Table 10-3 and the failing results of Table 10-4. -/
inductive ShFault where
  /-- Open load. -/
  | openLoad
  /-- Short to supply. -/
  | shortSupply
  /-- Short to ground. -/
  | shortGround
  /-- Short of the high-side switch. -/
  | switchShort
deriving DecidableEq, Repr

/-- What a DRAM read, or its command, meets (R291). -/
inductive DramErr where
  /-- A correctable error. -/
  | corrected
  /-- An uncorrectable error. -/
  | uncorrectable
  /-- A poisoned block. -/
  | poisoned
  /-- A command-path parity error whose reissue succeeds. -/
  | parity
  /-- A command-path parity error whose reissue fails again. -/
  | parityTwice
  /-- Errors in so many bytes of the block, as its code meets them (R269). -/
  | bytes (n : Nat)
  /-- A block delivered from a wrong address: its device address is folded into the code (R269). -/
  | misplaced
deriving DecidableEq, Repr

/-- A Seamlink frame's header (Table 7-5) as it arrives on a link. -/
structure SeamHdr where
  /-- The link it arrived on. -/
  link : Nat
  /-- HOPS. -/
  hops : Nat
  /-- DEST. -/
  dest : Nat
  /-- SRC. -/
  src : Nat
  /-- FSEQ. -/
  fseq : Nat
  /-- The frame's CRC is right and it is not ended as aborted (R223). -/
  ok : Bool
deriving DecidableEq, Repr

/-- A Seamlink frame whose payload is read as bytes. -/
structure SeamMsg where
  /-- Its header. -/
  hdr : SeamHdr
  /-- Its payload. -/
  body : List Byte
deriving DecidableEq, Repr

/-- A transfer of a bridge that fails its CRC (R21). -/
structure BridgeFault where
  /-- Bridge. -/
  bridge : Nat
  /-- It is the replay of the transfer in hand that fails; else that replay succeeded and another transfer fails. -/
  again : Bool
deriving DecidableEq, Repr

/-- Who reads a DRAM block (R271, Table 8-3). -/
structure DramReader where
  /-- Port of Table 8-3. -/
  port : Nat
  /-- It is the read of a partial write. -/
  merge : Bool
deriving DecidableEq, Repr

/-- A grandmaster dataset as offered for the dataset comparison (R259). -/
structure Offer where
  /-- priority1. -/
  prio1 : Nat
  /-- clockClass. -/
  cls : Nat
  /-- clockAccuracy. -/
  acc : Nat
  /-- offsetScaledLogVariance. -/
  var : Nat
  /-- priority2. -/
  prio2 : Nat
  /-- grandmasterIdentity. -/
  gm : Nat
  /-- stepsRemoved. -/
  steps : Nat
deriving DecidableEq, Repr

/-- A device's link-state advertisement (R226). -/
structure Lsa where
  /-- UID. -/
  uid : Nat
  /-- Address. -/
  addr : Nat
  /-- State, as Table 7-7. -/
  state : Nat
  /-- LSA sequence. -/
  seq : Nat
  /-- Neighbour's address on each link, 0x3FF for none. -/
  links : List Nat
  /-- Time offer. -/
  offer : Option Offer
  /-- ADDR_SINCE of the device, as the conflict rule of R219 needs it (log 38). -/
  since : Nat
deriving DecidableEq, Repr

/-- The envelope of a relay frame (R228). -/
structure Envelope where
  /-- INGRESS. -/
  ingress : Nat
  /-- HID. -/
  hid : Nat
  /-- RSEQ. -/
  rseq : Nat
deriving DecidableEq, Repr

/-- What a relay frame carries behind its envelope. -/
inductive Relayed where
  /-- A request and its opcode. -/
  | request (op : Nat) (r : Req)
  /-- A reply packet. -/
  | reply (packet : List Byte)
deriving DecidableEq, Repr

/-- The reply a relayed request met at its destination, as it returns to its ingress device. -/
structure RelayAnswer where
  /-- The replying device. -/
  source : Nat
  /-- OPCODE. -/
  opcode : Nat
  /-- SEQ. -/
  seq : Nat
  /-- Status code of Table 2-3. -/
  status : Nat
  /-- Detail code. -/
  detail : Nat
  /-- Data after the status word. -/
  data : List Byte
  /-- GEN. -/
  gen : Nat
  /-- RTX. -/
  rtx : Bool
  /-- Prefix and tag, when the reply is tagged. -/
  auth : Option Auth
deriving DecidableEq, Repr

/-- A command of the block: one constructor for each row of the operation table, in its order. -/
inductive Instr where
  /-- PING (R377). -/
  | ping (r : Req)
  /-- DEVICE_STATUS (R377). -/
  | deviceStatus (r : Req)
  /-- FABRIC_STATUS (R41). -/
  | fabricStatus (r : Req)
  /-- FABRIC_PROFILE (R40). -/
  | fabricProfile (r : Req)
  /-- CORE_STATUS (R103). -/
  | coreStatus (r : Req)
  /-- CORE_SETTING (R93). -/
  | coreSetting (r : Req)
  /-- CORE_ENABLE (R89). -/
  | coreEnable (r : Req)
  /-- CORE_DISABLE (R89). -/
  | coreDisable (r : Req)
  /-- FRAME_STATS (R100). -/
  | frameStats (r : Req)
  /-- PIPE_STATUS (R139). -/
  | pipeStatus (r : Req)
  /-- PIPE_PROFILE (R138). -/
  | pipeProfile (r : Req)
  /-- SHUTTER_PROFILE (R173). -/
  | shutterProfile (r : Req)
  /-- SHUTTER_NOW (R174). -/
  | shutterNow (r : Req)
  /-- SEAM_SOLVE (R174). -/
  | seamSolve (r : Req)
  /-- CAL_STATUS (R174). -/
  | calStatus (r : Req)
  /-- CAL_RELOAD (R174). -/
  | calReload (r : Req)
  /-- TILE_STATUS (R209). -/
  | tileStatus (r : Req)
  /-- PATCH_STATUS (R209). -/
  | patchStatus (r : Req)
  /-- BLINK_REGISTER (R183). -/
  | blinkRegister (r : Req)
  /-- OUTPUT_PROFILE (R208). -/
  | outputProfile (r : Req)
  /-- ENUMERATE (R214). -/
  | enumerate (r : Req)
  /-- ADDRESS_SET (R217). -/
  | addressSet (r : Req)
  /-- CENSUS (R257). -/
  | census (r : Req)
  /-- CENSUS_READ (R257). -/
  | censusRead (r : Req)
  /-- CONFIG_STAGE (R251). -/
  | configStage (r : Req)
  /-- CONFIG_ACTIVATE (R252). -/
  | configActivate (r : Req)
  /-- CONFIG_DISCARD (R253). -/
  | configDiscard (r : Req)
  /-- PLACEMENT_STATUS (R262). -/
  | placementStatus (r : Req)
  /-- TIME_STATUS (R262). -/
  | timeStatus (r : Req)
  /-- MEM_STATUS (R298). -/
  | memStatus (r : Req)
  /-- MEM_PROFILE (R297). -/
  | memProfile (r : Req)
  /-- CONV_SEQ_START (R325). -/
  | convSeqStart (r : Req)
  /-- CONV_STATUS (R325). -/
  | convStatus (r : Req)
  /-- CONV_CALIBRATE_ZERO (R318). -/
  | convCalibrateZero (r : Req)
  /-- CONV_CALIBRATE_FULL_SCALE (R318). -/
  | convCalibrateFullScale (r : Req)
  /-- CONV_CALIBRATE_FACTORY (R318). -/
  | convCalibrateFactory (r : Req)
  /-- CONV_CALIBRATE_ABANDON (R318). -/
  | convCalibrateAbandon (r : Req)
  /-- SHUTTER_DRIVE_STATUS (R343). -/
  | shutterDriveStatus (r : Req)
  /-- SHUTTER_TEST_DIAGNOSE (R336). -/
  | shutterTestDiagnose (r : Req)
  /-- SHUTTER_TEST_CLOSE (R330). -/
  | shutterTestClose (r : Req)
  /-- SHUTTER_TEST_RELEASE (R343). -/
  | shutterTestRelease (r : Req)
  /-- SHUTTER_TEST_CLEAR (R338). -/
  | shutterTestClear (r : Req)
  /-- SHUTTER_TEST_APPLY_PROFILE (R343). -/
  | shutterTestApplyProfile (r : Req)
  /-- NV_COMMIT (R355). -/
  | nvCommit (r : Req)
  /-- NV_STATUS (R367). -/
  | nvStatus (r : Req)
  /-- DOZE (R392). -/
  | doze (r : Req)
  /-- WAKE (R394). -/
  | wake (r : Req)
  /-- WORKROOM_RESTART (R387). -/
  | workroomRestart (r : Req)
  /-- EVENT_READ (R414). -/
  | eventRead (r : Req)
  /-- EVENT_ROUTE (R414). -/
  | eventRoute (r : Req)
  /-- LOG_READ (R414). -/
  | logRead (r : Req)
  /-- HEALTH_STATUS (R415). -/
  | healthStatus (r : Req)
  /-- PRM_READ (R66). -/
  | prmRead (r : Req)
  /-- PRM_WRITE (R66). -/
  | prmWrite (r : Req)
  /-- PRM_BULK_READ (R66). -/
  | prmBulkRead (r : Req)
  /-- PRM_BULK_WRITE (R66). -/
  | prmBulkWrite (r : Req)
  /-- PRM_MODIFY (R66). -/
  | prmModify (r : Req)
  /-- TAP_SET (R137). -/
  | tapSet (r : Req)
  /-- TAP_STREAM (R136). -/
  | tapStream (r : Req)
  /-- TAP_STREAM_STOP (R136). -/
  | tapStreamStop (r : Req)
  /-- TABLE_READ (R68). -/
  | tableRead (r : Req)
  /-- TABLE_WRITE (R68). -/
  | tableWrite (r : Req)
  /-- MARGIN_SCAN (R288). -/
  | marginScan (r : Req)
  /-- MARGIN_ABORT (R289). -/
  | marginAbort (r : Req)
  /-- VIEW (R231). -/
  | view (r : Req)
  /-- WITHDRAW (R245). -/
  | withdraw (r : Req)
  /-- COMMIT (R235). -/
  | commit (r : Req)
  /-- QUERY (R241). -/
  | query (r : Req)
  /-- READY (R237). -/
  | ready (r : Req)
  /-- STATE (R237). -/
  | state (r : Req)
  /-- DONE (R237). -/
  | done (r : Req)
  /-- RESERVE (R148). -/
  | reserve (r : Req)
  /-- GRANT (R149). -/
  | grant (r : Req)
  /-- RELEASE (R149). -/
  | release (r : Req)
  /-- SUMS (R160). -/
  | sums (r : Req)
  /-- NODES (R161). -/
  | nodes (r : Req)
  /-- CENSUS_GATHER (R257). -/
  | censusGather (r : Req)
  /-- CONFIG_EXCHANGE (R254). -/
  | configExchange (r : Req)
  /-- KEY_STATUS (R379). -/
  | keyStatus (r : Req)
  /-- KEY_ROTATE (R380). -/
  | keyRotate (r : Req)
  /-- FW_BEGIN (R383). -/
  | fwBegin (r : Req)
  /-- FW_DATA (R383). -/
  | fwData (r : Req)
  /-- FW_COMMIT (R383). -/
  | fwCommit (r : Req)
  /-- FW_SELECT_TRIAL (R384). -/
  | fwSelectTrial (r : Req)
  /-- FW_SELECT_CONFIRM (R384). -/
  | fwSelectConfirm (r : Req)
  /-- DEBUG_CHALLENGE (R391). -/
  | debugChallenge (r : Req)
  /-- DEBUG_UNLOCK (R391). -/
  | debugUnlock (r : Req)
  /-- AUTH_SET (R381). -/
  | authSet (r : Req)
  /-- PARAMETER_WRITE (R3). `a`: Parameter ID. `v`: Value. -/
  | parameterWrite (r : Req) (a : Nat) (v : Nat)
  /-- SEQ_GO (R314). `m`: Modulator. -/
  | seqGo (r : Req) (m : Nat)
  /-- INJ_GO (R316). `ch`: Channel. -/
  | injGo (r : Req) (ch : Nat)
  /-- TEST_GO (R129). `lane`: Lane. -/
  | testGo (r : Req) (lane : Nat)
  /-- DIRECT_DATA (R99). `v`: Value written. -/
  | directData (r : Req) (v : Nat)
  /-- DATA (R311). `m`: Modulator. -/
  | data (r : Req) (m : Nat)
  /-- TIME_LO (R263). -/
  | timeLo (r : Req)
  /-- FSP_SEL (R285). `f`: Set point. -/
  | fspSel (r : Req) (f : Nat)
  /-- BAD_PACKET (R44). -/
  | badPacket
  /-- UNMATCHED_REPLY (R46). -/
  | unmatchedReply
  /-- KCP_FORWARD (R53). `op`: Opcode. -/
  | kcpForward (op : Nat) (r : Req)
  /-- RELAY (R228). `h`: Header of the frame. `e`: Envelope. `m`: What the frame carries. -/
  | relay (h : SeamHdr) (e : Envelope) (m : Relayed)
  /-- RELAY_REPLY (R54). `hid`: HID of the envelope. `x`: The reply. -/
  | relayReply (hid : Nat) (x : RelayAnswer)
  /-- RELAY_TIMEOUT (R54). -/
  | relayTimeout
  /-- RELAY_GAP_TIMEOUT (R228). `ingress`: Ingress device. `hid`: HID. -/
  | relayGapTimeout (ingress : Nat) (hid : Nat)
  /-- DUPLICATE_CACHE_EXPIRY (R57). -/
  | duplicateCacheExpiry
  /-- BROADCAST_KCP (R227). `h`: Header of the frame. `op`: Opcode. -/
  | broadcastKcp (h : SeamHdr) (op : Nat) (r : Req)
  /-- ARP_REQUEST (R52). `u`: Uplink. `vlan`: VLAN ID of a tagged frame. `mac`: MAC address of the asker. `ip`: IPv4
  address of the asker. `target`: IPv4 address asked for. -/
  | arpRequest (u : Nat) (vlan : Option Nat) (mac : Nat) (ip : Nat) (target : Nat)
  /-- ICMP_ECHO (R52). `u`: Uplink. `vlan`: VLAN ID of a tagged frame. `v6`: IPv6. `src`: Source address. `dst`:
  Destination address. `body`: What the request carries behind its checksum. -/
  | icmpEcho (u : Nat) (vlan : Option Nat) (v6 : Bool) (src : Nat) (dst : Nat) (body : List Byte)
  /-- NEIGHBOUR_SOLICITATION (R52). `u`: Uplink. `vlan`: VLAN ID of a tagged frame. `src`: Source address. `target`:
  Address asked for. -/
  | neighbourSolicitation (u : Nat) (vlan : Option Nat) (src : Nat) (target : Nat)
  /-- PAUSE_FRAME (R51). `u`: Uplink. `quanta`: PAUSE quanta. -/
  | pauseFrame (u : Nat) (quanta : Nat)
  /-- PAUSE_END (R51). `u`: Uplink. -/
  | pauseEnd (u : Nat)
  /-- UNSERVED_FRAME (R51). `u`: Uplink. `damaged`: Received damaged. -/
  | unservedFrame (u : Nat) (damaged : Bool)
  /-- SYNC (R258). `u`: Uplink. `v6`: IPv6. `addr`: Source address. `domain`: PTP domain. `seq`: Sequence. `twoStep`:
  twoStepFlag. -/
  | sync (u : Nat) (v6 : Bool) (addr : Nat) (domain : Nat) (seq : Nat) (twoStep : Bool)
  /-- FOLLOW_UP (R258). `u`: Uplink. `domain`: PTP domain. `seq`: Sequence. `origin`: Origin stamp, ns. -/
  | followUp (u : Nat) (domain : Nat) (seq : Nat) (origin : Nat)
  /-- DELAY_RESP (R258). `u`: Uplink. `domain`: PTP domain. `seq`: Sequence. `received`: Receive stamp at the
  grandmaster, ns. -/
  | delayResp (u : Nat) (domain : Nat) (seq : Nat) (received : Nat)
  /-- ANNOUNCE (R258). `u`: Uplink. `domain`: PTP domain. `o`: Dataset. -/
  | announce (u : Nat) (domain : Nat) (o : Offer)
  /-- DELAY_REQ (R258). `u`: Uplink. -/
  | delayReq (u : Nat)
  /-- CHAIN_FRAME (R213). `fromUp`: On the up port; else the down port. `frame`: The bytes of the frame behind its SOF:
  TYPE, LEN, payload, CRC-16. `aborted`: It ends with K30.7. `room`: The outgoing queue has room. `passed`: It is a
  broadcast that another device of the chain received first. -/
  | chainFrame (fromUp : Bool) (frame : List Byte) (aborted : Bool) (room : Bool) (passed : Bool)
  /-- ENUMERATION_TOKEN (R215). `frame`: The bytes of the frame behind its SOF: TYPE, LEN, the token of Table 7-2,
  CRC-16. `aborted`: It ended with K30.7. -/
  | enumerationToken (frame : List Byte) (aborted : Bool)
  /-- NO_SIGNAL (R220). `up`: The up port; else the down port. -/
  | noSignal (up : Bool)
  /-- SIGNAL_RETURN (R220). `up`: The up port; else the down port. -/
  | signalReturn (up : Bool)
  /-- SYNC_CHARACTER (R221). -/
  | syncCharacter
  /-- FSYNC (R221). `level`: Level of the pin. -/
  | fsync (level : Bool)
  /-- SYNC_PERIOD (R221). -/
  | syncPeriod
  /-- HEARTBEAT (R229). `m`: Seamlink link. `b`: Payload of Table 7-7. -/
  | heartbeat (m : Nat) (b : List Byte)
  /-- HEARTBEAT_SEND (R229). -/
  | heartbeatSend
  /-- LINK_STATE_ADVERTISEMENT (R226). `h`: Header of the frame. `l`: The advertisement. -/
  | linkStateAdvertisement (h : SeamHdr) (l : Lsa)
  /-- LSA_REFRESH (R226). -/
  | lsaRefresh
  /-- TOPOLOGY_EXPIRY (R226). `uid`: UID. -/
  | topologyExpiry (uid : Nat)
  /-- THIRD_MISSED_HEARTBEAT (R230). `m`: Seamlink link. -/
  | thirdMissedHeartbeat (m : Nat)
  /-- LOSS_REPORT (R230). `h`: Header of the frame. `uid`: UID. `addr`: Address of the silent device. -/
  | lossReport (h : SeamHdr) (uid : Nat) (addr : Nat)
  /-- LINK_UP (R222). `m`: Seamlink link. `locked`: Both lanes are locked. -/
  | linkUp (m : Nat) (locked : Bool)
  /-- CONTRIBUTION (R241). `m`: The frame. -/
  | contribution (m : SeamMsg)
  /-- TILE_RECORD_CARRIAGE (R202). `m`: The frame. -/
  | tileRecordCarriage (m : SeamMsg)
  /-- HANDOVER_DATA (R237). `m`: The frame. -/
  | handoverData (m : SeamMsg)
  /-- CONFIGURATION_BLOCK (R255). `m`: The frame. -/
  | configurationBlock (m : SeamMsg)
  /-- SVC_SEND (R390). `frame`: TYPE, LEN, payload and CRC-16. `space`: The port has space for a frame of 1,444 bytes.
  -/
  | svcSend (frame : List Byte) (space : Bool)
  /-- SVC_RECEIVE (R390). -/
  | svcReceive
  /-- SVC_STATUS (R390). `space`: The port has space for a frame of 1,444 bytes. -/
  | svcStatus (space : Bool)
  /-- HOLD (R376). -/
  | hold
  /-- DEBUG_REQUEST (R390). `m`: Payload of the frame (Table 12-9). -/
  | debugRequest (m : List Byte)
  /-- FRAME_START (R81). `l`: CSI-2 link. `vc`: Virtual channel. `fn`: Frame number of the FS packet. `h`: Header check.
  -/
  | frameStart (l : Nat) (vc : Nat) (fn : Nat) (h : Hdr)
  /-- FRAME_END (R78). `l`: CSI-2 link. `vc`: Virtual channel. `n`: Frame number of the FE packet. `h`: Header check. -/
  | frameEnd (l : Nat) (vc : Nat) (n : Nat) (h : Hdr)
  /-- LINE_START (R77). `l`: CSI-2 link. `vc`: Virtual channel. `n`: Line number of the LS packet. `h`: Header check. -/
  | lineStart (l : Nat) (vc : Nat) (n : Nat) (h : Hdr)
  /-- LINE_END (R74). `l`: CSI-2 link. `vc`: Virtual channel. `h`: Header check. -/
  | lineEnd (l : Nat) (vc : Nat) (h : Hdr)
  /-- IMAGE_LINE (R77). `l`: CSI-2 link. `vc`: Virtual channel. `dt`: Data type. `payload`: Payload. `crcOk`: Its CRC is
  right. `h`: Header check. -/
  | imageLine (l : Nat) (vc : Nat) (dt : Nat) (payload : List Byte) (crcOk : Bool) (h : Hdr)
  /-- TELEMETRY (R83). `l`: CSI-2 link. `vc`: Virtual channel. `dt`: Data type. `payload`: Payload. `crcOk`: Its CRC is
  right. `h`: Header check. -/
  | telemetry (l : Nat) (vc : Nat) (dt : Nat) (payload : List Byte) (crcOk : Bool) (h : Hdr)
  /-- GENERIC_SHORT_PACKET (R74). `l`: CSI-2 link. `vc`: Virtual channel. `h`: Header check. -/
  | genericShortPacket (l : Nat) (vc : Nat) (h : Hdr)
  /-- FRAME_TIMEOUT (R78). `strm`: Stream: a core, or 64 + its companion camera. -/
  | frameTimeout (strm : Nat)
  /-- CORE_WRITE (R92). `b`: Sensor control bus. `e`: How the write ends. -/
  | coreWrite (b : Nat) (e : WriteEnd)
  /-- LANE_GRANT (R107). `lane`: Lane. -/
  | laneGrant (lane : Nat)
  /-- PASS_A (R105). `lane`: Lane. `errs`: Record block reads that returned an error. -/
  | passA (lane : Nat) (errs : List BlockErr)
  /-- PASS_B (R109). `lane`: Lane. -/
  | passB (lane : Nat)
  /-- RECORD_REPAIR (R115). `ok`: It succeeds. -/
  | recordRepair (ok : Bool)
  /-- ALARM_HOLD (R127). -/
  | alarmHold
  /-- SELFTEST (R129). `seen`: The I/O die saw it. -/
  | selftest (seen : Bool)
  /-- ALARM_LINE_FAULT (R129). `bridge`: Bridge. `sync`: A frame-sync line; else an alarm line. -/
  | alarmLineFault (bridge : Nat) (sync : Bool)
  /-- TAP_DATAGRAM (R136). `t`: Tap. -/
  | tapDatagram (t : Nat)
  /-- RATE_WINDOW (R37). `r`: Region. `rate`: Lane rate measured, 0.01 Mpx/s. -/
  | rateWindow (r : Nat) (rate : Nat)
  /-- BRIDGE_TRANSFER_ERROR (R21). `x`: The transfer. -/
  | bridgeTransferError (x : BridgeFault)
  /-- CYCLE_REQUEST (R153). `k`: Core. -/
  | cycleRequest (k : Nat)
  /-- RETRY (R149). `k`: Core. -/
  | retry (k : Nat)
  /-- GRANT_START_LIMIT (R149). `k`: Core. -/
  | grantStartLimit (k : Nat)
  /-- MAX_DEFER (R150). `k`: Core. -/
  | maxDefer (k : Nat)
  /-- GRANT_VOID (R149). `p`: Patch ID. -/
  | grantVoid (p : Nat)
  /-- OPEN_SETTLE_END (R143). `k`: Core. -/
  | openSettleEnd (k : Nat)
  /-- OPEN_CONFIRMATION (R337). `k`: Core. -/
  | openConfirmation (k : Nat)
  /-- OPEN_CONFIRMATION_TIMEOUT (R147). `k`: Core. -/
  | openConfirmationTimeout (k : Nat)
  /-- FLAG_CLOSED_FAULT (R147). `k`: Core. -/
  | flagClosedFault (k : Nat)
  /-- GATHER_RESULT (R157). `k`: Core. -/
  | gatherResult (k : Nat)
  /-- LEARNED_SET_STORE (R169). `ok`: It succeeds. -/
  | learnedSetStore (ok : Bool)
  /-- SEAM_SAMPLE (R160). -/
  | seamSample
  /-- SEAM_PERIOD (R161). -/
  | seamPeriod
  /-- SOLVE_END (R163). `r`: Region. -/
  | solveEnd (r : Nat)
  /-- PUBLICATION (R192). `p`: Patch ID. -/
  | publication (p : Nat)
  /-- HOLD_PERIOD (R192). `p`: Patch ID. -/
  | holdPeriod (p : Nat)
  /-- HIT_RECORD (R200). -/
  | hitRecord
  /-- TILE_RECORD_SEND (R199). `b`: Tile bus. -/
  | tileRecordSend (b : Nat)
  /-- HELD_NOTICE_REPEAT (R199). `t`: Tile ID. -/
  | heldNoticeRepeat (t : Nat)
  /-- TILE_SILENT (R203). `t`: Tile ID. -/
  | tileSilent (t : Nat)
  /-- HEALTH_QUERY (R198). `b`: Tile bus. -/
  | healthQuery (b : Nat)
  /-- HEALTH_REPLY (R198). `b`: Tile bus. The characters of ten bits on the bus in the reply window: `lead`: Those
  ahead of the record. `codes`: Those of the record. `rest`: Those behind it. -/
  | healthReply (b : Nat) (lead : List Nat) (codes : List Nat) (rest : List Nat)
  /-- REPLY_WINDOW_CLOSE (R198). `b`: Tile bus. -/
  | replyWindowClose (b : Nat)
  /-- REGISTRATION_SESSION (R183). -/
  | registrationSession
  /-- REGISTRATION_END (R185). -/
  | registrationEnd
  /-- DIRECTORY_DECISION (R233). `p`: Patch ID. -/
  | directoryDecision (p : Nat)
  /-- REBAL_PERIOD (R233). -/
  | rebalPeriod
  /-- RATE_MOVE (R248). `r`: Region. -/
  | rateMove (r : Nat)
  /-- DIRECTORY_TAKEOVER (R240). `p`: Patch ID. -/
  | directoryTakeover (p : Nat)
  /-- COMMIT_REPEAT (R235). `p`: Patch ID. -/
  | commitRepeat (p : Nat)
  /-- VIEW_REFRESH (R231). -/
  | viewRefresh
  /-- CONFIG_EXCHANGE_SEND (R254). -/
  | configExchangeSend
  /-- STAGING_COMPLETE (R251). -/
  | stagingComplete
  /-- ACTIVATION (R252). -/
  | activation
  /-- CENSUS_WAIT (R257). -/
  | censusWait
  /-- REFRESH_DUE (R278). `n`: Rank. `b`: Bank. `busy`: The bank is in use and the refresh is postponed. -/
  | refreshDue (n : Nat) (b : Nat) (busy : Bool)
  /-- MR4_POLL (R279). `codes`: Refresh code of each rank, mode register 4. -/
  | mr4Poll (codes : List Nat)
  /-- ZQ_CALIBRATION (R282). `c`: Channel. -/
  | zqCalibration (c : Nat)
  /-- POWER_DOWN_ENTRY (R283). `n`: Rank. -/
  | powerDownEntry (n : Nat)
  /-- SET_POINT_SWITCH (R285). -/
  | setPointSwitch
  /-- DRAM_READ_ERROR (R291). `n`: Rank. `bank`: Bank. `row`: Row. `col`: Column. `x`: Who reads.
  `e`: What the read meets. -/
  | dramReadError (n : Nat) (bank : Nat) (row : Nat) (col : Nat) (x : DramReader) (e : DramErr)
  /-- MIGRATE_DONE (R293). -/
  | migrateDone
  /-- MARGIN_SCAN_STEP (R289). `c`: Channel. `errors`: Errors the step counted. -/
  | marginScanStep (c : Nat) (errors : Nat)
  /-- CONVERSION_END (R309). `m`: Modulator. `raw`: Raw result. `isOver`: Modulator overrange. `up`: Reading with the
  open-wire source, up. `down`: Reading with the open-wire source, down. -/
  | conversionEnd (m : Nat) (raw : Int) (isOver : Bool) (up : Int) (down : Int)
  /-- CAL_STEP_DONE (R318). `m`: Modulator. -/
  | calStepDone (m : Nat)
  /-- WATCH_PERIOD (R322). -/
  | watchPeriod
  /-- PULL_IN_END (R333). `n`: Shutter channel. `mA`: Current at the end of pull-in, mA. -/
  | pullInEnd (n : Nat) (mA : Nat)
  /-- MAX_ON (R333). `n`: Shutter channel. -/
  | maxOn (n : Nat)
  /-- RELEASE_DECAY_END (R334). `n`: Shutter channel. -/
  | releaseDecayEnd (n : Nat)
  /-- ON_STATE_FAULT (R335). `n`: Shutter channel. `f`: The fault. -/
  | onStateFault (n : Nat) (f : ShFault)
  /-- OFF_STATE_DIAGNOSIS (R336). `n`: Shutter channel. `mv`: Voltage read at SHLS, mV. `hs`: Voltage read at SHHS, mV.
  `lowCur`: The low-side current source was seen. -/
  | offStateDiagnosis (n : Nat) (mv : Nat) (hs : Nat) (lowCur : Bool)
  /-- DIAG_PERIOD (R337). `n`: Shutter channel. -/
  | diagPeriod (n : Nat)
  /-- STUCK_ON (R336). `j`: High-side switch. -/
  | stuckOn (j : Nat)
  /-- VSHUT_LOW (R340). `mv`: VSHUT as read, mV. -/
  | vshutLow (mv : Nat)
  /-- IDLE_COMMIT (R354). -/
  | idleCommit
  /-- COMMIT_END (R355). `p`: How the programming ends. -/
  | commitEnd (p : Prog)
  /-- IMMEDIATE_RECORD (R356). `p`: How the programming ends. -/
  | immediateRecord (p : Prog)
  /-- COMPACTION (R357). `a`: Area. -/
  | compaction (a : Nat)
  /-- REFRESH_SCAN (R361). `weak`: Weak records found, by position. `bulk`: Bulk records due for rewriting, by position.
  `prog`: Progress of the scan afterwards, percent. -/
  | refreshScan (weak : List Nat) (bulk : List Nat) (prog : Nat)
  /-- RECALL_END (R362). `part`: The bulk part discovered: its size in bytes, its block size and whether it is NAND;
  none where none answers. -/
  | recallEnd (part : Option (Nat × Nat × Bool))
  /-- BULK_LOST (R348). -/
  | bulkLost
  /-- BULK_RECORD_WRITE (R364). `p`: How the programming ends. -/
  | bulkRecordWrite (p : Prog)
  /-- POWER_ON (R372). `c`: What the reset cuts off. -/
  | powerOn (c : Cut)
  /-- RESET_N (R372). `low`: Time RESET_N was low, ns. `c`: What the reset cuts off. -/
  | resetN (low : Nat) (c : Cut)
  /-- SUPERVISOR_TRIP (R427). `rail`: Rail, or 14 for the junction temperature. `isOver`: Modulator overrange. `c`: What
  the reset cuts off. -/
  | supervisorTrip (rail : Nat) (isOver : Bool) (c : Cut)
  /-- THIMBLE_FATAL (R372). `c`: What the reset cuts off. -/
  | thimbleFatal (c : Cut)
  /-- RESET_RELEASE (R429). `fuseOk`: Every fuse copy agrees. -/
  | resetRelease (fuseOk : Bool)
  /-- MEMORY_TEST_END (R374). `failed`: Ranks that failed. -/
  | memoryTestEnd (failed : List Nat)
  /-- IMAGE_VERIFIED (R375). -/
  | imageVerified
  /-- STARTED (R373). -/
  | started
  /-- CONFIG_RECALLED (R373). -/
  | configRecalled
  /-- WATCHDOG (R387). -/
  | watchdog
  /-- FW_VIOLATION (R371). `addr`: Address of the refused access. -/
  | fwViolation (addr : Nat)
  /-- FATAL_EXCEPTION (R387). -/
  | fatalException
  /-- WR_RESTART (R388). -/
  | wrRestart
  /-- TRIAL_TIME (R384). -/
  | trialTime
  /-- SESSION_TIMEOUT (R383). -/
  | sessionTimeout
  /-- CHALLENGE_EXPIRY (R391). -/
  | challengeExpiry
  /-- DOZE_ENTRY (R392). `p`: How the programming ends. -/
  | dozeEntry (p : Prog)
  /-- WAKE_PIN (R394). `level`: Level of the pin. -/
  | wakePin (level : Bool)
  /-- WAKE_COMPLETE (R394). -/
  | wakeComplete
  /-- EVT_HOLDOFF (R399). `src`: Source. -/
  | evtHoldoff (src : Nat)
  /-- EVENT_DELIVERY (R404). `dst`: Destination. -/
  | eventDelivery (dst : Nat)
  /-- LOG_WRITE (R408). `p`: How the programming ends. -/
  | logWrite (p : Prog)
  /-- SUPPLY_GRADE (R410). -/
  | supplyGrade
  /-- BASELINE_STORE (R409). -/
  | baselineStore
  /-- LINK_HEALTH (R411). -/
  | linkHealth
  /-- CORE_HEALTH (R412). -/
  | coreHealth
  /-- TJ_HISTOGRAM (R413). `tj`: Highest junction temperature of the hour, 0.01 K. -/
  | tjHistogram (tj : Nat)
  /-- POWER_ON_HOURS (R359). -/
  | powerOnHours
  /-- UNALLOCATED_OPCODE (R2). `op`: Opcode. -/
  | unallocatedOpcode (op : Nat) (r : Req)
  /-- CSI_LINK_UP (R103). `l`: CSI-2 link. `up`: It comes up; else it is lost. -/
  | csiLinkUp (l : Nat) (up : Bool)
  /-- UPLINK_LINK_UP (R71). `u`: Uplink. `up`: It comes up; else it is lost. -/
  | uplinkLinkUp (u : Nat) (up : Bool)
  /-- UL_MODABS (R440). `u`: Uplink. `high`: The pin is high. -/
  | ulModabs (u : Nat) (high : Bool)
  /-- RELEASE_PHASE_END (R143). `k`: Core. -/
  | releasePhaseEnd (k : Nat)
  /-- SILENT_RECORD_REPEAT (R203). `t`: Tile ID. -/
  | silentRecordRepeat (t : Nat)
deriving DecidableEq, Repr

end Sys2Proof
end

