-- ==== Sys2Proof/Machine/Maps.lean ====
section
/-!
DEFINITION. Sys2Proof/Machine/Maps.lean: reading, writing and removing a key of a sorted map.
-/
namespace Sys2Proof

/-- The pair list with `k` holding `v`. -/
def insertKey {α : Type} (k : Nat) (v : α) : List (Nat × α) → List (Nat × α)
  | [] => [(k, v)]
  | (a, b) :: t =>
    if k < a then (k, v) :: (a, b) :: t
    else if k = a then (k, v) :: t
    else (a, b) :: insertKey k v t

/-- The pair list without `k`. -/
def eraseKey {α : Type} (k : Nat) : List (Nat × α) → List (Nat × α)
  | [] => []
  | (a, b) :: t =>
    if k < a then (a, b) :: t
    else if k = a then t
    else (a, b) :: eraseKey k t

/-- The value a pair list holds for `k`. -/
def findKey {α : Type} (k : Nat) : List (Nat × α) → Option α
  | [] => none
  | (a, b) :: t => if k = a then some b else if k < a then none else findKey k t

/-- Every key of the list is above `k`. -/
def above {α : Type} (k : Nat) (l : List (Nat × α)) : Prop := ∀ p ∈ l, k < p.1

theorem rising_cons {α : Type} (a : Nat) (b : α) (t : List (Nat × α)) :
    rising ((a, b) :: t) = true ↔ above a t ∧ rising t = true := by
  induction t generalizing a b with
  | nil => simp [rising, above]
  | cons p t ih =>
    obtain ⟨c, d⟩ := p
    constructor
    · intro h
      simp only [rising, Bool.and_eq_true, decide_eq_true_eq] at h
      refine ⟨?_, h.2⟩
      intro q hq
      rcases List.mem_cons.1 hq with rfl | hq
      · exact h.1
      · exact Nat.lt_trans h.1 (((ih c d).1 h.2).1 q hq)
    · intro h
      simp only [rising, Bool.and_eq_true, decide_eq_true_eq]
      exact ⟨h.1 (c, d) (List.mem_cons_self ..), h.2⟩

theorem mem_insertKey {α : Type} {k : Nat} {v : α} {l : List (Nat × α)} {p : Nat × α}
    (h : p ∈ insertKey k v l) : p = (k, v) ∨ p ∈ l := by
  induction l with
  | nil => simpa [insertKey] using h
  | cons q t ih =>
    obtain ⟨a, b⟩ := q
    simp only [insertKey] at h
    split at h
    · simpa using h
    · split at h
      · rcases List.mem_cons.1 h with h | h
        · exact .inl h
        · exact .inr (List.mem_cons_of_mem _ h)
      · rcases List.mem_cons.1 h with h | h
        · exact .inr (h ▸ List.mem_cons_self ..)
        · rcases ih h with h | h
          · exact .inl h
          · exact .inr (List.mem_cons_of_mem _ h)

theorem mem_eraseKey {α : Type} {k : Nat} {l : List (Nat × α)} {p : Nat × α}
    (h : p ∈ eraseKey k l) : p ∈ l := by
  induction l with
  | nil => simp [eraseKey] at h
  | cons q t ih =>
    obtain ⟨a, b⟩ := q
    simp only [eraseKey] at h
    split at h
    · exact h
    · split at h
      · exact List.mem_cons_of_mem _ h
      · rcases List.mem_cons.1 h with h | h
        · exact h ▸ List.mem_cons_self ..
        · exact List.mem_cons_of_mem _ (ih h)

theorem rising_insertKey {α : Type} (k : Nat) (v : α) (l : List (Nat × α)) (h : rising l = true) :
    rising (insertKey k v l) = true := by
  induction l with
  | nil => simp [insertKey, rising]
  | cons q t ih =>
    obtain ⟨a, b⟩ := q
    have ht := (rising_cons a b t).1 h
    simp only [insertKey]
    split
    · rename_i hk
      refine (rising_cons ..).2 ⟨?_, h⟩
      intro p hp
      rcases List.mem_cons.1 hp with rfl | hp
      · exact hk
      · exact Nat.lt_trans hk (ht.1 p hp)
    · split
      · rename_i hk; subst hk
        exact (rising_cons ..).2 ht
      · rename_i h1 h2
        refine (rising_cons ..).2 ⟨?_, ih ht.2⟩
        intro p hp
        rcases mem_insertKey hp with rfl | hp
        · show a < k; omega
        · exact ht.1 p hp

theorem rising_eraseKey {α : Type} (k : Nat) (l : List (Nat × α)) (h : rising l = true) :
    rising (eraseKey k l) = true := by
  induction l with
  | nil => simp [eraseKey, rising]
  | cons q t ih =>
    obtain ⟨a, b⟩ := q
    have ht := (rising_cons a b t).1 h
    simp only [eraseKey]
    split
    · exact h
    · split
      · exact ht.2
      · refine (rising_cons ..).2 ⟨?_, ih ht.2⟩
        intro p hp
        exact ht.1 p (mem_eraseKey hp)

/-- A list with one element added at its end. -/
def snoc {α : Type} (l : List α) (a : α) : List α := l ++ [a]

/-- The value held for `k`, if any. -/
def KMap.get? {α : Type} (m : KMap α) (k : Nat) : Option α := findKey k m.cells

/-- The value held for `k`, or `d`. -/
def KMap.get {α : Type} (m : KMap α) (k : Nat) (d : α) : α := (m.get? k).getD d

/-- The map with `k` holding `v`. -/
def KMap.put {α : Type} (m : KMap α) (k : Nat) (v : α) : KMap α :=
  ⟨insertKey k v m.cells, rising_insertKey k v m.cells m.ok⟩

/-- The map without `k`. -/
def KMap.del {α : Type} (m : KMap α) (k : Nat) : KMap α :=
  ⟨eraseKey k m.cells, rising_eraseKey k m.cells m.ok⟩

/-- The map with the value of `k` (or `d`) replaced by `f` of it. -/
def KMap.upd {α : Type} (m : KMap α) (k : Nat) (d : α) (f : α → α) : KMap α := m.put k (f (m.get k d))

/-- The keys held. -/
def KMap.keys {α : Type} (m : KMap α) : List Nat := m.cells.map (·.1)

/-- The values held, in key order. -/
def KMap.vals {α : Type} (m : KMap α) : List α := m.cells.map (·.2)

/-- The map from a list of pairs, later pairs winning. -/
def KMap.ofList {α : Type} (l : List (Nat × α)) : KMap α := l.foldl (fun m p => m.put p.1 p.2) KMap.empty

/-- The pairs that meet `f`. -/
def KMap.keep {α : Type} (m : KMap α) (f : Nat → α → Bool) : KMap α :=
  KMap.ofList (m.cells.filter fun p => f p.1 p.2)

end Sys2Proof
end

