-- ==== Sys2Proof/Machine/Crypto.lean ====
section
/-!
DEFINITION. Sys2Proof/Machine/Crypto.lean: byte strings, the CRCs of R44 and R196, and the standard algorithms the
spec names: SHA-256, HMAC-SHA-256 (R60), AES key wrap (R380) and ECDSA P-256 (R382).
-/
namespace Sys2Proof

/-- Little-endian bytes of a number (R9), `n` of them. -/
def leBytes : Nat → Nat → List Byte
  | 0, _ => []
  | n + 1, v => BitVec.ofNat 8 v :: leBytes n (v / 256)

/-- The number little-endian bytes hold (R9). -/
def leNat : List Byte → Nat
  | [] => 0
  | b :: t => b.toNat + 256 * leNat t

/-- Big-endian bytes of a number, `n` of them. -/
def beBytes (n v : Nat) : List Byte := (leBytes n v).reverse

/-- The number big-endian bytes hold. -/
def beNat (l : List Byte) : Nat := leNat l.reverse

/-- `n` bytes from offset `o`, little-endian, absent bytes reading 0. -/
def leAt (l : List Byte) (o n : Nat) : Nat := leNat ((l.drop o).take n)

/-- One byte, absent bytes reading 0. -/
def byteAt (l : List Byte) (o : Nat) : Nat := (l.getD o 0).toNat

/-- A list cut or filled with `z` to length `n`. -/
def fitTo {α : Type} (n : Nat) (z : α) (l : List α) : List α := l.take n ++ List.replicate (n - l.length) z

/-- `w` bits of `v` from bit `lo`. -/
def bitsOf (v lo w : Nat) : Nat := v / 2 ^ lo % 2 ^ w

/-- Bit `n` of `v`. -/
def bitOf (v n : Nat) : Bool := v / 2 ^ n % 2 = 1

/-- `v` with bit `n` set. -/
def setBit (v n : Nat) : Nat := if bitOf v n then v else v + 2 ^ n

/-- `v` with bit `n` clear. -/
def clrBit (v n : Nat) : Nat := if bitOf v n then v - 2 ^ n else v

/-- A two's complement reading of the low `w` bits. -/
def signedOf (w v : Nat) : Int :=
  let u := v % 2 ^ w
  if u < 2 ^ (w - 1) then (u : Int) else (u : Int) - 2 ^ w

/-- The low `w` bits of an integer in two's complement. -/
def wrapInt (w : Nat) (i : Int) : Nat := (i % (2 ^ w : Int)).toNat

/-- An integer held within bounds. -/
def clampInt (lo hi i : Int) : Int := if i < lo then lo else if hi < i then hi else i

/-- One reflected CRC step over a byte with polynomial `poly`. -/
def crcByte (w : Nat) (poly : BitVec w) (c : BitVec w) (b : Byte) : BitVec w :=
  (List.range 8).foldl (fun c _ => if c.getLsbD 0 then (c >>> 1) ^^^ poly else c >>> 1)
    (c ^^^ b.setWidth w)

/-- The CRC-32 of R44. -/
def crc32 (l : List Byte) : Nat :=
  ((l.foldl (crcByte 32 0xEDB88320#32) 0xFFFFFFFF#32) ^^^ 0xFFFFFFFF#32).toNat

/-- One unreflected CRC-16 step, the byte's most significant bit first. -/
def crc16Byte (poly : BitVec 16) (c : BitVec 16) (b : Byte) : BitVec 16 :=
  (List.range 8).foldl (fun c _ => if c.getLsbD 15 then (c <<< 1) ^^^ poly else c <<< 1)
    (c ^^^ (b.setWidth 16 <<< 8))

/-- The CRC-16 of R196: polynomial 0x1021, initial value 0xFFFF. -/
def crc16 (l : List Byte) : Nat := (l.foldl (crc16Byte 0x1021#16) 0xFFFF#16).toNat

namespace Sha

/-- The largest number below 2 ^ 40 whose `k`-th power is at most `n`, found bit by bit. -/
def rootFloor (k n : Nat) : Nat :=
  (List.range 40).foldl (fun r i => if (r + 2 ^ (39 - i)) ^ k ≤ n then r + 2 ^ (39 - i) else r) 0

/-- The first 32 bits of the fraction of the `k`-th root of a number. -/
def rootFrac (k p : Nat) : BitVec 32 := BitVec.ofNat 32 (rootFloor k (p * 2 ^ (32 * k)))

/-- The primes below 312, of which there are 64: a number below 19 ^ 2 with no prime divisor up to 17 but itself. -/
def primes : List Nat :=
  (List.range 312).filter fun n => decide (2 ≤ n) && [2, 3, 5, 7, 11, 13, 17].all fun q => n == q || n % q != 0

/-- The round constants of SHA-256: fractions of the cube roots of the first 64 primes. -/
def k256 : List (BitVec 32) := primes.map (rootFrac 3)

/-- The initial hash value of SHA-256: fractions of the square roots of the first eight primes. -/
def iv256 : List (BitVec 32) := (primes.take 8).map (rootFrac 2)

/-- The big-endian words of a byte string. -/
def words : List Byte → List (BitVec 32)
  | a :: b :: c :: d :: t => BitVec.ofNat 32 (beNat [a, b, c, d]) :: words t
  | _ => []

/-- One more word of the message schedule, which is held newest first. -/
def extend (w : List (BitVec 32)) : List (BitVec 32) :=
  let x := w.getD 14 0
  let y := w.getD 1 0
  let s0 := x.rotateRight 7 ^^^ x.rotateRight 18 ^^^ (x >>> 3)
  let s1 := y.rotateRight 17 ^^^ y.rotateRight 19 ^^^ (y >>> 10)
  (w.getD 15 0 + s0 + w.getD 6 0 + s1) :: w

/-- The 64-word message schedule of a block of 16 words. -/
def schedule (b : List (BitVec 32)) : List (BitVec 32) :=
  ((List.range 48).foldl (fun w _ => extend w) b.reverse).reverse

/-- One round on the eight working variables. -/
def round (v : List (BitVec 32)) (kw : BitVec 32 × BitVec 32) : List (BitVec 32) :=
  match v with
  | [a, b, c, d, e, f, g, h] =>
    let s1 := e.rotateRight 6 ^^^ e.rotateRight 11 ^^^ e.rotateRight 25
    let ch := (e &&& f) ^^^ (~~~e &&& g)
    let t1 := h + s1 + ch + kw.1 + kw.2
    let s0 := a.rotateRight 2 ^^^ a.rotateRight 13 ^^^ a.rotateRight 22
    let mj := (a &&& b) ^^^ (a &&& c) ^^^ (b &&& c)
    [t1 + (s0 + mj), a, b, c, d + t1, e, f, g]
  | _ => v

/-- The hash after one block. -/
def block (hs : List (BitVec 32)) (b : List (BitVec 32)) : List (BitVec 32) :=
  let v := (k256.zip (schedule b)).foldl round hs
  List.zipWith (· + ·) hs v

/-- Blocks of 16 words, at most `n` of them. -/
def blocks : Nat → List (BitVec 32) → List (List (BitVec 32))
  | 0, _ => []
  | n + 1, l => if l.isEmpty then [] else l.take 16 :: blocks n (l.drop 16)

end Sha

/-- SHA-256 of a byte string. -/
def sha256 (m : List Byte) : List Byte :=
  let zeros := (119 - m.length % 64) % 64
  let p := m ++ 0x80#8 :: List.replicate zeros 0 ++ beBytes 8 (8 * m.length)
  let ws := Sha.words p
  ((Sha.blocks (ws.length / 16 + 1) ws).foldl Sha.block Sha.iv256).flatMap fun w => beBytes 4 w.toNat

/-- HMAC-SHA-256. -/
def hmac256 (key m : List Byte) : List Byte :=
  let k0 := fitTo 64 (0#8) (if 64 < key.length then sha256 key else key)
  sha256 (k0.map (· ^^^ 0x5C#8) ++ sha256 (k0.map (· ^^^ 0x36#8) ++ m))

namespace Aes

/-- Multiplication by x in the AES field. -/
def xtime (b : Byte) : Byte := if b.getLsbD 7 then (b <<< 1) ^^^ 0x1B#8 else b <<< 1

/-- Multiplication in the AES field. -/
def mul (a b : Byte) : Byte :=
  ((List.range 8).foldl (fun (p : Byte × Byte) i =>
    (if b.getLsbD i then p.1 ^^^ p.2 else p.1, xtime p.2)) (0#8, a)).1

/-- The inverse in the AES field, 0 for 0: the 254th power. -/
def inv (a : Byte) : Byte :=
  let a2 := mul a a
  let a4 := mul a2 a2
  let a8 := mul a4 a4
  let a16 := mul a8 a8
  let a32 := mul a16 a16
  let a64 := mul a32 a32
  let a128 := mul a64 a64
  mul a2 (mul a4 (mul a8 (mul a16 (mul a32 (mul a64 a128)))))

/-- The AES substitution box. -/
def sbox (a : Byte) : Byte :=
  let b := inv a
  b ^^^ b.rotateLeft 1 ^^^ b.rotateLeft 2 ^^^ b.rotateLeft 3 ^^^ b.rotateLeft 4 ^^^ 0x63#8

/-- The inverse substitution box. -/
def invSbox (a : Byte) : Byte :=
  inv (a.rotateLeft 1 ^^^ a.rotateLeft 3 ^^^ a.rotateLeft 6 ^^^ 0x05#8)

/-- Byte-wise exclusive or. -/
def xor (a b : List Byte) : List Byte := List.zipWith (· ^^^ ·) a b

/-- One more word of the AES-256 key schedule; words are held oldest first. -/
def expandStep (ws : List (List Byte)) (i : Nat) : List (List Byte) :=
  let t := ws.getD (i - 1) []
  let t' :=
    if i % 8 = 0 then
      xor ((t.drop 1 ++ t.take 1).map sbox) [(List.range (i / 8 - 1)).foldl (fun r _ => xtime r) 1#8, 0, 0, 0]
    else if i % 8 = 4 then t.map sbox else t
  ws ++ [xor (ws.getD (i - 8) []) t']

/-- The 15 round keys of a 32-byte key. -/
def roundKeys (key : List Byte) : List (List Byte) :=
  let w0 := (List.range 8).map fun i => (key.drop (4 * i)).take 4
  let ws := (List.range 52).foldl (fun ws i => expandStep ws (i + 8)) w0
  (List.range 15).map fun r => ((ws.drop (4 * r)).take 4).flatten

/-- The inverse row shift: column-major byte `4c + r` comes from column `c - r`. -/
def invShiftRows (s : List Byte) : List Byte :=
  (List.range 16).map fun i => s.getD (4 * ((i / 4 + 4 - i % 4) % 4) + i % 4) 0

/-- The inverse mix of one column. -/
def invMixColumn (c : List Byte) : List Byte :=
  (List.range 4).map fun r =>
    mul 0x0E#8 (c.getD r 0) ^^^ mul 0x0B#8 (c.getD ((r + 1) % 4) 0) ^^^
    mul 0x0D#8 (c.getD ((r + 2) % 4) 0) ^^^ mul 0x09#8 (c.getD ((r + 3) % 4) 0)

/-- The inverse mix of every column. -/
def invMixColumns (s : List Byte) : List Byte :=
  (List.range 4).flatMap fun c => invMixColumn ((s.drop (4 * c)).take 4)

/-- AES-256 decryption of a 16-byte block. -/
def decrypt (key blk : List Byte) : List Byte :=
  let ks := roundKeys key
  let s0 := xor blk (ks.getD 14 [])
  let s1 := (List.range 13).foldl (fun s i =>
    invMixColumns (xor ((invShiftRows s).map invSbox) (ks.getD (13 - i) []))) s0
  xor ((invShiftRows s1).map invSbox) (ks.getD 0 [])

/-- One unwrap step `t` of AES key unwrap with `n` 64-bit blocks: the integrity register and the blocks. -/
def unwrapStep (kek : List Byte) (n : Nat) (p : List Byte × List (List Byte)) (t : Nat) : List Byte × List (List Byte) :=
  let i := (t - 1) % n
  let b := decrypt kek (xor p.1 (beBytes 8 t) ++ p.2.getD i [])
  (b.take 8, p.2.set i (b.drop 8))

end Aes

/-- AES key unwrap (SP 800-38F, KW): the key, or `none` where the integrity check fails. -/
def aesUnwrap (kek w : List Byte) : Option (List Byte) :=
  let n := w.length / 8 - 1
  let rs := (List.range n).map fun i => (w.drop (8 * (i + 1))).take 8
  let p := (List.range (6 * n)).foldl (fun p i => Aes.unwrapStep kek n p (6 * n - i)) (w.take 8, rs)
  if p.1 = List.replicate 8 0xA6#8 then some p.2.flatten else none

namespace P256

/-- The field prime of NIST P-256. -/
def p : Nat := 0xffffffff00000001000000000000000000000000ffffffffffffffffffffffff
/-- The group order of NIST P-256. -/
def n : Nat := 0xffffffff00000000ffffffffffffffffbce6faada7179e84f3b9cac2fc632551
/-- The curve constant b. -/
def b : Nat := 0x5ac635d8aa3a93e7b3ebbd55769886bc651d06b0cc53b0f63bce3c3e27d2604b
/-- The base point. -/
def g : Nat × Nat :=
  (0x6b17d1f2e12c4247f8bce6e563a440f277037d812deb33a0f4a13945d898c296,
   0x4fe342e2fe1a7f9b8ee7eb4a7c0f9e162bce33576b315ececbb6406837bf51f5)

/-- A power modulo `m`, over the low `k` bits of the exponent. -/
def powMod (m : Nat) : Nat → Nat → Nat → Nat
  | 0, _, _ => 1
  | k + 1, a, e =>
    let r := powMod m k (a * a % m) (e / 2)
    if e % 2 = 1 then r * a % m else r

/-- The inverse modulo a prime. -/
def inv (m a : Nat) : Nat := powMod m 256 (a % m) (m - 2)

/-- A point; `none` is the point at infinity. -/
abbrev Pt := Option (Nat × Nat)

/-- Point addition. -/
def add (x y : Pt) : Pt :=
  match x, y with
  | none, q => q
  | q, none => q
  | some (x1, y1), some (x2, y2) =>
    if x1 = x2 ∧ (y1 + y2) % p = 0 then none
    else
      let l := if x1 = x2 then (3 * x1 * x1 + (p - 3)) * inv p (2 * y1) % p
               else (y2 + p - y1) * inv p (x2 + p - x1) % p
      let x3 := (l * l + 2 * p - x1 - x2) % p
      some (x3, (l * (x1 + p - x3) + p - y1) % p)

/-- A multiple of a point, over the low `k` bits. -/
def mulPt : Nat → Nat → Pt → Pt
  | 0, _, _ => none
  | k + 1, e, q =>
    let r := mulPt k (e / 2) (add q q)
    if e % 2 = 1 then add r q else r

/-- The point lies on the curve. -/
def onCurve (q : Nat × Nat) : Bool :=
  decide (q.1 < p) && decide (q.2 < p) && decide (q.2 * q.2 % p = (q.1 * q.1 * q.1 + (p - 3) * q.1 + b) % p)

end P256

/-- ECDSA P-256 verification in the form of R382: the 64-byte public key, the digest, the 64-byte signature. -/
def ecdsaVerify (pub digest sig : List Byte) : Bool :=
  let q := (beNat (pub.take 32), beNat (pub.drop 32))
  let r := beNat (sig.take 32)
  let s := beNat (sig.drop 32)
  if P256.onCurve q && decide (0 < r) && decide (r < P256.n) && decide (0 < s) && decide (s < P256.n) then
    let w := P256.inv P256.n s
    let u1 := beNat digest * w % P256.n
    let u2 := r * w % P256.n
    match P256.add (P256.mulPt 256 u1 (some P256.g)) (P256.mulPt 256 u2 (some q)) with
    | some (x, _) => decide (x % P256.n = r)
    | none => false
  else false

end Sys2Proof
end

