-- ==== Sys2Proof/Machine/Tables.lean ====
section
/-!
DEFINITION. Sys2Proof/Machine/Tables.lean: the reset contents of the profile tables.
-/
namespace Sys2Proof.Machine

/-- A profile's bytes: each field with its length, little-endian, filled to 16. -/
def profileBytes (l : List (Nat × Nat)) : List Byte := fitTo 16 0 (l.flatMap fun f => leBytes f.1 f.2)

/-- The lengths of a profile's fields put to their values. -/
def profileOf (lens vals : List Nat) : List Byte := profileBytes (lens.zip vals)

/-- Pipeline profiles (Table 4-8, R138): TNR_K, ALARM_RUN, LIVE_EN and ALARM_DMG, reserved, TNR_GUARD, SNR_SIGMA,
NOISE_LIM. -/
def pipeProfileReset (p : Nat) : List Byte :=
  profileOf [1, 1, 1, 1, 2, 2, 2]
    (([[16, 2, 1, 0, 400, 384, 64], [8, 2, 1, 0, 400, 512, 64], [32, 1, 3, 0, 200, 256, 96],
       [64, 1, 2, 0, 65535, 0, 64]] : List (List Nat)).getD p [16, 2, 1, 0, 400, 384, 64])

/-- Calibration profiles (R173): MIN_INT, MAX_INT, UNC_THR, SEAM_THR, MAX_DEFER, SLEW, RAMP_LEN. -/
def calProfileReset (p : Nat) : List Byte :=
  profileOf [2, 2, 2, 2, 2, 1, 1]
    (([[60, 21600, 15, 40, 30, 20, 64], [60, 3600, 8, 25, 30, 20, 64], [300, 21600, 25, 60, 60, 10, 128],
       [3600, 3600, 0, 0, 30, 20, 64]] : List (List Nat)).getD p [60, 21600, 15, 40, 30, 20, 64])

/-- Output profiles (Table 6-13, R208). -/
def outProfileReset (p : Nat) : List Byte :=
  profileOf [1, 2, 2, 2, 1, 1, 1, 1]
    (([[60, 100, 40, 10, 70, 20, 20, 100], [120, 50, 30, 10, 70, 10, 40, 100], [30, 200, 80, 30, 70, 40, 10, 100],
       [10, 500, 200, 1, 80, 20, 20, 200]] : List (List Nat)).getD p [60, 100, 40, 10, 70, 20, 20, 100])

/-- Memory profiles (Table 8-7, R297): FSP_SEL, REF_POSTPONE, PD_IDLE, MIG_RATE, ARM_LIMIT. -/
def memProfileReset (p : Nat) : List Byte :=
  profileOf [1, 1, 2, 2, 2]
    (([[0, 8, 1000, 1000, 320], [1, 8, 200, 400, 100], [0, 0, 1000, 1000, 320], [0, 8, 1000, 1500, 160]] :
      List (List Nat)).getD p [0, 8, 1000, 1000, 320])

/-- Drive profiles (Table 10-7, R344): PULL_I, PULL_T, reserved, HOLD_I, MAX_ON, DUTY_PCT, DUTY_WIN. -/
def driveProfileReset (p : Nat) : List Byte :=
  profileOf [2, 1, 1, 2, 2, 1, 2]
    (([[600, 35, 0, 120, 30000, 10, 10], [1000, 50, 0, 200, 30000, 10, 10], [300, 20, 0, 60, 30000, 10, 10],
       [600, 35, 0, 120, 60000, 25, 60]] : List (List Nat)).getD p [600, 35, 0, 120, 30000, 10, 10])

/-- The reset contents of a table from offset 0; bytes beyond read 0. -/
def tableResets (t : Nat) : List Byte :=
  if 0x21C0 ≤ t ∧ t < 0x21C8 then pipeProfileReset (t - 0x21C0)
  else if 0x22C0 ≤ t ∧ t < 0x22C7 then calProfileReset (t - 0x22C0)
  else if 0x23C0 ≤ t ∧ t < 0x23C7 then outProfileReset (t - 0x23C0)
  else if 0x30C0 ≤ t ∧ t < 0x30C7 then memProfileReset (t - 0x30C0)
  else if 0x32C0 ≤ t ∧ t < 0x32C7 then driveProfileReset (t - 0x32C0)
  else []

end Sys2Proof.Machine
end

