-- ==== Sys2Proof/Machine/Mem.lean ====
section
/-!
DEFINITION. Sys2Proof/Machine/Mem.lean: the bytes of the numbered tables (R68) as one sparse memory in canonical form.
The byte at offset `o` of table `t` has address 2 ^ 32 × t + o.
-/
namespace Sys2Proof.Machine

/-- The address of a table byte. -/
def tblAddr (t o : Nat) : Nat := 2 ^ 32 * t + o

/-- What an unlisted address reads as: the reset contents of the profile tables, and 0 elsewhere (log 7). -/
def tblReset (a : Nat) : Byte := (tableResets (a / 2 ^ 32)).getD (a % 2 ^ 32) 0

/-- No listed byte equals what its address reads as unlisted. -/
def noneReset (l : List Host.Cell) : Bool := l.all fun c => c.2 != tblReset c.1

/-- The canonical form: addresses strictly rising, and no entry that an unlisted address would read as. -/
def Memory.wf (l : List Host.Cell) : Bool := rising l && noneReset l

/-- The table memory. -/
structure Mem where
  /-- The listed bytes. -/
  cells : List Host.Cell
  /-- They are in canonical form. -/
  ok : Memory.wf cells = true
deriving DecidableEq, Repr

/-- The memory with nothing listed. -/
def Mem.empty : Mem := ⟨[], rfl⟩

/-- The byte at an address. -/
def Mem.read (m : Mem) (a : Nat) : Byte := (findKey a m.cells).getD (tblReset a)

/-- The listed bytes after a write: the byte a reset address reads as is not listed. -/
def Mem.writeCells (l : List Host.Cell) (a : Nat) (b : Byte) : List Host.Cell :=
  if b = tblReset a then eraseKey a l else insertKey a b l

/-- A write keeps the canonical form. -/
theorem Mem.writeCells_wf (l : List Host.Cell) (a : Nat) (b : Byte) (h : Memory.wf l = true) :
    Memory.wf (Mem.writeCells l a b) = true := by
  simp only [Memory.wf, Bool.and_eq_true] at h ⊢
  unfold Mem.writeCells
  split
  · refine ⟨rising_eraseKey a l h.1, ?_⟩
    simp only [noneReset, List.all_eq_true] at h ⊢
    exact fun c hc => h.2 c (mem_eraseKey hc)
  · rename_i hb
    refine ⟨rising_insertKey a b l h.1, ?_⟩
    simp only [noneReset, List.all_eq_true] at h ⊢
    intro c hc
    rcases mem_insertKey hc with rfl | hc
    · simpa using hb
    · exact h.2 c hc

/-- The memory with one byte written. -/
def Mem.write (m : Mem) (a : Nat) (b : Byte) : Mem := ⟨Mem.writeCells m.cells a b, Mem.writeCells_wf _ a b m.ok⟩

/-- The memory with consecutive bytes written from an address. -/
def Mem.writes (m : Mem) : Nat → List Byte → Mem
  | _, [] => m
  | a, b :: t => Mem.writes (m.write a b) (a + 1) t

/-- `n` bytes from an address. -/
def Mem.reads (m : Mem) (a n : Nat) : List Byte := (List.range n).map fun i => m.read (a + i)

end Sys2Proof.Machine
end

