-- ==== Sys2Proof/Config.lean ====
section
/-!
DEFINITION. Sys2Proof/Config.lean: the form of a parameter table's row, and the constants of one device: what the
spec says each part fixes for itself, and the free values it leaves open.
-/
namespace Sys2Proof.Machine

/-- The access codes of Table 0-5 (R4) and the occurrence words of R31. -/
inductive Acc where
  | ro | rw | w1c | rws | occ
deriving DecidableEq, Repr

/-- One field of a parameter table (R3, R4). -/
structure Row where
  /-- The field's name in the spec. -/
  name : String
  /-- The parameter ID at index 0. -/
  base : Nat
  /-- Stride and count of each index. -/
  terms : List (Nat × Nat)
  /-- Lowest bit. -/
  lo : Nat
  /-- Bits. -/
  width : Nat
  /-- Access code. -/
  acc : Acc
  /-- Reset column. -/
  reset : Nat
  /-- Reset column where it differs by index. -/
  resets : List Nat
  /-- Lowest value a host may write. -/
  min : Nat
  /-- Highest value a host may write. -/
  max : Nat
  /-- A written value is a multiple of this. -/
  mult : Nat
  /-- First value inside the range that is refused. -/
  badLo : Nat
  /-- Last value inside the range that is refused. -/
  badHi : Nat
  /-- Persistent under R349. -/
  persist : Bool
deriving DecidableEq, Repr

/-- A free value: what the spec leaves open each time it is drawn (log 6). -/
opaque freeValue : Nat → Nat

/-- A negative binary32 to the power p / q, which R189 does not state (log 21). -/
opaque powOfNegative : BitVec 32 → Nat → Nat → BitVec 32

/-- NETD of a core of another device, 0.01 K, and its offset uncertainty where no NODES entry gives it: R189 uses them
and no message carries them (log 22). -/
opaque remoteNoise : Nat → Nat → Nat

/-- The device address at which the Cutter has placed a byte of a DRAM table (R267): the spec gives no places (log 208). -/
opaque tableAddress : Nat → Nat → Nat

/-- Half the exposure of a core's companion camera, ns: R184 uses the exposure of a frame and the spec gives none (log 23). -/
opaque halfExposure : Nat → Nat

/-- A component (0 to 2) of the direction from a pixel's tile point to the optical centre, in the optical frame of a core: R180
uses it and the spec gives neither a focal length nor the place of a tile (log 23). The arguments are core, x, y, component. -/
opaque opticalRay : Nat → Nat → Nat → Nat → BitVec 32

end Sys2Proof.Machine
end

