-- ==== Sys2Proof/Machine/Params.lean ====
section
/-!
DEFINITION. Sys2Proof/Machine/Params.lean: the parameter tables of the spec (R3, R70), one row per field, with its
address, bits, access, reset value and stated range.
-/
namespace Sys2Proof.Machine

/-- The address of a row's field in one parameter: its base plus its strides times the indices. -/
def Row.addr (r : Row) (ix : List Nat) : Nat :=
  r.base + ((r.terms.zip ix).map fun p => p.1.1 * p.2).sum

/-- The key of a field in the parameter store: its address and its lowest bit. -/
def Row.key (r : Row) (ix : List Nat) : Nat := 32 * r.addr ix + r.lo

/-- The reset column of a row at an index. -/
def Row.resetAt (r : Row) (ix : List Nat) : Nat :=
  if r.resets.isEmpty then r.reset else r.resets.getD (ix.headD 0) r.reset

/-- The indices at which a list of strides and counts reaches an offset. -/
def indicesAt : List (Nat × Nat) → Nat → Option (List Nat)
  | [], 0 => some []
  | [], _ => none
  | (stride, count) :: t, off =>
    let i := min (off / stride) (count - 1)
    (indicesAt t (off - stride * i)).map fun l => i :: l

/-- The indices at which a row lies at an address. -/
def Row.at? (r : Row) (a : Nat) : Option (List Nat) :=
  if a < r.base then none else indicesAt r.terms (a - r.base)

/-- The value lies in the range the parameter table states for the field. -/
def Row.inRange (r : Row) (v : Nat) : Bool :=
  decide (r.min ≤ v) && decide (v ≤ r.max) && decide (v % r.mult = 0) && !(decide (r.badLo ≤ v) && decide (v ≤ r.badHi))

/-- Severity at reset by source (Table 13-1); a reserved source reads 0. -/
def severityResets : List Nat :=
  List.replicate 6 1 ++ List.replicate 2 2 ++ List.replicate 56 0 ++ List.replicate 10 1 ++ List.replicate 7 0 ++ List.replicate 1 1 ++ List.replicate 14 0 ++ List.replicate 2 3 ++ List.replicate 3 1 ++ List.replicate 3 2 ++ List.replicate 8 0 ++ List.replicate 1 2 ++ List.replicate 15 0 ++ List.replicate 8 1 ++ List.replicate 1 2 ++ List.replicate 3 1 ++ List.replicate 5 0 ++ List.replicate 1 1 ++ List.replicate 14 0 ++ List.replicate 11 1 ++ List.replicate 21 0 ++ List.replicate 5 1 ++ List.replicate 1 2 ++ List.replicate 2 1 ++ List.replicate 1 2 ++ List.replicate 7 1 ++ List.replicate 17 0 ++ List.replicate 1 2 ++ List.replicate 3 1 ++ List.replicate 2 2 ++ List.replicate 1 0 ++ List.replicate 1 2 ++ List.replicate 7 0 ++ List.replicate 1 1 ++ List.replicate 15 0 ++ List.replicate 8 1 ++ List.replicate 24 0 ++ List.replicate 1 1 ++ List.replicate 4 2 ++ List.replicate 7 1 ++ List.replicate 20 0 ++ List.replicate 4 1 ++ List.replicate 1 2 ++ List.replicate 2 1 ++ List.replicate 1 2 ++ List.replicate 1 1 ++ List.replicate 23 0 ++ List.replicate 2 1 ++ List.replicate 1 2 ++ List.replicate 5 1 ++ List.replicate 2 2 ++ List.replicate 6 0 ++ List.replicate 1 1 ++ List.replicate 15 0 ++ List.replicate 4 1 ++ List.replicate 1 2 ++ List.replicate 2 1 ++ List.replicate 1 2 ++ List.replicate 2 1 ++ List.replicate 6 0 ++ List.replicate 3 1 ++ List.replicate 13 0 ++ List.replicate 64 3 ++ List.replicate 32 0

/-- The sources Table 13-1 does not leave reserved. -/
def sourceKnown (s : Nat) : Bool :=
  (decide (0 ≤ s) && decide (s ≤ 7)) || (decide (32 ≤ s) && decide (s ≤ 35)) || decide (s = 48) || (decide (64 ≤ s) && decide (s ≤ 73)) || (decide (80 ≤ s) && decide (s ≤ 81)) || (decide (96 ≤ s) && decide (s ≤ 103)) || decide (s = 112) || (decide (128 ≤ s) && decide (s ≤ 139)) || (decide (144 ≤ s) && decide (s ≤ 146)) || (decide (160 ≤ s) && decide (s ≤ 170)) || (decide (192 ≤ s) && decide (s ≤ 209)) || (decide (224 ≤ s) && decide (s ≤ 233)) || decide (s = 240) || (decide (256 ≤ s) && decide (s ≤ 263)) || (decide (288 ≤ s) && decide (s ≤ 299)) || decide (s = 304) || (decide (320 ≤ s) && decide (s ≤ 329)) || (decide (352 ≤ s) && decide (s ≤ 361)) || (decide (368 ≤ s) && decide (s ≤ 369)) || (decide (384 ≤ s) && decide (s ≤ 393)) || (decide (400 ≤ s) && decide (s ≤ 402)) || (decide (416 ≤ s) && decide (s ≤ 479))

/-- ROUTE at reset where the store holds no record (R402): bit 0, and bit 4 where the severity is 1 or more; for source 112 bits 0 and 4. -/
def routeResets : List Nat :=
  (List.range 512).map fun s =>
    if sourceKnown s then (if 1 ≤ severityResets.getD s 0 then 17 else 1) else 0

namespace P

/-! Table 0-6 (R5, Scope). -/
/-- PART, R5. -/
def PART : Row := ⟨"PART", 0x100000, [], 0, 32, .ro, 12900, [], 0, 4294967295, 1, 1, 0, false⟩
/-- STEP_IO, R5. -/
def STEP_IO : Row := ⟨"STEP_IO", 0x100001, [], 0, 8, .ro, 1, [], 0, 255, 1, 1, 0, false⟩
/-- STEP_C0, R5. -/
def STEP_C0 : Row := ⟨"STEP_C0", 0x100001, [], 8, 8, .ro, 1, [], 0, 255, 1, 1, 0, false⟩
/-- STEP_C1, R5. -/
def STEP_C1 : Row := ⟨"STEP_C1", 0x100001, [], 16, 8, .ro, 1, [], 0, 255, 1, 1, 0, false⟩
/-- ROM_ID, R5. -/
def ROM_ID : Row := ⟨"ROM_ID", 0x100002, [], 0, 32, .ro, 0, [], 0, 4294967295, 1, 1, 0, false⟩
/-- UID_LO, R5. -/
def UID_LO : Row := ⟨"UID_LO", 0x100003, [], 0, 32, .ro, 0, [], 0, 4294967295, 1, 1, 0, false⟩
/-- UID_HI, R5. -/
def UID_HI : Row := ⟨"UID_HI", 0x100004, [], 0, 32, .ro, 0, [], 0, 4294967295, 1, 1, 0, false⟩
/-- WR_VER, R5. -/
def WR_VER : Row := ⟨"WR_VER", 0x100005, [], 0, 32, .ro, 0, [], 0, 4294967295, 1, 1, 0, false⟩

/-! Table 1-7 (R41, Fabric). -/
/-- LANE_RATE, R41. -/
def LANE_RATE : Row := ⟨"LANE_RATE", 0x100010, [(1, 4)], 0, 16, .ro, 0, [], 0, 65535, 1, 1, 0, false⟩
/-- LANE_RATE_MIN, R41. -/
def LANE_RATE_MIN : Row := ⟨"LANE_RATE_MIN", 0x100010, [(1, 4)], 16, 16, .rw, 65535, [], 0, 65535, 1, 1, 0, false⟩
/-- RATE_MARGIN, R41. -/
def RATE_MARGIN : Row := ⟨"RATE_MARGIN", 0x100018, [], 0, 8, .rw, 16, [], 0, 255, 1, 1, 0, false⟩
/-- RATE_FLOOR, R41. -/
def RATE_FLOOR : Row := ⟨"RATE_FLOOR", 0x100018, [], 8, 7, .rw, 40, [], 0, 80, 1, 1, 0, false⟩
/-- RATE_WINDOW, R41. -/
def RATE_WINDOW : Row := ⟨"RATE_WINDOW", 0x100019, [], 0, 16, .rw, 250, [], 50, 1000, 1, 1, 0, false⟩
/-- RATE_PROFILE, R41. -/
def RATE_PROFILE : Row := ⟨"RATE_PROFILE", 0x10001A, [], 0, 2, .ro, 0, [], 0, 3, 1, 1, 0, false⟩
/-- RATE_LOW, R41. -/
def RATE_LOW : Row := ⟨"RATE_LOW", 0x10001B, [], 0, 4, .rws, 0, [], 0, 15, 1, 1, 0, false⟩
/-- BRIDGE_ERR, R41. -/
def BRIDGE_ERR : Row := ⟨"BRIDGE_ERR", 0x10001B, [], 4, 2, .rws, 0, [], 0, 3, 1, 1, 0, false⟩
/-- BRIDGE_FAIL, R41. -/
def BRIDGE_FAIL : Row := ⟨"BRIDGE_FAIL", 0x10001B, [], 6, 2, .ro, 0, [], 0, 3, 1, 1, 0, false⟩
/-- OCC_RATE_LOW, R41. -/
def OCC_RATE_LOW : Row := ⟨"OCC_RATE_LOW", 0x100020, [(1, 4)], 0, 17, .occ, 0, [], 0, 131071, 1, 1, 0, false⟩
/-- OCC_BRIDGE_ERR, R41. -/
def OCC_BRIDGE_ERR : Row := ⟨"OCC_BRIDGE_ERR", 0x100024, [(1, 2)], 0, 17, .occ, 0, [], 0, 131071, 1, 1, 0, false⟩
/-- DEV_INGEST, R41. -/
def DEV_INGEST : Row := ⟨"DEV_INGEST", 0x100026, [], 0, 16, .ro, 0, [], 0, 65535, 1, 1, 0, false⟩
/-- CL_LOAD, R41. -/
def CL_LOAD : Row := ⟨"CL_LOAD", 0x100030, [(1, 16)], 0, 16, .ro, 0, [], 0, 65535, 1, 1, 0, false⟩
/-- CL_CORES, R41. -/
def CL_CORES : Row := ⟨"CL_CORES", 0x100030, [(1, 16)], 16, 3, .ro, 0, [], 0, 7, 1, 1, 0, false⟩

/-! Table 2-12 (R71, Kcp). -/
/-- KCP_VER, R71. -/
def KCP_VER : Row := ⟨"KCP_VER", 0x110000, [], 0, 4, .ro, 1, [], 0, 15, 1, 1, 0, false⟩
/-- UDP_PORT, R71. -/
def UDP_PORT : Row := ⟨"UDP_PORT", 0x110001, [], 0, 16, .ro, 47640, [], 0, 65535, 1, 1, 0, false⟩
/-- AUTH_RELAX, R71. -/
def AUTH_RELAX : Row := ⟨"AUTH_RELAX", 0x110002, [], 0, 4, .ro, 2, [], 0, 15, 1, 1, 0, false⟩
/-- RELAY_TIMEOUT, R71. -/
def RELAY_TIMEOUT : Row := ⟨"RELAY_TIMEOUT", 0x110003, [], 0, 16, .rw, 50, [], 10, 1000, 1, 1, 0, false⟩
/-- RX_CRC_ERR, R71. -/
def RX_CRC_ERR : Row := ⟨"RX_CRC_ERR", 0x110004, [], 0, 1, .rws, 0, [], 0, 1, 1, 1, 0, false⟩
/-- AUTH_FAIL, R71. -/
def AUTH_FAIL : Row := ⟨"AUTH_FAIL", 0x110004, [], 1, 1, .rws, 0, [], 0, 1, 1, 1, 0, false⟩
/-- REPLY_LATE, R71. -/
def REPLY_LATE : Row := ⟨"REPLY_LATE", 0x110004, [], 2, 1, .rws, 0, [], 0, 1, 1, 1, 0, false⟩
/-- REQ_OVERRUN, R71. -/
def REQ_OVERRUN : Row := ⟨"REQ_OVERRUN", 0x110004, [], 3, 1, .rws, 0, [], 0, 1, 1, 1, 0, false⟩
/-- OCC_KCP, R71. -/
def OCC_KCP : Row := ⟨"OCC_KCP", 0x110005, [(1, 4)], 0, 17, .occ, 0, [], 0, 131071, 1, 1, 0, false⟩
/-- Q_USED, R71. -/
def Q_USED : Row := ⟨"Q_USED", 0x110009, [], 0, 7, .ro, 0, [], 0, 127, 1, 1, 0, false⟩
/-- Q_PEAK, R71. -/
def Q_PEAK : Row := ⟨"Q_PEAK", 0x110009, [], 8, 7, .rw, 0, [], 0, 127, 1, 1, 0, false⟩
/-- UL_EN, R71. -/
def UL_EN : Row := ⟨"UL_EN", 0x110010, [(1, 4)], 0, 1, .rw, 0, [], 0, 1, 1, 1, 0, true⟩
/-- VLAN_EN, R71. -/
def VLAN_EN : Row := ⟨"VLAN_EN", 0x110010, [(1, 4)], 1, 1, .rw, 0, [], 0, 1, 1, 1, 0, true⟩
/-- VLAN_ID, R71. -/
def VLAN_ID : Row := ⟨"VLAN_ID", 0x110010, [(1, 4)], 2, 12, .rw, 0, [], 0, 4095, 1, 1, 0, true⟩
/-- PCP, R71. -/
def PCP : Row := ⟨"PCP", 0x110010, [(1, 4)], 14, 3, .rw, 0, [], 0, 7, 1, 1, 0, true⟩
/-- LINK_UP, R71. -/
def UL_LINK_UP : Row := ⟨"LINK_UP", 0x110010, [(1, 4)], 31, 1, .ro, 0, [], 0, 1, 1, 1, 0, false⟩
/-- IPV4_ADDR, R71. -/
def IPV4_ADDR : Row := ⟨"IPV4_ADDR", 0x110014, [(1, 4)], 0, 32, .rw, 0, [], 0, 4294967295, 1, 1, 0, true⟩
/-- IPV4_MASK, R71. -/
def IPV4_MASK : Row := ⟨"IPV4_MASK", 0x110018, [(1, 4)], 0, 32, .rw, 0, [], 0, 4294967295, 1, 1, 0, true⟩
/-- IPV4_GW, R71. -/
def IPV4_GW : Row := ⟨"IPV4_GW", 0x11001C, [(1, 4)], 0, 32, .rw, 0, [], 0, 4294967295, 1, 1, 0, true⟩
/-- IPV6_ADDR, R71. -/
def IPV6_ADDR : Row := ⟨"IPV6_ADDR", 0x110020, [(4, 4), (1, 4)], 0, 32, .rw, 0, [], 0, 4294967295, 1, 1, 0, true⟩
/-- IPV6_PFX, R71. -/
def IPV6_PFX : Row := ⟨"IPV6_PFX", 0x110030, [(1, 4)], 0, 8, .rw, 0, [], 0, 255, 1, 1, 0, true⟩
/-- MAC_LO, R71. -/
def MAC_LO : Row := ⟨"MAC_LO", 0x110034, [(2, 4)], 0, 32, .ro, 0, [], 0, 4294967295, 1, 1, 0, false⟩
/-- MAC_HI, R71. -/
def MAC_HI : Row := ⟨"MAC_HI", 0x110035, [(2, 4)], 0, 16, .ro, 0, [], 0, 65535, 1, 1, 0, false⟩
/-- UL_RX_DROP, R71. -/
def UL_RX_DROP : Row := ⟨"UL_RX_DROP", 0x110040, [(1, 4)], 0, 32, .ro, 0, [], 0, 4294967295, 1, 1, 0, false⟩
/-- UL_PAUSE, R71. -/
def UL_PAUSE : Row := ⟨"UL_PAUSE", 0x110044, [(1, 4)], 0, 32, .ro, 0, [], 0, 4294967295, 1, 1, 0, false⟩
/-- UL_RX_ERR, R71. -/
def UL_RX_ERR : Row := ⟨"UL_RX_ERR", 0x110048, [(1, 4)], 0, 32, .ro, 0, [], 0, 4294967295, 1, 1, 0, false⟩

/-! Table 3-8 (R103, Ingest). -/
/-- ING_FLAGS, R103. -/
def ING_FLAGS : Row := ⟨"ING_FLAGS", 0x200000, [], 0, 10, .rws, 0, [], 0, 1023, 1, 1, 0, false⟩
/-- OCC_ING, R103. -/
def OCC_ING : Row := ⟨"OCC_ING", 0x200001, [(1, 10)], 0, 17, .occ, 0, [], 0, 131071, 1, 1, 0, false⟩
/-- LINK_EN, R103. -/
def CSI_LINK_EN : Row := ⟨"LINK_EN", 0x200010, [(1, 32)], 0, 1, .rw, 0, [], 0, 1, 1, 1, 0, true⟩
/-- LANES, R103. -/
def LANES : Row := ⟨"LANES", 0x200010, [(1, 32)], 1, 2, .rw, 0, [], 0, 3, 1, 1, 0, true⟩
/-- LINK_RATE, R103. -/
def LINK_RATE : Row := ⟨"LINK_RATE", 0x200010, [(1, 32)], 3, 10, .rw, 0, [], 8, 250, 1, 1, 0, true⟩
/-- LINK_UP, R103. -/
def CSI_LINK_UP : Row := ⟨"LINK_UP", 0x200010, [(1, 32)], 31, 1, .ro, 0, [], 0, 1, 1, 1, 0, false⟩
/-- BUS_MODE, R103. -/
def BUS_MODE : Row := ⟨"BUS_MODE", 0x200030, [(1, 8)], 0, 1, .rw, 0, [], 0, 1, 1, 1, 0, true⟩
/-- SCL, R103. -/
def SCL : Row := ⟨"SCL", 0x200030, [(1, 8)], 1, 2, .rw, 0, [], 0, 3, 1, 1, 0, true⟩
/-- RETRIES, R103. -/
def RETRIES : Row := ⟨"RETRIES", 0x200030, [(1, 8)], 4, 2, .rw, 3, [], 0, 3, 1, 1, 0, false⟩
/-- NACK_CNT, R103. -/
def NACK_CNT : Row := ⟨"NACK_CNT", 0x200038, [(1, 8)], 0, 16, .rw, 0, [], 0, 65535, 1, 1, 0, false⟩
/-- BUS_RESET_CNT, R103. -/
def BUS_RESET_CNT : Row := ⟨"BUS_RESET_CNT", 0x200038, [(1, 8)], 16, 16, .rw, 0, [], 0, 65535, 1, 1, 0, false⟩
/-- ECC_CORR, R103. -/
def ECC_CORR : Row := ⟨"ECC_CORR", 0x200040, [(1, 32)], 0, 16, .rw, 0, [], 0, 65535, 1, 1, 0, false⟩
/-- ECC_UNCORR, R103. -/
def ECC_UNCORR : Row := ⟨"ECC_UNCORR", 0x200040, [(1, 32)], 16, 16, .rw, 0, [], 0, 65535, 1, 1, 0, false⟩
/-- CRC_ERR, R103. -/
def CRC_ERR : Row := ⟨"CRC_ERR", 0x200060, [(1, 32)], 0, 32, .rw, 0, [], 0, 4294967295, 1, 1, 0, false⟩
/-- DISCARD, R103. -/
def DISCARD : Row := ⟨"DISCARD", 0x200080, [(1, 32)], 0, 32, .rw, 0, [], 0, 4294967295, 1, 1, 0, false⟩
/-- D_CORE, R103. -/
def D_CORE : Row := ⟨"D_CORE", 0x2000A0, [], 0, 6, .rw, 0, [], 0, 63, 1, 1, 0, false⟩
/-- D_TARGET, R103. -/
def D_TARGET : Row := ⟨"D_TARGET", 0x2000A0, [], 6, 1, .rw, 0, [], 0, 1, 1, 1, 0, false⟩
/-- D_VERIFY, R103. -/
def D_VERIFY : Row := ⟨"D_VERIFY", 0x2000A0, [], 7, 1, .rw, 0, [], 0, 1, 1, 1, 0, false⟩
/-- D_REG, R103. -/
def D_REG : Row := ⟨"D_REG", 0x2000A0, [], 8, 16, .rw, 0, [], 0, 65535, 1, 1, 0, false⟩
/-- D_LEN, R103. -/
def D_LEN : Row := ⟨"D_LEN", 0x2000A0, [], 24, 2, .rw, 0, [], 0, 3, 1, 1, 0, false⟩
/-- D_REG16, R103. -/
def D_REG16 : Row := ⟨"D_REG16", 0x2000A0, [], 26, 1, .rw, 0, [], 0, 1, 1, 1, 0, false⟩
/-- D_MSB, R103. -/
def D_MSB : Row := ⟨"D_MSB", 0x2000A0, [], 27, 1, .rw, 0, [], 0, 1, 1, 1, 0, false⟩
/-- DIRECT_DATA, R103. -/
def DIRECT_DATA : Row := ⟨"DIRECT_DATA", 0x2000A1, [], 0, 32, .rw, 0, [], 0, 4294967295, 1, 1, 0, false⟩
/-- RESIDENT, R103. -/
def RESIDENT : Row := ⟨"RESIDENT", 0x2000A2, [], 0, 26, .ro, 0, [], 0, 67108863, 1, 1, 0, false⟩
/-- EN, R103. -/
def CORE_EN : Row := ⟨"EN", 0x200100, [(16, 64)], 0, 1, .ro, 0, [], 0, 1, 1, 1, 0, false⟩
/-- VC, R103. -/
def VC : Row := ⟨"VC", 0x200100, [(16, 64)], 1, 2, .rw, 0, (List.range 64).map (· % 2), 0, 3, 1, 1, 0, false⟩
/-- DT, R103. -/
def DT : Row := ⟨"DT", 0x200100, [(16, 64)], 3, 2, .rw, 0, [], 0, 2, 1, 1, 0, true⟩
/-- COMP_EN, R103. -/
def COMP_EN : Row := ⟨"COMP_EN", 0x200100, [(16, 64)], 5, 1, .rw, 0, [], 0, 1, 1, 1, 0, false⟩
/-- COMP_VC, R103. -/
def COMP_VC : Row := ⟨"COMP_VC", 0x200100, [(16, 64)], 6, 2, .rw, 2, (List.range 64).map fun k => 2 + k % 2, 0, 3, 1, 1, 0, false⟩
/-- MOSAIC, R103. -/
def MOSAIC : Row := ⟨"MOSAIC", 0x200100, [(16, 64)], 8, 1, .rw, 0, [], 0, 1, 1, 1, 0, true⟩
/-- PH_X, R103. -/
def PH_X : Row := ⟨"PH_X", 0x200100, [(16, 64)], 9, 2, .rw, 0, [], 0, 3, 1, 1, 0, true⟩
/-- PH_Y, R103. -/
def PH_Y : Row := ⟨"PH_Y", 0x200100, [(16, 64)], 11, 2, .rw, 0, [], 0, 3, 1, 1, 0, true⟩
/-- COMP_DT, R103. -/
def COMP_DT : Row := ⟨"COMP_DT", 0x200100, [(16, 64)], 13, 2, .rw, 0, [], 0, 2, 1, 1, 0, true⟩
/-- LINE_NUM, R103. -/
def LINE_NUM : Row := ⟨"LINE_NUM", 0x200100, [(16, 64)], 15, 1, .rw, 0, [], 0, 1, 1, 1, 0, true⟩
/-- WIDTH, R103. -/
def WIDTH : Row := ⟨"WIDTH", 0x200101, [(16, 64)], 0, 12, .rw, 0, [], 64, 2048, 4, 1, 0, true⟩
/-- HEIGHT, R103. -/
def HEIGHT : Row := ⟨"HEIGHT", 0x200101, [(16, 64)], 16, 12, .rw, 0, [], 64, 2048, 1, 1, 0, true⟩
/-- C_WIDTH, R103. -/
def C_WIDTH : Row := ⟨"C_WIDTH", 0x200102, [(16, 64)], 0, 12, .rw, 0, [], 64, 2048, 4, 1, 0, true⟩
/-- C_HEIGHT, R103. -/
def C_HEIGHT : Row := ⟨"C_HEIGHT", 0x200102, [(16, 64)], 16, 12, .rw, 0, [], 64, 2048, 1, 1, 0, true⟩
/-- FRAME_RATE, R103. -/
def FRAME_RATE : Row := ⟨"FRAME_RATE", 0x200103, [(16, 64)], 0, 16, .rw, 0, [], 100, 24000, 1, 1, 0, true⟩
/-- COMP_RATE, R103. -/
def COMP_RATE : Row := ⟨"COMP_RATE", 0x200103, [(16, 64)], 16, 16, .rw, 0, [], 100, 24000, 1, 1, 0, true⟩
/-- SET_LAG, R103. -/
def SET_LAG : Row := ⟨"SET_LAG", 0x200104, [(16, 64)], 0, 2, .rw, 0, [], 0, 3, 1, 1, 0, true⟩
/-- CAP_OFFSET, R103. -/
def CAP_OFFSET : Row := ⟨"CAP_OFFSET", 0x200104, [(16, 64)], 16, 16, .rw, 0, [], 0, 65535, 1, 1, 0, true⟩
/-- BUS_ADDR, R103. -/
def BUS_ADDR : Row := ⟨"BUS_ADDR", 0x200105, [(16, 64)], 0, 7, .rw, 0, [], 0, 127, 1, 1, 0, true⟩
/-- COMP_ADDR, R103. -/
def COMP_ADDR : Row := ⟨"COMP_ADDR", 0x200105, [(16, 64)], 8, 7, .rw, 0, [], 0, 127, 1, 1, 0, true⟩
/-- FPA_SRC, R103. -/
def FPA_SRC : Row := ⟨"FPA_SRC", 0x200106, [(16, 64)], 0, 4, .rw, 0, [], 0, 15, 1, 9, 14, true⟩
/-- FPA_OFFSET, R103. -/
def FPA_OFFSET : Row := ⟨"FPA_OFFSET", 0x200106, [(16, 64)], 4, 12, .rw, 0, [], 0, 4095, 1, 1, 0, true⟩
/-- FPA_WIDTH, R103. -/
def FPA_WIDTH : Row := ⟨"FPA_WIDTH", 0x200106, [(16, 64)], 16, 2, .rw, 0, [], 0, 3, 1, 1, 0, true⟩
/-- FPA_SIGNED, R103. -/
def FPA_SIGNED : Row := ⟨"FPA_SIGNED", 0x200106, [(16, 64)], 18, 1, .rw, 0, [], 0, 1, 1, 1, 0, true⟩
/-- FPA_BE, R103. -/
def FPA_BE : Row := ⟨"FPA_BE", 0x200106, [(16, 64)], 19, 1, .rw, 0, [], 0, 1, 1, 1, 0, true⟩
/-- HOUS_SRC, R103. -/
def HOUS_SRC : Row := ⟨"HOUS_SRC", 0x200107, [(16, 64)], 0, 20, .rw, 0, [], 0, 1048575, 1, 1, 0, true⟩
/-- FPA_GAIN, R103. -/
def FPA_GAIN : Row := ⟨"FPA_GAIN", 0x200108, [(16, 64)], 0, 16, .rw, 0, [], 0, 65535, 1, 1, 0, true⟩
/-- FPA_OFS, R103. -/
def FPA_OFS : Row := ⟨"FPA_OFS", 0x200108, [(16, 64)], 16, 16, .rw, 0, [], 0, 65535, 1, 1, 0, true⟩
/-- HOUS_CONV, R103. -/
def HOUS_CONV : Row := ⟨"HOUS_CONV", 0x200109, [(16, 64)], 0, 32, .rw, 0, [], 0, 4294967295, 1, 1, 0, true⟩
/-- HIST_LO, R103. -/
def HIST_LO : Row := ⟨"HIST_LO", 0x20010A, [(16, 64)], 0, 16, .rw, 0, [], 0, 65535, 1, 1, 0, false⟩
/-- HIST_SHIFT, R103. -/
def HIST_SHIFT : Row := ⟨"HIST_SHIFT", 0x20010A, [(16, 64)], 16, 4, .rw, 10, [], 0, 15, 1, 1, 0, false⟩
/-- FRAME_CNT, R103. -/
def FRAME_CNT : Row := ⟨"FRAME_CNT", 0x20010B, [(16, 64)], 0, 32, .ro, 0, [], 0, 4294967295, 1, 1, 0, false⟩
/-- CRC_LINES, R103. -/
def CRC_LINES : Row := ⟨"CRC_LINES", 0x20010C, [(16, 64)], 0, 16, .rw, 0, [], 0, 65535, 1, 1, 0, false⟩
/-- OVR_FRAMES, R103. -/
def OVR_FRAMES : Row := ⟨"OVR_FRAMES", 0x20010C, [(16, 64)], 16, 16, .rw, 0, [], 0, 65535, 1, 1, 0, false⟩
/-- PAD_LINES, R103. -/
def PAD_LINES : Row := ⟨"PAD_LINES", 0x20010D, [(16, 64)], 0, 16, .rw, 0, [], 0, 65535, 1, 1, 0, false⟩
/-- CUT_LINES, R103. -/
def CUT_LINES : Row := ⟨"CUT_LINES", 0x20010D, [(16, 64)], 16, 16, .rw, 0, [], 0, 65535, 1, 1, 0, false⟩
/-- SET_GEN_ISSUED, R103. -/
def SET_GEN_ISSUED : Row := ⟨"SET_GEN_ISSUED", 0x20010E, [(16, 64)], 0, 16, .ro, 0, [], 0, 65535, 1, 1, 0, false⟩
/-- SET_GEN_APPLIED, R103. -/
def SET_GEN_APPLIED : Row := ⟨"SET_GEN_APPLIED", 0x20010E, [(16, 64)], 16, 16, .ro, 0, [], 0, 65535, 1, 1, 0, false⟩
/-- CORE_STATE, R103. -/
def CORE_STATE : Row := ⟨"CORE_STATE", 0x20010F, [(16, 64)], 0, 3, .ro, 0, [], 0, 7, 1, 1, 0, false⟩
/-- RATE_EXC, R103. -/
def RATE_EXC : Row := ⟨"RATE_EXC", 0x20010F, [(16, 64)], 3, 1, .ro, 0, [], 0, 1, 1, 1, 0, false⟩
/-- SET_PEND, R103. -/
def SET_PEND : Row := ⟨"SET_PEND", 0x20010F, [(16, 64)], 4, 4, .ro, 0, [], 0, 15, 1, 1, 0, false⟩
/-- SET_PROFILE, R103. -/
def SET_PROFILE : Row := ⟨"SET_PROFILE", 0x20010F, [(16, 64)], 8, 5, .ro, 0, [], 0, 31, 1, 1, 0, false⟩
/-- MEAS_RATE, R103. -/
def MEAS_RATE : Row := ⟨"MEAS_RATE", 0x20010F, [(16, 64)], 16, 16, .ro, 0, [], 0, 65535, 1, 1, 0, false⟩

/-! Table 4-9 (R139, Pipeline). -/
/-- PIPE_FLAGS, R139. -/
def PIPE_FLAGS : Row := ⟨"PIPE_FLAGS", 0x210000, [], 0, 8, .rws, 0, [], 0, 255, 1, 1, 0, false⟩
/-- OCC_PIPE, R139. -/
def OCC_PIPE : Row := ⟨"OCC_PIPE", 0x210001, [(1, 8)], 0, 17, .occ, 0, [], 0, 131071, 1, 1, 0, false⟩
/-- ALARM_HIT_LO, R139. -/
def ALARM_HIT_LO : Row := ⟨"ALARM_HIT_LO", 0x210010, [], 0, 32, .rws, 0, [], 0, 4294967295, 1, 1, 0, false⟩
/-- ALARM_HIT_HI, R139. -/
def ALARM_HIT_HI : Row := ⟨"ALARM_HIT_HI", 0x210011, [], 0, 32, .rws, 0, [], 0, 4294967295, 1, 1, 0, false⟩
/-- ALARM_HOLD, R139. -/
def ALARM_HOLD : Row := ⟨"ALARM_HOLD", 0x210012, [], 0, 16, .rw, 100, [], 10, 10000, 1, 1, 0, false⟩
/-- ALARM_PIN, R139. -/
def ALARM_PIN : Row := ⟨"ALARM_PIN", 0x210012, [], 16, 1, .ro, 0, [], 0, 1, 1, 1, 0, false⟩
/-- TEST_LANE, R139. -/
def TEST_LANE : Row := ⟨"TEST_LANE", 0x210013, [], 0, 7, .rw, 0, [], 0, 127, 1, 1, 0, false⟩
/-- TEST_GO, R139. -/
def TEST_GO : Row := ⟨"TEST_GO", 0x210013, [], 8, 1, .rw, 0, [], 0, 1, 1, 1, 0, false⟩
/-- TEST_OK, R139. -/
def TEST_OK : Row := ⟨"TEST_OK", 0x210013, [], 9, 1, .ro, 0, [], 0, 1, 1, 1, 0, false⟩
/-- LINE_DIE, R139. -/
def LINE_DIE : Row := ⟨"LINE_DIE", 0x210014, [], 0, 4, .ro, 0, [], 0, 15, 1, 1, 0, false⟩
/-- TAP_TOTAL, R139. -/
def TAP_TOTAL : Row := ⟨"TAP_TOTAL", 0x210015, [], 0, 16, .ro, 0, [], 0, 65535, 1, 1, 0, false⟩
/-- OCC_ALARM, R139. -/
def OCC_ALARM : Row := ⟨"OCC_ALARM", 0x210040, [(1, 64)], 0, 17, .occ, 0, [], 0, 131071, 1, 1, 0, false⟩
/-- EN, R139. -/
def TAP_EN : Row := ⟨"EN", 0x210200, [(8, 16)], 0, 1, .rw, 0, [], 0, 1, 1, 1, 0, false⟩
/-- CORE, R139. -/
def CORE : Row := ⟨"CORE", 0x210200, [(8, 16)], 1, 6, .rw, 0, [], 0, 63, 1, 1, 0, false⟩
/-- COMP, R139. -/
def COMP : Row := ⟨"COMP", 0x210200, [(8, 16)], 7, 1, .rw, 0, [], 0, 1, 1, 1, 0, false⟩
/-- BOUNDARY, R139. -/
def BOUNDARY : Row := ⟨"BOUNDARY", 0x210200, [(8, 16)], 8, 4, .rw, 0, [], 0, 15, 1, 9, 14, false⟩
/-- DECIM, R139. -/
def DECIM : Row := ⟨"DECIM", 0x210200, [(8, 16)], 12, 8, .rw, 0, [], 0, 255, 1, 1, 0, false⟩
/-- NOSHUT, R139. -/
def NOSHUT : Row := ⟨"NOSHUT", 0x210200, [(8, 16)], 20, 1, .rw, 0, [], 0, 1, 1, 1, 0, false⟩
/-- STREAMING, R139. -/
def STREAMING : Row := ⟨"STREAMING", 0x210200, [(8, 16)], 21, 1, .ro, 0, [], 0, 1, 1, 1, 0, false⟩
/-- TAP_SIZE, R139. -/
def TAP_SIZE : Row := ⟨"TAP_SIZE", 0x210201, [(8, 16)], 0, 5, .rw, 16, [], 16, 30, 1, 1, 0, false⟩
/-- TAP_PROD, R139. -/
def TAP_PROD : Row := ⟨"TAP_PROD", 0x210202, [(8, 16)], 0, 27, .ro, 0, [], 0, 134217727, 1, 1, 0, false⟩
/-- TAP_CONS, R139. -/
def TAP_CONS : Row := ⟨"TAP_CONS", 0x210203, [(8, 16)], 0, 27, .rw, 0, [], 0, 134217727, 1, 1, 0, false⟩
/-- TAP_SKIP, R139. -/
def TAP_SKIP : Row := ⟨"TAP_SKIP", 0x210204, [(8, 16)], 0, 16, .rw, 0, [], 0, 65535, 1, 1, 0, false⟩
/-- TAP_FRAMES, R139. -/
def TAP_FRAMES : Row := ⟨"TAP_FRAMES", 0x210204, [(8, 16)], 16, 16, .rw, 0, [], 0, 65535, 1, 1, 0, false⟩
/-- ST_UPLINK, R139. -/
def ST_UPLINK : Row := ⟨"ST_UPLINK", 0x210205, [(8, 16)], 0, 2, .ro, 0, [], 0, 3, 1, 1, 0, false⟩
/-- ST_V6, R139. -/
def ST_V6 : Row := ⟨"ST_V6", 0x210205, [(8, 16)], 2, 1, .ro, 0, [], 0, 1, 1, 1, 0, false⟩
/-- ST_PORT, R139. -/
def ST_PORT : Row := ⟨"ST_PORT", 0x210205, [(8, 16)], 16, 16, .ro, 0, [], 0, 65535, 1, 1, 0, false⟩
/-- TAP_RATE, R139. -/
def TAP_RATE : Row := ⟨"TAP_RATE", 0x210206, [(8, 16)], 0, 16, .ro, 0, [], 0, 65535, 1, 1, 0, false⟩
/-- ST_ADDR, R139. -/
def ST_ADDR : Row := ⟨"ST_ADDR", 0x210300, [(4, 16), (1, 4)], 0, 32, .ro, 0, [], 0, 4294967295, 1, 1, 0, false⟩

/-! Table 4-10 (R139, Pipeline). -/
/-- TNR_K, R139. -/
def TNR_K : Row := ⟨"TNR_K", 0x210400, [(16, 64)], 0, 7, .rw, 16, [], 1, 64, 1, 1, 0, false⟩
/-- LIVE_EN, R139. -/
def LIVE_EN : Row := ⟨"LIVE_EN", 0x210400, [(16, 64)], 7, 1, .rw, 1, [], 0, 1, 1, 1, 0, false⟩
/-- ALARM_RUN, R139. -/
def ALARM_RUN : Row := ⟨"ALARM_RUN", 0x210400, [(16, 64)], 8, 2, .rw, 2, [], 1, 3, 1, 1, 0, false⟩
/-- ALARM_DMG, R139. -/
def ALARM_DMG : Row := ⟨"ALARM_DMG", 0x210400, [(16, 64)], 10, 1, .rw, 0, [], 0, 1, 1, 1, 0, false⟩
/-- TNR_GUARD, R139. -/
def TNR_GUARD : Row := ⟨"TNR_GUARD", 0x210401, [(16, 64)], 0, 16, .rw, 400, [], 0, 65535, 1, 1, 0, false⟩
/-- NOISE_LIM, R139. -/
def NOISE_LIM : Row := ⟨"NOISE_LIM", 0x210401, [(16, 64)], 16, 16, .rw, 64, [], 0, 65535, 1, 1, 0, false⟩
/-- SNR_SIGMA, R139. -/
def SNR_SIGMA : Row := ⟨"SNR_SIGMA", 0x210402, [(16, 64)], 0, 16, .rw, 384, [], 0, 65535, 1, 1, 0, false⟩
/-- ABS_THR, R139. -/
def ABS_THR : Row := ⟨"ABS_THR", 0x210403, [(16, 64)], 0, 16, .ro, 0, [], 0, 65535, 1, 1, 0, false⟩
/-- RATE_THR, R139. -/
def RATE_THR : Row := ⟨"RATE_THR", 0x210403, [(16, 64)], 16, 16, .ro, 0, [], 0, 65535, 1, 1, 0, false⟩
/-- FPA_REF, R139. -/
def FPA_REF : Row := ⟨"FPA_REF", 0x210404, [(16, 64)], 0, 16, .ro, 0, [], 0, 65535, 1, 1, 0, false⟩
/-- HOUS_REF, R139. -/
def HOUS_REF : Row := ⟨"HOUS_REF", 0x210404, [(16, 64)], 16, 16, .ro, 0, [], 0, 65535, 1, 1, 0, false⟩
/-- DRIFT_RATE, R139. -/
def DRIFT_RATE : Row := ⟨"DRIFT_RATE", 0x210405, [(16, 64)], 0, 16, .ro, 0, [], 0, 65535, 1, 1, 0, false⟩
/-- APPLIED_BANK, R139. -/
def APPLIED_BANK : Row := ⟨"APPLIED_BANK", 0x210406, [(16, 64)], 0, 1, .ro, 0, [], 0, 1, 1, 1, 0, false⟩
/-- ARMED, R139. -/
def ARMED : Row := ⟨"ARMED", 0x210406, [(16, 64)], 1, 1, .ro, 0, [], 0, 1, 1, 1, 0, false⟩
/-- BLEND, R139. -/
def BLEND : Row := ⟨"BLEND", 0x210406, [(16, 64)], 2, 9, .ro, 0, [], 0, 511, 1, 1, 0, false⟩
/-- ABS_CNT, R139. -/
def ABS_CNT : Row := ⟨"ABS_CNT", 0x210407, [(16, 64)], 0, 16, .rw, 0, [], 0, 65535, 1, 1, 0, false⟩
/-- RATE_CNT, R139. -/
def RATE_CNT : Row := ⟨"RATE_CNT", 0x210407, [(16, 64)], 16, 16, .rw, 0, [], 0, 65535, 1, 1, 0, false⟩
/-- HIT_X, R139. -/
def HIT_X : Row := ⟨"HIT_X", 0x210408, [(16, 64)], 0, 11, .ro, 0, [], 0, 2047, 1, 1, 0, false⟩
/-- HIT_Y, R139. -/
def HIT_Y : Row := ⟨"HIT_Y", 0x210408, [(16, 64)], 11, 11, .ro, 0, [], 0, 2047, 1, 1, 0, false⟩
/-- HIT_KIND, R139. -/
def HIT_KIND : Row := ⟨"HIT_KIND", 0x210408, [(16, 64)], 22, 2, .ro, 0, [], 0, 3, 1, 1, 0, false⟩
/-- HIT_T, R139. -/
def HIT_T : Row := ⟨"HIT_T", 0x210409, [(16, 64)], 0, 16, .ro, 0, [], 0, 65535, 1, 1, 0, false⟩
/-- HIT_DT, R139. -/
def HIT_DT : Row := ⟨"HIT_DT", 0x210409, [(16, 64)], 16, 16, .ro, 0, [], 0, 65535, 1, 1, 0, false⟩
/-- HIT_FRAME, R139. -/
def HIT_FRAME : Row := ⟨"HIT_FRAME", 0x21040A, [(16, 64)], 0, 32, .ro, 0, [], 0, 4294967295, 1, 1, 0, false⟩
/-- BAD_TOTAL, R139. -/
def BAD_TOTAL : Row := ⟨"BAD_TOTAL", 0x21040B, [(16, 64)], 0, 23, .ro, 0, [], 0, 8388607, 1, 1, 0, false⟩
/-- LIVE_CNT, R139. -/
def LIVE_CNT : Row := ⟨"LIVE_CNT", 0x21040C, [(16, 64)], 0, 16, .rw, 0, [], 0, 65535, 1, 1, 0, false⟩
/-- NO_DONOR_CNT, R139. -/
def NO_DONOR_CNT : Row := ⟨"NO_DONOR_CNT", 0x21040C, [(16, 64)], 16, 16, .rw, 0, [], 0, 65535, 1, 1, 0, false⟩
/-- REC_ERR_CNT, R139. -/
def REC_ERR_CNT : Row := ⟨"REC_ERR_CNT", 0x21040D, [(16, 64)], 0, 16, .rw, 0, [], 0, 65535, 1, 1, 0, false⟩
/-- CLASS_PEND, R139. -/
def CLASS_PEND : Row := ⟨"CLASS_PEND", 0x21040D, [(16, 64)], 16, 13, .ro, 0, [], 0, 8191, 1, 1, 0, false⟩
/-- RANGE_PIX, R139. -/
def RANGE_PIX : Row := ⟨"RANGE_PIX", 0x21040E, [(16, 64)], 0, 23, .ro, 0, [], 0, 8388607, 1, 1, 0, false⟩
/-- PIPE_PROF, R139. -/
def PIPE_PROF : Row := ⟨"PIPE_PROF", 0x21040F, [(16, 64)], 0, 5, .ro, 0, [], 0, 31, 1, 1, 0, false⟩

/-! Table 5-9 (R175, Calibration). -/
/-- CAL_FLAGS, R175. -/
def CAL_FLAGS : Row := ⟨"CAL_FLAGS", 0x220000, [], 0, 12, .rws, 0, [], 0, 4095, 1, 1, 0, false⟩
/-- OCC_CAL, R175. -/
def OCC_CAL : Row := ⟨"OCC_CAL", 0x220001, [(1, 12)], 0, 17, .occ, 0, [], 0, 131071, 1, 1, 0, false⟩
/-- MIN_INT, R175. -/
def MIN_INT : Row := ⟨"MIN_INT", 0x220010, [], 0, 16, .rw, 60, [], 60, 21600, 1, 1, 0, false⟩
/-- MAX_INT, R175. -/
def MAX_INT : Row := ⟨"MAX_INT", 0x220010, [], 16, 16, .rw, 21600, [], 60, 21600, 1, 1, 0, false⟩
/-- UNC_THR, R175. -/
def UNC_THR : Row := ⟨"UNC_THR", 0x220011, [], 0, 16, .rw, 15, [], 0, 65535, 1, 1, 0, false⟩
/-- UNC_AGE, R175. -/
def UNC_AGE : Row := ⟨"UNC_AGE", 0x220011, [], 16, 16, .rw, 2, [], 0, 65535, 1, 1, 0, false⟩
/-- MAX_DEFER, R175. -/
def MAX_DEFER : Row := ⟨"MAX_DEFER", 0x220012, [], 0, 16, .rw, 30, [], 1, 600, 1, 1, 0, false⟩
/-- RETRY, R175. -/
def RETRY : Row := ⟨"RETRY", 0x220012, [], 16, 16, .rw, 1000, [], 200, 10000, 1, 1, 0, false⟩
/-- SLEW, R175. -/
def SLEW : Row := ⟨"SLEW", 0x220013, [], 0, 8, .rw, 20, [], 1, 255, 1, 1, 0, false⟩
/-- RAMP_LEN, R175. -/
def RAMP_LEN : Row := ⟨"RAMP_LEN", 0x220013, [], 8, 8, .rw, 64, [], 8, 255, 1, 1, 0, false⟩
/-- SEAM_PERIOD, R175. -/
def SEAM_PERIOD : Row := ⟨"SEAM_PERIOD", 0x220014, [], 0, 16, .rw, 60, [], 10, 3600, 1, 1, 0, false⟩
/-- SEAM_THR, R175. -/
def SEAM_THR : Row := ⟨"SEAM_THR", 0x220014, [], 16, 16, .rw, 40, [], 0, 65535, 1, 1, 0, false⟩
/-- TRIM_MIN, R175. -/
def TRIM_MIN : Row := ⟨"TRIM_MIN", 0x220015, [], 0, 8, .rw, 5, [], 0, 255, 1, 1, 0, false⟩
/-- TRIM_MAX, R175. -/
def TRIM_MAX : Row := ⟨"TRIM_MAX", 0x220015, [], 8, 16, .rw, 100, [], 0, 1000, 1, 1, 0, false⟩
/-- ANCHOR_AGE, R175. -/
def ANCHOR_AGE : Row := ⟨"ANCHOR_AGE", 0x220016, [], 0, 16, .rw, 600, [], 60, 21600, 1, 1, 0, false⟩
/-- PRIOR_SIG, R175. -/
def PRIOR_SIG : Row := ⟨"PRIOR_SIG", 0x220016, [], 16, 16, .rw, 100, [], 10, 1000, 1, 1, 0, false⟩
/-- SEAM_SYS, R175. -/
def SEAM_SYS : Row := ⟨"SEAM_SYS", 0x220017, [], 0, 16, .rw, 10, [], 1, 100, 1, 1, 0, false⟩
/-- SEAM_ITER_MAX, R175. -/
def SEAM_ITER_MAX : Row := ⟨"SEAM_ITER_MAX", 0x220017, [], 16, 8, .rw, 64, [], 8, 255, 1, 1, 0, false⟩
/-- DRIFT_LAMBDA, R175. -/
def DRIFT_LAMBDA : Row := ⟨"DRIFT_LAMBDA", 0x220018, [], 0, 16, .rw, 64225, [], 58982, 65535, 1, 1, 0, false⟩
/-- DRIFT_MIN, R175. -/
def DRIFT_MIN : Row := ⟨"DRIFT_MIN", 0x220018, [], 16, 8, .rw, 20, [], 0, 255, 1, 1, 0, false⟩
/-- OUT_K, R175. -/
def OUT_K : Row := ⟨"OUT_K", 0x220018, [], 24, 4, .rw, 6, [], 2, 15, 1, 1, 0, false⟩
/-- SOLVE_CNT, R175. -/
def SOLVE_CNT : Row := ⟨"SOLVE_CNT", 0x220019, [], 0, 16, .rw, 0, [], 0, 65535, 1, 1, 0, false⟩
/-- LAST_ITER, R175. -/
def LAST_ITER : Row := ⟨"LAST_ITER", 0x220019, [], 16, 8, .ro, 0, [], 0, 255, 1, 1, 0, false⟩
/-- LAST_RES, R175. -/
def LAST_RES : Row := ⟨"LAST_RES", 0x22001A, [], 0, 16, .ro, 0, [], 0, 65535, 1, 1, 0, false⟩
/-- CAL_PROF, R175. -/
def CAL_PROF : Row := ⟨"CAL_PROF", 0x22001B, [], 0, 3, .ro, 0, [], 0, 7, 1, 1, 0, false⟩

/-! Table 5-10 (R175, Calibration). -/
/-- CYC_STATE, R175. -/
def CYC_STATE : Row := ⟨"CYC_STATE", 0x220100, [(16, 64)], 0, 4, .ro, 0, [], 0, 15, 1, 1, 0, false⟩
/-- RAMP_STATE, R175. -/
def RAMP_STATE : Row := ⟨"RAMP_STATE", 0x220100, [(16, 64)], 4, 2, .ro, 0, [], 0, 3, 1, 1, 0, false⟩
/-- AUTO_EN, R175. -/
def AUTO_EN : Row := ⟨"AUTO_EN", 0x220100, [(16, 64)], 6, 1, .rw, 1, [], 0, 1, 1, 1, 0, false⟩
/-- SUSP, R175. -/
def SUSP : Row := ⟨"SUSP", 0x220100, [(16, 64)], 7, 1, .rw, 0, [], 0, 1, 1, 1, 0, false⟩
/-- STAGED, R175. -/
def STAGED : Row := ⟨"STAGED", 0x220100, [(16, 64)], 8, 3, .ro, 0, [], 0, 7, 1, 1, 0, false⟩
/-- CONSEC_FAIL, R175. -/
def CONSEC_FAIL : Row := ⟨"CONSEC_FAIL", 0x220100, [(16, 64)], 11, 2, .ro, 0, [], 0, 3, 1, 1, 0, false⟩
/-- UNC, R175. -/
def UNC : Row := ⟨"UNC", 0x220101, [(16, 64)], 0, 16, .ro, 0, [], 0, 65535, 1, 1, 0, false⟩
/-- SEAM_RES, R175. -/
def SEAM_RES : Row := ⟨"SEAM_RES", 0x220101, [(16, 64)], 16, 16, .ro, 0, [], 0, 65535, 1, 1, 0, false⟩
/-- LAST_END, R175. -/
def LAST_END : Row := ⟨"LAST_END", 0x220102, [(16, 64)], 0, 32, .ro, 0, [], 0, 4294967295, 1, 1, 0, false⟩
/-- NEXT_MIN, R175. -/
def NEXT_MIN : Row := ⟨"NEXT_MIN", 0x220103, [(16, 64)], 0, 32, .ro, 0, [], 0, 4294967295, 1, 1, 0, false⟩
/-- NEXT_MAX, R175. -/
def NEXT_MAX : Row := ⟨"NEXT_MAX", 0x220104, [(16, 64)], 0, 32, .ro, 0, [], 0, 4294967295, 1, 1, 0, false⟩
/-- RAMP_I, R175. -/
def RAMP_I : Row := ⟨"RAMP_I", 0x220105, [(16, 64)], 0, 8, .ro, 0, [], 0, 255, 1, 1, 0, false⟩
/-- RAMP_N, R175. -/
def RAMP_N : Row := ⟨"RAMP_N", 0x220105, [(16, 64)], 8, 8, .ro, 0, [], 0, 255, 1, 1, 0, false⟩
/-- RAMP_DMAX, R175. -/
def RAMP_DMAX : Row := ⟨"RAMP_DMAX", 0x220105, [(16, 64)], 16, 16, .ro, 0, [], 0, 65535, 1, 1, 0, false⟩
/-- TRIM_SUM, R175. -/
def TRIM_SUM : Row := ⟨"TRIM_SUM", 0x220106, [(16, 64)], 0, 16, .ro, 0, [], 0, 65535, 1, 1, 0, false⟩
/-- LAST_TRIM, R175. -/
def LAST_TRIM : Row := ⟨"LAST_TRIM", 0x220106, [(16, 64)], 16, 16, .ro, 0, [], 0, 65535, 1, 1, 0, false⟩
/-- CYCLES, R175. -/
def CYCLES : Row := ⟨"CYCLES", 0x220107, [(16, 64)], 0, 16, .rw, 0, [], 0, 65535, 1, 1, 0, false⟩
/-- ABORTS, R175. -/
def ABORTS : Row := ⟨"ABORTS", 0x220107, [(16, 64)], 16, 16, .rw, 0, [], 0, 65535, 1, 1, 0, false⟩
/-- FAILS, R175. -/
def FAILS : Row := ⟨"FAILS", 0x220108, [(16, 64)], 0, 16, .rw, 0, [], 0, 65535, 1, 1, 0, false⟩
/-- DEFERS, R175. -/
def DEFERS : Row := ⟨"DEFERS", 0x220108, [(16, 64)], 16, 16, .rw, 0, [], 0, 65535, 1, 1, 0, false⟩
/-- S_RMS, R175. -/
def S_RMS : Row := ⟨"S_RMS", 0x220109, [(16, 64)], 0, 16, .ro, 0, [], 0, 65535, 1, 1, 0, false⟩
/-- FLAG_T, R175. -/
def FLAG_T : Row := ⟨"FLAG_T", 0x220109, [(16, 64)], 16, 16, .ro, 0, [], 0, 65535, 1, 1, 0, false⟩
/-- FLAG_CH, R175. -/
def FLAG_CH : Row := ⟨"FLAG_CH", 0x22010A, [(16, 64)], 0, 7, .rw, 0, [], 0, 127, 1, 1, 0, true⟩
/-- SHUT_CH, R175. -/
def SHUT_CH : Row := ⟨"SHUT_CH", 0x22010A, [(16, 64)], 8, 7, .rw, 0, [], 0, 127, 1, 1, 0, true⟩
/-- STORE_SEQ, R175. -/
def STORE_SEQ : Row := ⟨"STORE_SEQ", 0x22010B, [(16, 64)], 0, 32, .ro, 0, [], 0, 4294967295, 1, 1, 0, false⟩

/-! Table 6-14 (R210, Output). -/
/-- OUT_FLAGS, R210. -/
def OUT_FLAGS : Row := ⟨"OUT_FLAGS", 0x230000, [], 0, 11, .rws, 0, [], 0, 2047, 1, 1, 0, false⟩
/-- OCC_OUT, R210. -/
def OCC_OUT : Row := ⟨"OCC_OUT", 0x230001, [(1, 11)], 0, 17, .occ, 0, [], 0, 131071, 1, 1, 0, false⟩
/-- CELLS_X, R210. -/
def CELLS_X : Row := ⟨"CELLS_X", 0x230010, [], 0, 5, .ro, 0, [], 0, 31, 1, 1, 0, false⟩
/-- CELLS_Y, R210. -/
def CELLS_Y : Row := ⟨"CELLS_Y", 0x230010, [], 5, 5, .ro, 0, [], 0, 31, 1, 1, 0, false⟩
/-- EMIS_N, R210. -/
def EMIS_N : Row := ⟨"EMIS_N", 0x230010, [], 10, 8, .ro, 0, [], 0, 255, 1, 1, 0, false⟩
/-- OUT_RATE_MAX, R210. -/
def OUT_RATE_MAX : Row := ⟨"OUT_RATE_MAX", 0x230011, [], 0, 8, .rw, 60, [], 1, 120, 1, 1, 0, false⟩
/-- HOLD_PERIOD, R210. -/
def HOLD_PERIOD : Row := ⟨"HOLD_PERIOD", 0x230011, [], 8, 16, .rw, 100, [], 20, 1000, 1, 1, 0, false⟩
/-- SILENCE_MIN, R210. -/
def SILENCE_MIN : Row := ⟨"SILENCE_MIN", 0x230012, [], 0, 16, .rw, 40, [], 20, 1000, 1, 1, 0, false⟩
/-- HEALTH_PERIOD, R210. -/
def HEALTH_PERIOD : Row := ⟨"HEALTH_PERIOD", 0x230012, [], 16, 16, .rw, 10, [], 1, 3600, 1, 1, 0, false⟩
/-- ANGLE_MAX, R210. -/
def ANGLE_MAX : Row := ⟨"ANGLE_MAX", 0x230013, [], 0, 8, .rw, 70, [], 30, 85, 1, 1, 0, false⟩
/-- RATE_TAU, R210. -/
def RATE_TAU : Row := ⟨"RATE_TAU", 0x230013, [], 8, 8, .rw, 20, [], 1, 255, 1, 1, 0, false⟩
/-- JOIN_SLEW, R210. -/
def JOIN_SLEW : Row := ⟨"JOIN_SLEW", 0x230013, [], 16, 8, .rw, 20, [], 1, 255, 1, 1, 0, false⟩
/-- JOIN_MAX, R210. -/
def JOIN_MAX : Row := ⟨"JOIN_MAX", 0x230013, [], 24, 8, .rw, 100, [], 10, 255, 1, 1, 0, false⟩
/-- VIEW_MIN_N, R210. -/
def VIEW_MIN_N : Row := ⟨"VIEW_MIN_N", 0x230014, [], 0, 8, .rw, 16, [], 1, 255, 1, 1, 0, false⟩
/-- VIEW_RAMP, R210. -/
def VIEW_RAMP : Row := ⟨"VIEW_RAMP", 0x230014, [], 8, 8, .rw, 64, [], 1, 255, 1, 1, 0, false⟩
/-- BLINK_SYM, R210. -/
def BLINK_SYM : Row := ⟨"BLINK_SYM", 0x230014, [], 16, 8, .rw, 100, [], 20, 250, 1, 1, 0, false⟩
/-- BLINK_REP, R210. -/
def BLINK_REP : Row := ⟨"BLINK_REP", 0x230014, [], 24, 4, .rw, 3, [], 2, 15, 1, 1, 0, false⟩
/-- OUT_PROF, R210. -/
def OUT_PROF : Row := ⟨"OUT_PROF", 0x230015, [], 0, 3, .ro, 0, [], 0, 7, 1, 1, 0, false⟩
/-- CAVITY_T, R210. -/
def CAVITY_T : Row := ⟨"CAVITY_T", 0x230017, [], 0, 16, .ro, 0, [], 0, 65535, 1, 1, 0, false⟩
/-- CAVITY_MASK, R210. -/
def CAVITY_MASK : Row := ⟨"CAVITY_MASK", 0x230018, [(1, 4)], 0, 32, .rw, 0, [], 0, 4294967295, 1, 1, 0, true⟩
/-- LATE_CNT, R210. -/
def LATE_CNT : Row := ⟨"LATE_CNT", 0x23001C, [], 0, 16, .rw, 0, [], 0, 65535, 1, 1, 0, false⟩
/-- SUPERSEDED_CNT, R210. -/
def SUPERSEDED_CNT : Row := ⟨"SUPERSEDED_CNT", 0x23001C, [], 16, 16, .rw, 0, [], 0, 65535, 1, 1, 0, false⟩
/-- STALE_CNT, R210. -/
def STALE_CNT : Row := ⟨"STALE_CNT", 0x23001D, [], 0, 16, .rw, 0, [], 0, 65535, 1, 1, 0, false⟩
/-- SILENT_CNT, R210. -/
def SILENT_CNT : Row := ⟨"SILENT_CNT", 0x23001D, [], 16, 16, .rw, 0, [], 0, 65535, 1, 1, 0, false⟩
/-- ALARM_REC_CNT, R210. -/
def ALARM_REC_CNT : Row := ⟨"ALARM_REC_CNT", 0x23001E, [], 0, 16, .rw, 0, [], 0, 65535, 1, 1, 0, false⟩
/-- ALARM_OVF_CNT, R210. -/
def ALARM_OVF_CNT : Row := ⟨"ALARM_OVF_CNT", 0x23001E, [], 16, 16, .rw, 0, [], 0, 65535, 1, 1, 0, false⟩
/-- Q_ACTIVE, R210. -/
def Q_ACTIVE : Row := ⟨"Q_ACTIVE", 0x23001F, [], 0, 19, .ro, 0, [], 0, 524287, 1, 1, 0, false⟩

/-! Table 6-15 (R210, Output). -/
/-- BUS_EN, R210. -/
def BUS_EN : Row := ⟨"BUS_EN", 0x230100, [(4, 200)], 0, 1, .rw, 0, [], 0, 1, 1, 1, 0, true⟩
/-- TILES, R210. -/
def TILES : Row := ⟨"TILES", 0x230100, [(4, 200)], 1, 6, .ro, 0, [], 0, 63, 1, 1, 0, false⟩
/-- UTIL, R210. -/
def UTIL : Row := ⟨"UTIL", 0x230100, [(4, 200)], 8, 8, .ro, 0, [], 0, 255, 1, 1, 0, false⟩
/-- REC_CNT, R210. -/
def REC_CNT : Row := ⟨"REC_CNT", 0x230101, [(4, 200)], 0, 32, .rw, 0, [], 0, 4294967295, 1, 1, 0, false⟩
/-- REPLY_ERR, R210. -/
def REPLY_ERR : Row := ⟨"REPLY_ERR", 0x230102, [(4, 200)], 0, 16, .rw, 0, [], 0, 65535, 1, 1, 0, false⟩
/-- NO_REPLY, R210. -/
def NO_REPLY : Row := ⟨"NO_REPLY", 0x230102, [(4, 200)], 16, 16, .rw, 0, [], 0, 65535, 1, 1, 0, false⟩
/-- REG_STATE, R210. -/
def REG_STATE : Row := ⟨"REG_STATE", 0x230500, [(4, 64)], 0, 3, .ro, 0, [], 0, 7, 1, 1, 0, false⟩
/-- NODES_VALID, R210. -/
def NODES_VALID : Row := ⟨"NODES_VALID", 0x230500, [(4, 64)], 8, 15, .ro, 0, [], 0, 32767, 1, 1, 0, false⟩
/-- LEDS, R210. -/
def LEDS : Row := ⟨"LEDS", 0x230500, [(4, 64)], 23, 9, .ro, 0, [], 0, 511, 1, 1, 0, false⟩
/-- NETD, R210. -/
def NETD : Row := ⟨"NETD", 0x230501, [(4, 64)], 0, 8, .rw, 0, [], 1, 255, 1, 1, 0, true⟩
/-- RAMP_I, R210. -/
def REG_RAMP_I : Row := ⟨"RAMP_I", 0x230501, [(4, 64)], 8, 8, .ro, 0, [], 0, 255, 1, 1, 0, false⟩
/-- REG_TIME, R210. -/
def REG_TIME : Row := ⟨"REG_TIME", 0x230502, [(4, 64)], 0, 32, .ro, 0, [], 0, 4294967295, 1, 1, 0, false⟩

/-! Table 7-11 (R263, Placement). -/
/-- PLC_FLAGS, R263. -/
def PLC_FLAGS : Row := ⟨"PLC_FLAGS", 0x240000, [], 0, 16, .rws, 0, [], 0, 65535, 1, 1, 0, false⟩
/-- OCC_PLC, R263. -/
def OCC_PLC : Row := ⟨"OCC_PLC", 0x240001, [(1, 16)], 0, 17, .occ, 0, [], 0, 131071, 1, 1, 0, false⟩
/-- ADDR, R263. -/
def ADDR : Row := ⟨"ADDR", 0x240020, [], 0, 10, .ro, 1023, [], 0, 1023, 1, 1, 0, false⟩
/-- ADDR_SINCE, R263. -/
def ADDR_SINCE : Row := ⟨"ADDR_SINCE", 0x240021, [], 0, 32, .ro, 0, [], 0, 4294967295, 1, 1, 0, false⟩
/-- UP_SIG, R263. -/
def UP_SIG : Row := ⟨"UP_SIG", 0x240022, [], 0, 1, .ro, 0, [], 0, 1, 1, 1, 0, false⟩
/-- DOWN_SIG, R263. -/
def DOWN_SIG : Row := ⟨"DOWN_SIG", 0x240022, [], 1, 1, .ro, 0, [], 0, 1, 1, 1, 0, false⟩
/-- CHAIN_CRC_CNT, R263. -/
def CHAIN_CRC_CNT : Row := ⟨"CHAIN_CRC_CNT", 0x240023, [], 0, 16, .rw, 0, [], 0, 65535, 1, 1, 0, false⟩
/-- CHAIN_DROP_CNT, R263. -/
def CHAIN_DROP_CNT : Row := ⟨"CHAIN_DROP_CNT", 0x240023, [], 16, 16, .rw, 0, [], 0, 65535, 1, 1, 0, false⟩
/-- SYNC_SRC, R263. -/
def SYNC_SRC : Row := ⟨"SYNC_SRC", 0x240024, [], 0, 2, .rw, 0, [], 0, 3, 1, 1, 0, true⟩
/-- FSYNC_OUT, R263. -/
def FSYNC_OUT : Row := ⟨"FSYNC_OUT", 0x240024, [], 2, 1, .rw, 0, [], 0, 1, 1, 1, 0, true⟩
/-- SYNC_COMP, R263. -/
def SYNC_COMP : Row := ⟨"SYNC_COMP", 0x240024, [], 16, 16, .rw, 0, [], 0, 65535, 1, 1, 0, true⟩
/-- SYNC_PERIOD, R263. -/
def SYNC_PERIOD : Row := ⟨"SYNC_PERIOD", 0x240025, [], 0, 24, .rw, 0, [], 1000, 1000000, 1, 1, 0, true⟩
/-- LINK_EN, R263. -/
def SL_LINK_EN : Row := ⟨"LINK_EN", 0x240030, [(1, 8)], 0, 1, .rw, 0, [], 0, 1, 1, 1, 0, true⟩
/-- LINK_UP, R263. -/
def SL_LINK_UP : Row := ⟨"LINK_UP", 0x240030, [(1, 8)], 1, 1, .ro, 0, [], 0, 1, 1, 1, 0, false⟩
/-- NEIGH, R263. -/
def NEIGH : Row := ⟨"NEIGH", 0x240030, [(1, 8)], 2, 10, .ro, 1023, [], 0, 1023, 1, 1, 0, false⟩
/-- LINK_DELAY, R263. -/
def LINK_DELAY : Row := ⟨"LINK_DELAY", 0x240030, [(1, 8)], 16, 16, .ro, 0, [], 0, 65535, 1, 1, 0, false⟩
/-- SL_CRC, R263. -/
def SL_CRC : Row := ⟨"SL_CRC", 0x240038, [(1, 8)], 0, 16, .rw, 0, [], 0, 65535, 1, 1, 0, false⟩
/-- HB_MISS, R263. -/
def HB_MISS : Row := ⟨"HB_MISS", 0x240038, [(1, 8)], 16, 16, .rw, 0, [], 0, 65535, 1, 1, 0, false⟩
/-- HB_PERIOD, R263. -/
def HB_PERIOD : Row := ⟨"HB_PERIOD", 0x240040, [], 0, 8, .rw, 10, [], 5, 50, 1, 1, 0, false⟩
/-- SCORE, R263. -/
def SCORE : Row := ⟨"SCORE", 0x240041, [], 0, 16, .ro, 0, [], 0, 65535, 1, 1, 0, false⟩
/-- H_PEN, R263. -/
def H_PEN : Row := ⟨"H_PEN", 0x240041, [], 16, 16, .ro, 0, [], 0, 65535, 1, 1, 0, false⟩
/-- HOP_W, R263. -/
def HOP_W : Row := ⟨"HOP_W", 0x240042, [], 0, 8, .rw, 32, [], 0, 255, 1, 1, 0, false⟩
/-- MOVE_HYST, R263. -/
def MOVE_HYST : Row := ⟨"MOVE_HYST", 0x240042, [], 8, 16, .rw, 128, [], 16, 4096, 1, 1, 0, false⟩
/-- MOVE_LEAD, R263. -/
def MOVE_LEAD : Row := ⟨"MOVE_LEAD", 0x240043, [], 0, 16, .rw, 100, [], 20, 1000, 1, 1, 0, false⟩
/-- FAIL_LEAD, R263. -/
def FAIL_LEAD : Row := ⟨"FAIL_LEAD", 0x240043, [], 16, 16, .rw, 10, [], 5, 100, 1, 1, 0, false⟩
/-- OWNED, R263. -/
def OWNED : Row := ⟨"OWNED", 0x240044, [], 0, 13, .ro, 0, [], 0, 8191, 1, 1, 0, false⟩
/-- DIRECTED, R263. -/
def DIRECTED : Row := ⟨"DIRECTED", 0x240044, [], 16, 13, .ro, 0, [], 0, 8191, 1, 1, 0, false⟩
/-- COMMITS, R263. -/
def PLC_COMMITS : Row := ⟨"COMMITS", 0x240045, [], 0, 16, .rw, 0, [], 0, 65535, 1, 1, 0, false⟩
/-- FAILOVERS, R263. -/
def FAILOVERS : Row := ⟨"FAILOVERS", 0x240045, [], 16, 16, .rw, 0, [], 0, 65535, 1, 1, 0, false⟩
/-- MESH_DEV, R263. -/
def MESH_DEV : Row := ⟨"MESH_DEV", 0x240046, [], 0, 11, .ro, 1, [], 0, 2047, 1, 1, 0, false⟩
/-- MESH_DIAM, R263. -/
def MESH_DIAM : Row := ⟨"MESH_DIAM", 0x240046, [], 16, 8, .ro, 0, [], 0, 255, 1, 1, 0, false⟩
/-- REBAL_PERIOD, R263. -/
def REBAL_PERIOD : Row := ⟨"REBAL_PERIOD", 0x240047, [], 0, 16, .rw, 10, [], 1, 3600, 1, 1, 0, false⟩
/-- REBAL_LIMIT, R263. -/
def REBAL_LIMIT : Row := ⟨"REBAL_LIMIT", 0x240047, [], 16, 8, .rw, 85, [], 50, 100, 1, 1, 0, false⟩
/-- VMIN_A, R263. -/
def VMIN_A : Row := ⟨"VMIN_A", 0x240048, [], 0, 8, .rw, 0, [], 65, 85, 1, 1, 0, true⟩
/-- VMIN_B, R263. -/
def VMIN_B : Row := ⟨"VMIN_B", 0x240048, [], 8, 8, .rw, 0, [], 65, 85, 1, 1, 0, true⟩
/-- CFG_GEN, R263. -/
def CFG_GEN : Row := ⟨"CFG_GEN", 0x240050, [], 0, 32, .ro, 0, [], 0, 4294967295, 1, 1, 0, false⟩
/-- CFG_DIG_LO, R263. -/
def CFG_DIG_LO : Row := ⟨"CFG_DIG_LO", 0x240051, [], 0, 32, .ro, 0, [], 0, 4294967295, 1, 1, 0, false⟩
/-- CFG_DIG_HI, R263. -/
def CFG_DIG_HI : Row := ⟨"CFG_DIG_HI", 0x240052, [], 0, 32, .ro, 0, [], 0, 4294967295, 1, 1, 0, false⟩
/-- STG_GEN, R263. -/
def STG_GEN : Row := ⟨"STG_GEN", 0x240053, [], 0, 32, .ro, 0, [], 0, 4294967295, 1, 1, 0, false⟩
/-- STG_DIG_LO, R263. -/
def STG_DIG_LO : Row := ⟨"STG_DIG_LO", 0x240054, [], 0, 32, .ro, 0, [], 0, 4294967295, 1, 1, 0, false⟩
/-- STG_DIG_HI, R263. -/
def STG_DIG_HI : Row := ⟨"STG_DIG_HI", 0x240055, [], 0, 32, .ro, 0, [], 0, 4294967295, 1, 1, 0, false⟩
/-- STG_STATE, R263. -/
def STG_STATE : Row := ⟨"STG_STATE", 0x240056, [], 0, 2, .ro, 0, [], 0, 3, 1, 1, 0, false⟩
/-- STG_MISSING, R263. -/
def STG_MISSING : Row := ⟨"STG_MISSING", 0x240056, [], 2, 16, .ro, 0, [], 0, 65535, 1, 1, 0, false⟩
/-- ACT_LO, R263. -/
def ACT_LO : Row := ⟨"ACT_LO", 0x240057, [], 0, 32, .ro, 0, [], 0, 4294967295, 1, 1, 0, false⟩
/-- ACT_HI, R263. -/
def ACT_HI : Row := ⟨"ACT_HI", 0x240058, [], 0, 32, .ro, 0, [], 0, 4294967295, 1, 1, 0, false⟩
/-- CFG_AUTOPULL, R263. -/
def CFG_AUTOPULL : Row := ⟨"CFG_AUTOPULL", 0x240059, [], 0, 1, .rw, 1, [], 0, 1, 1, 1, 0, false⟩
/-- SPLIT_DIST, R263. -/
def SPLIT_DIST : Row := ⟨"SPLIT_DIST", 0x240059, [], 8, 8, .ro, 255, [], 0, 255, 1, 1, 0, false⟩
/-- TIME_SRC, R263. -/
def TIME_SRC : Row := ⟨"TIME_SRC", 0x240060, [], 0, 2, .ro, 0, [], 0, 3, 1, 1, 0, false⟩
/-- TIME_HOPS, R263. -/
def TIME_HOPS : Row := ⟨"TIME_HOPS", 0x240060, [], 2, 6, .ro, 0, [], 0, 63, 1, 1, 0, false⟩
/-- ROOT_ADDR, R263. -/
def ROOT_ADDR : Row := ⟨"ROOT_ADDR", 0x240060, [], 8, 10, .ro, 1023, [], 0, 1023, 1, 1, 0, false⟩
/-- PTP_UL_EN, R263. -/
def PTP_UL_EN : Row := ⟨"PTP_UL_EN", 0x240061, [], 0, 4, .rw, 0, [], 0, 15, 1, 1, 0, true⟩
/-- PTP_DOMAIN, R263. -/
def PTP_DOMAIN : Row := ⟨"PTP_DOMAIN", 0x240061, [], 4, 8, .rw, 0, [], 0, 127, 1, 1, 0, true⟩
/-- STEP_EN, R263. -/
def STEP_EN : Row := ⟨"STEP_EN", 0x240061, [], 12, 1, .rw, 1, [], 0, 1, 1, 1, 0, false⟩
/-- TIME_OFS, R263. -/
def TIME_OFS : Row := ⟨"TIME_OFS", 0x240062, [], 0, 32, .ro, 0, [], 0, 4294967295, 1, 1, 0, false⟩
/-- TIME_LO, R263. -/
def TIME_LO : Row := ⟨"TIME_LO", 0x240063, [], 0, 32, .ro, 0, [], 0, 4294967295, 1, 1, 0, false⟩
/-- TIME_HI, R263. -/
def TIME_HI : Row := ⟨"TIME_HI", 0x240064, [], 0, 32, .ro, 0, [], 0, 4294967295, 1, 1, 0, false⟩
/-- CENSUS_WAIT, R263. -/
def CENSUS_WAIT : Row := ⟨"CENSUS_WAIT", 0x240065, [], 0, 16, .rw, 2000, [], 200, 10000, 1, 1, 0, false⟩

/-! Table 8-8 (R299, Memory). -/
/-- MEM_FLAGS, R299. -/
def MEM_FLAGS : Row := ⟨"MEM_FLAGS", 0x300000, [], 0, 10, .rws, 0, [], 0, 1023, 1, 1, 0, false⟩
/-- OCC_MEM, R299. -/
def OCC_MEM : Row := ⟨"OCC_MEM", 0x300001, [(1, 10)], 0, 17, .occ, 0, [], 0, 131071, 1, 1, 0, false⟩
/-- FSP_SEL, R299. -/
def FSP_SEL : Row := ⟨"FSP_SEL", 0x300010, [], 0, 1, .rw, 0, [], 0, 1, 1, 1, 0, false⟩
/-- FSP_CUR, R299. -/
def FSP_CUR : Row := ⟨"FSP_CUR", 0x300010, [], 1, 1, .ro, 0, [], 0, 1, 1, 1, 0, false⟩
/-- FSP_BUSY, R299. -/
def FSP_BUSY : Row := ⟨"FSP_BUSY", 0x300010, [], 2, 1, .ro, 0, [], 0, 1, 1, 1, 0, false⟩
/-- MEM_MODE, R299. -/
def MEM_MODE : Row := ⟨"MEM_MODE", 0x300010, [], 3, 2, .ro, 0, [], 0, 3, 1, 1, 0, false⟩
/-- PD_IDLE, R299. -/
def PD_IDLE : Row := ⟨"PD_IDLE", 0x300011, [], 0, 16, .rw, 1000, [], 100, 65535, 1, 1, 0, false⟩
/-- REF_POSTPONE, R299. -/
def REF_POSTPONE : Row := ⟨"REF_POSTPONE", 0x300011, [], 16, 4, .rw, 8, [], 0, 8, 1, 1, 0, false⟩
/-- MIG_RATE, R299. -/
def MIG_RATE : Row := ⟨"MIG_RATE", 0x300012, [], 0, 16, .rw, 1000, [], 100, 2000, 1, 1, 0, false⟩
/-- ARM_LIMIT, R299. -/
def ARM_LIMIT : Row := ⟨"ARM_LIMIT", 0x300012, [], 16, 16, .rw, 320, [], 20, 1600, 1, 1, 0, false⟩
/-- MAP, R299. -/
def MAP : Row := ⟨"MAP", 0x300013, [], 0, 2, .rw, 2, [], 0, 2, 1, 1, 0, true⟩
/-- SPARES, R299. -/
def SPARES : Row := ⟨"SPARES", 0x300013, [], 2, 2, .rw, 0, [], 1, 2, 1, 1, 0, true⟩
/-- MAP_CUR, R299. -/
def MAP_CUR : Row := ⟨"MAP_CUR", 0x300013, [], 4, 2, .ro, 0, [], 0, 3, 1, 1, 0, false⟩
/-- SPARES_LEFT, R299. -/
def SPARES_LEFT : Row := ⟨"SPARES_LEFT", 0x300013, [], 6, 2, .ro, 0, [], 0, 3, 1, 1, 0, false⟩
/-- N_SVC, R299. -/
def N_SVC : Row := ⟨"N_SVC", 0x300013, [], 8, 5, .ro, 0, [], 0, 31, 1, 1, 0, false⟩
/-- CE_LIMIT, R299. -/
def CE_LIMIT : Row := ⟨"CE_LIMIT", 0x300014, [], 0, 16, .rw, 1000, [], 1, 65535, 1, 1, 0, false⟩
/-- ARMED_RATE, R299. -/
def ARMED_RATE : Row := ⟨"ARMED_RATE", 0x300015, [], 0, 16, .ro, 0, [], 0, 65535, 1, 1, 0, false⟩
/-- ARM_WAITING, R299. -/
def ARM_WAITING : Row := ⟨"ARM_WAITING", 0x300015, [], 16, 7, .ro, 0, [], 0, 127, 1, 1, 0, false⟩
/-- MIG_SRC, R299. -/
def MIG_SRC : Row := ⟨"MIG_SRC", 0x300016, [], 0, 4, .ro, 0, [], 0, 15, 1, 1, 0, false⟩
/-- MIG_DST, R299. -/
def MIG_DST : Row := ⟨"MIG_DST", 0x300016, [], 4, 4, .ro, 0, [], 0, 15, 1, 1, 0, false⟩
/-- MIG_ACTIVE, R299. -/
def MIG_ACTIVE : Row := ⟨"MIG_ACTIVE", 0x300016, [], 8, 1, .ro, 0, [], 0, 1, 1, 1, 0, false⟩
/-- MIG_QUEUED, R299. -/
def MIG_QUEUED : Row := ⟨"MIG_QUEUED", 0x300016, [], 9, 4, .ro, 0, [], 0, 15, 1, 1, 0, false⟩
/-- MIG_PTR, R299. -/
def MIG_PTR : Row := ⟨"MIG_PTR", 0x300017, [], 0, 24, .ro, 0, [], 0, 16777215, 1, 1, 0, false⟩
/-- DEMAND, R299. -/
def DEMAND : Row := ⟨"DEMAND", 0x300018, [], 0, 16, .ro, 0, [], 0, 65535, 1, 1, 0, false⟩
/-- PEAK_DEMAND, R299. -/
def PEAK_DEMAND : Row := ⟨"PEAK_DEMAND", 0x300018, [], 16, 16, .rw, 0, [], 0, 65535, 1, 1, 0, false⟩
/-- RANK_MAP_LO, R299. -/
def RANK_MAP_LO : Row := ⟨"RANK_MAP_LO", 0x300019, [], 0, 32, .ro, 0, [], 0, 4294967295, 1, 1, 0, false⟩
/-- RANK_MAP_HI, R299. -/
def RANK_MAP_HI : Row := ⟨"RANK_MAP_HI", 0x30001A, [], 0, 32, .ro, 0, [], 0, 4294967295, 1, 1, 0, false⟩
/-- RANK_STATE_LO, R299. -/
def RANK_STATE_LO : Row := ⟨"RANK_STATE_LO", 0x30001B, [], 0, 24, .ro, 0, [], 0, 16777215, 1, 1, 0, false⟩
/-- RANK_STATE_HI, R299. -/
def RANK_STATE_HI : Row := ⟨"RANK_STATE_HI", 0x30001C, [], 0, 24, .ro, 0, [], 0, 16777215, 1, 1, 0, false⟩
/-- ERR_RANK, R299. -/
def ERR_RANK : Row := ⟨"ERR_RANK", 0x30001D, [], 0, 4, .ro, 0, [], 0, 15, 1, 1, 0, false⟩
/-- ERR_BANK, R299. -/
def ERR_BANK : Row := ⟨"ERR_BANK", 0x30001D, [], 4, 3, .ro, 0, [], 0, 7, 1, 1, 0, false⟩
/-- ERR_ROW, R299. -/
def ERR_ROW : Row := ⟨"ERR_ROW", 0x30001D, [], 7, 16, .ro, 0, [], 0, 65535, 1, 1, 0, false⟩
/-- ERR_KIND, R299. -/
def ERR_KIND : Row := ⟨"ERR_KIND", 0x30001D, [], 23, 3, .ro, 0, [], 0, 7, 1, 1, 0, false⟩
/-- ERR_MODE, R299. -/
def ERR_MODE : Row := ⟨"ERR_MODE", 0x30001D, [], 26, 2, .ro, 0, [], 0, 3, 1, 1, 0, false⟩
/-- ERR_COL, R299. -/
def ERR_COL : Row := ⟨"ERR_COL", 0x30001E, [], 0, 10, .ro, 0, [], 0, 1023, 1, 1, 0, false⟩
/-- ERR_PORT, R299. -/
def ERR_PORT : Row := ⟨"ERR_PORT", 0x30001E, [], 10, 5, .ro, 0, [], 0, 31, 1, 1, 0, false⟩
/-- MEM_PROF, R299. -/
def MEM_PROF : Row := ⟨"MEM_PROF", 0x30001F, [], 0, 3, .ro, 0, [], 0, 7, 1, 1, 0, false⟩

/-! Table 8-9 (R299, Memory). -/
/-- CE_CNT, R299. -/
def CE_CNT : Row := ⟨"CE_CNT", 0x300100, [(4, 16)], 0, 16, .rw, 0, [], 0, 65535, 1, 1, 0, false⟩
/-- UE_CNT, R299. -/
def UE_CNT : Row := ⟨"UE_CNT", 0x300100, [(4, 16)], 16, 16, .rw, 0, [], 0, 65535, 1, 1, 0, false⟩
/-- MR4_CODE, R299. -/
def MR4_CODE : Row := ⟨"MR4_CODE", 0x300101, [(4, 16)], 0, 3, .ro, 0, [], 0, 7, 1, 1, 0, false⟩
/-- REF_MULT, R299. -/
def REF_MULT : Row := ⟨"REF_MULT", 0x300101, [(4, 16)], 3, 2, .ro, 0, [], 0, 3, 1, 1, 0, false⟩
/-- OWED, R299. -/
def OWED : Row := ⟨"OWED", 0x300101, [(4, 16)], 5, 6, .ro, 0, [], 0, 63, 1, 1, 0, false⟩
/-- PD, R299. -/
def PD : Row := ⟨"PD", 0x300101, [(4, 16)], 11, 1, .ro, 0, [], 0, 1, 1, 1, 0, false⟩
/-- SR, R299. -/
def SR : Row := ⟨"SR", 0x300101, [(4, 16)], 12, 1, .ro, 0, [], 0, 1, 1, 1, 0, false⟩
/-- CE_HOUR, R299. -/
def CE_HOUR : Row := ⟨"CE_HOUR", 0x300102, [(4, 16)], 0, 16, .ro, 0, [], 0, 65535, 1, 1, 0, false⟩
/-- LAT_TARGET, R299. -/
def LAT_TARGET : Row := ⟨"LAT_TARGET", 0x300200, [(2, 26)], 0, 16, .rw, 40, List.replicate 16 40 ++ [60, 60, 60, 60, 60, 60, 500, 30, 1000, 2000], 1, 65535, 1, 1, 0, false⟩
/-- LAT_MAX, R299. -/
def LAT_MAX : Row := ⟨"LAT_MAX", 0x300200, [(2, 26)], 16, 16, .rw, 0, [], 0, 65535, 1, 1, 0, false⟩
/-- MISSED, R299. -/
def MISSED : Row := ⟨"MISSED", 0x300201, [(2, 26)], 0, 16, .rw, 0, [], 0, 65535, 1, 1, 0, false⟩

/-! Table 8-10 (R299, Memory). -/
/-- CA_DLY, R299. -/
def CA_DLY : Row := ⟨"CA_DLY", 0x300400, [(16, 16)], 0, 8, .rw, 0, [], 0, 255, 1, 1, 0, true⟩
/-- CS_DLY, R299. -/
def CS_DLY : Row := ⟨"CS_DLY", 0x300400, [(16, 16)], 8, 8, .rw, 0, [], 0, 255, 1, 1, 0, true⟩
/-- CK_DLY, R299. -/
def CK_DLY : Row := ⟨"CK_DLY", 0x300400, [(16, 16)], 16, 8, .rw, 0, [], 0, 255, 1, 1, 0, true⟩
/-- RD_DLY, R299. -/
def RD_DLY : Row := ⟨"RD_DLY", 0x300401, [(16, 16), (1, 2)], 0, 8, .rw, 0, [], 0, 255, 1, 1, 0, true⟩
/-- GATE_DLY, R299. -/
def GATE_DLY : Row := ⟨"GATE_DLY", 0x300401, [(16, 16), (1, 2)], 8, 8, .rw, 0, [], 0, 255, 1, 1, 0, true⟩
/-- WR_DLY, R299. -/
def WR_DLY : Row := ⟨"WR_DLY", 0x300401, [(16, 16), (1, 2)], 16, 8, .rw, 0, [], 0, 255, 1, 1, 0, true⟩
/-- RD_VREF, R299. -/
def RD_VREF : Row := ⟨"RD_VREF", 0x300403, [(16, 16), (1, 2)], 0, 7, .rw, 0, [], 0, 127, 1, 1, 0, true⟩
/-- WR_VREF, R299. -/
def WR_VREF : Row := ⟨"WR_VREF", 0x300403, [(16, 16), (1, 2)], 8, 7, .rw, 0, [], 0, 127, 1, 1, 0, true⟩

/-! Table 9-4 (R326, Converter). -/
/-- CONV_FLAGS, R326. -/
def CONV_FLAGS : Row := ⟨"CONV_FLAGS", 0x310000, [], 0, 8, .rws, 0, [], 0, 255, 1, 1, 0, false⟩
/-- OCC_CONV, R326. -/
def OCC_CONV : Row := ⟨"OCC_CONV", 0x310001, [(1, 8)], 0, 17, .occ, 0, [], 0, 131071, 1, 1, 0, false⟩
/-- SEQ_GO, R326. -/
def SEQ_GO : Row := ⟨"SEQ_GO", 0x310010, [(1, 4)], 0, 1, .rw, 0, [], 0, 1, 1, 1, 0, false⟩
/-- SEQ_LEN, R326. -/
def SEQ_LEN : Row := ⟨"SEQ_LEN", 0x310010, [(1, 4)], 1, 6, .rw, 0, [], 0, 32, 1, 1, 0, false⟩
/-- CONT, R326. -/
def CONT : Row := ⟨"CONT", 0x310010, [(1, 4)], 7, 1, .rw, 0, [], 0, 1, 1, 1, 0, false⟩
/-- ALIGN, R326. -/
def ALIGN : Row := ⟨"ALIGN", 0x310010, [(1, 4)], 8, 1, .rw, 0, [], 0, 1, 1, 1, 0, false⟩
/-- RUN, R326. -/
def RUN : Row := ⟨"RUN", 0x310010, [(1, 4)], 9, 1, .ro, 0, [], 0, 1, 1, 1, 0, false⟩
/-- PEND, R326. -/
def PEND : Row := ⟨"PEND", 0x310010, [(1, 4)], 10, 1, .ro, 0, [], 0, 1, 1, 1, 0, false⟩
/-- ENTRY, R326. -/
def SEQ_ENTRY : Row := ⟨"ENTRY", 0x310010, [(1, 4)], 11, 5, .ro, 0, [], 0, 31, 1, 1, 0, false⟩
/-- START_OVR_CNT, R326. -/
def START_OVR_CNT : Row := ⟨"START_OVR_CNT", 0x310010, [(1, 4)], 16, 16, .rw, 0, [], 0, 65535, 1, 1, 0, false⟩
/-- WATCH_ODR, R326. -/
def WATCH_ODR : Row := ⟨"WATCH_ODR", 0x310014, [(1, 4)], 0, 4, .rw, 5, [], 0, 9, 1, 1, 0, false⟩
/-- CAL_CH, R326. -/
def CAL_CH : Row := ⟨"CAL_CH", 0x310014, [(1, 4)], 4, 7, .rw, 127, [], 0, 127, 1, 1, 0, false⟩
/-- CAL_STATE, R326. -/
def CAL_STATE : Row := ⟨"CAL_STATE", 0x310014, [(1, 4)], 11, 3, .ro, 0, [], 0, 7, 1, 1, 0, false⟩
/-- INJ_QUEUED, R326. -/
def INJ_QUEUED : Row := ⟨"INJ_QUEUED", 0x310014, [(1, 4)], 14, 6, .ro, 0, [], 0, 63, 1, 1, 0, false⟩
/-- DATA, R326. -/
def DATA : Row := ⟨"DATA", 0x310018, [(1, 4)], 0, 32, .ro, 0, [], 0, 4294967295, 1, 1, 0, false⟩
/-- CH, R326. -/
def CH : Row := ⟨"CH", 0x31001C, [(1, 4)], 0, 7, .ro, 0, [], 0, 127, 1, 1, 0, false⟩
/-- INJ, R326. -/
def DD_INJ : Row := ⟨"INJ", 0x31001C, [(1, 4)], 7, 1, .ro, 0, [], 0, 1, 1, 1, 0, false⟩
/-- ENTRY, R326. -/
def DD_ENTRY : Row := ⟨"ENTRY", 0x31001C, [(1, 4)], 8, 5, .ro, 0, [], 0, 31, 1, 1, 0, false⟩
/-- FRESH, R326. -/
def FRESH : Row := ⟨"FRESH", 0x31001C, [(1, 4)], 13, 1, .ro, 0, [], 0, 1, 1, 1, 0, false⟩
/-- OW, R326. -/
def DD_OW : Row := ⟨"OW", 0x31001C, [(1, 4)], 14, 1, .ro, 0, [], 0, 1, 1, 1, 0, false⟩
/-- REF_OVR, R326. -/
def DD_REF_OVR : Row := ⟨"REF_OVR", 0x31001C, [(1, 4)], 15, 1, .ro, 0, [], 0, 1, 1, 1, 0, false⟩
/-- CLIP, R326. -/
def DD_CLIP : Row := ⟨"CLIP", 0x31001C, [(1, 4)], 16, 1, .ro, 0, [], 0, 1, 1, 1, 0, false⟩
/-- DATA_OVR_CNT, R326. -/
def DATA_OVR_CNT : Row := ⟨"DATA_OVR_CNT", 0x310020, [(1, 4)], 0, 16, .rw, 0, [], 0, 65535, 1, 1, 0, false⟩
/-- INJ_CNT, R326. -/
def INJ_CNT : Row := ⟨"INJ_CNT", 0x310020, [(1, 4)], 16, 16, .rw, 0, [], 0, 65535, 1, 1, 0, false⟩
/-- INJ_CH, R326. -/
def INJ_CH : Row := ⟨"INJ_CH", 0x310024, [(1, 4)], 0, 7, .rw, 0, [], 0, 127, 1, 1, 0, false⟩
/-- INJ_GO, R326. -/
def INJ_GO : Row := ⟨"INJ_GO", 0x310024, [(1, 4)], 7, 1, .rw, 0, [], 0, 1, 1, 1, 0, false⟩
/-- CAL_FS_CODE, R326. -/
def CAL_FS_CODE : Row := ⟨"CAL_FS_CODE", 0x310028, [(1, 4)], 0, 24, .rw, 0, [], 0, 16777215, 1, 1, 0, true⟩
/-- WATCH_PERIOD, R326. -/
def WATCH_PERIOD : Row := ⟨"WATCH_PERIOD", 0x31002C, [], 0, 16, .rw, 1000, [], 250, 60000, 1, 1, 0, false⟩
/-- OW_LIM, R326. -/
def OW_LIM : Row := ⟨"OW_LIM", 0x31002C, [], 16, 8, .rw, 25, [], 5, 90, 1, 1, 0, false⟩
/-- TH_HYST, R326. -/
def TH_HYST : Row := ⟨"TH_HYST", 0x31002C, [], 24, 8, .rw, 50, [], 0, 255, 1, 1, 0, false⟩

/-! Table 9-5 (R326, Converter). -/
/-- ODR, R326. -/
def ODR : Row := ⟨"ODR", 0x310100, [(4, 128)], 0, 4, .rw, 0, [], 0, 9, 1, 1, 0, true⟩
/-- GAIN, R326. -/
def GAIN : Row := ⟨"GAIN", 0x310100, [(4, 128)], 4, 3, .rw, 0, [], 0, 7, 1, 1, 0, true⟩
/-- DIFF, R326. -/
def DIFF : Row := ⟨"DIFF", 0x310100, [(4, 128)], 7, 1, .rw, 0, [], 0, 1, 1, 1, 0, true⟩
/-- KIND, R326. -/
def KIND : Row := ⟨"KIND", 0x310100, [(4, 128)], 8, 2, .rw, 0, [], 0, 3, 1, 1, 0, true⟩
/-- OW_EN, R326. -/
def OW_EN : Row := ⟨"OW_EN", 0x310100, [(4, 128)], 10, 1, .rw, 0, [], 0, 1, 1, 1, 0, true⟩
/-- WATCH, R326. -/
def WATCH : Row := ⟨"WATCH", 0x310100, [(4, 128)], 11, 1, .rw, 0, [], 0, 1, 1, 1, 0, true⟩
/-- TH_ALARM, R326. -/
def TH_ALARM : Row := ⟨"TH_ALARM", 0x310100, [(4, 128)], 12, 1, .rw, 0, [], 0, 1, 1, 1, 0, true⟩
/-- CODE, R326. -/
def CODE : Row := ⟨"CODE", 0x310101, [(4, 128)], 0, 24, .ro, 0, [], 0, 16777215, 1, 1, 0, false⟩
/-- OW, R326. -/
def CH_OW : Row := ⟨"OW", 0x310101, [(4, 128)], 24, 1, .ro, 0, [], 0, 1, 1, 1, 0, false⟩
/-- REF_OVR, R326. -/
def CH_REF_OVR : Row := ⟨"REF_OVR", 0x310101, [(4, 128)], 25, 1, .ro, 0, [], 0, 1, 1, 1, 0, false⟩
/-- CLIP, R326. -/
def CH_CLIP : Row := ⟨"CLIP", 0x310101, [(4, 128)], 26, 1, .ro, 0, [], 0, 1, 1, 1, 0, false⟩
/-- VALID, R326. -/
def VALID : Row := ⟨"VALID", 0x310101, [(4, 128)], 27, 1, .ro, 0, [], 0, 1, 1, 1, 0, false⟩
/-- INJ, R326. -/
def CH_INJ : Row := ⟨"INJ", 0x310101, [(4, 128)], 28, 1, .ro, 0, [], 0, 1, 1, 1, 0, false⟩
/-- TH_STATE, R326. -/
def TH_STATE : Row := ⟨"TH_STATE", 0x310101, [(4, 128)], 29, 2, .ro, 0, [], 0, 3, 1, 1, 0, false⟩
/-- CH_ENG, R326. -/
def CH_ENG : Row := ⟨"CH_ENG", 0x310102, [(4, 128)], 0, 32, .ro, 0, [], 0, 4294967295, 1, 1, 0, false⟩
/-- TH_LO, R326. -/
def TH_LO : Row := ⟨"TH_LO", 0x310103, [(4, 128)], 0, 16, .rw, 0, [], 0, 65535, 1, 1, 0, true⟩
/-- TH_HI, R326. -/
def TH_HI : Row := ⟨"TH_HI", 0x310103, [(4, 128)], 16, 16, .rw, 0, [], 0, 65535, 1, 1, 0, true⟩

/-! Table 10-8 (R345, Shutter). -/
/-- SHD_FLAGS, R345. -/
def SHD_FLAGS : Row := ⟨"SHD_FLAGS", 0x320000, [], 0, 12, .rws, 0, [], 0, 4095, 1, 1, 0, false⟩
/-- OCC_SHD, R345. -/
def OCC_SHD : Row := ⟨"OCC_SHD", 0x320001, [(1, 12)], 0, 17, .occ, 0, [], 0, 131071, 1, 1, 0, false⟩
/-- VSHUT_MV, R345. -/
def VSHUT_MV : Row := ⟨"VSHUT_MV", 0x320010, [], 0, 16, .ro, 0, [], 0, 65535, 1, 1, 0, false⟩
/-- DIAG_PERIOD, R345. -/
def DIAG_PERIOD : Row := ⟨"DIAG_PERIOD", 0x320011, [], 0, 16, .rw, 60, [], 0, 3600, 1, 1, 9, false⟩
/-- ACT_WARN, R345. -/
def ACT_WARN : Row := ⟨"ACT_WARN", 0x320012, [], 0, 20, .rw, 800000, [], 1, 1000000, 1, 1, 0, false⟩
/-- HS_ON, R345. -/
def HS_ON : Row := ⟨"HS_ON", 0x320500, [(1, 32)], 0, 1, .ro, 0, [], 0, 1, 1, 1, 0, false⟩
/-- HS_LATCH, R345. -/
def HS_LATCH : Row := ⟨"HS_LATCH", 0x320500, [(1, 32)], 1, 1, .ro, 0, [], 0, 1, 1, 1, 0, false⟩
/-- HS_I, R345. -/
def HS_I : Row := ⟨"HS_I", 0x320500, [(1, 32)], 2, 12, .ro, 0, [], 0, 4095, 1, 1, 0, false⟩

/-! Table 10-9 (R345, Shutter). -/
/-- CH_EN, R345. -/
def CH_EN : Row := ⟨"CH_EN", 0x320100, [(8, 64)], 0, 1, .rw, 0, [], 0, 1, 1, 1, 0, true⟩
/-- DRV_STATE, R345. -/
def DRV_STATE : Row := ⟨"DRV_STATE", 0x320100, [(8, 64)], 1, 3, .ro, 0, [], 0, 7, 1, 1, 0, false⟩
/-- DIAG, R345. -/
def DIAG : Row := ⟨"DIAG", 0x320100, [(8, 64)], 4, 3, .ro, 0, [], 0, 7, 1, 1, 0, false⟩
/-- LATCH, R345. -/
def LATCH : Row := ⟨"LATCH", 0x320100, [(8, 64)], 7, 1, .ro, 0, [], 0, 1, 1, 1, 0, false⟩
/-- OWNER, R345. -/
def OWNER : Row := ⟨"OWNER", 0x320100, [(8, 64)], 8, 2, .ro, 0, [], 0, 3, 1, 1, 0, false⟩
/-- DRV_PROF, R345. -/
def DRV_PROF : Row := ⟨"DRV_PROF", 0x320100, [(8, 64)], 10, 3, .ro, 0, [], 0, 7, 1, 1, 0, false⟩
/-- PULL_I, R345. -/
def PULL_I : Row := ⟨"PULL_I", 0x320101, [(8, 64)], 0, 11, .rw, 600, [], 200, 1200, 1, 1, 0, true⟩
/-- HOLD_I, R345. -/
def HOLD_I : Row := ⟨"HOLD_I", 0x320101, [(8, 64)], 16, 9, .rw, 120, [], 20, 300, 1, 1, 0, true⟩
/-- PULL_T, R345. -/
def PULL_T : Row := ⟨"PULL_T", 0x320102, [(8, 64)], 0, 6, .rw, 35, [], 5, 60, 1, 1, 0, true⟩
/-- MAX_ON, R345. -/
def MAX_ON : Row := ⟨"MAX_ON", 0x320102, [(8, 64)], 16, 16, .rw, 30000, [], 1000, 65000, 1, 1, 0, true⟩
/-- DUTY_PCT, R345. -/
def DUTY_PCT : Row := ⟨"DUTY_PCT", 0x320103, [(8, 64)], 0, 7, .rw, 10, [], 1, 100, 1, 1, 0, true⟩
/-- DUTY_WIN, R345. -/
def DUTY_WIN : Row := ⟨"DUTY_WIN", 0x320103, [(8, 64)], 8, 10, .rw, 10, [], 1, 600, 1, 1, 0, true⟩
/-- I_MEAS, R345. -/
def I_MEAS : Row := ⟨"I_MEAS", 0x320104, [(8, 64)], 0, 11, .ro, 0, [], 0, 2047, 1, 1, 0, false⟩
/-- DUTY_USED, R345. -/
def DUTY_USED : Row := ⟨"DUTY_USED", 0x320104, [(8, 64)], 16, 10, .ro, 0, [], 0, 1023, 1, 1, 0, false⟩
/-- ACT_CNT, R345. -/
def ACT_CNT : Row := ⟨"ACT_CNT", 0x320105, [(8, 64)], 0, 32, .ro, 0, [], 0, 4294967295, 1, 1, 0, false⟩
/-- LAST_ON, R345. -/
def LAST_ON : Row := ⟨"LAST_ON", 0x320106, [(8, 64)], 0, 16, .ro, 0, [], 0, 65535, 1, 1, 0, false⟩
/-- FAULT_CNT, R345. -/
def FAULT_CNT : Row := ⟨"FAULT_CNT", 0x320106, [(8, 64)], 16, 16, .rw, 0, [], 0, 65535, 1, 1, 0, false⟩
/-- DUTY_CNT, R345. -/
def DUTY_CNT : Row := ⟨"DUTY_CNT", 0x320107, [(8, 64)], 0, 16, .rw, 0, [], 0, 65535, 1, 1, 0, false⟩
/-- WAIT_CNT, R345. -/
def WAIT_CNT : Row := ⟨"WAIT_CNT", 0x320107, [(8, 64)], 16, 16, .rw, 0, [], 0, 65535, 1, 1, 0, false⟩

/-! Table 11-7 (R368, Store). -/
/-- NV_FLAGS, R368. -/
def NV_FLAGS : Row := ⟨"NV_FLAGS", 0x330000, [], 0, 10, .rws, 0, [], 0, 1023, 1, 1, 0, false⟩
/-- OCC_NV, R368. -/
def OCC_NV : Row := ⟨"OCC_NV", 0x330001, [(1, 10)], 0, 17, .occ, 0, [], 0, 131071, 1, 1, 0, false⟩
/-- NV_STATE, R368. -/
def NV_STATE : Row := ⟨"NV_STATE", 0x330010, [], 0, 2, .ro, 0, [], 0, 3, 1, 1, 0, false⟩
/-- BUF_FILL, R368. -/
def BUF_FILL : Row := ⟨"BUF_FILL", 0x330010, [], 3, 13, .ro, 0, [], 0, 8191, 1, 1, 0, false⟩
/-- BULK_PRESENT, R368. -/
def BULK_PRESENT : Row := ⟨"BULK_PRESENT", 0x330010, [], 16, 1, .ro, 0, [], 0, 1, 1, 1, 0, false⟩
/-- BULK_KIND, R368. -/
def BULK_KIND : Row := ⟨"BULK_KIND", 0x330010, [], 17, 1, .ro, 0, [], 0, 1, 1, 1, 0, false⟩
/-- IDLE_COMMIT, R368. -/
def IDLE_COMMIT : Row := ⟨"IDLE_COMMIT", 0x330011, [], 0, 16, .rw, 50, [], 10, 1000, 1, 1, 0, false⟩
/-- REFRESH_DAYS, R368. -/
def REFRESH_DAYS : Row := ⟨"REFRESH_DAYS", 0x330012, [], 0, 8, .rw, 30, [], 7, 30, 1, 1, 0, false⟩
/-- SCAN_PROG, R368. -/
def SCAN_PROG : Row := ⟨"SCAN_PROG", 0x330012, [], 8, 7, .ro, 0, [], 0, 127, 1, 1, 0, false⟩
/-- LAST_SCAN, R368. -/
def LAST_SCAN : Row := ⟨"LAST_SCAN", 0x330013, [], 0, 32, .ro, 0, [], 0, 4294967295, 1, 1, 0, false⟩
/-- COMMITS, R368. -/
def NV_COMMITS : Row := ⟨"COMMITS", 0x330014, [], 0, 16, .rw, 0, [], 0, 65535, 1, 1, 0, false⟩
/-- WEAK_CNT, R368. -/
def WEAK_CNT : Row := ⟨"WEAK_CNT", 0x330014, [], 16, 16, .rw, 0, [], 0, 65535, 1, 1, 0, false⟩
/-- TORN_CNT, R368. -/
def TORN_CNT : Row := ⟨"TORN_CNT", 0x330015, [], 0, 16, .rw, 0, [], 0, 65535, 1, 1, 0, false⟩
/-- TIE_CNT, R368. -/
def TIE_CNT : Row := ⟨"TIE_CNT", 0x330015, [], 16, 16, .rw, 0, [], 0, 65535, 1, 1, 0, false⟩
/-- BULK_SIZE, R368. -/
def BULK_SIZE : Row := ⟨"BULK_SIZE", 0x330016, [], 0, 16, .ro, 0, [], 0, 65535, 1, 1, 0, false⟩
/-- BULK_ERASE, R368. -/
def BULK_ERASE : Row := ⟨"BULK_ERASE", 0x330016, [], 16, 5, .ro, 0, [], 0, 31, 1, 1, 0, false⟩
/-- BULK_FREQ, R368. -/
def BULK_FREQ : Row := ⟨"BULK_FREQ", 0x330017, [], 0, 8, .rw, 0, [], 25, 200, 1, 1, 0, true⟩
/-- BULK_RD_ERR, R368. -/
def BULK_RD_ERR : Row := ⟨"BULK_RD_ERR", 0x330017, [], 16, 16, .rw, 0, [], 0, 65535, 1, 1, 0, false⟩
/-- BLOCKS_BAD, R368. -/
def BLOCKS_BAD : Row := ⟨"BLOCKS_BAD", 0x330018, [], 0, 16, .ro, 0, [], 0, 65535, 1, 1, 0, false⟩
/-- AREA_FREE, R368. -/
def AREA_FREE : Row := ⟨"AREA_FREE", 0x330020, [(1, 16)], 0, 16, .ro, 0, [], 0, 65535, 1, 1, 0, false⟩
/-- ERASE_MAX, R368. -/
def ERASE_MAX : Row := ⟨"ERASE_MAX", 0x330020, [(1, 16)], 16, 16, .ro, 0, [], 0, 65535, 1, 1, 0, false⟩
/-- COUNTER, R368. -/
def COUNTER : Row := ⟨"COUNTER", 0x330100, [(1, 136)], 0, 32, .ro, 0, [], 0, 4294967295, 1, 1, 0, false⟩

/-! Table 12-7 (R396, Boot). -/
/-- TRUST_FLAGS, R396. -/
def TRUST_FLAGS : Row := ⟨"TRUST_FLAGS", 0x400000, [], 0, 10, .rws, 0, [], 0, 1023, 1, 1, 0, false⟩
/-- OCC_TRUST, R396. -/
def OCC_TRUST : Row := ⟨"OCC_TRUST", 0x400001, [(1, 10)], 0, 17, .occ, 0, [], 0, 131071, 1, 1, 0, false⟩
/-- DEV_STATE, R396. -/
def DEV_STATE : Row := ⟨"DEV_STATE", 0x400010, [], 0, 3, .ro, 0, [], 0, 7, 1, 1, 0, false⟩
/-- RESET_CAUSE, R396. -/
def RESET_CAUSE : Row := ⟨"RESET_CAUSE", 0x400010, [], 3, 3, .ro, 0, [], 0, 7, 1, 1, 0, false⟩
/-- BOOT_BANK, R396. -/
def BOOT_BANK : Row := ⟨"BOOT_BANK", 0x400010, [], 6, 1, .ro, 0, [], 0, 1, 1, 1, 0, false⟩
/-- TRIAL, R396. -/
def TRIAL : Row := ⟨"TRIAL", 0x400010, [], 7, 1, .ro, 0, [], 0, 1, 1, 1, 0, false⟩
/-- DEBUG_LEVEL, R396. -/
def DEBUG_LEVEL : Row := ⟨"DEBUG_LEVEL", 0x400010, [], 8, 2, .ro, 0, [], 0, 3, 1, 1, 0, false⟩
/-- WAKE_SRC, R396. -/
def WAKE_SRC : Row := ⟨"WAKE_SRC", 0x400010, [], 10, 2, .ro, 0, [], 0, 3, 1, 1, 0, false⟩
/-- FUSE_WR_SVN, R396. -/
def FUSE_WR_SVN : Row := ⟨"FUSE_WR_SVN", 0x400011, [], 0, 7, .ro, 0, [], 0, 127, 1, 1, 0, false⟩
/-- FUSE_TH_SVN, R396. -/
def FUSE_TH_SVN : Row := ⟨"FUSE_TH_SVN", 0x400011, [], 7, 6, .ro, 0, [], 0, 63, 1, 1, 0, false⟩
/-- SIGN_REVOKE, R396. -/
def SIGN_REVOKE : Row := ⟨"SIGN_REVOKE", 0x400011, [], 13, 4, .ro, 0, [], 0, 15, 1, 1, 0, false⟩
/-- OWNER_SET, R396. -/
def OWNER_SET : Row := ⟨"OWNER_SET", 0x400011, [], 17, 1, .ro, 0, [], 0, 1, 1, 1, 0, false⟩
/-- DBG2_OFF, R396. -/
def DBG2_OFF : Row := ⟨"DBG2_OFF", 0x400011, [], 18, 1, .ro, 0, [], 0, 1, 1, 1, 0, false⟩
/-- BANK_VER, R396. -/
def BANK_VER : Row := ⟨"BANK_VER", 0x400012, [(1, 2)], 0, 32, .ro, 0, [], 0, 4294967295, 1, 1, 0, false⟩
/-- BANK_SVN, R396. -/
def BANK_SVN : Row := ⟨"BANK_SVN", 0x400014, [(1, 2)], 0, 7, .ro, 0, [], 0, 127, 1, 1, 0, false⟩
/-- BANK_KEY, R396. -/
def BANK_KEY : Row := ⟨"BANK_KEY", 0x400014, [(1, 2)], 7, 2, .ro, 0, [], 0, 3, 1, 1, 0, false⟩
/-- BANK_VALID, R396. -/
def BANK_VALID : Row := ⟨"BANK_VALID", 0x400014, [(1, 2)], 9, 1, .ro, 0, [], 0, 1, 1, 1, 0, false⟩
/-- PATCH_VER, R396. -/
def PATCH_VER : Row := ⟨"PATCH_VER", 0x400016, [], 0, 16, .ro, 0, [], 0, 65535, 1, 1, 0, false⟩
/-- PATCH_SVN, R396. -/
def PATCH_SVN : Row := ⟨"PATCH_SVN", 0x400016, [], 16, 6, .ro, 0, [], 0, 63, 1, 1, 0, false⟩
/-- BOOT_MEMTEST, R396. -/
def BOOT_MEMTEST : Row := ⟨"BOOT_MEMTEST", 0x400017, [], 0, 1, .rw, 0, [], 0, 1, 1, 1, 0, true⟩
/-- WAKE_ON_TH, R396. -/
def WAKE_ON_TH : Row := ⟨"WAKE_ON_TH", 0x400017, [], 1, 1, .rw, 0, [], 0, 1, 1, 1, 0, true⟩
/-- TRIAL_TIME, R396. -/
def TRIAL_TIME : Row := ⟨"TRIAL_TIME", 0x400017, [], 8, 8, .rw, 60, [], 10, 255, 1, 1, 0, false⟩
/-- RESTARTS, R396. -/
def RESTARTS : Row := ⟨"RESTARTS", 0x400018, [], 0, 16, .rw, 0, [], 0, 65535, 1, 1, 0, false⟩
/-- LAST_CAUSE, R396. -/
def LAST_CAUSE : Row := ⟨"LAST_CAUSE", 0x400018, [], 16, 3, .ro, 0, [], 0, 7, 1, 1, 0, false⟩
/-- START_TIME, R396. -/
def START_TIME : Row := ⟨"START_TIME", 0x400019, [], 0, 16, .ro, 0, [], 0, 65535, 1, 1, 0, false⟩
/-- WAKE_TIME, R396. -/
def WAKE_TIME : Row := ⟨"WAKE_TIME", 0x400019, [], 16, 16, .ro, 0, [], 0, 65535, 1, 1, 0, false⟩
/-- FW_VIOL_ADDR, R396. -/
def FW_VIOL_ADDR : Row := ⟨"FW_VIOL_ADDR", 0x40001A, [], 0, 32, .ro, 0, [], 0, 4294967295, 1, 1, 0, false⟩
/-- SVC_DROP, R396. -/
def SVC_DROP : Row := ⟨"SVC_DROP", 0x40001B, [], 0, 16, .rw, 0, [], 0, 65535, 1, 1, 0, false⟩

/-! Table 13-6 (R417, Events). -/
/-- EVT_FLAGS, R417. -/
def EVT_FLAGS : Row := ⟨"EVT_FLAGS", 0x410000, [], 0, 10, .rws, 0, [], 0, 1023, 1, 1, 0, false⟩
/-- OCC_EVT, R417. -/
def OCC_EVT : Row := ⟨"OCC_EVT", 0x410001, [(1, 10)], 0, 17, .occ, 0, [], 0, 131071, 1, 1, 0, false⟩
/-- RING_HEAD, R417. -/
def RING_HEAD : Row := ⟨"RING_HEAD", 0x410010, [], 0, 32, .ro, 0, [], 0, 4294967295, 1, 1, 0, false⟩
/-- LOG_HEAD, R417. -/
def LOG_HEAD : Row := ⟨"LOG_HEAD", 0x410011, [], 0, 32, .ro, 0, [], 0, 4294967295, 1, 1, 0, false⟩
/-- EVT_HOLDOFF, R417. -/
def EVT_HOLDOFF : Row := ⟨"EVT_HOLDOFF", 0x410012, [], 0, 16, .rw, 100, [], 10, 10000, 1, 1, 0, false⟩
/-- LOG_RATE, R417. -/
def LOG_RATE : Row := ⟨"LOG_RATE", 0x410012, [], 16, 8, .rw, 32, [], 1, 64, 1, 1, 0, false⟩
/-- EVT_DROP_CNT, R417. -/
def EVT_DROP_CNT : Row := ⟨"EVT_DROP_CNT", 0x410013, [], 0, 16, .rw, 0, [], 0, 65535, 1, 1, 0, false⟩
/-- LOG_DROP_CNT, R417. -/
def LOG_DROP_CNT : Row := ⟨"LOG_DROP_CNT", 0x410013, [], 16, 16, .rw, 0, [], 0, 65535, 1, 1, 0, false⟩
/-- DKIND, R417. -/
def DKIND : Row := ⟨"DKIND", 0x410020, [(8, 4)], 0, 3, .rw, 0, [], 0, 5, 1, 1, 0, true⟩
/-- UPLINK, R417. -/
def UPLINK : Row := ⟨"UPLINK", 0x410020, [(8, 4)], 3, 2, .rw, 0, [], 0, 3, 1, 1, 0, true⟩
/-- DADDR, R417. -/
def DADDR : Row := ⟨"DADDR", 0x410020, [(8, 4)], 16, 10, .rw, 0, [], 0, 1023, 1, 1, 0, true⟩
/-- DQ_FULL, R417. -/
def DQ_FULL : Row := ⟨"DQ_FULL", 0x410020, [(8, 4)], 31, 1, .ro, 0, [], 0, 1, 1, 1, 0, false⟩
/-- DPORT, R417. -/
def DPORT : Row := ⟨"DPORT", 0x410021, [(8, 4)], 0, 16, .rw, 0, [], 0, 65535, 1, 1, 0, true⟩
/-- DQ_USED, R417. -/
def DQ_USED : Row := ⟨"DQ_USED", 0x410021, [(8, 4)], 16, 9, .ro, 0, [], 0, 511, 1, 1, 0, false⟩
/-- DIP, R417. -/
def DIP : Row := ⟨"DIP", 0x410022, [(8, 4), (1, 4)], 0, 32, .rw, 0, [], 0, 4294967295, 1, 1, 0, true⟩
/-- DSENT, R417. -/
def DSENT : Row := ⟨"DSENT", 0x410026, [(8, 4)], 0, 32, .rw, 0, [], 0, 4294967295, 1, 1, 0, false⟩
/-- PMIN, R417. -/
def PMIN : Row := ⟨"PMIN", 0x410040, [], 0, 8, .rw, 20, [], 1, 255, 1, 1, 0, false⟩
/-- WATCH_PCT, R417. -/
def WATCH_PCT : Row := ⟨"WATCH_PCT", 0x410040, [], 8, 8, .rw, 10, [], 1, 100, 1, 1, 0, false⟩
/-- RISE_LIM, R417. -/
def RISE_LIM : Row := ⟨"RISE_LIM", 0x410040, [], 16, 8, .rw, 25, [], 5, 200, 1, 1, 0, false⟩
/-- PRED_DAYS, R417. -/
def PRED_DAYS : Row := ⟨"PRED_DAYS", 0x410040, [], 24, 8, .rw, 14, [], 1, 90, 1, 1, 0, false⟩
/-- LINK_WARN, R417. -/
def LINK_WARN : Row := ⟨"LINK_WARN", 0x410041, [], 0, 16, .rw, 10, [], 1, 65535, 1, 1, 0, false⟩
/-- LINK_POOR, R417. -/
def LINK_POOR : Row := ⟨"LINK_POOR", 0x410041, [], 16, 16, .rw, 1000, [], 1, 65535, 1, 1, 0, false⟩
/-- LIFE_HOURS, R417. -/
def LIFE_HOURS : Row := ⟨"LIFE_HOURS", 0x410042, [], 0, 18, .rw, 160000, [], 1000, 262143, 1, 1, 0, false⟩
/-- TJ_NOW, R417. -/
def TJ_NOW : Row := ⟨"TJ_NOW", 0x410043, [], 0, 16, .ro, 0, [], 0, 65535, 1, 1, 0, false⟩
/-- TJ_MAX, R417. -/
def TJ_MAX : Row := ⟨"TJ_MAX", 0x410043, [], 16, 16, .ro, 0, [], 0, 65535, 1, 1, 0, false⟩
/-- ROUTE, R417. -/
def ROUTE : Row := ⟨"ROUTE", 0x410200, [(1, 512)], 0, 7, .rw, 0, routeResets, 0, 127, 1, 1, 0, true⟩
/-- SEVERITY, R417. -/
def SEVERITY : Row := ⟨"SEVERITY", 0x410200, [(1, 512)], 8, 2, .rw, 0, severityResets, 0, 3, 1, 1, 0, false⟩
/-- SRC_CNT, R417. -/
def SRC_CNT : Row := ⟨"SRC_CNT", 0x410200, [(1, 512)], 16, 16, .rw, 0, [], 0, 65535, 1, 1, 0, false⟩

/-! Table 14-13 (R447, Electrical). -/
/-- RAIL_MV, R447. -/
def RAIL_MV : Row := ⟨"RAIL_MV", 0x500000, [(1, 9)], 0, 16, .ro, 0, [], 0, 65535, 1, 1, 0, false⟩
/-- RAIL_MIN, R447. -/
def RAIL_MIN : Row := ⟨"RAIL_MIN", 0x500000, [(1, 9)], 16, 16, .rw, 65535, [], 0, 65535, 1, 1, 0, false⟩
/-- TJ_DIE, R447. -/
def TJ_DIE : Row := ⟨"TJ_DIE", 0x500010, [(1, 7)], 0, 16, .ro, 0, [], 0, 65535, 1, 1, 0, false⟩
/-- TJ_DIE_MAX, R447. -/
def TJ_DIE_MAX : Row := ⟨"TJ_DIE_MAX", 0x500010, [(1, 7)], 16, 16, .rw, 0, [], 0, 65535, 1, 1, 0, false⟩
/-- P_EST, R447. -/
def P_EST : Row := ⟨"P_EST", 0x500018, [], 0, 16, .ro, 0, [], 0, 65535, 1, 1, 0, false⟩
/-- P_PEAK, R447. -/
def P_PEAK : Row := ⟨"P_PEAK", 0x500018, [], 16, 16, .rw, 0, [], 0, 65535, 1, 1, 0, false⟩
/-- VREQ_A, R447. -/
def VREQ_A : Row := ⟨"VREQ_A", 0x500019, [], 0, 8, .ro, 255, [], 0, 255, 1, 1, 0, false⟩
/-- VREQ_B, R447. -/
def VREQ_B : Row := ⟨"VREQ_B", 0x500019, [], 8, 8, .ro, 255, [], 0, 255, 1, 1, 0, false⟩
/-- SUP_RAIL, R447. -/
def SUP_RAIL : Row := ⟨"SUP_RAIL", 0x50001A, [], 0, 4, .ro, 15, [], 0, 15, 1, 1, 0, false⟩
/-- SUP_OVER, R447. -/
def SUP_OVER : Row := ⟨"SUP_OVER", 0x50001A, [], 4, 1, .ro, 0, [], 0, 1, 1, 1, 0, false⟩
/-- TB_GUARD, R447. -/
def TB_GUARD : Row := ⟨"TB_GUARD", 0x50001B, [], 0, 4, .rw, 8, [], 4, 12, 1, 1, 0, false⟩
/-- SL_SWING, R447. -/
def SL_SWING : Row := ⟨"SL_SWING", 0x500020, [(1, 8)], 0, 4, .rw, 0, [], 0, 15, 1, 1, 0, true⟩
/-- SL_PRE, R447. -/
def SL_PRE : Row := ⟨"SL_PRE", 0x500020, [(1, 8)], 4, 4, .rw, 0, [], 0, 15, 1, 1, 0, true⟩
/-- SL_CTLE, R447. -/
def SL_CTLE : Row := ⟨"SL_CTLE", 0x500020, [(1, 8)], 8, 5, .rw, 0, [], 0, 18, 1, 1, 0, true⟩
/-- UL_SWING, R447. -/
def UL_SWING : Row := ⟨"UL_SWING", 0x500028, [(1, 4)], 0, 4, .rw, 0, [], 0, 15, 1, 1, 0, true⟩
/-- UL_PRE, R447. -/
def UL_PRE : Row := ⟨"UL_PRE", 0x500028, [(1, 4)], 4, 4, .rw, 0, [], 0, 15, 1, 1, 0, true⟩
/-- UL_LOS, R447. -/
def UL_LOS : Row := ⟨"UL_LOS", 0x500028, [(1, 4)], 16, 1, .ro, 0, [], 0, 1, 1, 1, 0, false⟩
/-- UL_MODABS, R447. -/
def UL_MODABS : Row := ⟨"UL_MODABS", 0x500028, [(1, 4)], 17, 1, .ro, 0, [], 0, 1, 1, 1, 0, false⟩
/-- UL_TXDIS, R447. -/
def UL_TXDIS : Row := ⟨"UL_TXDIS", 0x500028, [(1, 4)], 18, 1, .ro, 1, [], 0, 1, 1, 1, 0, false⟩

end P

/-- The fields of Table 0-6. -/
def rows0_6 : List Row := [
  P.PART,
  P.STEP_IO,
  P.STEP_C0,
  P.STEP_C1,
  ⟨"reserved", 0x100001, [], 24, 8, .ro, 0, [], 0, 255, 1, 1, 0, false⟩,
  P.ROM_ID,
  P.UID_LO,
  P.UID_HI,
  P.WR_VER]

/-- The fields of Table 1-7. -/
def rows1_7 : List Row := [
  P.LANE_RATE,
  P.LANE_RATE_MIN,
  P.RATE_MARGIN,
  P.RATE_FLOOR,
  ⟨"reserved", 0x100018, [], 15, 17, .ro, 0, [], 0, 131071, 1, 1, 0, false⟩,
  P.RATE_WINDOW,
  ⟨"reserved", 0x100019, [], 16, 16, .ro, 0, [], 0, 65535, 1, 1, 0, false⟩,
  P.RATE_PROFILE,
  ⟨"reserved", 0x10001A, [], 2, 30, .ro, 0, [], 0, 1073741823, 1, 1, 0, false⟩,
  P.RATE_LOW,
  P.BRIDGE_ERR,
  P.BRIDGE_FAIL,
  ⟨"reserved", 0x10001B, [], 8, 24, .ro, 0, [], 0, 16777215, 1, 1, 0, false⟩,
  P.OCC_RATE_LOW,
  P.OCC_BRIDGE_ERR,
  P.DEV_INGEST,
  ⟨"reserved", 0x100026, [], 16, 16, .ro, 0, [], 0, 65535, 1, 1, 0, false⟩,
  P.CL_LOAD,
  P.CL_CORES,
  ⟨"reserved", 0x100030, [(1, 16)], 19, 13, .ro, 0, [], 0, 8191, 1, 1, 0, false⟩]

/-- The fields of Table 2-12. -/
def rows2_12 : List Row := [
  P.KCP_VER,
  ⟨"reserved", 0x110000, [], 4, 28, .ro, 0, [], 0, 268435455, 1, 1, 0, false⟩,
  P.UDP_PORT,
  ⟨"reserved", 0x110001, [], 16, 16, .ro, 0, [], 0, 65535, 1, 1, 0, false⟩,
  P.AUTH_RELAX,
  ⟨"reserved", 0x110002, [], 4, 28, .ro, 0, [], 0, 268435455, 1, 1, 0, false⟩,
  P.RELAY_TIMEOUT,
  ⟨"reserved", 0x110003, [], 16, 16, .ro, 0, [], 0, 65535, 1, 1, 0, false⟩,
  P.RX_CRC_ERR,
  P.AUTH_FAIL,
  P.REPLY_LATE,
  P.REQ_OVERRUN,
  ⟨"reserved", 0x110004, [], 4, 28, .ro, 0, [], 0, 268435455, 1, 1, 0, false⟩,
  P.OCC_KCP,
  P.Q_USED,
  P.Q_PEAK,
  ⟨"reserved", 0x110009, [], 15, 17, .ro, 0, [], 0, 131071, 1, 1, 0, false⟩,
  P.UL_EN,
  P.VLAN_EN,
  P.VLAN_ID,
  P.PCP,
  ⟨"reserved", 0x110010, [(1, 4)], 17, 14, .ro, 0, [], 0, 16383, 1, 1, 0, false⟩,
  P.UL_LINK_UP,
  P.IPV4_ADDR,
  P.IPV4_MASK,
  P.IPV4_GW,
  P.IPV6_ADDR,
  P.IPV6_PFX,
  ⟨"reserved", 0x110030, [(1, 4)], 8, 24, .ro, 0, [], 0, 16777215, 1, 1, 0, false⟩,
  P.MAC_LO,
  P.MAC_HI,
  ⟨"reserved", 0x110035, [(2, 4)], 16, 16, .ro, 0, [], 0, 65535, 1, 1, 0, false⟩,
  P.UL_RX_DROP,
  P.UL_PAUSE,
  P.UL_RX_ERR]

/-- The fields of Table 3-8, part 1. -/
def rows3_8a : List Row := [
  P.ING_FLAGS,
  ⟨"reserved", 0x200000, [], 10, 22, .ro, 0, [], 0, 4194303, 1, 1, 0, false⟩,
  P.OCC_ING,
  P.CSI_LINK_EN,
  P.LANES,
  P.LINK_RATE,
  ⟨"reserved", 0x200010, [(1, 32)], 13, 18, .ro, 0, [], 0, 262143, 1, 1, 0, false⟩,
  P.CSI_LINK_UP,
  P.BUS_MODE,
  P.SCL,
  ⟨"reserved", 0x200030, [(1, 8)], 3, 1, .ro, 0, [], 0, 1, 1, 1, 0, false⟩,
  P.RETRIES,
  ⟨"reserved", 0x200030, [(1, 8)], 6, 26, .ro, 0, [], 0, 67108863, 1, 1, 0, false⟩,
  P.NACK_CNT,
  P.BUS_RESET_CNT,
  P.ECC_CORR,
  P.ECC_UNCORR,
  P.CRC_ERR,
  P.DISCARD,
  P.D_CORE,
  P.D_TARGET,
  P.D_VERIFY,
  P.D_REG,
  P.D_LEN,
  P.D_REG16,
  P.D_MSB,
  ⟨"reserved", 0x2000A0, [], 28, 4, .ro, 0, [], 0, 15, 1, 1, 0, false⟩,
  P.DIRECT_DATA,
  P.RESIDENT,
  ⟨"reserved", 0x2000A2, [], 26, 6, .ro, 0, [], 0, 63, 1, 1, 0, false⟩,
  P.CORE_EN,
  P.VC,
  P.DT,
  P.COMP_EN,
  P.COMP_VC,
  P.MOSAIC,
  P.PH_X,
  P.PH_Y,
  P.COMP_DT,
  P.LINE_NUM]

/-- The fields of Table 3-8, part 2. -/
def rows3_8b : List Row := [
  ⟨"reserved", 0x200100, [(16, 64)], 16, 16, .ro, 0, [], 0, 65535, 1, 1, 0, false⟩,
  P.WIDTH,
  P.HEIGHT,
  P.C_WIDTH,
  P.C_HEIGHT,
  P.FRAME_RATE,
  P.COMP_RATE,
  P.SET_LAG,
  P.CAP_OFFSET,
  P.BUS_ADDR,
  P.COMP_ADDR,
  P.FPA_SRC,
  P.FPA_OFFSET,
  P.FPA_WIDTH,
  P.FPA_SIGNED,
  P.FPA_BE,
  P.HOUS_SRC,
  P.FPA_GAIN,
  P.FPA_OFS,
  P.HOUS_CONV,
  P.HIST_LO,
  P.HIST_SHIFT,
  P.FRAME_CNT,
  P.CRC_LINES,
  P.OVR_FRAMES,
  P.PAD_LINES,
  P.CUT_LINES,
  P.SET_GEN_ISSUED,
  P.SET_GEN_APPLIED,
  P.CORE_STATE,
  P.RATE_EXC,
  P.SET_PEND,
  P.SET_PROFILE,
  ⟨"reserved", 0x20010F, [(16, 64)], 13, 3, .ro, 0, [], 0, 7, 1, 1, 0, false⟩,
  P.MEAS_RATE]

/-- The fields of Table 3-8. -/
def rows3_8 : List Row := rows3_8a ++ rows3_8b

/-- The fields of Table 4-9, part 1. -/
def rows4_9a : List Row := [
  P.PIPE_FLAGS,
  ⟨"reserved", 0x210000, [], 8, 24, .ro, 0, [], 0, 16777215, 1, 1, 0, false⟩,
  P.OCC_PIPE,
  P.ALARM_HIT_LO,
  P.ALARM_HIT_HI,
  P.ALARM_HOLD,
  P.ALARM_PIN,
  ⟨"reserved", 0x210012, [], 17, 15, .ro, 0, [], 0, 32767, 1, 1, 0, false⟩,
  P.TEST_LANE,
  ⟨"reserved", 0x210013, [], 7, 1, .ro, 0, [], 0, 1, 1, 1, 0, false⟩,
  P.TEST_GO,
  P.TEST_OK,
  ⟨"reserved", 0x210013, [], 10, 22, .ro, 0, [], 0, 4194303, 1, 1, 0, false⟩,
  P.LINE_DIE,
  ⟨"reserved", 0x210014, [], 4, 28, .ro, 0, [], 0, 268435455, 1, 1, 0, false⟩,
  P.TAP_TOTAL,
  ⟨"reserved", 0x210015, [], 16, 16, .ro, 0, [], 0, 65535, 1, 1, 0, false⟩,
  P.OCC_ALARM,
  P.TAP_EN,
  P.CORE,
  P.COMP,
  P.BOUNDARY,
  P.DECIM,
  P.NOSHUT,
  P.STREAMING,
  ⟨"reserved", 0x210200, [(8, 16)], 22, 10, .ro, 0, [], 0, 1023, 1, 1, 0, false⟩,
  P.TAP_SIZE,
  ⟨"reserved", 0x210201, [(8, 16)], 5, 27, .ro, 0, [], 0, 134217727, 1, 1, 0, false⟩,
  P.TAP_PROD,
  ⟨"reserved", 0x210202, [(8, 16)], 27, 5, .ro, 0, [], 0, 31, 1, 1, 0, false⟩,
  P.TAP_CONS,
  ⟨"reserved", 0x210203, [(8, 16)], 27, 5, .ro, 0, [], 0, 31, 1, 1, 0, false⟩,
  P.TAP_SKIP,
  P.TAP_FRAMES,
  P.ST_UPLINK,
  P.ST_V6,
  ⟨"reserved", 0x210205, [(8, 16)], 3, 13, .ro, 0, [], 0, 8191, 1, 1, 0, false⟩,
  P.ST_PORT,
  P.TAP_RATE,
  ⟨"reserved", 0x210206, [(8, 16)], 16, 16, .ro, 0, [], 0, 65535, 1, 1, 0, false⟩]

/-- The fields of Table 4-9, part 2. -/
def rows4_9b : List Row := [
  P.ST_ADDR]

/-- The fields of Table 4-9. -/
def rows4_9 : List Row := rows4_9a ++ rows4_9b

/-- The fields of Table 4-10. -/
def rows4_10 : List Row := [
  P.TNR_K,
  P.LIVE_EN,
  P.ALARM_RUN,
  P.ALARM_DMG,
  ⟨"reserved", 0x210400, [(16, 64)], 11, 21, .ro, 0, [], 0, 2097151, 1, 1, 0, false⟩,
  P.TNR_GUARD,
  P.NOISE_LIM,
  P.SNR_SIGMA,
  ⟨"reserved", 0x210402, [(16, 64)], 16, 16, .ro, 0, [], 0, 65535, 1, 1, 0, false⟩,
  P.ABS_THR,
  P.RATE_THR,
  P.FPA_REF,
  P.HOUS_REF,
  P.DRIFT_RATE,
  ⟨"reserved", 0x210405, [(16, 64)], 16, 16, .ro, 0, [], 0, 65535, 1, 1, 0, false⟩,
  P.APPLIED_BANK,
  P.ARMED,
  P.BLEND,
  ⟨"reserved", 0x210406, [(16, 64)], 11, 21, .ro, 0, [], 0, 2097151, 1, 1, 0, false⟩,
  P.ABS_CNT,
  P.RATE_CNT,
  P.HIT_X,
  P.HIT_Y,
  P.HIT_KIND,
  ⟨"reserved", 0x210408, [(16, 64)], 24, 8, .ro, 0, [], 0, 255, 1, 1, 0, false⟩,
  P.HIT_T,
  P.HIT_DT,
  P.HIT_FRAME,
  P.BAD_TOTAL,
  ⟨"reserved", 0x21040B, [(16, 64)], 23, 9, .ro, 0, [], 0, 511, 1, 1, 0, false⟩,
  P.LIVE_CNT,
  P.NO_DONOR_CNT,
  P.REC_ERR_CNT,
  P.CLASS_PEND,
  ⟨"reserved", 0x21040D, [(16, 64)], 29, 3, .ro, 0, [], 0, 7, 1, 1, 0, false⟩,
  P.RANGE_PIX,
  ⟨"reserved", 0x21040E, [(16, 64)], 23, 9, .ro, 0, [], 0, 511, 1, 1, 0, false⟩,
  P.PIPE_PROF,
  ⟨"reserved", 0x21040F, [(16, 64)], 5, 27, .ro, 0, [], 0, 134217727, 1, 1, 0, false⟩]

/-- The fields of Table 5-9. -/
def rows5_9 : List Row := [
  P.CAL_FLAGS,
  ⟨"reserved", 0x220000, [], 12, 20, .ro, 0, [], 0, 1048575, 1, 1, 0, false⟩,
  P.OCC_CAL,
  P.MIN_INT,
  P.MAX_INT,
  P.UNC_THR,
  P.UNC_AGE,
  P.MAX_DEFER,
  P.RETRY,
  P.SLEW,
  P.RAMP_LEN,
  ⟨"reserved", 0x220013, [], 16, 16, .ro, 0, [], 0, 65535, 1, 1, 0, false⟩,
  P.SEAM_PERIOD,
  P.SEAM_THR,
  P.TRIM_MIN,
  P.TRIM_MAX,
  ⟨"reserved", 0x220015, [], 24, 8, .ro, 0, [], 0, 255, 1, 1, 0, false⟩,
  P.ANCHOR_AGE,
  P.PRIOR_SIG,
  P.SEAM_SYS,
  P.SEAM_ITER_MAX,
  ⟨"reserved", 0x220017, [], 24, 8, .ro, 0, [], 0, 255, 1, 1, 0, false⟩,
  P.DRIFT_LAMBDA,
  P.DRIFT_MIN,
  P.OUT_K,
  ⟨"reserved", 0x220018, [], 28, 4, .ro, 0, [], 0, 15, 1, 1, 0, false⟩,
  P.SOLVE_CNT,
  P.LAST_ITER,
  ⟨"reserved", 0x220019, [], 24, 8, .ro, 0, [], 0, 255, 1, 1, 0, false⟩,
  P.LAST_RES,
  ⟨"reserved", 0x22001A, [], 16, 16, .ro, 0, [], 0, 65535, 1, 1, 0, false⟩,
  P.CAL_PROF,
  ⟨"reserved", 0x22001B, [], 3, 29, .ro, 0, [], 0, 536870911, 1, 1, 0, false⟩]

/-- The fields of Table 5-10. -/
def rows5_10 : List Row := [
  P.CYC_STATE,
  P.RAMP_STATE,
  P.AUTO_EN,
  P.SUSP,
  P.STAGED,
  P.CONSEC_FAIL,
  ⟨"reserved", 0x220100, [(16, 64)], 13, 19, .ro, 0, [], 0, 524287, 1, 1, 0, false⟩,
  P.UNC,
  P.SEAM_RES,
  P.LAST_END,
  P.NEXT_MIN,
  P.NEXT_MAX,
  P.RAMP_I,
  P.RAMP_N,
  P.RAMP_DMAX,
  P.TRIM_SUM,
  P.LAST_TRIM,
  P.CYCLES,
  P.ABORTS,
  P.FAILS,
  P.DEFERS,
  P.S_RMS,
  P.FLAG_T,
  P.FLAG_CH,
  ⟨"reserved", 0x22010A, [(16, 64)], 7, 1, .ro, 0, [], 0, 1, 1, 1, 0, false⟩,
  P.SHUT_CH,
  ⟨"reserved", 0x22010A, [(16, 64)], 15, 17, .ro, 0, [], 0, 131071, 1, 1, 0, false⟩,
  P.STORE_SEQ]

/-- The fields of Table 6-14. -/
def rows6_14 : List Row := [
  P.OUT_FLAGS,
  ⟨"reserved", 0x230000, [], 11, 21, .ro, 0, [], 0, 2097151, 1, 1, 0, false⟩,
  P.OCC_OUT,
  P.CELLS_X,
  P.CELLS_Y,
  P.EMIS_N,
  ⟨"reserved", 0x230010, [], 18, 14, .ro, 0, [], 0, 16383, 1, 1, 0, false⟩,
  P.OUT_RATE_MAX,
  P.HOLD_PERIOD,
  ⟨"reserved", 0x230011, [], 24, 8, .ro, 0, [], 0, 255, 1, 1, 0, false⟩,
  P.SILENCE_MIN,
  P.HEALTH_PERIOD,
  P.ANGLE_MAX,
  P.RATE_TAU,
  P.JOIN_SLEW,
  P.JOIN_MAX,
  P.VIEW_MIN_N,
  P.VIEW_RAMP,
  P.BLINK_SYM,
  P.BLINK_REP,
  ⟨"reserved", 0x230014, [], 28, 4, .ro, 0, [], 0, 15, 1, 1, 0, false⟩,
  P.OUT_PROF,
  ⟨"reserved", 0x230015, [], 3, 29, .ro, 0, [], 0, 536870911, 1, 1, 0, false⟩,
  P.CAVITY_T,
  ⟨"reserved", 0x230017, [], 16, 16, .ro, 0, [], 0, 65535, 1, 1, 0, false⟩,
  P.CAVITY_MASK,
  P.LATE_CNT,
  P.SUPERSEDED_CNT,
  P.STALE_CNT,
  P.SILENT_CNT,
  P.ALARM_REC_CNT,
  P.ALARM_OVF_CNT,
  P.Q_ACTIVE,
  ⟨"reserved", 0x23001F, [], 19, 13, .ro, 0, [], 0, 8191, 1, 1, 0, false⟩]

/-- The fields of Table 6-15. -/
def rows6_15 : List Row := [
  P.BUS_EN,
  P.TILES,
  ⟨"reserved", 0x230100, [(4, 200)], 7, 1, .ro, 0, [], 0, 1, 1, 1, 0, false⟩,
  P.UTIL,
  ⟨"reserved", 0x230100, [(4, 200)], 16, 16, .ro, 0, [], 0, 65535, 1, 1, 0, false⟩,
  P.REC_CNT,
  P.REPLY_ERR,
  P.NO_REPLY,
  ⟨"reserved", 0x230103, [(4, 200)], 0, 32, .ro, 0, [], 0, 4294967295, 1, 1, 0, false⟩,
  P.REG_STATE,
  ⟨"reserved", 0x230500, [(4, 64)], 3, 5, .ro, 0, [], 0, 31, 1, 1, 0, false⟩,
  P.NODES_VALID,
  P.LEDS,
  P.NETD,
  P.REG_RAMP_I,
  ⟨"reserved", 0x230501, [(4, 64)], 16, 16, .ro, 0, [], 0, 65535, 1, 1, 0, false⟩,
  P.REG_TIME,
  ⟨"reserved", 0x230503, [(4, 64)], 0, 32, .ro, 0, [], 0, 4294967295, 1, 1, 0, false⟩]

/-- The fields of Table 7-11, part 1. -/
def rows7_11a : List Row := [
  P.PLC_FLAGS,
  ⟨"reserved", 0x240000, [], 16, 16, .ro, 0, [], 0, 65535, 1, 1, 0, false⟩,
  P.OCC_PLC,
  P.ADDR,
  ⟨"reserved", 0x240020, [], 10, 22, .ro, 0, [], 0, 4194303, 1, 1, 0, false⟩,
  P.ADDR_SINCE,
  P.UP_SIG,
  P.DOWN_SIG,
  ⟨"reserved", 0x240022, [], 2, 30, .ro, 0, [], 0, 1073741823, 1, 1, 0, false⟩,
  P.CHAIN_CRC_CNT,
  P.CHAIN_DROP_CNT,
  P.SYNC_SRC,
  P.FSYNC_OUT,
  ⟨"reserved", 0x240024, [], 3, 13, .ro, 0, [], 0, 8191, 1, 1, 0, false⟩,
  P.SYNC_COMP,
  P.SYNC_PERIOD,
  ⟨"reserved", 0x240025, [], 24, 8, .ro, 0, [], 0, 255, 1, 1, 0, false⟩,
  P.SL_LINK_EN,
  P.SL_LINK_UP,
  P.NEIGH,
  ⟨"reserved", 0x240030, [(1, 8)], 12, 4, .ro, 0, [], 0, 15, 1, 1, 0, false⟩,
  P.LINK_DELAY,
  P.SL_CRC,
  P.HB_MISS,
  P.HB_PERIOD,
  ⟨"reserved", 0x240040, [], 8, 24, .ro, 0, [], 0, 16777215, 1, 1, 0, false⟩,
  P.SCORE,
  P.H_PEN,
  P.HOP_W,
  P.MOVE_HYST,
  ⟨"reserved", 0x240042, [], 24, 8, .ro, 0, [], 0, 255, 1, 1, 0, false⟩,
  P.MOVE_LEAD,
  P.FAIL_LEAD,
  P.OWNED,
  ⟨"reserved", 0x240044, [], 13, 3, .ro, 0, [], 0, 7, 1, 1, 0, false⟩,
  P.DIRECTED,
  ⟨"reserved", 0x240044, [], 29, 3, .ro, 0, [], 0, 7, 1, 1, 0, false⟩,
  P.PLC_COMMITS,
  P.FAILOVERS,
  P.MESH_DEV]

/-- The fields of Table 7-11, part 2. -/
def rows7_11b : List Row := [
  ⟨"reserved", 0x240046, [], 11, 5, .ro, 0, [], 0, 31, 1, 1, 0, false⟩,
  P.MESH_DIAM,
  ⟨"reserved", 0x240046, [], 24, 8, .ro, 0, [], 0, 255, 1, 1, 0, false⟩,
  P.REBAL_PERIOD,
  P.REBAL_LIMIT,
  ⟨"reserved", 0x240047, [], 24, 8, .ro, 0, [], 0, 255, 1, 1, 0, false⟩,
  P.VMIN_A,
  P.VMIN_B,
  ⟨"reserved", 0x240048, [], 16, 16, .ro, 0, [], 0, 65535, 1, 1, 0, false⟩,
  P.CFG_GEN,
  P.CFG_DIG_LO,
  P.CFG_DIG_HI,
  P.STG_GEN,
  P.STG_DIG_LO,
  P.STG_DIG_HI,
  P.STG_STATE,
  P.STG_MISSING,
  ⟨"reserved", 0x240056, [], 18, 14, .ro, 0, [], 0, 16383, 1, 1, 0, false⟩,
  P.ACT_LO,
  P.ACT_HI,
  P.CFG_AUTOPULL,
  ⟨"reserved", 0x240059, [], 1, 7, .ro, 0, [], 0, 127, 1, 1, 0, false⟩,
  P.SPLIT_DIST,
  ⟨"reserved", 0x240059, [], 16, 16, .ro, 0, [], 0, 65535, 1, 1, 0, false⟩,
  P.TIME_SRC,
  P.TIME_HOPS,
  P.ROOT_ADDR,
  ⟨"reserved", 0x240060, [], 18, 14, .ro, 0, [], 0, 16383, 1, 1, 0, false⟩,
  P.PTP_UL_EN,
  P.PTP_DOMAIN,
  P.STEP_EN,
  ⟨"reserved", 0x240061, [], 13, 19, .ro, 0, [], 0, 524287, 1, 1, 0, false⟩,
  P.TIME_OFS,
  P.TIME_LO,
  P.TIME_HI,
  P.CENSUS_WAIT,
  ⟨"reserved", 0x240065, [], 16, 16, .ro, 0, [], 0, 65535, 1, 1, 0, false⟩]

/-- The fields of Table 7-11. -/
def rows7_11 : List Row := rows7_11a ++ rows7_11b

/-- The fields of Table 8-8, part 1. -/
def rows8_8a : List Row := [
  P.MEM_FLAGS,
  ⟨"reserved", 0x300000, [], 10, 22, .ro, 0, [], 0, 4194303, 1, 1, 0, false⟩,
  P.OCC_MEM,
  P.FSP_SEL,
  P.FSP_CUR,
  P.FSP_BUSY,
  P.MEM_MODE,
  ⟨"reserved", 0x300010, [], 5, 27, .ro, 0, [], 0, 134217727, 1, 1, 0, false⟩,
  P.PD_IDLE,
  P.REF_POSTPONE,
  ⟨"reserved", 0x300011, [], 20, 12, .ro, 0, [], 0, 4095, 1, 1, 0, false⟩,
  P.MIG_RATE,
  P.ARM_LIMIT,
  P.MAP,
  P.SPARES,
  P.MAP_CUR,
  P.SPARES_LEFT,
  P.N_SVC,
  ⟨"reserved", 0x300013, [], 13, 19, .ro, 0, [], 0, 524287, 1, 1, 0, false⟩,
  P.CE_LIMIT,
  ⟨"reserved", 0x300014, [], 16, 16, .ro, 0, [], 0, 65535, 1, 1, 0, false⟩,
  P.ARMED_RATE,
  P.ARM_WAITING,
  ⟨"reserved", 0x300015, [], 23, 9, .ro, 0, [], 0, 511, 1, 1, 0, false⟩,
  P.MIG_SRC,
  P.MIG_DST,
  P.MIG_ACTIVE,
  P.MIG_QUEUED,
  ⟨"reserved", 0x300016, [], 13, 19, .ro, 0, [], 0, 524287, 1, 1, 0, false⟩,
  P.MIG_PTR,
  ⟨"reserved", 0x300017, [], 24, 8, .ro, 0, [], 0, 255, 1, 1, 0, false⟩,
  P.DEMAND,
  P.PEAK_DEMAND,
  P.RANK_MAP_LO,
  P.RANK_MAP_HI,
  P.RANK_STATE_LO,
  ⟨"reserved", 0x30001B, [], 24, 8, .ro, 0, [], 0, 255, 1, 1, 0, false⟩,
  P.RANK_STATE_HI,
  ⟨"reserved", 0x30001C, [], 24, 8, .ro, 0, [], 0, 255, 1, 1, 0, false⟩,
  P.ERR_RANK]

/-- The fields of Table 8-8, part 2. -/
def rows8_8b : List Row := [
  P.ERR_BANK,
  P.ERR_ROW,
  P.ERR_KIND,
  P.ERR_MODE,
  ⟨"reserved", 0x30001D, [], 28, 4, .ro, 0, [], 0, 15, 1, 1, 0, false⟩,
  P.ERR_COL,
  P.ERR_PORT,
  ⟨"reserved", 0x30001E, [], 15, 17, .ro, 0, [], 0, 131071, 1, 1, 0, false⟩,
  P.MEM_PROF,
  ⟨"reserved", 0x30001F, [], 3, 29, .ro, 0, [], 0, 536870911, 1, 1, 0, false⟩]

/-- The fields of Table 8-8. -/
def rows8_8 : List Row := rows8_8a ++ rows8_8b

/-- The fields of Table 8-9. -/
def rows8_9 : List Row := [
  P.CE_CNT,
  P.UE_CNT,
  P.MR4_CODE,
  P.REF_MULT,
  P.OWED,
  P.PD,
  P.SR,
  ⟨"reserved", 0x300101, [(4, 16)], 13, 19, .ro, 0, [], 0, 524287, 1, 1, 0, false⟩,
  P.CE_HOUR,
  ⟨"reserved", 0x300102, [(4, 16)], 16, 16, .ro, 0, [], 0, 65535, 1, 1, 0, false⟩,
  ⟨"reserved", 0x300103, [(4, 16)], 0, 32, .ro, 0, [], 0, 4294967295, 1, 1, 0, false⟩,
  P.LAT_TARGET,
  P.LAT_MAX,
  P.MISSED,
  ⟨"reserved", 0x300201, [(2, 26)], 16, 16, .ro, 0, [], 0, 65535, 1, 1, 0, false⟩]

/-- The fields of Table 8-10. -/
def rows8_10 : List Row := [
  P.CA_DLY,
  P.CS_DLY,
  P.CK_DLY,
  ⟨"reserved", 0x300400, [(16, 16)], 24, 8, .ro, 0, [], 0, 255, 1, 1, 0, false⟩,
  P.RD_DLY,
  P.GATE_DLY,
  P.WR_DLY,
  ⟨"reserved", 0x300401, [(16, 16), (1, 2)], 24, 8, .ro, 0, [], 0, 255, 1, 1, 0, false⟩,
  P.RD_VREF,
  ⟨"reserved", 0x300403, [(16, 16), (1, 2)], 7, 1, .ro, 0, [], 0, 1, 1, 1, 0, false⟩,
  P.WR_VREF,
  ⟨"reserved", 0x300403, [(16, 16), (1, 2)], 15, 17, .ro, 0, [], 0, 131071, 1, 1, 0, false⟩]

/-- The fields of Table 9-4. -/
def rows9_4 : List Row := [
  P.CONV_FLAGS,
  ⟨"reserved", 0x310000, [], 8, 24, .ro, 0, [], 0, 16777215, 1, 1, 0, false⟩,
  P.OCC_CONV,
  P.SEQ_GO,
  P.SEQ_LEN,
  P.CONT,
  P.ALIGN,
  P.RUN,
  P.PEND,
  P.SEQ_ENTRY,
  P.START_OVR_CNT,
  P.WATCH_ODR,
  P.CAL_CH,
  P.CAL_STATE,
  P.INJ_QUEUED,
  ⟨"reserved", 0x310014, [(1, 4)], 20, 12, .ro, 0, [], 0, 4095, 1, 1, 0, false⟩,
  P.DATA,
  P.CH,
  P.DD_INJ,
  P.DD_ENTRY,
  P.FRESH,
  P.DD_OW,
  P.DD_REF_OVR,
  P.DD_CLIP,
  ⟨"reserved", 0x31001C, [(1, 4)], 17, 15, .ro, 0, [], 0, 32767, 1, 1, 0, false⟩,
  P.DATA_OVR_CNT,
  P.INJ_CNT,
  P.INJ_CH,
  P.INJ_GO,
  ⟨"reserved", 0x310024, [(1, 4)], 8, 24, .ro, 0, [], 0, 16777215, 1, 1, 0, false⟩,
  P.CAL_FS_CODE,
  ⟨"reserved", 0x310028, [(1, 4)], 24, 8, .ro, 0, [], 0, 255, 1, 1, 0, false⟩,
  P.WATCH_PERIOD,
  P.OW_LIM,
  P.TH_HYST]

/-- The fields of Table 9-5. -/
def rows9_5 : List Row := [
  P.ODR,
  P.GAIN,
  P.DIFF,
  P.KIND,
  P.OW_EN,
  P.WATCH,
  P.TH_ALARM,
  ⟨"reserved", 0x310100, [(4, 128)], 13, 19, .ro, 0, [], 0, 524287, 1, 1, 0, false⟩,
  P.CODE,
  P.CH_OW,
  P.CH_REF_OVR,
  P.CH_CLIP,
  P.VALID,
  P.CH_INJ,
  P.TH_STATE,
  ⟨"reserved", 0x310101, [(4, 128)], 31, 1, .ro, 0, [], 0, 1, 1, 1, 0, false⟩,
  P.CH_ENG,
  P.TH_LO,
  P.TH_HI]

/-- The fields of Table 10-8. -/
def rows10_8 : List Row := [
  P.SHD_FLAGS,
  ⟨"reserved", 0x320000, [], 12, 20, .ro, 0, [], 0, 1048575, 1, 1, 0, false⟩,
  P.OCC_SHD,
  P.VSHUT_MV,
  ⟨"reserved", 0x320010, [], 16, 16, .ro, 0, [], 0, 65535, 1, 1, 0, false⟩,
  P.DIAG_PERIOD,
  ⟨"reserved", 0x320011, [], 16, 16, .ro, 0, [], 0, 65535, 1, 1, 0, false⟩,
  P.ACT_WARN,
  ⟨"reserved", 0x320012, [], 20, 12, .ro, 0, [], 0, 4095, 1, 1, 0, false⟩,
  P.HS_ON,
  P.HS_LATCH,
  P.HS_I,
  ⟨"reserved", 0x320500, [(1, 32)], 14, 18, .ro, 0, [], 0, 262143, 1, 1, 0, false⟩]

/-- The fields of Table 10-9. -/
def rows10_9 : List Row := [
  P.CH_EN,
  P.DRV_STATE,
  P.DIAG,
  P.LATCH,
  P.OWNER,
  P.DRV_PROF,
  ⟨"reserved", 0x320100, [(8, 64)], 13, 19, .ro, 0, [], 0, 524287, 1, 1, 0, false⟩,
  P.PULL_I,
  ⟨"reserved", 0x320101, [(8, 64)], 11, 5, .ro, 0, [], 0, 31, 1, 1, 0, false⟩,
  P.HOLD_I,
  ⟨"reserved", 0x320101, [(8, 64)], 25, 7, .ro, 0, [], 0, 127, 1, 1, 0, false⟩,
  P.PULL_T,
  ⟨"reserved", 0x320102, [(8, 64)], 6, 10, .ro, 0, [], 0, 1023, 1, 1, 0, false⟩,
  P.MAX_ON,
  P.DUTY_PCT,
  ⟨"reserved", 0x320103, [(8, 64)], 7, 1, .ro, 0, [], 0, 1, 1, 1, 0, false⟩,
  P.DUTY_WIN,
  ⟨"reserved", 0x320103, [(8, 64)], 18, 14, .ro, 0, [], 0, 16383, 1, 1, 0, false⟩,
  P.I_MEAS,
  ⟨"reserved", 0x320104, [(8, 64)], 11, 5, .ro, 0, [], 0, 31, 1, 1, 0, false⟩,
  P.DUTY_USED,
  ⟨"reserved", 0x320104, [(8, 64)], 26, 6, .ro, 0, [], 0, 63, 1, 1, 0, false⟩,
  P.ACT_CNT,
  P.LAST_ON,
  P.FAULT_CNT,
  P.DUTY_CNT,
  P.WAIT_CNT]

/-- The fields of Table 11-7. -/
def rows11_7 : List Row := [
  P.NV_FLAGS,
  ⟨"reserved", 0x330000, [], 10, 22, .ro, 0, [], 0, 4194303, 1, 1, 0, false⟩,
  P.OCC_NV,
  P.NV_STATE,
  ⟨"reserved", 0x330010, [], 2, 1, .ro, 0, [], 0, 1, 1, 1, 0, false⟩,
  P.BUF_FILL,
  P.BULK_PRESENT,
  P.BULK_KIND,
  ⟨"reserved", 0x330010, [], 18, 14, .ro, 0, [], 0, 16383, 1, 1, 0, false⟩,
  P.IDLE_COMMIT,
  ⟨"reserved", 0x330011, [], 16, 16, .ro, 0, [], 0, 65535, 1, 1, 0, false⟩,
  P.REFRESH_DAYS,
  P.SCAN_PROG,
  ⟨"reserved", 0x330012, [], 15, 17, .ro, 0, [], 0, 131071, 1, 1, 0, false⟩,
  P.LAST_SCAN,
  P.NV_COMMITS,
  P.WEAK_CNT,
  P.TORN_CNT,
  P.TIE_CNT,
  P.BULK_SIZE,
  P.BULK_ERASE,
  ⟨"reserved", 0x330016, [], 21, 11, .ro, 0, [], 0, 2047, 1, 1, 0, false⟩,
  P.BULK_FREQ,
  ⟨"reserved", 0x330017, [], 8, 8, .ro, 0, [], 0, 255, 1, 1, 0, false⟩,
  P.BULK_RD_ERR,
  P.BLOCKS_BAD,
  ⟨"reserved", 0x330018, [], 16, 16, .ro, 0, [], 0, 65535, 1, 1, 0, false⟩,
  P.AREA_FREE,
  P.ERASE_MAX,
  P.COUNTER]

/-- The fields of Table 12-7. -/
def rows12_7 : List Row := [
  P.TRUST_FLAGS,
  ⟨"reserved", 0x400000, [], 10, 22, .ro, 0, [], 0, 4194303, 1, 1, 0, false⟩,
  P.OCC_TRUST,
  P.DEV_STATE,
  P.RESET_CAUSE,
  P.BOOT_BANK,
  P.TRIAL,
  P.DEBUG_LEVEL,
  P.WAKE_SRC,
  ⟨"reserved", 0x400010, [], 12, 20, .ro, 0, [], 0, 1048575, 1, 1, 0, false⟩,
  P.FUSE_WR_SVN,
  P.FUSE_TH_SVN,
  P.SIGN_REVOKE,
  P.OWNER_SET,
  P.DBG2_OFF,
  ⟨"reserved", 0x400011, [], 19, 13, .ro, 0, [], 0, 8191, 1, 1, 0, false⟩,
  P.BANK_VER,
  P.BANK_SVN,
  P.BANK_KEY,
  P.BANK_VALID,
  ⟨"reserved", 0x400014, [(1, 2)], 10, 22, .ro, 0, [], 0, 4194303, 1, 1, 0, false⟩,
  P.PATCH_VER,
  P.PATCH_SVN,
  ⟨"reserved", 0x400016, [], 22, 10, .ro, 0, [], 0, 1023, 1, 1, 0, false⟩,
  P.BOOT_MEMTEST,
  P.WAKE_ON_TH,
  ⟨"reserved", 0x400017, [], 2, 6, .ro, 0, [], 0, 63, 1, 1, 0, false⟩,
  P.TRIAL_TIME,
  ⟨"reserved", 0x400017, [], 16, 16, .ro, 0, [], 0, 65535, 1, 1, 0, false⟩,
  P.RESTARTS,
  P.LAST_CAUSE,
  ⟨"reserved", 0x400018, [], 19, 13, .ro, 0, [], 0, 8191, 1, 1, 0, false⟩,
  P.START_TIME,
  P.WAKE_TIME,
  P.FW_VIOL_ADDR,
  P.SVC_DROP,
  ⟨"reserved", 0x40001B, [], 16, 16, .ro, 0, [], 0, 65535, 1, 1, 0, false⟩]

/-- The fields of Table 13-6. -/
def rows13_6 : List Row := [
  P.EVT_FLAGS,
  ⟨"reserved", 0x410000, [], 10, 22, .ro, 0, [], 0, 4194303, 1, 1, 0, false⟩,
  P.OCC_EVT,
  P.RING_HEAD,
  P.LOG_HEAD,
  P.EVT_HOLDOFF,
  P.LOG_RATE,
  ⟨"reserved", 0x410012, [], 24, 8, .ro, 0, [], 0, 255, 1, 1, 0, false⟩,
  P.EVT_DROP_CNT,
  P.LOG_DROP_CNT,
  P.DKIND,
  P.UPLINK,
  ⟨"reserved", 0x410020, [(8, 4)], 5, 11, .ro, 0, [], 0, 2047, 1, 1, 0, false⟩,
  P.DADDR,
  ⟨"reserved", 0x410020, [(8, 4)], 26, 5, .ro, 0, [], 0, 31, 1, 1, 0, false⟩,
  P.DQ_FULL,
  P.DPORT,
  P.DQ_USED,
  ⟨"reserved", 0x410021, [(8, 4)], 25, 7, .ro, 0, [], 0, 127, 1, 1, 0, false⟩,
  P.DIP,
  P.DSENT,
  ⟨"reserved", 0x410027, [(8, 4)], 0, 32, .ro, 0, [], 0, 4294967295, 1, 1, 0, false⟩,
  P.PMIN,
  P.WATCH_PCT,
  P.RISE_LIM,
  P.PRED_DAYS,
  P.LINK_WARN,
  P.LINK_POOR,
  P.LIFE_HOURS,
  ⟨"reserved", 0x410042, [], 18, 14, .ro, 0, [], 0, 16383, 1, 1, 0, false⟩,
  P.TJ_NOW,
  P.TJ_MAX,
  P.ROUTE,
  ⟨"reserved", 0x410200, [(1, 512)], 7, 1, .ro, 0, [], 0, 1, 1, 1, 0, false⟩,
  P.SEVERITY,
  ⟨"reserved", 0x410200, [(1, 512)], 10, 6, .ro, 0, [], 0, 63, 1, 1, 0, false⟩,
  P.SRC_CNT]

/-- The fields of Table 14-13. -/
def rows14_13 : List Row := [
  P.RAIL_MV,
  P.RAIL_MIN,
  P.TJ_DIE,
  P.TJ_DIE_MAX,
  P.P_EST,
  P.P_PEAK,
  P.VREQ_A,
  P.VREQ_B,
  ⟨"reserved", 0x500019, [], 16, 16, .ro, 0, [], 0, 65535, 1, 1, 0, false⟩,
  P.SUP_RAIL,
  P.SUP_OVER,
  ⟨"reserved", 0x50001A, [], 5, 27, .ro, 0, [], 0, 134217727, 1, 1, 0, false⟩,
  P.TB_GUARD,
  ⟨"reserved", 0x50001B, [], 4, 28, .ro, 0, [], 0, 268435455, 1, 1, 0, false⟩,
  P.SL_SWING,
  P.SL_PRE,
  P.SL_CTLE,
  ⟨"reserved", 0x500020, [(1, 8)], 13, 19, .ro, 0, [], 0, 524287, 1, 1, 0, false⟩,
  P.UL_SWING,
  P.UL_PRE,
  ⟨"reserved", 0x500028, [(1, 4)], 8, 8, .ro, 0, [], 0, 255, 1, 1, 0, false⟩,
  P.UL_LOS,
  P.UL_MODABS,
  P.UL_TXDIS,
  ⟨"reserved", 0x500028, [(1, 4)], 19, 13, .ro, 0, [], 0, 8191, 1, 1, 0, false⟩]

/-- Every field of every parameter table. -/
def allRows : List Row :=
  rows0_6 ++
  rows1_7 ++
  rows2_12 ++
  rows3_8 ++
  rows4_9 ++
  rows4_10 ++
  rows5_9 ++
  rows5_10 ++
  rows6_14 ++
  rows6_15 ++
  rows7_11 ++
  rows8_8 ++
  rows8_9 ++
  rows8_10 ++
  rows9_4 ++
  rows9_5 ++
  rows10_8 ++
  rows10_9 ++
  rows11_7 ++
  rows12_7 ++
  rows13_6 ++
  rows14_13

/-- The fields of the parameter at an address, with the indices that place them there. -/
def rowsAt (a : Nat) : List (Row × List Nat) :=
  allRows.filterMap fun r => (r.at? a).map fun ix => (r, ix)

end Sys2Proof.Machine
end

