-- ==== Sys2Proof/Machine/State.lean ====
section
/-!
DEFINITION. Sys2Proof/Machine/State.lean: everything the spec gives the device to hold, as plain data, and the state
right after reset.
-/
namespace Sys2Proof.Machine

/-! ## Outputs and requests in hand -/

/-- Status codes (Table 2-3). -/
inductive Status where
  | ok | busy | busyNv | deferred | moved | staleEpoch | denied | auth | duty | badParam | badOpcode | overrun | fault
deriving DecidableEq, Repr

/-- What a request is answered: status, detail code and result data (R47). -/
structure Answer where
  /-- Status code. -/
  status : Status
  /-- Detail code. -/
  detail : Nat
  /-- Data after the status word. -/
  data : List Byte
deriving DecidableEq, Repr

/-- A reply as it leaves the device (R46, R47). -/
structure Reply where
  /-- The host identity it goes to. -/
  host : HostId
  /-- OPCODE of the request. -/
  opcode : Nat
  /-- SEQ of the request. -/
  seq : Nat
  /-- RSEQ of the relay envelope the request came in (R228); 0 elsewhere. -/
  rseq : Nat
  /-- DEST, the request's SOURCE. -/
  dest : Nat
  /-- SOURCE, the replying device. -/
  source : Nat
  /-- GEN (R63). -/
  gen : Nat
  /-- RTX, set when resent from the duplicate cache. -/
  rtx : Bool
  /-- Prefix and tag, when the reply is tagged. -/
  auth : Option Auth
  /-- Status, detail and result. -/
  answer : Answer
  /-- Source IP address on an uplink; 0 elsewhere (R52). -/
  ip : Nat
  /-- Source UDP port on an uplink; 0 elsewhere (R52). -/
  port : Nat
deriving DecidableEq, Repr

/-- How a reply goes back. -/
structure Back where
  /-- The key it is tagged under, where its request was tagged (R46, R380). -/
  key : Option (List Byte)
  /-- On an uplink, the device's own address when the request arrived (R52). -/
  own : Nat
deriving DecidableEq, Repr

/-- The request a completion event names (R56). -/
structure Ticket where
  /-- Opcode. -/
  opcode : Nat
  /-- SEQ. -/
  seq : Nat
  /-- Who asked. -/
  host : HostId
deriving DecidableEq, Repr

/-- What leaves the device during a command: the model's own record of its outputs. Ports are numbered by R1. -/
inductive Out where
  /-- A KCP reply to a host. -/
  | reply (r : Reply)
  /-- A frame of an Obarryn-defined kind on a port: frame type or kind, then its bytes from the header to the CRC. -/
  | frame (port kind : Nat) (bytes : List Byte)
  /-- A frame passed on cut-through that is found damaged: its bytes, ended as aborted, on the chain with K30.7 (R213, R223). -/
  | aborted (port kind : Nat) (bytes : List Byte)
  /-- Characters of ten bits on a tile bus, by port (R195). -/
  | chars (port : Nat) (codes : List Nat)
  /-- A UDP datagram from an uplink: address and port of the receiver, source port. -/
  | datagram (uplink : Nat) (v6 : Bool) (addr port src : Nat) (bytes : List Byte)
  /-- An answer of R52 below UDP: 0 ARP, 1 echo, 2 neighbour advertisement, with the address answered. -/
  | lowReply (uplink kind addr : Nat) (bytes : List Byte)
  /-- A write on a sensor control bus: bus, target address, register, data (R92). -/
  | busWrite (bus addr reg : Nat) (data : List Byte)
  /-- The read-back of a VERIFY entry: bus, target address, register, bytes (R92). -/
  | busRead (bus addr reg n : Nat)
  /-- Nine SCL pulses and a STOP on a sensor control bus (R90). -/
  | busReset (bus : Nat)
  /-- A PTP Delay_Req (R258). -/
  | delayReq (uplink : Nat) (v6 : Bool) (addr seq : Nat)
  /-- What the service port shifts out in a transaction of OP 0x02 or 0x03 (R390). -/
  | serial (bytes : List Byte)
  /-- A pulse driven on a named pin or line: 0 FSYNC, 1 frame-sync line of a die, 2 K28.1 on the chain down port,
  3 alarm line of a lane, 4 BS_RST_N; with a number and a delay in ns. -/
  | pulse (line num delay : Nat)
  /-- An error response of the memory controller to a port; `withheld`: the partial write that the read was for is not performed (R271,
  R291). -/
  | memError (port : Nat) (withheld : Bool)
  /-- A completion record returned to the host of its request (R405). -/
  | completion (host : HostId) (record : List Byte)
deriving DecidableEq, Repr

/-- What a request that has not been answered yet waits for. -/
inductive Waits where
  /-- The immediate record of this number becoming durable (R380, R381, R384, R338). -/
  | durable (rec : Nat)
  /-- The set-point switch (R285). -/
  | setPoint
  /-- The diagnosis of a clear of this shutter channel (R338). -/
  | clearing (ch : Nat)
  /-- The reply of the new owner of its patch (R64): owner and epoch. -/
  | owner (addr epoch : Nat)
deriving DecidableEq, Repr

/-- A request held until its one reply can be sent. -/
structure Held where
  /-- Its opcode. -/
  opcode : Nat
  /-- The request. -/
  req : Req
  /-- What it waits for. -/
  waits : Waits
  /-- How its reply goes back. -/
  back : Back
deriving DecidableEq, Repr

/-- A request that waits for an earlier one of its host identity (R55). -/
structure Queued where
  /-- Its opcode. -/
  opcode : Nat
  /-- The request. -/
  req : Req
  /-- How its reply goes back. -/
  back : Back
deriving DecidableEq, Repr

/-- A request this device relayed as ingress (R54). -/
structure InRelay where
  /-- Its opcode. -/
  opcode : Nat
  /-- The request. -/
  req : Req
  /-- HID and RSEQ of its envelope (R228). -/
  hid : Nat
  /-- RSEQ of its envelope. -/
  rseq : Nat
  /-- When it was relayed, ns since RESET_N release. -/
  since : Nat
  /-- On an uplink, the device's own address when it arrived (R52). -/
  own : Nat
deriving DecidableEq, Repr

/-- A relayed request that waits at its destination for an earlier RSEQ (R228). -/
structure GapWait where
  /-- INGRESS. -/
  ingress : Nat
  /-- HID. -/
  hid : Nat
  /-- RSEQ. -/
  rseq : Nat
  /-- Opcode. -/
  opcode : Nat
  /-- The request. -/
  req : Req
  /-- When it arrived, ns since RESET_N release. -/
  since : Nat
deriving DecidableEq, Repr

/-- One entry of the duplicate cache (R57). -/
structure DupEntry where
  /-- When its reply was sent or last used, ns since RESET_N release. -/
  sent : Nat
  /-- The reply; its host, SEQ and OPCODE are the entry's key. -/
  reply : Reply
deriving DecidableEq, Repr

/-- A flood remembered for 1 s (R227). -/
structure Flood where
  /-- KIND. -/
  kind : Nat
  /-- SRC. -/
  src : Nat
  /-- FSEQ. -/
  fseq : Nat
  /-- When it was handled. -/
  at_ : Nat
deriving DecidableEq, Repr

/-- The packet engine (Kazdom Command Protocol). -/
structure Kcp where
  /-- Group write generation by group (R63); 1 where none is held. -/
  wgen : KMap Nat
  /-- Requests whose reply waits. -/
  held : List Held
  /-- Requests that wait for an earlier one of their host identity, in arrival order (R55). -/
  queue : List Queued
  /-- Requests relayed from here. -/
  relays : List InRelay
  /-- Host identities by HID. -/
  hids : List HostId
  /-- Next RSEQ sent, by 1,024 × HID + destination. -/
  rseqTx : KMap Nat
  /-- Next RSEQ expected, by 65,536 × ingress + HID. -/
  rseqRx : KMap Nat
  /-- Relayed requests behind a gap. -/
  rseqWait : List GapWait
  /-- Duplicate cache, oldest first. -/
  dup : List DupEntry
  /-- Packets waiting in the reply queue of each uplink (R71). -/
  replyQ : KMap (List Out)
  /-- End of the PAUSE in force by uplink, ns since RESET_N release; none where the uplink may transmit. -/
  paused : KMap Nat
  /-- Floods remembered. -/
  floods : List Flood
  /-- Next FSEQ by KIND (R223). -/
  fseq : KMap Nat
deriving DecidableEq, Repr

/-! ## Events (chapter 13) -/

/-- An event record (Table 13-2). -/
structure EvRec where
  /-- INDEX. -/
  index : Nat
  /-- SOURCE. -/
  source : Nat
  /-- KIND: 0 set, 1 set again, 2 report. -/
  kind : Nat
  /-- SEV. -/
  sev : Nat
  /-- TIME, ns. -/
  time : Nat
  /-- TIME_LOCAL. -/
  isLocal : Bool
  /-- OCC. -/
  occ : Nat
  /-- UNIT kind. -/
  unitKind : Nat
  /-- UNIT number. -/
  unit : Nat
  /-- DATA, 40 bytes. -/
  data : List Byte
deriving DecidableEq, Repr

/-- The holdoff of one flag source (R399). -/
structure Holdoff where
  /-- Time of the source's last ring record, ns since RESET_N release. -/
  last : Nat
  /-- A KIND 1 record held back, in its latest form. -/
  back : Option EvRec
deriving DecidableEq, Repr

/-- Health of one attached tile's supply (R409, R410). -/
structure Supply where
  /-- The tile's ID. -/
  tile : Nat
  /-- Grade 0 to 4. -/
  grade : Nat
  /-- Hourly history of F, oldest first, at most 72. -/
  hist : List (BitVec 32)
  /-- Fast value F, once a sample came. -/
  fast : Option (BitVec 32)
  /-- Baseline B, once set. -/
  base : Option (BitVec 32)
  /-- Hourly entries appended since power-up, counted while the baseline is not set. -/
  first : List (BitVec 32)
  /-- Time of the last sample, ns since RESET_N release. -/
  at_ : Nat
  /-- T_PSU of the last sample, 0.01 K. -/
  tPsu : Nat
  /-- P of the last sample, W. -/
  power : Nat
  /-- T_back of the last sample, 0.01 K. -/
  tBack : Nat
deriving DecidableEq, Repr

/-- Health of one port or core (R411, R412): grade, errors of each minute of the last hour, total. -/
structure Grade where
  /-- Grade; 0xFF while disabled. -/
  grade : Nat
  /-- Errors of each of the last 60 minutes, newest first. -/
  minutes : List Nat
  /-- Counter reading of the last minute, modulo 65,536. -/
  last : Nat
  /-- Errors since RESET_N, modulo 2 ^ 32. -/
  total : Nat
  /-- Cause bits, for a core. -/
  cause : Nat
deriving DecidableEq, Repr

/-- The event engine (Events, Alarms and Health). -/
structure Evt where
  /-- The event ring, oldest first, at most 4,096 records. -/
  ring : List EvRec
  /-- Destination queues, oldest first. -/
  dq : KMap (List EvRec)
  /-- Destinations whose next record carries GAP. -/
  gap : List Nat
  /-- Holdoff by source. -/
  hold : KMap Holdoff
  /-- Log queue: record and whether its source is always logged. -/
  logQ : List (EvRec × Bool)
  /-- When the last log records were programmed, newest first, ns since RESET_N release (R408). -/
  logAt : List Nat
  /-- SEVERITY of source 112 has been written since RESET_N (R402). -/
  sev112 : Bool
  /-- Supply health by 32 × bus + drop. -/
  supply : KMap Supply
  /-- Port health by port. -/
  ports : KMap Grade
  /-- Core health by core. -/
  cores : KMap Grade
  /-- OVERRUN frames of each core. -/
  overruns : KMap Grade
  /-- CORE_STATE 4 seen since, by core, ns since RESET_N release. -/
  stalled : KMap Nat
  /-- LIFE_WARN causes already reported: 0 hours, 1 erase count. -/
  life : List Nat
deriving DecidableEq, Repr

/-! ## The non-volatile store (chapter 11) -/

/-- An internal record as it stands in flash (Table 11-3). -/
structure NvRec where
  /-- RID. -/
  rid : Nat
  /-- Area. -/
  area : Nat
  /-- SEQ. -/
  seq : Nat
  /-- Data. -/
  data : List Byte
  /-- IMMEDIATE. -/
  imm : Bool
  /-- BANK of a twin copy. -/
  bank : Nat
  /-- BATCH. -/
  batch : Nat
  /-- COMMIT and CRC are right. -/
  whole : Bool
  /-- The sector that holds it. -/
  sector : Nat
deriving DecidableEq, Repr

/-- A record in the write buffer or in a batch. -/
structure BufRec where
  /-- RID. -/
  rid : Nat
  /-- Area. -/
  area : Nat
  /-- Data. -/
  data : List Byte
deriving DecidableEq, Repr

/-- What an immediate record's durability completes. -/
inductive Then where
  /-- Nothing further. -/
  | none
  /-- The stored ceiling of a key slot (R61). -/
  | ceiling (slot : Nat)
  /-- A key slot's record: the new key, or `none` where it is emptied (R380). -/
  | key (slot : Nat) (key : Option (List Byte))
  /-- AUTH_RELAX (R381). -/
  | authRelax
  /-- The confirmed selection record (R384): bank. -/
  | confirmed (bank : Nat)
  /-- A spread counter's increment (R359). -/
  | counter (index : Nat)
  /-- The patch of a completed FW_COMMIT (R385). -/
  | patch (t : Ticket)
  /-- The activation record of a configuration (R252). -/
  | activation
deriving DecidableEq, Repr

/-- An immediate record that is not durable yet (R356). -/
structure ImmRec where
  /-- Its number. -/
  num : Nat
  /-- The record. -/
  body : BufRec
  /-- What follows. -/
  after : Then
deriving DecidableEq, Repr

/-- A batch commit that is running (R353). -/
structure Commit where
  /-- Batch number. -/
  batch : Nat
  /-- Its records. -/
  recs : List BufRec
  /-- NV_COMMITs that end with it. -/
  tickets : List Ticket
  /-- A record of it could not be programmed. -/
  failed : Bool
deriving DecidableEq, Repr

/-- A bulk record (R364). -/
structure BulkRec where
  /-- RID. -/
  rid : Nat
  /-- Area. -/
  area : Nat
  /-- SEQ. -/
  seq : Nat
  /-- Data. -/
  data : List Byte
  /-- Its index record is valid. -/
  indexed : Bool
  /-- It has an uncorrectable unit. -/
  damaged : Bool
deriving DecidableEq, Repr

/-- What a bulk write completes. -/
inductive BulkWhy where
  /-- A Workroom image of an FW_COMMIT (R383): bank and ticket. -/
  | image (bank : Nat) (t : Ticket)
  /-- A learned set of a core (R169). -/
  | learned (core : Nat)
  /-- A warp grid of a core (R185). -/
  | grid (core : Nat)
  /-- The staged configuration (R251). -/
  | config
deriving DecidableEq, Repr

/-- A bulk write that is requested and not committed (R364). -/
structure BulkJob where
  /-- RID. -/
  rid : Nat
  /-- Area. -/
  area : Nat
  /-- Data. -/
  data : List Byte
  /-- What it completes. -/
  why : BulkWhy
deriving DecidableEq, Repr

/-- One internal sector. -/
structure Sector where
  /-- Erase count. -/
  erases : Nat
  /-- Retired (R358). -/
  retired : Bool
deriving DecidableEq, Repr

/-- The store engine (Non-Volatile Store and Bulk Store). -/
structure Nv where
  /-- Internal records in the order of their flash addresses. -/
  recs : List NvRec
  /-- Write buffer, oldest first. -/
  buf : List BufRec
  /-- When the oldest buffered record entered. -/
  bufFirst : Nat
  /-- When the newest buffered record entered. -/
  bufLast : Nat
  /-- Running commit. -/
  commit : Option Commit
  /-- NV_COMMITs that wait for a second commit (R355). -/
  waiting : List Ticket
  /-- Immediate records not durable yet, in order of request. -/
  imm : List ImmRec
  /-- Number of the next immediate record. -/
  immNum : Nat
  /-- Number of the next batch. -/
  batch : Nat
  /-- A buffered record accepted since the last NV_COMMIT could not be stored (R357). -/
  lostRec : Bool
  /-- Bulk records in the order of writing. -/
  bulk : List BulkRec
  /-- Bulk writes requested, oldest first. -/
  bulkQ : List BulkJob
  /-- Sectors by number 0 to 63. -/
  sectors : KMap Sector
  /-- Durable value of each spread counter. -/
  counters : KMap Nat
  /-- A refresh scan is running: percent done. -/
  scan : Option Nat
deriving DecidableEq, Repr

/-! ## Start-up, trust and Doze (chapter 12) -/

/-- Freshness of one key slot (R61). -/
structure Fresh where
  /-- H, the highest accepted counter. -/
  high : Nat
  /-- Accepted counters below H: bit `i` stands for H − i. -/
  seen : Nat
  /-- The ceiling last requested to be stored. -/
  ceiling : Nat
deriving DecidableEq, Repr

/-- The one-time-programmable fuses (Table 12-3). -/
structure Fuses where
  /-- Device secret, 32 bytes; never readable. -/
  secret : List Byte
  /-- SIGN_HASH 0 to 3, 32 bytes each. -/
  signHash : List (List Byte)
  /-- SIGN_REVOKE, 4 bits. -/
  revoke : Nat
  /-- OWNER_HASH, 32 bytes; all zero where not set. -/
  ownerHash : List Byte
  /-- WR_SVN, bits burned, 0 to 64. -/
  wrSvn : Nat
  /-- TH_SVN, bits burned, 0 to 32. -/
  thSvn : Nat
  /-- DBG2_OFF. -/
  dbg2Off : Bool
  /-- The 64-bit unique identifier. -/
  uid : Nat
  /-- The factory key of slot 8. -/
  factoryKey : List Byte
deriving DecidableEq, Repr

/-- An update session (R383). -/
structure Session where
  /-- The host identity that opened it. -/
  host : HostId
  /-- IMG_LEN. -/
  len : Nat
  /-- TARGET. -/
  target : Nat
  /-- Bytes written. -/
  bytes : KMap Byte
  /-- Time of the last FW_BEGIN or FW_DATA, ns since RESET_N release. -/
  at_ : Nat
  /-- An FW_COMMIT of it is running. -/
  committing : Bool
deriving DecidableEq, Repr

/-- A trial of a bank (R384). -/
structure Trial where
  /-- Bank on trial. -/
  bank : Nat
  /-- Fallback bank. -/
  fallback : Nat
  /-- Start, ns since RESET_N release. -/
  since : Nat
  /-- Restarts not caused by a command so far. -/
  restarts : Nat
deriving DecidableEq, Repr

/-- An outstanding debug challenge (R391). -/
structure Challenge where
  /-- Its 48 bytes. -/
  bytes : List Byte
  /-- LEVEL. -/
  level : Nat
  /-- When it was issued. -/
  at_ : Nat
deriving DecidableEq, Repr

/-- Thimble, Workroom and the sequencers of start-up and Doze. -/
structure Boot where
  /-- Reset is held. -/
  inReset : Bool
  /-- DRAM is initialised and its memory test has ended. -/
  memTested : Bool
  /-- An image has verified since RESET_N release. -/
  verified : Bool
  /-- Workroom is running. -/
  running : Bool
  /-- Workroom has run since RESET_N release; the uplinks were brought up. -/
  started : Bool
  /-- The active configuration was recalled. -/
  confRecalled : Bool
  /-- Key slots: 16 entries, `none` where empty. -/
  keys : List (Option (List Byte))
  /-- Freshness by slot. -/
  fresh : KMap Fresh
  /-- Fuses. -/
  fuses : Fuses
  /-- Update session. -/
  session : Option Session
  /-- Trial. -/
  trial : Option Trial
  /-- Bank selected for boot. -/
  selected : Nat
  /-- Highest level whose debug access is granted, 0 to 2. -/
  access : Nat
  /-- Debug challenge. -/
  challenge : Option Challenge
  /-- Times of restarts not caused by a command, newest first (R389). -/
  restarts : List Nat
  /-- Bank changed by R389 since its last restart count began. -/
  changed : Bool
  /-- Frames waiting for the service tool: type and payload, oldest first, at most four. -/
  svcOut : List (Nat × List Byte)
  /-- A wake event is latched during entry: its WAKE_SRC (R395). -/
  wakeLatched : Option Nat
  /-- Time of the last wake event. -/
  wakeAt : Nat
  /-- Workroom core halted by debug, by core. -/
  halted : List Nat
deriving DecidableEq, Repr

/-! ## Sensor ingest (chapter 3) -/

/-- A frame tag (Table 3-2). -/
structure Tag where
  /-- CORE. -/
  core : Nat
  /-- KIND: a companion camera's frame. -/
  comp : Bool
  /-- FLAGS (Table 3-3). -/
  flags : Nat
  /-- FRAME_CNT. -/
  cnt : Nat
  /-- CSI_FN. -/
  fn : Nat
  /-- SET_GEN. -/
  gen : Nat
  /-- CAPTURE, ns. -/
  capture : Nat
  /-- FPA_T. -/
  fpa : Nat
  /-- HOUS_T. -/
  hous : Nat
  /-- PAD_LINES. -/
  pad : Nat
  /-- CUT_LINES. -/
  cut : Nat
  /-- CRC_LINES. -/
  crc : Nat
  /-- HDR_FIX. -/
  hdr : Nat
deriving DecidableEq, Repr

/-- A line of a frame as it stands at its cluster (R77, R79). -/
structure Line where
  /-- Raw values, one for each pixel of the line. -/
  px : List Nat
  /-- Leading pixels that were received; the others are padded. -/
  valid : Nat
  /-- A flagged line (R76). -/
  flagged : Bool
  /-- It occupies a line buffer (R84). -/
  buffered : Bool
  /-- Arrival stamp, ns since RESET_N release. -/
  arrival : Nat
deriving DecidableEq, Repr

/-- Running sums of a frame's statistics (R100). -/
structure Sums where
  /-- Pixels counted. -/
  n : Nat
  /-- Their sum. -/
  sum : Nat
  /-- Lowest. -/
  lo : Nat
  /-- Highest. -/
  hi : Nat
  /-- Pixels classed bad. -/
  bad : Nat
  /-- Bins of the histogram. -/
  hist : KMap Nat
  /-- RANGE pixels. -/
  range : Nat
deriving DecidableEq, Repr

/-- The settings a frame is processed under: those in force at its frame start (R126, R138). -/
structure LaneCfg where
  /-- TNR_K. -/
  tnrK : Nat
  /-- TNR_GUARD. -/
  guard : Nat
  /-- SNR_SIGMA. -/
  sigma : Nat
  /-- NOISE_LIM. -/
  noise : Nat
  /-- LIVE_EN. -/
  live : Bool
  /-- ALARM_RUN. -/
  run : Nat
  /-- ALARM_DMG. -/
  dmg : Bool
  /-- ABS_THR. -/
  absThr : Nat
  /-- RATE_THR. -/
  rateThr : Nat
  /-- HIST_LO (R34, R100). -/
  histLo : Nat
  /-- HIST_SHIFT. -/
  histShift : Nat
deriving DecidableEq, Repr

/-- What pass A leaves of a pixel in the corrected-line window. -/
structure Px where
  /-- Aligned raw count. -/
  x : Nat
  /-- Filtered count. -/
  xf : Nat
  /-- Raw step x − s. -/
  d : Int
  /-- TF_STATE as written back. -/
  s : Nat
  /-- Status (Table 4-3). -/
  st : Nat
  /-- CLASS of the frame. -/
  cls : Nat
  /-- CONF of the frame. -/
  conf : Nat
  /-- Corrected count, 1/128. -/
  c : Int
  /-- Corrected count under the target bank alone. -/
  ct : Int
  /-- GAIN of the applied bank. -/
  gain : Nat
  /-- CLASS to be written back, live classing apart. -/
  keepCls : Nat
  /-- CONF to be written back, live classing apart. -/
  keepConf : Nat
  /-- The pixel's state block of the applied bank failed: the lane does not write it (R114). -/
  barApp : Bool
  /-- The pixel's state block of the target bank failed. -/
  barTgt : Bool
deriving DecidableEq, Repr

/-- The result of pass B for one pixel. -/
structure Res where
  /-- T, 0.01 K. -/
  t : Nat
  /-- Status. -/
  st : Nat
  /-- CONF for the frame. -/
  conf : Nat
  /-- CLASS for the frame. -/
  cls : Nat
  /-- c⁵. -/
  c5 : Int
  /-- ΔT. -/
  dt : Int
  /-- Absolute comparison met. -/
  abs : Bool
  /-- Rate comparison met. -/
  rate : Bool
  /-- CLASS and CONF written back. -/
  back : Nat × Nat
  /-- Live classing classed it. -/
  lived : Bool
  /-- |T_t − T_a| of the probe, where it counts (R166). -/
  dmax : Nat
deriving DecidableEq, Repr

/-- A record block whose read failed (R114): a 64-byte block of a line's part of a plane (R270). -/
structure BadBlock where
  /-- Core. -/
  core : Nat
  /-- Bank. -/
  bank : Nat
  /-- The state plane's block; else the coefficient plane's. -/
  state : Bool
  /-- Row of the line. -/
  row : Nat
  /-- Block within the line. -/
  block : Nat
deriving DecidableEq, Repr

/-- A frame from its FS until its last line has left the cluster. -/
structure Frame where
  /-- Its tag. -/
  tag : Tag
  /-- No FE yet. -/
  isOpen : Bool
  /-- FS stamp, ns since RESET_N release. -/
  fs : Nat
  /-- Highest position filled. -/
  top : Nat
  /-- Line number of the last LS packet (R77). -/
  ls : Option Nat
  /-- Lines whose pass A no lane has begun, by position. -/
  lines : KMap Line
  /-- Last valid pixel of each line that has one, by position (R79). -/
  tails : KMap Nat
  /-- Lines whose pass A a lane has begun. -/
  begun : Nat
  /-- Lines that have left the cluster. -/
  left : Nat
  /-- Lines of a companion or SHUTTER frame whose pass A is complete, held behind an earlier line, by position (R15). -/
  waiting : KMap (Line × List Px)
  /-- Record blocks that fail in this frame: those that stood unrepaired at its frame start (R115). -/
  bad : List BadBlock
  /-- Statistics so far. -/
  sums : Sums
  /-- Data types of telemetry packets received. -/
  tel : List (Nat × List Byte)
  /-- Telemetry that failed its CRC, by data type. -/
  telBad : List Nat
  /-- Drift inputs of R119: ΔF, ΔH, ΔR. -/
  drift : Int × Int × Int
  /-- Settings. -/
  cfg : LaneCfg
  /-- The applied bank. -/
  bank : Nat
  /-- BLEND of this frame; none where no bank is armed. -/
  blend : Option Nat
  /-- The first frame since enable (R117). -/
  first : Bool
  /-- Class updates of this frame (R112): y × 2048 + x, class, RESET_CONF. -/
  updates : List (Nat × Nat × Bool)
  /-- Taps that take this frame (R132). -/
  taps : List Nat
  /-- Kinds of hit in this frame: bit 0 absolute, bit 1 rate. -/
  hits : Nat
  /-- Hit records passed so far, at most 64 (R127). -/
  hitCnt : Nat
  /-- LIVE_CLASS was set for this frame (R123). -/
  lived : Bool
  /-- Largest |T_t − T_a| of the probe frame (R166). -/
  dmax : Nat
  /-- Aligned rows of a companion frame, by row (R101). -/
  rows : KMap (List Nat)
deriving DecidableEq, Repr

/-- One write on a sensor control bus (Table 3-5, R91). -/
inductive BusOp where
  /-- SETDASA of the target's dynamic address. -/
  | setdasa (comp : Bool)
  /-- DISEC of in-band interrupts and hot-join. -/
  | disec (comp : Bool)
  /-- A register write; `data` in the order sent. -/
  | write (comp verify wide : Bool) (reg : Nat) (data : List Byte)
deriving DecidableEq, Repr

/-- A setting change (R93). -/
structure Change where
  /-- Its generation. -/
  gen : Nat
  /-- Its writes that are still to complete. -/
  ops : List BusOp
  /-- New core frame rate; 0 where unchanged. -/
  rate : Nat
  /-- New companion frame rate; 0 where unchanged. -/
  compRate : Nat
  /-- Its writes may run (R94). -/
  begun : Bool
  /-- Stamp of the FE at which they began. -/
  stamp : Nat
  /-- The request that was answered ST_DEFERRED (R97). -/
  ticket : Option Ticket
deriving DecidableEq, Repr

/-- A completed setting change that waits for its first frame (R95). -/
structure Applied where
  /-- Generation. -/
  gen : Nat
  /-- Frame starts still to come, the first frame under it included. -/
  frames : Nat
  /-- New core frame rate; 0 where unchanged. -/
  rate : Nat
  /-- New companion frame rate; 0 where unchanged. -/
  compRate : Nat
deriving DecidableEq, Repr

/-- One stream: 0 to 63 cores, 64 + k the companion camera of core k. -/
structure Strm where
  /-- FRAME_CNT of a companion stream; a core's is its parameter. -/
  cnt : Nat
  /-- Frames, oldest first. -/
  frames : List Frame
  /-- FS stamps since enable or wake, newest first, at most nine (R86). -/
  stamps : List Nat
  /-- RATE_EXCESS of a companion stream; a core's is RATE_EXC. -/
  excess : Bool
  /-- Consecutive frames at no more than 1 % above the configured rate. -/
  calm : Nat
  /-- Last packet, ns since RESET_N release. -/
  heard : Nat
  /-- FPA_T of the previous frame. -/
  fpa : Nat
  /-- HOUS_T of the previous frame. -/
  hous : Nat
  /-- CAPTURE and FPA_T of earlier frames, newest first (R119). -/
  temps : List (Nat × Nat)
  /-- The latest whole statistics record (R100). -/
  stats : List Byte
  /-- Telemetry packets of the last four frames, newest first (R83): data type and payload. -/
  kept : List (List (Nat × List Byte))
deriving DecidableEq, Repr

/-- Setting changes of one core. -/
structure Setting where
  /-- Pending changes, oldest first. -/
  queue : List Change
  /-- Failed attempts at the write in hand. -/
  tries : Nat
  /-- Completed, waiting for its frame. -/
  applied : List Applied
  /-- A change failed and none has completed since (R96). -/
  failed : Bool
  /-- A disable waits for its FE (R89). -/
  disabling : Bool
deriving DecidableEq, Repr

/-- Sensor links and core control. -/
structure Ing where
  /-- Streams. -/
  strms : KMap Strm
  /-- Setting changes by core. -/
  sets : KMap Setting
deriving DecidableEq, Repr

/-! ## Fabric and pixel pipeline (chapters 1 and 4) -/

/-- A line in a core's corrected-line window. -/
structure WinLine where
  /-- FRAME_CNT of its frame. -/
  cnt : Nat
  /-- Position. -/
  y : Nat
  /-- Arrival stamp. -/
  arrival : Nat
  /-- The line, for the statistics. -/
  line : Line
  /-- Its pixels. -/
  px : List Px
  /-- A lane has begun pass B. -/
  begun : Bool
  /-- Pass B is complete. -/
  done : Bool
  /-- Its results, once pass B is complete. -/
  res : List Res
deriving DecidableEq, Repr

/-- What a lane works on. -/
inductive Job where
  /-- Pass A of a line: stream, FRAME_CNT, position, line. -/
  | passA (stream cnt y : Nat) (line : Line)
  /-- Pass B of a line: core, FRAME_CNT, position. -/
  | passB (core cnt y : Nat)
deriving DecidableEq, Repr

/-- A raw tap's stream and ring (R132 to R136). -/
structure Tap where
  /-- Words of the ring as written, by word index: 8 bytes each. -/
  ring : KMap (List Byte)
  /-- SKIPPED since the previous frame record. -/
  skipped : Nat
  /-- When it was enabled, ns since RESET_N release. -/
  since : Nat
  /-- The records of the frame being written, in order of completion. -/
  frame : List (List Byte)
  /-- Datagram sequence. -/
  seq : Nat
deriving DecidableEq, Repr

/-- A block reported for repair (R115). -/
structure Repair where
  /-- The block. -/
  block : BadBlock
  /-- Failed repairs. -/
  tries : Nat
deriving DecidableEq, Repr

/-- Fabric and pixel pipeline. -/
structure Pipe where
  /-- Cluster of each bound core. -/
  bind : KMap Nat
  /-- A new cluster of a core, from its next frame boundary (R13). -/
  rebind : KMap Nat
  /-- Lanes at work. -/
  lanes : KMap Job
  /-- Corrected-line windows by core, oldest line first. -/
  win : KMap (List WinLine)
  /-- Class-update lists by core (R112): 4-byte entries, oldest first. -/
  classQ : KMap (List Nat)
  /-- Taps. -/
  taps : KMap Tap
  /-- Regions whose rate-margin event is raised and not re-armed (R37). -/
  raised : List Nat
  /-- Blocks reported for repair. -/
  bad : List Repair
  /-- Blocks whose repair failed twice. -/
  dead : List BadBlock
  /-- Last moment named by R127 for ALARM_HOLD, ns since RESET_N release. -/
  alarmAt : Option Nat
  /-- Bridge transfers: consecutive replays of the transfer in hand, by bridge. -/
  replays : KMap Nat
  /-- End of the monitor window in hand, by region, ns since RESET_N release (R36). -/
  winEnd : KMap Nat
  /-- Regions in which the condition of re-arming has held since the last window end (R37). -/
  easing : List Nat
deriving DecidableEq, Repr

/-! ## Calibration (chapter 5) -/

/-- Gather sums of one pixel (R144, R159). -/
structure GPx where
  /-- Valid values. -/
  n : Nat
  /-- Their sum. -/
  sum : Nat
  /-- Sum of their squares. -/
  sq : Nat
  /-- RAIL among the gathered values. -/
  rails : Nat
deriving DecidableEq, Repr

/-- A grant held or asked for (R149). -/
structure Grant where
  /-- Patch. -/
  patch : Nat
  /-- Owner asked. -/
  owner : Nat
  /-- Decision: none while none has come. -/
  decision : Option Nat
  /-- When it came, ns since RESET_N release. -/
  at_ : Nat
deriving DecidableEq, Repr

/-- A shutter cycle of one core. CYC_STATE is its phase. -/
structure Cycle where
  /-- The SHUTTER_NOW that asked for it. -/
  ticket : Option Ticket
  /-- It carries FORCE. -/
  force : Bool
  /-- Grants of the attempt. -/
  grants : List Grant
  /-- First reservation, ns since RESET_N release. -/
  first : Nat
  /-- The attempt was refused: the time of the next one. -/
  retryAt : Option Nat
  /-- Every refusal so far came from the shutter driver with ST_DUTY (R155). -/
  duty : Bool
  /-- Refused attempts. -/
  refusals : Nat
  /-- Opening frame start, ns since RESET_N release. -/
  opening : Nat
  /-- Pull-in time in ms at the opening. -/
  pull : Nat
  /-- Gathered frames begun. -/
  gathered : Nat
  /-- FRAME_CNT of the first gathered frame. -/
  base : Nat
  /-- CAPTURE of the gather FS. -/
  capture : Nat
  /-- Flag temperatures delivered so far. -/
  temps : List Nat
  /-- Drift inputs of the gathered frames. -/
  inputs : List (Int × Int × Int)
  /-- Gather sums by pixel. -/
  px : KMap GPx
  /-- TF_STATE of each pixel at the opening frame start. -/
  tf : List Nat
  /-- The cycle has failed (R147). -/
  failed : Bool
  /-- The cycle was aborted (R172). -/
  aborted : Bool
  /-- Start of the phase in hand, ns since RESET_N release. -/
  phaseAt : Nat
  /-- End of the gather window: the result may be computed. -/
  complete : Bool
  /-- Open settle has ended and the open check was asked for. -/
  settled : Bool
  /-- The flag is still closed one second after the end of open settle (R147). -/
  closed : Bool
deriving DecidableEq, Repr

/-- The staged set of one core (R165). -/
structure Staged where
  /-- OFFSET, DRIFT_F, DRIFT_H and DRIFT_R, 9 bytes, by pixel. -/
  recs : KMap (List Byte)
  /-- The records as they were staged before the gather. -/
  under : KMap (List Byte)
  /-- Slot of the gather whose records are staged. -/
  slot : Option Nat
  /-- Knots. -/
  knots : Option (List Nat)
  /-- GAIN and HIST_IDX of a reload, 3 bytes, by pixel. -/
  base : KMap (List Byte)
  /-- A reload is staged. -/
  reload : Bool
  /-- CAL_RELOADs whose ramp it is. -/
  tickets : List Ticket
deriving DecidableEq, Repr

/-- One entry of a core's history (R158). -/
structure HistRec where
  /-- CAPTURE of the gather FS. -/
  capture : Nat
  /-- Drift inputs. -/
  inputs : Int × Int × Int
  /-- S_RMS. -/
  sRms : Nat
deriving DecidableEq, Repr

/-- Calibration state of one core. -/
structure CalCore where
  /-- Running cycle. -/
  cycle : Option Cycle
  /-- Drift covariance, nine binary32 values row-major. -/
  cov : List (BitVec 32)
  /-- Inputs of the previous gather. -/
  prev : Option (Int × Int × Int)
  /-- Segment of the last reference count. -/
  seg : Option Nat
  /-- Entries of the core history by slot. -/
  hist : KMap HistRec
  /-- Slot of the newest entry; none where the history is empty. -/
  slot : Option Nat
  /-- Consecutive cycles in which a pixel of class 1 to 4 passed every test, by pixel (R159). -/
  passes : KMap Nat
  /-- Staged set. -/
  staged : Option Staged
  /-- Class updates that wait for the arming (R159). -/
  classes : List Nat
  /-- Swap count. -/
  swaps : Nat
  /-- CAL_RELOADs whose ramp runs. -/
  ramping : List Ticket
  /-- Last open confirmation, ns since RESET_N release. -/
  lastOpen : Option Nat
  /-- A cycle is due when the core has streamed for 60 s since its enable, a wake or the end of a reload's ramp: ns streamed so far,
  and while it streams since when, ns since RESET_N release (R153). -/
  due60 : Option (Nat × Option Nat)
  /-- A setting change completed and 2 s of stable frames are awaited since then (R153). -/
  stable : Option Nat
  /-- Enable, ns since RESET_N release (R154). -/
  enabled : Nat
  /-- Consecutive solves with SEAM_RES above SEAM_THR. -/
  overThr : Nat
  /-- Last solved value t_k, 0.01 K, binary32. -/
  t : BitVec 32
  /-- Bank step of the ramp: b of R166. -/
  step : Nat
deriving DecidableEq, Repr

/-- A grant this device gave as owner (R149). -/
structure Given where
  /-- Patch. -/
  patch : Nat
  /-- Device of the requester. -/
  dev : Nat
  /-- Its core. -/
  core : Nat
  /-- When it was given, ns since RESET_N release. -/
  at_ : Nat
  /-- Lease, ms. -/
  lease : Nat
  /-- GRANT_HOLD. -/
  hold : Bool
deriving DecidableEq, Repr

/-- Sums of a seam pair (R160). -/
structure Pair where
  /-- n. -/
  n : Nat
  /-- Σd. -/
  sum : Int
  /-- Σd². -/
  sq : Nat
deriving DecidableEq, Repr

/-- An external node (R161). -/
structure Node where
  /-- Solve number. -/
  num : Nat
  /-- t, 0.01 K. -/
  t : Int
  /-- U, 0.01 K. -/
  u : Nat
  /-- ANCHORED. -/
  anchored : Bool
deriving DecidableEq, Repr

/-- A seam solve that is running in a region (R162). -/
structure Solve where
  /-- Its SEAM_SOLVE. -/
  ticket : Option Ticket
  /-- Swap count of each local core at its start, and whether a cycle ran. -/
  notes : List (Nat × Nat × Bool)
  /-- The seam sums it solves over. -/
  sums : KMap Pair
deriving DecidableEq, Repr

/-- The calibration engines. -/
structure Cal where
  /-- By core. -/
  cores : KMap CalCore
  /-- Grants given as owner. -/
  given : List Given
  /-- Patches taken over by failover: the time until which reservations are refused (R151). -/
  barred : KMap Nat
  /-- Seam sums sampled here, by pair: 2 ^ 32 × (64 × device + core) + (64 × device + core) of the higher. -/
  pairs : KMap Pair
  /-- Seam sums that SUMS messages have brought, by pair (R160). -/
  brought : KMap Pair
  /-- External nodes by 64 × device + core. -/
  nodes : KMap Node
  /-- Solves by region. -/
  solves : KMap Solve
  /-- Number of the next solve. -/
  solveNo : Nat
deriving DecidableEq, Repr

/-! ## Fusion and tile output (chapter 6) -/

/-- A cell view (R187). -/
structure CellView where
  /-- CAPTURE of its frame. -/
  capture : Nat
  /-- n_v, 1/256 pixel. -/
  n : Nat
  /-- T̄_v, 0.01 K. -/
  t : Nat
  /-- θ_v, 0.5°. -/
  ang : Nat
  /-- RAMPING. -/
  ramping : Bool
  /-- A RANGE pixel. -/
  range : Bool
  /-- Every contributing pixel is good, with CONF of 8 or more and not REPLACED (R160). -/
  clean : Bool
deriving DecidableEq, Repr

/-- One view of a patch at its owner. -/
structure View where
  /-- Device. -/
  dev : Nat
  /-- Core. -/
  core : Nat
  /-- The latest complete cell view of each cell. -/
  cells : KMap CellView
  /-- CAPTURE of the latest complete frame; none where no frame is complete. -/
  capture : Option Nat
  /-- Deadline origin of that frame (R204), ns since RESET_N release. -/
  origin : Nat
  /-- It was published. -/
  done : Bool
  /-- Frame period, ns. -/
  period : Nat
  /-- The frame coming in. -/
  coming : KMap CellView
  /-- Its CAPTURE. -/
  comingAt : Nat
  /-- Frames since the join; none for an established view (R189). -/
  join : Option Nat
  /-- Cells its frames have mapped: its configured cells. -/
  mapped : List Nat
deriving DecidableEq, Repr

/-- One cell of a patch (R190, R191). -/
structure Cell where
  /-- T_out, 0.01 K. -/
  t : Nat
  /-- U_c, 0.01 K. -/
  u : Nat
  /-- State (Table 6-7). -/
  state : Nat
  /-- Fresh views. -/
  fresh : Nat
  /-- R_c, 0.01 K/s, binary32. -/
  rate : BitVec 32
  /-- J, 0.001 K. -/
  join : Int
  /-- Views used at the previous publication: 64 × device + core. -/
  used : List Nat
deriving DecidableEq, Repr

/-- Cell views of a frame that reach a patch's owner: those of one contribution message, or of a core of the owner (R187). -/
structure Contrib where
  /-- Device. -/
  dev : Nat
  /-- Core. -/
  core : Nat
  /-- CAPTURE of the frame. -/
  capture : Nat
  /-- LAST. -/
  last : Bool
  /-- Cell views by cell. -/
  cells : List (Nat × CellView)
  /-- Deadline origin (R204), ns since RESET_N release. -/
  origin : Nat
deriving DecidableEq, Repr

/-- A context slot (R193). -/
structure Slot where
  /-- Its number, 0 to 4,095 (R10). -/
  num : Nat
  /-- A region it moves to at the next frame boundary of every contributing core (R12). -/
  moving : Option Nat
  /-- Contributions that wait in the new region's input queue while the slot belongs to neither region (R12). -/
  waits : List Contrib
  /-- Views. -/
  views : List View
  /-- Index of the lead view. -/
  lead : Option Nat
  /-- Held by a grant, Doze or the loss of its owner (R191). -/
  held : Bool
  /-- CAPTURE of the last published lead frame. -/
  lastPub : Nat
  /-- Publications. -/
  pubs : Nat
  /-- Time of the last publication, ns since RESET_N release. -/
  pubAt : Nat
  /-- T_b in use. -/
  bg : Nat
  /-- U_MAX. -/
  uMax : Nat
  /-- Cells by cell index within the patch. -/
  cells : KMap Cell
  /-- Last hit in the patch, ns since RESET_N release. -/
  hitAt : Option Nat
  /-- The former owner still publishes (R237). -/
  leaving : Option Nat
  /-- First publication after an owner change. -/
  first : Bool
  /-- A view has taken a new warp grid since the last publication (Table 6-11, REASON 6). -/
  regrid : Bool
  /-- A configuration has come into force since the last publication (Table 6-11, REASON 5). -/
  recast : Bool
deriving DecidableEq, Repr

/-- A record of Tile Link that waits in a queue. -/
structure TRec where
  /-- TILE. A copy of an alarm record to ALL carries the tile of its hit (log 69). -/
  tile : Nat
  /-- TYPE. -/
  kind : Nat
  /-- ALL. -/
  all : Bool
  /-- Type-specific bytes. -/
  tspec : List Byte
  /-- Payload. -/
  payload : List Byte
  /-- Deadline origin, ns since RESET_N release. -/
  origin : Nat
  /-- For an alarm its frame, 2 ^ 32 × (64 × device + core) + FRAME_CNT; for a blink command S₀, ns of system time. -/
  frame : Nat
deriving DecidableEq, Repr

/-- A tile queue (R201): its records in the order in which they were accepted. -/
structure TileQ where
  /-- The records. -/
  recs : List TRec
  /-- Consumer index, modulo 10; the producer index is that many records further (R33, log 200). -/
  cons : Nat
deriving DecidableEq, Repr

/-- An attached tile (R202, R203). -/
structure Attach where
  /-- Highest epoch accepted. -/
  epoch : Nat
  /-- Latest CAPTURE accepted. -/
  capture : Nat
  /-- SEQ of the next temperature record. -/
  seq : Nat
  /-- MAP_SEQ in force. -/
  mapSeq : Nat
  /-- ALARM_SEQ of the next alarm record. -/
  alarmSeq : Nat
  /-- State map last announced, cell states in order. -/
  map : List Nat
  /-- The last temperature record accepted: TSPEC and payload. -/
  last : Option (List Byte × List Byte)
  /-- When a temperature record was last accepted, ns since RESET_N release. -/
  at_ : Nat
  /-- The interval before it, ns. -/
  interval : Nat
  /-- Silent under R203. -/
  silent : Bool
  /-- System time of the last record sent. -/
  sent : Nat
  /-- GAP_MAX last sent. -/
  gap : Nat
  /-- Last held-notice queued, ns since RESET_N release. -/
  noticed : Nat
  /-- Its REASON. -/
  reason : Nat
  /-- When the record last accepted was last repeated while silent, ns since RESET_N release. -/
  repeated : Nat
  /-- Consecutive health queries without an answer. -/
  missed : Nat
  /-- Last health query, ns since RESET_N release; none before the first. -/
  queried : Option Nat
deriving DecidableEq, Repr

/-- A tile bus. -/
structure Bus where
  /-- The tile whose reply window is open. -/
  window : Option Nat
  /-- A burst is on the bus. -/
  burst : Bool
  /-- Characters of the running second, those of its reply windows included. -/
  chars : Nat
  /-- The running second. -/
  second : Nat
  /-- Characters of the second before it. -/
  prev : Nat
  /-- The burst's running disparity is positive (R195). -/
  rd : Bool
deriving DecidableEq, Repr

/-- A registration session (R183). -/
structure Session6 where
  /-- S₀, system time. -/
  start : Nat
  /-- Cores. -/
  cores : List Nat
  /-- The request. -/
  ticket : Ticket
  /-- Blinking has begun. -/
  blinking : Bool
deriving DecidableEq, Repr

/-- One pixel sum of a cell in the frame being handed off. -/
structure CellSum where
  /-- Σ w, 1/60. -/
  w : Nat
  /-- Σ w T, 1/60. -/
  wt : Nat
  /-- Σ w θ, binary32. -/
  wa : BitVec 32
  /-- RAMPING. -/
  ramping : Bool
  /-- RANGE. -/
  range : Bool
  /-- As CellView. -/
  clean : Bool
deriving DecidableEq, Repr

/-- Fusion and tile output. -/
structure Fus where
  /-- Context slots by patch. -/
  slots : KMap Slot
  /-- Region of each slot number that has been moved; another's is that of reset, a quarter of the numbers each (R10, R12). -/
  regions : KMap Nat
  /-- Contributions of the frame being handed off, by core: patch × 2 ^ 16 + cell. -/
  acc : KMap (KMap CellSum)
  /-- Hit records that wait for HIT_RECORD: core, x, y, kind, T, ΔT, FRAME_CNT, stamp, CAPTURE. -/
  hits : List (List Nat)
  /-- Tile queues by tile; that of records to ALL of bus b is 2 ^ 18 + b. -/
  queues : KMap TileQ
  /-- FRAME_CNT of the last frame of a core that raised an alarm record for a tile and its hits on the tile, by
  65,536 × tile + 64 × device + core. -/
  alarmed : KMap (Nat × Nat)
  /-- Attached tiles. -/
  tiles : KMap Attach
  /-- Tile buses. -/
  buses : KMap Bus
  /-- Registration sessions, oldest first. -/
  regs : List Session6
  /-- NIR planes of companion frames in a session, newest first, by core: CAPTURE and pixels. -/
  planes : KMap (List (Nat × List Nat))
  /-- RGB planes of the latest companion frame, by core. -/
  rgb : KMap (List (List Nat))
  /-- Grids that take effect at the core's next frame start, with the TABLE_WRITEs that end then. -/
  newGrid : KMap (List Byte × List Ticket)
deriving DecidableEq, Repr
/-! ## Placement and the array (chapter 7) -/

/-- One Seamlink link (R222, R229). -/
structure LinkSt where
  /-- Both lanes are block-locked and deskewed. -/
  locked : Bool
  /-- A heartbeat has come since the lock. -/
  heard : Bool
  /-- UID of the peer. -/
  uid : Nat
  /-- STATE of the peer. -/
  state : Nat
  /-- HOPS_ROOT of the peer. -/
  hops : Nat
  /-- SCORE of the peer. -/
  score : Nat
  /-- T_TX of the last heartbeat received. -/
  tTx : Nat
  /-- Receive stamp of the last heartbeat, system time. -/
  tRx : Nat
  /-- Receipt of the last heartbeat, ns since RESET_N release. -/
  at_ : Nat
  /-- Link-delay samples of the last 16 heartbeats, newest first. -/
  delays : List Int
  /-- The neighbour's configuration state block of the last exchange. -/
  block : List Byte
  /-- Consecutive exchanges that showed a mismatch. -/
  mism : Nat
  /-- A loss report was flooded for this silence. -/
  reported : Bool
  /-- The neighbour has been heard and has not been declared down since: its silence counts though the link is no longer up
  (R230). -/
  met : Bool
deriving DecidableEq, Repr

/-- What this device knows of a patch's placement (R235, R242). -/
structure Place where
  /-- Owner, 0x3FF for none. -/
  owner : Nat
  /-- Epoch. -/
  epoch : Nat
  /-- T_c. -/
  tc : Nat
  /-- The owner before this epoch, 0x3FF for none. -/
  former : Nat
  /-- Forwarding entry: new owner, epoch E + 1, T_c of the epoch lost to, and the epoch under which the patch was owned here. -/
  lost : Option (Nat × Nat × Nat × Nat)
  /-- The owner named has withdrawn and no later epoch has come. -/
  withdrawn : Bool
  /-- When the QUERY that is outstanding was sent, ns since RESET_N release (R241). -/
  asked : Option Nat
  /-- The commit kept its owner, which goes on from its own slot: the epoch before it (R237). -/
  kept : Option Nat
deriving DecidableEq, Repr

/-- A candidate as its directory records it (R231). -/
structure Cand where
  /-- Address. -/
  addr : Nat
  /-- SCORE. -/
  score : Nat
  /-- CELLS. -/
  cells : Nat
  /-- EPOCH it knows. -/
  epoch : Nat
  /-- STATE. -/
  state : Nat
deriving DecidableEq, Repr

/-- A patch this device directs (R233, R235). -/
structure Directed where
  /-- Candidates. -/
  cands : List Cand
  /-- The epoch last committed. -/
  epoch : Nat
  /-- Its owner, 0x3FF for none. -/
  owner : Nat
  /-- REASON, FORMER and T_c of the last commit. -/
  reason : Nat
  /-- FORMER of the last commit. -/
  former : Nat
  /-- T_c of the last commit. -/
  tc : Nat
  /-- Receivers of the last COMMIT that have not answered. -/
  waiting : List Nat
  /-- When the last COMMIT was first sent. -/
  sent : Nat
  /-- When the last balancing move was made; none yet. -/
  moved : Option Nat
  /-- The device became directory on a loss and waits for VIEWs (R240). -/
  taking : Bool
deriving DecidableEq, Repr

/-- A loss report (R230): the silent device's UID and the reporting neighbour's address. -/
structure Loss where
  /-- UID of the silent device. -/
  uid : Nat
  /-- Address of the silent device. -/
  addr : Nat
  /-- Neighbour that reports. -/
  by_ : Nat
deriving DecidableEq, Repr

/-- A census (R257). -/
structure Census where
  /-- Number. -/
  num : Nat
  /-- 32-byte entries. -/
  entries : List (List Byte)
deriving DecidableEq, Repr

/-- A census this device runs. -/
structure CensusRun where
  /-- Number. -/
  num : Nat
  /-- Its CENSUS. -/
  ticket : Ticket
  /-- Addresses asked and not answered. -/
  asked : List (Nat × Nat)
  /-- Devices still to ask: address and UID. -/
  todo : List (Nat × Nat)
  /-- Entries so far. -/
  entries : List (List Byte)
  /-- Start, ns since RESET_N release. -/
  since : Nat
deriving DecidableEq, Repr

/-- The staging area of a configuration (R251). -/
structure Stage where
  /-- Digest, 8 bytes. -/
  digest : List Byte
  /-- Generation's low 16 bits, or the generation once block 0 is present. -/
  gen : Nat
  /-- Blocks by index. -/
  blocks : KMap (List Byte)
  /-- Checked and stored. -/
  complete : Bool
  /-- Scheduled T_A. -/
  act : Option Nat
  /-- Requests whose completion is still to be reported. -/
  tickets : List Ticket
  /-- Opened from a neighbour's exchange (R255): activate on completion. -/
  pulled : Bool
deriving DecidableEq, Repr

/-- PTP on one uplink (R258). -/
structure Ptp where
  /-- Best grandmaster heard. -/
  gm : Option Offer
  /-- Sequence and receive stamp of the last two-step Sync. -/
  sync : Option (Nat × Nat)
  /-- Its origin stamp, once Follow_Up came. -/
  origin : Option Nat
  /-- Sequence and transmit stamp of the Delay_Req sent. -/
  delayReq : Option (Nat × Nat)
  /-- Address the Sync arrived on: IPv6, address. -/
  addr : Bool × Nat
  /-- Sequence of the next Delay_Req. -/
  seq : Nat
deriving DecidableEq, Repr

/-- A handover in progress at the new owner (R237). -/
structure Handover where
  /-- Patch. -/
  patch : Nat
  /-- Former owner. -/
  former : Nat
  /-- Snapshot size announced by STATE, KiB. -/
  size : Nat
  /-- Bytes of the snapshot by offset. -/
  got : KMap (List Byte)
  /-- CAPTURE of the former owner's last publication. -/
  last : Nat
deriving DecidableEq, Repr

/-- A request this device sent to another device in its own right. -/
structure Asked where
  /-- Destination. -/
  dest : Nat
  /-- RSEQ. -/
  rseq : Nat
  /-- Opcode. -/
  opcode : Nat
  /-- Parameters. -/
  params : List Byte
  /-- When it was sent, ns since RESET_N release. -/
  since : Nat
deriving DecidableEq, Repr

/-- Placement, topology, configuration and time. -/
structure Plc where
  /-- Own requests whose replies have not come. -/
  asked : List Asked
  /-- Topology database by UID, this device's own advertisement apart. -/
  topo : KMap Lsa
  /-- Last refresh of each entry, ns since RESET_N release. -/
  topoAt : KMap Nat
  /-- Links 0 to 7. -/
  links : KMap LinkSt
  /-- Loss reports. -/
  losses : List Loss
  /-- Devices declared down, by UID. -/
  down : List Nat
  /-- Own LSA sequence. -/
  lsaSeq : Nat
  /-- Placement by patch. -/
  places : KMap Place
  /-- Patches in the order their forwarding entries were made (R242). -/
  fwdOrder : List Nat
  /-- Patches directed. -/
  dirs : KMap Directed
  /-- Handovers under way. -/
  handovers : KMap Handover
  /-- Patches for which READY came and STATE has not left (R237). -/
  ready : List Nat
  /-- The last four censuses, newest first. -/
  censuses : List Census
  /-- Running census. -/
  census : Option CensusRun
  /-- Number of the next census. -/
  censusNo : Nat
  /-- Staging area. -/
  stage : Option Stage
  /-- The active configuration image. -/
  image : List Byte
  /-- The image of the surface before it, which publications of lead frames up to T_A use. -/
  former : List Byte
  /-- T_A of the activation in force. -/
  actAt : Nat
  /-- PTP by uplink. -/
  ptp : KMap Ptp
  /-- Latched TIME_HI. -/
  timeHi : Nat
  /-- Last score sent in a VIEW. -/
  viewScore : Nat
  /-- Time of the last slot move by patch (R249). -/
  slotMoved : KMap Nat
  /-- Contributions that wait for a QUERY's answer (R241): patch, bytes, and since when, ns since RESET_N release. -/
  queried : List (Nat × List Byte × Nat)
  /-- The device has had system time since RESET_N (R261). -/
  timed : Bool
deriving DecidableEq, Repr

/-! ## Memory (chapter 8) -/

/-- A margin scan that runs on a channel (R288, R289). -/
structure Scan where
  /-- Type, 0 to 3. -/
  type : Nat
  /-- The byte lane in hand. -/
  lane : Nat
  /-- Byte lanes still to do after it. -/
  todo : List Nat
  /-- Error counts of the lane's steps so far, in order. -/
  counts : List Nat
  /-- The scan stops at its next step. -/
  stopping : Bool
  /-- Its request. -/
  ticket : Ticket
deriving DecidableEq, Repr

/-- The memory controller. -/
structure MemC where
  /-- Refreshes owed, by 8 × rank + bank (R278). -/
  owed : KMap Nat
  /-- Ranks that pay what they owe at a shortened interval: when the payoff ends, ns since RESET_N release (R280). -/
  paying : KMap Nat
  /-- The hour that CE_HOUR of a rank counts, by rank. -/
  hours : KMap Nat
  /-- Ranks that wait to migrate, oldest first (R292). -/
  queue : List Nat
  /-- Scans by channel. -/
  scans : KMap Scan
  /-- Cores whose staged sets are ready, in the order in which they became so (R274). -/
  ready : List Nat
  /-- Cores whose arming was refused. -/
  refused : List Nat
deriving DecidableEq, Repr

/-! ## Converters (chapter 9) -/

/-- A queued injected conversion (R316). -/
structure Inj where
  /-- Channel. -/
  ch : Nat
  /-- The host asked for it. -/
  host : Bool
  /-- Cores whose calibration engine asked for it. -/
  cores : List Nat
deriving DecidableEq, Repr

/-- A calibration step (R318). -/
structure CalStep where
  /-- 0 zero, 1 full scale, 2 factory, 3 abandon; the last two only while they wait. -/
  step : Nat
  /-- Channel. -/
  ch : Nat
  /-- Raw results so far. -/
  raws : List Int
  /-- It waits for the injected queue (R319). -/
  waiting : Bool
  /-- The request. -/
  ticket : Ticket
deriving DecidableEq, Repr

/-- A kept zero (R318). -/
structure Zero where
  /-- CAL_CH. -/
  ch : Nat
  /-- GAIN. -/
  gain : Nat
  /-- r_z. -/
  raw : Int
  /-- When it was kept, ns since RESET_N release. -/
  at_ : Nat
deriving DecidableEq, Repr

/-- One modulator. -/
structure Mod where
  /-- Injected queue; its head is being converted once no conversion of the watch is. -/
  inj : List Inj
  /-- Calibration step. -/
  cal : Option CalStep
  /-- Kept zero. -/
  zero : Option Zero
  /-- Description of the result in DATA, as TAG but for FRESH. -/
  desc : Nat
  /-- The result in DATA is untaken. -/
  untaken : Bool
  /-- Channels of the Doze watch still to convert. -/
  watch : List Nat
deriving DecidableEq, Repr

/-- The converters. -/
structure Conv where
  /-- Modulators. -/
  mods : KMap Mod
deriving DecidableEq, Repr

/-! ## Shutter drivers (chapter 10) -/

/-- Why a channel is being diagnosed (R337, R338). -/
inductive DiagWhy where
  /-- Start-up, DIAG_PERIOD or the host. -/
  | plain
  /-- The open check of a core's cycle. -/
  | openCheck
  /-- A clear of this channel, or of its partner, asked by the channel named. -/
  | clear (ch : Nat)
deriving DecidableEq, Repr

/-- One channel. -/
structure ShCh where
  /-- Start of the energisation in hand, ns since RESET_N release. -/
  since : Nat
  /-- Earlier energisations: start and end, newest first. -/
  past : List (Nat × Nat)
  /-- A fault is latched on the channel. -/
  latch : Bool
  /-- The actuation reserve is durable (R339). -/
  reserve : Bool
  /-- The waiting host close request (R332). -/
  wait : Option Ticket
  /-- Diagnosis in progress. -/
  diag : Option DiagWhy
  /-- Result of this channel's part in a clear. -/
  clearOk : Option Bool
  /-- A diagnosis since the open check was asked for has found the flag open. -/
  openOk : Bool
  /-- ACT_CNT stood at or above ACT_WARN. -/
  worn : Bool
deriving DecidableEq, Repr

/-- The shutter drivers. -/
structure Shut where
  /-- Channels. -/
  chs : KMap ShCh
  /-- Switches with STUCK_ON latched. -/
  stuck : List Nat
  /-- VSHUT was last read below 10.5 V. -/
  low : Bool
deriving DecidableEq, Repr
/-! ## Pins and the device -/

/-- Levels of the discrete pins. -/
structure Pins where
  /-- FAULT_N is asserted. -/
  fault : Bool
  /-- ALARM_N is asserted. -/
  alarm : Bool
  /-- WAKE is high. -/
  wake : Bool
  /-- FSYNC is high. -/
  fsync : Bool
  /-- SVC_IRQ_N is driven low: a frame waits on the service port (R390). -/
  svcIrq : Bool
  /-- UL_TXDIS of each uplink is driven low, one bit an uplink: the module is enabled (R440). -/
  ulTx : Nat
  /-- BS_RST_N is high (Table 14-8). -/
  bsRst : Bool
deriving DecidableEq, Repr

/-- The device: every register, store, queue and pin of the QSL-3264. -/
structure Dev where
  /-- ns since RESET_N release. -/
  clk : Nat
  /-- System time less `clk` (R261). -/
  ofs : Int
  /-- Correction still to be slewed, ns (R261). -/
  slew : Int
  /-- Ticks since the last ns of slewing. -/
  slewTick : Nat
  /-- Parameter fields by address and lowest bit; a field not held reads its reset column. -/
  prm : KMap Nat
  /-- The bytes of the numbered tables. -/
  tbl : Mem
  /-- Packet engine. -/
  kcp : Kcp
  /-- Event engine. -/
  evt : Evt
  /-- Store engine. -/
  nv : Nv
  /-- Start-up, trust and Doze. -/
  boot : Boot
  /-- Placement and the array. -/
  plc : Plc
  /-- Sensor ingest. -/
  ing : Ing
  /-- Fabric and pixel pipeline. -/
  pipe : Pipe
  /-- Calibration. -/
  cal : Cal
  /-- Fusion and tile output. -/
  fus : Fus
  /-- Memory controller. -/
  mem : MemC
  /-- Converters. -/
  conv : Conv
  /-- Shutter drivers. -/
  shut : Shut
  /-- Pins. -/
  pins : Pins
  /-- Outputs of the command in hand. -/
  out : List Out
  /-- The queued request that is being begun; none between commands. -/
  begun : Option Queued
  /-- Free values drawn so far. -/
  free : Nat
deriving DecidableEq, Repr

/-- The block: the device and the commands that wait, first in, first out. -/
structure State where
  /-- The device. -/
  dev : Dev
  /-- Commands that wait. -/
  pending : List Instr
deriving DecidableEq, Repr

/-- Why the block stops on a command. No command of this model stops it, so the type is closed over one reason kept
for a command whose operands no sender can form. -/
inductive Fault where
  /-- Raised by nothing: every command of well-formed operands completes. Safe. -/
  | illFormed
deriving DecidableEq, Repr

/-- Why a command has no meaning. -/
inductive Refusal where
  /-- Raised by the dispatch for a command that has no meaning yet, by its mnemonic. Safe. -/
  | notModelled (mnemonic : String)
deriving DecidableEq, Repr

/-! ## Reset (R372, R373) -/

/-- Stores that hold no record: the spec gives their contents at manufacture no value (log 1). -/
def Nv.blank : Nv :=
  { recs := [], buf := [], bufFirst := 0, bufLast := 0, commit := none, waiting := [], imm := [], immNum := 0, batch := 0,
    lostRec := false, bulk := [], bulkQ := [], sectors := KMap.empty, counters := KMap.empty, scan := none }

/-- Fuses as the model has them at manufacture (log 2). -/
def Fuses.blank : Fuses :=
  let z := List.replicate 32 (0 : Byte)
  { secret := z, signHash := [z, z, z, z], revoke := 0, ownerHash := z, wrSvn := 0, thSvn := 0, dbg2Off := false, uid := 0,
    factoryKey := z }

/-- The packet engine with nothing in hand. -/
def Kcp.start : Kcp :=
  { wgen := KMap.empty, held := [], queue := [], relays := [], hids := [], rseqTx := KMap.empty, rseqRx := KMap.empty, rseqWait := [],
    dup := [], replyQ := KMap.empty, paused := KMap.empty, floods := [], fseq := KMap.empty }

/-- The event engine with nothing in hand. -/
def Evt.start : Evt :=
  { ring := [], dq := KMap.empty, gap := [], hold := KMap.empty, logQ := [], logAt := [], sev112 := false, supply := KMap.empty,
    ports := KMap.empty, cores := KMap.empty, overruns := KMap.empty, stalled := KMap.empty, life := [] }

/-- Start-up not begun, reset held or not; the key slots are loaded by recall. -/
def Boot.start (f : Fuses) (held : Bool) : Boot :=
  { inReset := held, memTested := false, verified := false, running := false, started := false, confRecalled := false,
    keys := List.replicate 16 none, fresh := KMap.empty, fuses := f, session := none, trial := none, selected := 0,
    access := 0, challenge := none, restarts := [], changed := false, svcOut := [], wakeLatched := none, wakeAt := 0,
    halted := [] }

/-- Placement and the array with nothing known. -/
def Plc.start : Plc :=
  { asked := [], topo := KMap.empty, topoAt := KMap.empty, links := KMap.empty, losses := [], down := [], lsaSeq := 0,
    places := KMap.empty, fwdOrder := [], dirs := KMap.empty, handovers := KMap.empty, ready := [], censuses := [],
    census := none, censusNo := 0, stage := none, image := [], former := [], actAt := 0, ptp := KMap.empty, timeHi := 0,
    viewScore := 0, slotMoved := KMap.empty, queried := [], timed := false }

/-- The pixel fabric idle. -/
def Pipe.start : Pipe :=
  { bind := KMap.empty, rebind := KMap.empty, lanes := KMap.empty, win := KMap.empty, classQ := KMap.empty,
    taps := KMap.empty, raised := [], bad := [], dead := [], alarmAt := none, replays := KMap.empty,
    winEnd := KMap.empty, easing := [] }

/-- The calibration engines idle. -/
def Cal.start : Cal :=
  { cores := KMap.empty, given := [], barred := KMap.empty, pairs := KMap.empty, brought := KMap.empty, nodes := KMap.empty,
    solves := KMap.empty, solveNo := 0 }

/-- Fusion and tile output idle. -/
def Fus.start : Fus :=
  { slots := KMap.empty, regions := KMap.empty, acc := KMap.empty, hits := [], queues := KMap.empty, alarmed := KMap.empty, tiles := KMap.empty,
    buses := KMap.empty, regs := [], planes := KMap.empty, rgb := KMap.empty, newGrid := KMap.empty }

/-- The memory controller idle. -/
def MemC.start : MemC := { owed := KMap.empty, paying := KMap.empty, hours := KMap.empty, queue := [], scans := KMap.empty, ready := [], refused := [] }

/-- The device before recall: what the stores, the fuses and the pins hold stays, and everything else is at its reset value;
FAULT_N is asserted (R373, Table 14-8). -/
def Dev.bare (nv : Nv) (f : Fuses) (held wake fsync : Bool) (free : Nat) : Dev :=
  { clk := 0, ofs := 0, slew := 0, slewTick := 0, prm := KMap.empty, tbl := Mem.empty, kcp := Kcp.start, evt := Evt.start,
    nv := nv, boot := Boot.start f held, plc := Plc.start, ing := ⟨KMap.empty, KMap.empty⟩, pipe := Pipe.start,
    cal := Cal.start, fus := Fus.start, mem := MemC.start, conv := ⟨KMap.empty⟩, shut := ⟨KMap.empty, [], false⟩,
    pins := ⟨true, false, wake, fsync, false, 0, !held⟩, out := [], begun := none, free := free }

/-- The machine right after reset: power-on, RESET_N just released, recall begun (R373). -/
def State.reset : State := ⟨Dev.bare Nv.blank Fuses.blank false false false 0, []⟩

end Sys2Proof.Machine
end

