-- ==== Sys2Proof/Machine/Lane.lean ====
section
/-!
DEFINITION. Sys2Proof/Machine/Lane.lean: the arithmetic of a pixel lane (R110 to R130): records, curves, the stages of
both passes, the alarm comparators and the pixel result.
-/
namespace Sys2Proof.Machine

/-- ⌊n / q + ½⌋ of integers, q above 0. -/
def floorHalf (n : Int) (q : Nat) : Int := (2 * n + q) / (2 * (q : Int))

/-- n / q rounded half away from zero. -/
def rndDiv (n : Int) (q : Nat) : Int :=
  if n < 0 then -(((2 * n.natAbs + q) / (2 * q) : Nat) : Int) else ((2 * n.natAbs + q) / (2 * q) : Nat)

/-- n / q truncated toward zero. -/
def truncDiv (n : Int) (q : Nat) : Int := if n < 0 then -((n.natAbs / q : Nat) : Int) else (n.natAbs / q : Nat)

/-- ⌊n / q + ½⌋ of naturals. -/
def natHalf (n q : Nat) : Nat := (2 * n + q) / (2 * q)

/-- Bits of the data types 0 RAW12, 1 RAW14, 2 RAW16 (Table 3-8). -/
def dtBits (dt : Nat) : Nat := if dt = 0 then 12 else if dt = 1 then 14 else 16

/-- A raw value scaled to 16 bits (R101, R110). -/
def align (dt raw : Nat) : Nat := raw * 2 ^ (16 - dtBits dt)

/-! ## Records and curves -/

/-- Bytes 0 to 15 of a record as numbers (Table 4-2). -/
structure Rec where
  /-- OFFSET. -/
  offset : Int
  /-- GAIN. -/
  gain : Nat
  /-- DRIFT_F. -/
  df : Int
  /-- DRIFT_H. -/
  dh : Int
  /-- DRIFT_R. -/
  dr : Int
  /-- TF_STATE. -/
  tf : Nat
  /-- CLASS. -/
  cls : Nat
  /-- CONF. -/
  conf : Nat
  /-- RESTART. -/
  restart : Bool
deriving DecidableEq, Repr

/-- A record read from its 16 bytes. -/
def recOf (b : List Byte) : Rec :=
  { offset := signedOf 24 (leAt b 0 3), gain := leAt b 3 2, df := signedOf 16 (leAt b 5 2), dh := signedOf 16 (leAt b 7 2),
    dr := signedOf 16 (leAt b 9 2), tf := leAt b 12 2, cls := byteAt b 14 % 16, conf := byteAt b 14 / 16,
    restart := bitOf (byteAt b 15) 0 }

/-- A curve (Table 4-5). -/
structure Curve where
  /-- CURVE_BASE. -/
  base : Int
  /-- SEG_SHIFT. -/
  shift : Nat
  /-- The 65 knots. -/
  knots : List Nat
deriving DecidableEq, Repr

/-- A curve read from its 136 bytes. -/
def curveOf (b : List Byte) : Curve :=
  { base := signedOf 24 (leAt b 0 3), shift := byteAt b 3 % 16, knots := (List.range 65).map fun i => leAt b (4 + 2 * i) 2 }

/-- Knot `i`. -/
def Curve.k (c : Curve) (i : Nat) : Nat := c.knots.getD i 0

/-- T, segment and RANGE of a corrected count (R125). -/
def Curve.eval (c : Curve) (c5 : Int) : Nat × Nat × Bool :=
  let w := 2 ^ (c.shift + 7)
  let u := c5 - c.base
  if u < 0 then (c.k 0, 0, true)
  else
    let j := u.toNat / w
    if 64 ≤ j then (c.k 64, 63, true)
    else (((c.k j : Int) + floorHalf (((c.k (j + 1) : Int) - c.k j) * (u.toNat % w : Nat)) w).toNat, j, false)

/-! ## Planes of a pixel table (R270) -/

/-- Blocks of a line in the state plane: 16 pixels each, the last one zero-filled. -/
def stateBlocks (w : Nat) : Nat := (w + 15) / 16

/-- Bytes of a line in the state plane: a pitch of whole blocks. -/
def statePitch (w : Nat) : Nat := 64 * stateBlocks w

/-- Blocks of a line in the coefficient plane: 12 bytes of each pixel, packed. -/
def coefBlocks (w : Nat) : Nat := (12 * w + 63) / 64

/-- A column's record bytes lie in a block. -/
def inBlock (state : Bool) (b x : Nat) : Bool :=
  if state then decide (x / 16 = b) else decide (64 * b < 12 * x + 12 ∧ 12 * x < 64 * b + 64)

/-- The columns of a line of `w` pixels whose record bytes lie in a block. -/
def blockCols (state : Bool) (b w : Nat) : List Nat := (List.range w).filter (inBlock state b)

/-- The coefficient bytes of a column that lie in a block: offset and number. -/
def blockBytes (b x : Nat) : Nat × Nat :=
  let lo := max (12 * x) (64 * b)
  (lo - 12 * x, min (12 * x + 12) (64 * b + 64) - lo)

/-! ## Pass A (R114 to R121) -/

/-- The dither matrix B (R116). -/
def ditherB (r c : Nat) : Nat :=
  ([[0, 8, 2, 10], [12, 4, 14, 6], [3, 11, 1, 9], [15, 7, 13, 5]].getD (r % 4) []).getD (c % 4) 0

/-- Stage 2: whether the guard tripped, and s′ (R116). -/
def temporal (cfg : LaneCfg) (x s row col cnt : Nat) : Bool × Nat :=
  let d : Int := (x : Int) - s
  let f := cnt % 16
  if cfg.guard < d.natAbs then (true, x)
  else (false, ((s : Int) + (d * cfg.tnrK + (4 * ditherB (row + f / 4) (col + f) + 2 : Nat)) / 64).toNat)

/-- Stage 4 with one bank (R120). -/
def correct (r : Rec) (drift : Int × Int × Int) (xf : Nat) : Int :=
  let dr := rndDiv (r.df * drift.1 + r.dh * drift.2.1 + r.dr * drift.2.2) 200
  clampInt (-(2 ^ 30)) (2 ^ 30 - 1) (floorHalf ((128 * (xf : Int) - (r.offset + dr)) * r.gain) 32768)

/-- What pass A takes of one pixel besides its line. -/
structure PxIn where
  /-- Its record in the applied bank. -/
  app : Rec
  /-- Its record in the armed target bank. -/
  tgt : Option Rec
  /-- A coefficient block of it failed (R114). -/
  badCoef : Bool
  /-- Its state block of the applied bank failed. -/
  badApp : Bool
  /-- Its state block of the target bank failed. -/
  badTgt : Bool
  /-- Class-update entry: class and RESET_CONF (R112). -/
  update : Option (Nat × Bool)

/-- Pass A of one pixel (R114 to R121): column, row, raw value, received, flagged. -/
def passAPixel (f : Frame) (dt : Nat) (i : PxIn) (col row raw : Nat) (valid flagged : Bool) : Px :=
  let x := align dt raw
  let rail := decide (raw = 0 ∨ raw = 2 ^ dtBits dt - 1)
  let s := if f.first || i.app.restart then x else i.app.tf
  let (step, s') := temporal f.cfg x s row col f.tag.cnt
  let cls := match i.update with | some (c, _) => c | none => i.app.cls
  let conf := match i.update with | some (_, true) => 15 | _ => i.app.conf
  let ca := correct i.app f.drift s'
  let ct := match i.tgt with | some t => correct t f.drift s' | none => ca
  let c := match f.blend with | some b => ca + rndDiv ((ct - ca) * b) 256 | none => ca
  let failed := i.badCoef || i.badApp || i.badTgt
  { x := x, xf := s', d := (x : Int) - s, s := if !valid || flagged then s else s',
    st := (if flagged then 1 else 0) + (if valid then 0 else 2) + (if rail then 4 else 0) + (if step then 8 else 0) +
      (if f.blend.isSome then 64 else 0),
    cls := if failed then 15 else cls, conf := conf, c := c, ct := ct, gain := i.app.gain,
    keepCls := if i.badCoef then i.app.cls else cls, keepConf := if i.badCoef then i.app.conf else conf,
    barApp := i.badApp, barTgt := i.badTgt }

/-- Stage 1 alone, for a SHUTTER frame (R131). -/
def shutterPixel (dt raw : Nat) (valid flagged : Bool) : Px :=
  { x := align dt raw, xf := 0, d := 0, s := 0,
    st := (if flagged then 1 else 0) + (if valid then 0 else 2) + (if raw = 0 ∨ raw = 2 ^ dtBits dt - 1 then 4 else 0),
    cls := 0, conf := 0, c := 0, ct := 0, gain := 0, keepCls := 0, keepConf := 0, barApp := false, barTgt := false }

/-! ## Pass B (R122 to R130) -/

/-- A pixel is good (R113). -/
def Px.good (p : Px) : Bool := decide (p.cls = 0) && decide (p.st % 8 = 0)

/-- The good neighbours of column `i` in the window; a line outside the frame contributes none. -/
def goodAround (prev cur next : List Px) (i : Nat) : List Px :=
  let pick (l : List Px) (cols : List Nat) : List Px := cols.filterMap fun c => l[c]?
  let around := (if i = 0 then [] else [i - 1]) ++ [i, i + 1]
  (pick prev around ++ pick cur (around.filter (· ≠ i)) ++ pick next around).filter Px.good

/-- Live classing of a class-0 pixel (R123): the class and CONF written back. -/
def liveClass (f : Frame) (p : Px) (near : List Px) (cls conf : Nat) : Nat × Nat :=
  let rail := bitOf p.st 2
  let d := p.d.natAbs
  let noise := !bitOf p.st 3 && decide (f.cfg.noise < d) && decide (4 ≤ near.length) &&
    decide (4 * (near.map fun q => q.d.natAbs).sum < d * near.length)
  let conf' := if rail then conf - 2 else if noise then conf - 1 else if f.tag.cnt % 16 = 0 then min 15 (conf + 1) else conf
  if conf' = 0 && (rail || noise) then (if rail then 2 else 3, 0) else (cls, conf')

/-- Stage 5 (R124). -/
def spatial (sigma : Nat) (c : Int) (near : List Int) : Int :=
  if sigma = 0 then c
  else
    let l := near.filter fun q => decide ((q - c).natAbs ≤ sigma)
    floorHalf (2 * c + l.sum) (2 + l.length)

/-- Pass B of one pixel but for the run of its alarm comparisons. -/
def passBPixel (f : Frame) (ca ct : Curve) (prev cur next : List Px) (i : Nat) (p : Px) : Res :=
  let near := goodAround prev cur next i
  let padded := bitOf p.st 1
  let replace := decide (p.cls ≠ 0) && !padded
  let c := if replace && !near.isEmpty then floorHalf ((near.map (·.c)).sum) near.length else p.c
  let st := if replace then (if near.isEmpty then setBit p.st 5 else setBit p.st 4) else p.st
  let live := f.cfg.live && !padded && !bitOf p.st 0
  let back := if live && decide (p.keepCls = 0 ∧ p.cls = 0) then liveClass f p near p.keepCls p.keepConf
    else (p.keepCls, p.keepConf)
  let c5 := spatial f.cfg.sigma c (near.map (·.c))
  let (ta, j, ra) := ca.eval c5
  let (tt, _, rt) := ct.eval c5
  let t := match f.blend with | some b => ((ta : Int) + rndDiv (((tt : Int) - ta) * b) 256).toNat | none => ta
  let range := ra || (f.blend.isSome && rt)
  let st := if range then setBit st 7 else st
  let dt := truncDiv (p.d * p.gain * ((ca.k (j + 1) : Int) - ca.k j)) (2 ^ (ca.shift + 15))
  let probe :=
    if f.blend = some 0 && p.good && !ra then
      let (tp, _, rp) := ct.eval (spatial f.cfg.sigma p.ct (near.map (·.ct)))
      if rp then 0 else ((tp : Int) - ta).natAbs
    else 0
  { t := t, st := st, conf := p.conf, cls := p.cls, c5 := c5, dt := dt,
    abs := decide (f.cfg.absThr ≠ 0 ∧ f.cfg.absThr ≤ t),
    rate := decide (f.cfg.rateThr ≠ 0 ∧ (f.cfg.rateThr : Int) ≤ dt) && !bitOf st 4 && !bitOf st 5 && !bitOf st 2,
    back := back, lived := decide (p.keepCls = 0 ∧ back.1 ≠ 0),
    dmax := probe }

/-- A pixel qualifies for a hit (R126). -/
def Res.qualifies (f : Frame) (r : Res) : Bool := !bitOf r.st 1 && (!bitOf r.st 0 || f.cfg.dmg)

/-- The kinds of hit of each column: 1 absolute, 2 rate, 3 both (R126). -/
def hitsOf (f : Frame) (l : List Res) : List Nat :=
  let met (m : Res → Bool) (i : Nat) : Bool :=
    (List.range f.cfg.run).all fun n =>
      if i < n then true
      else match l[i - n]? with
        | some r => r.qualifies f && m r
        | none => false
  (List.range l.length).map fun i => (if met (·.abs) i then 1 else 0) + (if met (·.rate) i then 2 else 0)

/-- The 4-byte pixel result (R130). -/
def Res.word (r : Res) : Nat := r.t % 65536 + r.st % 256 * 65536 + r.conf % 16 * 2 ^ 24 + r.cls % 16 * 2 ^ 28

/-- Pass B of a line. -/
def passBLine (f : Frame) (ca ct : Curve) (prev cur next : List Px) : List Res :=
  cur.mapIdx fun i p => passBPixel f ca ct prev cur next i p

/-! ## Companion frames (R101, R102) -/

/-- The colours of Table 3-7: 0 red, 1 green, 2 blue, 3 near-infrared or white. -/
def mosaicAt (mosaic r c : Nat) : Nat :=
  let t : List (List Nat) :=
    if mosaic = 0 then [[2, 1, 0, 1], [1, 3, 1, 3], [0, 1, 2, 1], [1, 3, 1, 3]]
    else [[3, 1, 3, 0], [1, 3, 2, 3], [3, 0, 3, 1], [2, 3, 1, 3]]
  (t.getD (r % 4) []).getD (c % 4) 0

/-- One plane of a mosaic frame: own sample, else the mean of the 3 × 3, else of the 5 × 5 neighbourhood (R101). DESIGN
CHOICE (log 25): where even the clipped 5 × 5 neighbourhood holds no sample the plane is 0; the spec states no value. -/
def planeAt (rows : Nat → Nat → Nat) (w h colour : Nat) (col : Nat → Nat → Nat) (x y : Nat) : Nat :=
  let around (n : Nat) : List Nat :=
    ((List.range h).filter fun r => decide (y ≤ r + n ∧ r ≤ y + n)).flatMap fun r =>
      ((List.range w).filter fun c => decide (x ≤ c + n ∧ c ≤ x + n ∧ col c r = colour)).map fun c => rows c r
  if col x y = colour then rows x y
  else
    let a := around 1
    let l := if a.isEmpty then around 2 else a
    if l.isEmpty then 0 else natHalf l.sum l.length

end Sys2Proof.Machine
end

