-- ==== Sys2Proof/Machine/Ops.lean ====
section
/-!
DEFINITION. Sys2Proof/Machine/Ops.lean: the operations every command is written in: parameter fields, table bytes,
time, outputs, free values, and running a command on the device.
-/
namespace Sys2Proof.Machine

/-! ## Parameter fields -/

/-- The value of a field: what is held, or its reset column. -/
def Dev.rd (d : Dev) (r : Row) (ix : List Nat := []) : Nat := d.prm.get (r.key ix) (r.resetAt ix)

/-- A field given a value, cut to its width; a field at its reset value is not listed. -/
def Dev.wr (d : Dev) (r : Row) (ix : List Nat) (v : Nat) : Dev :=
  let w := v % 2 ^ r.width
  { d with prm := if w = r.resetAt ix then d.prm.del (r.key ix) else d.prm.put (r.key ix) w }

/-- A field read in two's complement. -/
def Dev.rdInt (d : Dev) (r : Row) (ix : List Nat := []) : Int := signedOf r.width (d.rd r ix)

/-- A field given a two's complement value. -/
def Dev.wrInt (d : Dev) (r : Row) (ix : List Nat) (v : Int) : Dev := d.wr r ix (wrapInt r.width v)

/-- A one-bit field read as a flag. -/
def Dev.is (d : Dev) (r : Row) (ix : List Nat := []) : Bool := decide (d.rd r ix ≠ 0)

/-- A one-bit field set or cleared. -/
def Dev.put (d : Dev) (r : Row) (ix : List Nat) (b : Bool) : Dev := d.wr r ix (if b then 1 else 0)

/-- A wrapping counter advanced by one (R32). -/
def Dev.bump (d : Dev) (r : Row) (ix : List Nat := []) : Dev := d.wr r ix (d.rd r ix + 1)

/-- A field raised to at least `v`. -/
def Dev.raiseTo (d : Dev) (r : Row) (ix : List Nat) (v : Nat) : Dev := if d.rd r ix < v then d.wr r ix v else d

/-- A field lowered to at most `v`. -/
def Dev.lowerTo (d : Dev) (r : Row) (ix : List Nat) (v : Nat) : Dev := if v < d.rd r ix then d.wr r ix v else d

/-- Several fields written in order. -/
def Dev.wrs (d : Dev) : List (Row × List Nat × Nat) → Dev
  | [] => d
  | (r, ix, v) :: t => (d.wr r ix v).wrs t

/-! ## Table bytes -/

/-- Bytes of a numbered table. -/
def Dev.tblRead (d : Dev) (t o n : Nat) : List Byte := d.tbl.reads (tblAddr t o) n

/-- Bytes written to a numbered table. -/
def Dev.tblWrite (d : Dev) (t o : Nat) (bs : List Byte) : Dev := { d with tbl := d.tbl.writes (tblAddr t o) bs }

/-- A little-endian number in a numbered table. -/
def Dev.tblNat (d : Dev) (t o n : Nat) : Nat := leNat (d.tblRead t o n)

/-- A little-endian number written to a numbered table. -/
def Dev.tblPut (d : Dev) (t o n v : Nat) : Dev := d.tblWrite t o (leBytes n v)

/-! ## Time -/

/-- System time in ns (R261), 64 bits. -/
def Dev.now (d : Dev) : Nat := wrapInt 64 (d.clk + d.ofs)

/-- The clock moved on to an instant, never back: a time-driven command comes no earlier than its instant (log 8). -/
def Dev.reach (d : Dev) (t : Nat) : Dev := { d with clk := max d.clk t }

/-- Nanoseconds of a number of ms. -/
def ms (n : Nat) : Nat := n * 1000000

/-- Nanoseconds of a number of seconds. -/
def sec (n : Nat) : Nat := n * 1000000000

/-! ## Outputs and free values -/

/-- The device with one more output. -/
def Dev.emit (d : Dev) (o : Out) : Dev := { d with out := d.out ++ [o] }

/-- The device with outputs added in order. -/
def Dev.emits (d : Dev) (os : List Out) : Dev := { d with out := d.out ++ os }

/-- A free value below `n`, and the device that has drawn it (log 6). -/
def Dev.draw (d : Dev) (n : Nat) : Nat × Dev := (freeValue d.free % n, { d with free := d.free + 1 })

/-- A measurement taken anew: its value is free (log 6). -/
def Dev.sense (d : Dev) (r : Row) (ix : List Nat) : Dev := let (v, d) := d.draw (2 ^ r.width); d.wr r ix v

/-- `f` applied for each element in order. -/
def Dev.each {α : Type} (d : Dev) (l : List α) (f : α → Dev → Dev) : Dev := l.foldl (fun d a => f a d) d

/-! ## The device as others see it -/

/-- The device's chain address; 0x3FF while unaddressed (R45). -/
def Dev.addr (d : Dev) : Nat := d.rd P.ADDR

/-- The device is addressed. -/
def Dev.addressed (d : Dev) : Bool := decide (d.addr ≠ 0x3FF)

/-- The 64-bit unique identifier (R5). -/
def Dev.uid (d : Dev) : Nat := d.boot.fuses.uid

/-- Recall is running (R362). -/
def Dev.recalling (d : Dev) : Bool := decide (d.rd P.NV_STATE = 0)

/-- The device is in Doze (R393). -/
def Dev.dozing (d : Dev) : Bool := decide (d.rd P.DEV_STATE = 3)

/-- The device is in recovery (R376). -/
def Dev.inRecovery (d : Dev) : Bool := decide (d.rd P.DEV_STATE = 7)

/-- Workroom runs and no Doze step is in hand: requests below 0x8000 are served. -/
def Dev.serving (d : Dev) : Bool := d.boot.running && decide (d.rd P.DEV_STATE ∈ [1, 2])

/-- Powered and out of reset: the hardware of the block runs. -/
def Dev.alive (d : Dev) : Bool := !d.boot.inReset

/-- Out of reset and out of Doze: the parts that Table 12-12 stops in Doze run. -/
def Dev.awake (d : Dev) : Bool := d.alive && !d.dozing

/-- The frames, uplink and bus side of an uplink is on (R65, Table 12-2, R393). -/
def Dev.uplinkOn (d : Dev) (u : Nat) : Bool :=
  d.awake && d.boot.started && !d.inRecovery && d.is P.UL_EN [u] && d.is P.UL_LINK_UP [u]

/-- STATE of heartbeats and census entries (Table 7-7): 0 starting or recovery, 1 running, 2 degraded, 3 Doze,
4 unaddressed. -/
def Dev.meshState (d : Dev) : Nat :=
  let s := d.rd P.DEV_STATE
  if s = 0 || s = 7 then 0
  else if s = 3 then 3
  else if !d.addressed then 4
  else if s = 2 then 2 else 1

/-- DEV_STATE of a running device: 2 when degraded by a failed bridge, a rank in state 5 or WR_HALTED (R377), else 1. -/
def Dev.runState (d : Dev) : Nat :=
  let failedRank := (List.range 16).any fun k =>
    decide (bitsOf (if k < 8 then d.rd P.RANK_STATE_LO else d.rd P.RANK_STATE_HI) (3 * (k % 8)) 3 = 5)
  if d.rd P.BRIDGE_FAIL ≠ 0 || failedRank || bitOf (d.rd P.TRUST_FLAGS) 9 then 2 else 1

/-- DEV_STATE follows a change of what R377 names, while the device runs. -/
def Dev.refreshState (d : Dev) : Dev :=
  if d.rd P.DEV_STATE ∈ [1, 2] then d.wr P.DEV_STATE [] d.runState else d

/-! ## Wake events (R394, R395) -/

/-- A wake begins: DEV_STATE 6, WAKE_SRC, and the converter watch ends after the conversion in progress (Table 12-13). -/
def Dev.beginWake (d : Dev) (src : Nat) : Dev :=
  let mods := d.conv.mods.keys.foldl (fun m k => m.upd k ⟨[], none, none, 0, false, []⟩ fun x => { x with watch := x.watch.take 1 })
    d.conv.mods
  let d := { d with conv := ⟨mods⟩, boot := { d.boot with wakeAt := d.clk, wakeLatched := none } }
  (d.wr P.DEV_STATE [] 6).wr P.WAKE_SRC [] src

/-- A wake event: in Doze the wake begins, during entry the first is latched, and otherwise it has no effect (R395). -/
def Dev.wakeEvent (d : Dev) (src : Nat) : Dev :=
  if d.rd P.DEV_STATE = 3 then d.beginWake src
  else if d.rd P.DEV_STATE = 5 && d.boot.wakeLatched.isNone then { d with boot := { d.boot with wakeLatched := some src } }
  else d

end Sys2Proof.Machine
end

