-- ==== Sys2Proof/Machine/Flags.lean ====
section
/-!
DEFINITION. Sys2Proof/Machine/Flags.lean: the flags of the parameter groups, their occurrence words (R31) and event
sources (Table 13-1), event records (R399 to R404), the log queue (R407, R408) and the FAULT_N pin (R406).
-/
namespace Sys2Proof.Machine

/-- A flag that is an event source. -/
inductive Flag where
  /-- RATE_LOW bit of a region. -/
  | rateLow (r : Nat)
  /-- BRIDGE_ERR bit of a bridge. -/
  | bridgeErr (b : Nat)
  /-- BRIDGE_FAIL bit of a bridge. -/
  | bridgeFail (b : Nat)
  /-- Bit of PRM 0x110004. -/
  | kcp (n : Nat)
  /-- ING_FLAGS bit. -/
  | ing (n : Nat)
  /-- PIPE_FLAGS bit. -/
  | pipe (n : Nat)
  /-- ALARM_HIT bit of a core. -/
  | alarmHit (k : Nat)
  /-- CAL_FLAGS bit. -/
  | cal (n : Nat)
  /-- OUT_FLAGS bit. -/
  | out (n : Nat)
  /-- PLC_FLAGS bit. -/
  | plc (n : Nat)
  /-- MEM_FLAGS bit. -/
  | mem (n : Nat)
  /-- CONV_FLAGS bit. -/
  | conv (n : Nat)
  /-- SHD_FLAGS bit. -/
  | shd (n : Nat)
  /-- NV_FLAGS bit. -/
  | nv (n : Nat)
  /-- TRUST_FLAGS bit. -/
  | trust (n : Nat)
  /-- EVT_FLAGS bit. -/
  | evt (n : Nat)
deriving DecidableEq, Repr

/-- Where a flag stands: its field, its bit there, its occurrence word, its event source (Table 13-1). -/
structure FlagHome where
  /-- The field. -/
  row : Row
  /-- The bit within the field. -/
  bit : Nat
  /-- The occurrence word and its index, where the flag has one. -/
  occ : Option (Row × Nat)
  /-- The event source. -/
  source : Nat

/-- The home of each flag. -/
def Flag.home : Flag → FlagHome
  | .rateLow r => ⟨P.RATE_LOW, r, some (P.OCC_RATE_LOW, r), r⟩
  | .bridgeErr b => ⟨P.BRIDGE_ERR, b, some (P.OCC_BRIDGE_ERR, b), 4 + b⟩
  | .bridgeFail b => ⟨P.BRIDGE_FAIL, b, none, 6 + b⟩
  | .kcp n =>
    ⟨if n = 0 then P.RX_CRC_ERR else if n = 1 then P.AUTH_FAIL else if n = 2 then P.REPLY_LATE else P.REQ_OVERRUN,
      0, some (P.OCC_KCP, n), 32 + n⟩
  | .ing n => ⟨P.ING_FLAGS, n, some (P.OCC_ING, n), 64 + n⟩
  | .pipe n => ⟨P.PIPE_FLAGS, n, some (P.OCC_PIPE, n), 96 + n⟩
  | .alarmHit k => ⟨if k < 32 then P.ALARM_HIT_LO else P.ALARM_HIT_HI, k % 32, some (P.OCC_ALARM, k), 416 + k⟩
  | .cal n => ⟨P.CAL_FLAGS, n, some (P.OCC_CAL, n), 128 + n⟩
  | .out n => ⟨P.OUT_FLAGS, n, some (P.OCC_OUT, n), 160 + n⟩
  | .plc n => ⟨P.PLC_FLAGS, n, some (P.OCC_PLC, n), 192 + n⟩
  | .mem n => ⟨P.MEM_FLAGS, n, some (P.OCC_MEM, n), 224 + n⟩
  | .conv n => ⟨P.CONV_FLAGS, n, some (P.OCC_CONV, n), 256 + n⟩
  | .shd n => ⟨P.SHD_FLAGS, n, some (P.OCC_SHD, n), 288 + n⟩
  | .nv n => ⟨P.NV_FLAGS, n, some (P.OCC_NV, n), 320 + n⟩
  | .trust n => ⟨P.TRUST_FLAGS, n, some (P.OCC_TRUST, n), 352 + n⟩
  | .evt n => ⟨P.EVT_FLAGS, n, some (P.OCC_EVT, n), 384 + n⟩

/-- The flag of a flag source (Table 13-1); `none` for other sources. -/
def flagOfSource (s : Nat) : Option Flag :=
  if s < 4 then some (.rateLow s)
  else if s < 6 then some (.bridgeErr (s - 4))
  else if s < 8 then some (.bridgeFail (s - 6))
  else if 32 ≤ s ∧ s < 36 then some (.kcp (s - 32))
  else if 64 ≤ s ∧ s < 74 then some (.ing (s - 64))
  else if 96 ≤ s ∧ s < 104 then some (.pipe (s - 96))
  else if 128 ≤ s ∧ s < 140 then some (.cal (s - 128))
  else if 160 ≤ s ∧ s < 171 then some (.out (s - 160))
  else if 192 ≤ s ∧ s < 208 then some (.plc (s - 192))
  else if 224 ≤ s ∧ s < 234 then some (.mem (s - 224))
  else if 256 ≤ s ∧ s < 264 then some (.conv (s - 256))
  else if 288 ≤ s ∧ s < 300 then some (.shd (s - 288))
  else if 320 ≤ s ∧ s < 330 then some (.nv (s - 320))
  else if 352 ≤ s ∧ s < 362 then some (.trust (s - 352))
  else if 384 ≤ s ∧ s < 394 then some (.evt (s - 384))
  else if 416 ≤ s ∧ s < 480 then some (.alarmHit (s - 416))
  else none

/-- A flag is set. -/
def Dev.flag (d : Dev) (f : Flag) : Bool := bitOf (d.rd f.home.row) f.home.bit

/-- The flag's bit set and its occurrence counter advanced (R31); the bit is cleared by a host alone (R30). -/
def Dev.markFlag (d : Dev) (f : Flag) : Dev :=
  let h := f.home
  let d := d.wr h.row [] (setBit (d.rd h.row) h.bit)
  match h.occ with
  | none => d
  | some (o, i) => d.wr o [i] ((d.rd o [i] + 1) % 65536)

/-- The occurrence counter of a flag; 0 where it has none. -/
def Dev.occOf (d : Dev) (f : Flag) : Nat :=
  match f.home.occ with
  | none => 0
  | some (o, i) => d.rd o [i] % 65536

/-! ## Records -/

/-- The unit a record names (Table 13-2): kind and number. -/
abbrev Unit' := Nat × Nat

/-- No unit. -/
def noUnit : Unit' := (0, 0)

/-- A stamp for an event: system time, or local time while TIME_SRC is 0 (Table 13-2). -/
def Dev.evTime (d : Dev) : Nat × Bool := if d.rd P.TIME_SRC = 0 then (d.clk, true) else (d.now, false)

/-- SEVERITY as the next record of a source takes it (R402). -/
def Dev.severity (d : Dev) (s : Nat) : Nat :=
  if s = 112 && !d.evt.sev112 then (if d.is P.TEST_OK then 0 else 2) else d.rd P.SEVERITY [s]

/-- A record of a source, not yet in the ring. -/
def Dev.record (d : Dev) (source kind : Nat) (u : Unit') (occ : Nat) (data : List Byte) : EvRec :=
  let t := d.evTime
  { index := 0, source := source, kind := kind, sev := d.severity source, time := t.1, isLocal := t.2, occ := occ,
    unitKind := u.1, unit := u.2, data := fitTo 40 0 data }

/-- The 64 bytes of a record (Table 13-2). -/
def EvRec.bytes (e : EvRec) (gap : Bool) : List Byte :=
  leBytes 4 e.index ++ leBytes 2 e.source ++ leBytes 1 e.kind ++ leBytes 1 e.sev ++ leBytes 8 e.time ++
  leBytes 2 e.occ ++ leBytes 3 (e.unit % 8192 + e.unitKind % 16 * 65536) ++
  leBytes 1 ((if e.isLocal then 1 else 0) + (if gap then 2 else 0)) ++ [0, 0] ++ fitTo 40 0 e.data

/-- The record put in the ring under the next INDEX (R401); the ring keeps its newest 4,096. -/
def Dev.ringPush (d : Dev) (e : EvRec) : Dev × EvRec :=
  let e := { e with index := d.rd P.RING_HEAD }
  let r := d.evt.ring ++ [e]
  let d := { d with evt := { d.evt with ring := r.drop (r.length - 4096) } }
  ((d.bump P.RING_HEAD).bump P.SRC_CNT [e.source], e)

/-- Sources whose records are always logged (R407). -/
def alwaysLogged (s : Nat) : Bool := decide (s ∈ [145, 225, 320, 321, 368])

/-- The record queued for one destination, or dropped (R404). -/
def Dev.queueFor (d : Dev) (e : EvRec) (dst : Nat) : Dev × Bool :=
  if d.rd P.DKIND [dst] = 0 || !bitOf (d.rd P.ROUTE [e.source]) dst then (d, false)
  else
    let q := d.evt.dq.get dst []
    if q.length < 256 then ({ d with evt := { d.evt with dq := d.evt.dq.put dst (q ++ [e]) } }, false)
    else (({ d with evt := { d.evt with gap := dst :: d.evt.gap } }).bump P.EVT_DROP_CNT, true)

/-- The record queued for the log, forced records ahead of the others, or dropped (R407, R408). -/
def Dev.queueLog (d : Dev) (e : EvRec) : Dev × Bool :=
  if !(alwaysLogged e.source || bitOf (d.rd P.ROUTE [e.source]) 4) then (d, false)
  else if d.evt.logQ.length < 64 then
    let q := d.evt.logQ
    let q' := if alwaysLogged e.source then q.filter (·.2) ++ [(e, true)] ++ q.filter (!·.2) else q ++ [(e, false)]
    ({ d with evt := { d.evt with logQ := q' } }, false)
  else (d.bump P.LOG_DROP_CNT, true)

/-- A flag source's record at a set of its flag, under the holdoff (R399): the record to ring, if any. -/
def Dev.setRecord (d : Dev) (f : Flag) (u : Unit') (data : List Byte) : Dev × Option EvRec :=
  let was := d.flag f
  let d := d.markFlag f
  let s := f.home.source
  let e := d.record s (if was then 1 else 0) u (d.occOf f) data
  let h := d.evt.hold.get? s
  let quiet := match h with
    | some h => decide (h.last + ms (d.rd P.EVT_HOLDOFF) ≤ d.clk)
    | none => true
  if !was || quiet then
    ({ d with evt := { d.evt with hold := d.evt.hold.put s ⟨d.clk, none⟩ } }, some e)
  else
    ({ d with evt := { d.evt with hold := d.evt.hold.upd s ⟨d.clk, none⟩ fun h => { h with back := some e } } }, none)

/-- A hardware set of a flag routed to ALARM_N restarts ALARM_HOLD (R127, R406). -/
def Dev.restartHold (d : Dev) (source : Nat) : Dev :=
  if bitOf (d.rd P.ROUTE [source]) 6 then { d with pipe := { d.pipe with alarmAt := some d.clk } } else d

/-- A ringed record routed to its destinations and the log (R402). A drop sets EVT_DROP or LOG_DROP, whose own record
goes on by `next`. -/
def Dev.routeRec (d : Dev) (next : EvRec → Dev → Dev) (e : EvRec) : Dev :=
  let drop (bit : Nat) (d : Dev) : Dev :=
    match (d.restartHold (Flag.evt bit).home.source).setRecord (.evt bit) noUnit [] with
    | (d, some e) => next e d
    | (d, none) => d
  let d := d.each (List.range 4) fun dst d =>
    let (d, lost) := d.queueFor e dst
    if lost then drop 0 d else d
  let (d, lost) := d.queueLog e
  if lost then drop 1 d else d

/-- A record ringed, and routed once recall has ended (R401, R402). The record of a drop is delivered in the same way, at
most `n` deep: within the holdoff a further drop rings nothing. -/
def deliver : Nat → EvRec → Dev → Dev
  | 0, e, d => (d.ringPush e).1
  | n + 1, e, d =>
    let (d, e) := d.ringPush e
    if d.recalling then d else d.routeRec (deliver n) e

/-- The record of a source's happening delivered. -/
def Dev.deliver (d : Dev) (e : EvRec) : Dev := Machine.deliver 4 e d

/-- A hardware set of a flag (R30, R31, R399). -/
def Dev.set (d : Dev) (f : Flag) (u : Unit' := noUnit) (data : List Byte := []) : Dev :=
  match (d.restartHold f.home.source).setRecord f u data with
  | (d, some e) => d.deliver e
  | (d, none) => d

/-- The report of a source that is no flag (R399): KIND 2. -/
def Dev.report (d : Dev) (source : Nat) (u : Unit' := noUnit) (data : List Byte := []) : Dev :=
  d.deliver (d.record source 2 u 0 data)

/-- The transport fields of a COMPLETION record for the host itself (Table 13-3). -/
def hostEventFields (h : HostId) (self : Nat) : List Byte :=
  match h.via with
  | .uplink =>
    [0] ++ leBytes 1 h.uplink ++ leBytes 2 h.port ++ leBytes 2 self ++ leBytes 2 (h.vlan.getD 0) ++
      beBytes 16 (if h.v6 then h.ip else 0xFFFF * 2 ^ 32 + h.ip)
  | .chain => [1, 0xFF, 0, 0] ++ leBytes 2 self ++ List.replicate 18 0
  | .service => [2, 0xFF, 0, 0] ++ leBytes 2 self ++ List.replicate 18 0
  | _ => [3, 0] ++ leBytes 2 h.hid ++ leBytes 2 h.ingress ++ List.replicate 18 0

/-- Numeric codes of the statuses (Table 2-3). -/
def Status.code : Status → Nat
  | .ok => 0x00
  | .busy => 0x01
  | .busyNv => 0x02
  | .deferred => 0x03
  | .moved => 0x10
  | .staleEpoch => 0x11
  | .denied => 0x20
  | .auth => 0x21
  | .duty => 0x22
  | .badParam => 0x30
  | .badOpcode => 0x31
  | .overrun => 0x32
  | .fault => 0x3F

/-- A completion event (R56, R405): the record of source 48, and its copy to the request's
host, which a flooded broadcast does not have. -/
def Dev.complete (d : Dev) (t : Ticket) (st : Status) (det : Nat := 0) (result : List Byte := []) : Dev :=
  let data := leBytes 2 t.opcode ++ leBytes 2 t.seq ++ leBytes 1 st.code ++ [0] ++ leBytes 2 det ++
    hostEventFields t.host d.addr ++ fitTo 8 0 result
  let e := d.record 48 2 noUnit 0 data
  let d' := d.deliver e
  if t.host.via = .flood then d' else d'.emit (.completion t.host ({ e with index := d.rd P.RING_HEAD }.bytes false))

/-! ## Pins -/

/-- A flag source routed to a pin by ROUTE bit `b` has its flag set (R402). -/
def Dev.routed (d : Dev) (b : Nat) : Bool :=
  (List.range 512).any fun s =>
    match flagOfSource s with
    | some f => bitOf (d.rd P.ROUTE [s]) b && d.flag f
    | none => false

/-- A converter channel is a source of ALARM_N (R321). -/
def Dev.convAlarm (d : Dev) : Bool := (List.range 128).any fun n => d.is P.TH_ALARM [n] && decide (d.rd P.TH_STATE [n] = 1)

end Sys2Proof.Machine
end

