-- ==== Sys2Proof/Machine/StoreOps.lean ====
section
/-!
DEFINITION. Sys2Proof/Machine/StoreOps.lean: the record layer of chapter 11 as the other chapters use it: the write
buffer, immediate records, spread counters, area space and what recall chooses.
-/
namespace Sys2Proof.Machine

/-- Bytes an internal record of `n` data bytes takes: whole 16-byte units (R350). -/
def recSize (n : Nat) : Nat := (24 + n + 15) / 16 * 16

/-- First sector and sector count of the internal areas 0 to 7 (Table 11-1). -/
def areaSectors (a : Nat) : Nat × Nat :=
  [(0, 4), (4, 12), (16, 4), (20, 8), (28, 12), (40, 8), (48, 8), (56, 4)].getD a (0, 0)

/-- Areas of the twin scheme (Table 11-1). -/
def twinArea (a : Nat) : Bool := decide (a ∈ [0, 2, 7])

/-- Bytes of records in a sector. -/
def Nv.used (nv : Nv) (s : Nat) : Nat := ((nv.recs.filter fun r => decide (r.sector = s)).map fun r => recSize r.data.length).sum

/-- A sector, erased and in service where nothing is held of it. -/
def Nv.sector (nv : Nv) (s : Nat) : Sector := nv.sectors.get s ⟨0, false⟩

/-- The sectors in service of an area, or of one bank of a twin area (R352). -/
def Nv.areaList (nv : Nv) (a bank : Nat) : List Nat :=
  let (first, n) := areaSectors a
  let l := if twinArea a then (List.range (n / 2)).map (· + first + bank * (n / 2)) else (List.range n).map (· + first)
  l.filter fun s => !(nv.sector s).retired

/-- The erased sectors of an area or bank, lowest erase count first. -/
def Nv.erased (nv : Nv) (a bank : Nat) : List Nat :=
  let l := (nv.areaList a bank).filter fun s => decide (nv.used s = 0)
  let best := (l.map fun s => (nv.sector s).erases).foldl min (2 ^ 32)
  (l.filter fun s => decide ((nv.sector s).erases = best)) ++ l.filter fun s => decide ((nv.sector s).erases ≠ best)

/-- The sector a record of `n` data bytes goes to: the area's newest sector while it has room, else the erased sector
of lowest erase count (R357). -/
def Nv.place (nv : Nv) (a bank n : Nat) : Option Nat :=
  let cur := (nv.recs.filter fun r => decide (r.area = a ∧ (!twinArea a ∨ r.bank = bank))).getLast?.map (·.sector)
  match cur with
  | some s => if nv.used s + recSize n ≤ 16384 && !(nv.sector s).retired then some s else (nv.erased a bank).head?
  | none => (nv.erased a bank).head?

/-- The highest SEQ of a RID in an area, over the records that are whole. -/
def Nv.topSeq (nv : Nv) (a rid : Nat) : Nat :=
  ((nv.recs.filter fun r => r.whole && decide (r.area = a ∧ r.rid = rid)).map (·.seq)).foldl max 0

/-- One record programmed; `none` where the area has no space. -/
def Nv.program (nv : Nv) (b : BufRec) (seq bank batch : Nat) (imm : Bool) : Option Nv :=
  (nv.place b.area bank b.data.length).map fun s =>
    { nv with recs := snoc nv.recs ⟨b.rid, b.area, seq, b.data, imm, bank, batch, true, s⟩ }

/-- A write of a RID: one record in a sequence area, bank 0 and then bank 1 in a twin area (R351, R352). -/
def Nv.write (nv : Nv) (b : BufRec) (batch : Nat) (imm : Bool) : Option Nv :=
  let seq := nv.topSeq b.area b.rid + 1
  if twinArea b.area then (nv.program b seq 0 batch imm).bind fun nv => nv.program b seq 1 batch imm
  else nv.program b seq 0 batch imm

/-- Bytes in the write buffer. -/
def Nv.fill (nv : Nv) : Nat := (nv.buf.map fun b => recSize b.data.length).sum

/-- DATA of a store event (Table 13-3). -/
def nvData (rid seq area : Nat) : List Byte := leBytes 4 rid ++ leBytes 4 seq ++ leBytes 1 area

/-- A commit of the write buffer begins (R353): NV_STATE becomes 2. -/
def Dev.beginCommit (d : Dev) : Dev :=
  let nv := d.nv
  { d with nv := { nv with commit := some ⟨nv.batch, nv.buf, nv.waiting, false⟩, waiting := [], buf := [],
                           batch := nv.batch + 1 } }.wr P.NV_STATE [] 2

/-- The records of one request placed in the write buffer (R354): the buffer is committed first where they do not fit,
and a request above 4 KiB is committed at once. -/
def Dev.buffer (d : Dev) (rs : List BufRec) : Dev :=
  if rs.isEmpty then d
  else
    let size := (rs.map fun b => recSize b.data.length).sum
    let d := if 4096 < d.nv.fill + size && !d.nv.buf.isEmpty && d.nv.commit.isNone then d.beginCommit else d
    let d := { d with nv := { d.nv with
      buf := d.nv.buf ++ rs, bufLast := d.clk, bufFirst := if d.nv.buf.isEmpty then d.clk else d.nv.bufFirst } }
    if 4096 < size && d.nv.commit.isNone then d.beginCommit else d

/-- An immediate record requested (R356), with what its durability completes. -/
def Dev.immediate (d : Dev) (b : BufRec) (after : Then := .none) : Dev :=
  { d with nv := { d.nv with imm := snoc d.nv.imm ⟨d.nv.immNum, b, after⟩, immNum := d.nv.immNum + 1 } }

/-- A spread counter's increment (R359): the value rises at once and its bit's program is immediate. -/
def Dev.count (d : Dev) (i : Nat) : Dev :=
  (d.bump P.COUNTER [i]).immediate ⟨0xF80000 + i, 3, []⟩ (.counter i)

/-- The valid records: whole, and of a batch whose closing record stands (R350, R353). -/
def Nv.valid (nv : Nv) (r : NvRec) : Bool :=
  r.whole && (r.imm || decide (r.rid = 1 ∧ r.area = 1) ||
    nv.recs.any fun c => c.whole && decide (c.area = 1 ∧ c.rid = 1 ∧ leAt c.data 0 4 = r.batch))

/-- What recall finds of two twin copies (Table 11-5). -/
inductive TwinEvent where
  /-- No event. -/
  | none
  /-- TORN counted. -/
  | torn
  /-- TWIN_TIE. -/
  | tie
deriving DecidableEq, Repr

/-- The copy of a twin RID in a bank: the one written last. -/
def Nv.copy (nv : Nv) (a rid bank : Nat) : Option NvRec :=
  (nv.recs.filter fun r => decide (r.area = a ∧ r.rid = rid ∧ r.bank = bank)).getLast?

/-- Choice between twin copies (Table 11-5). -/
def Nv.twinChoice (nv : Nv) (a rid : Nat) : Option NvRec × TwinEvent :=
  match (nv.copy a rid 0).filter (·.whole), (nv.copy a rid 1).filter (·.whole) with
  | some x, some y =>
    if y.seq < x.seq then (some x, .torn)
    else if x.seq < y.seq then (some y, .torn)
    else if x.data = y.data then (some x, .none)
    else (some x, .tie)
  | some x, none => (some x, .torn)
  | none, some y => (some y, .torn)
  | none, none => (none, .torn)

/-- The valid records of a RID with its highest SEQ, in the order of their flash addresses. -/
def Nv.tops (nv : Nv) (a rid : Nat) : List NvRec :=
  let c := nv.recs.filter fun r => nv.valid r && decide (r.area = a ∧ r.rid = rid)
  let top : Nat := (c.map (·.seq)).foldl max 0
  let l := c.filter fun r : NvRec => decide (r.seq = top)
  (List.range 64).flatMap fun s => l.filter fun r : NvRec => decide (r.sector = s)

/-- The winning record of a RID in an area: in a sequence area the highest SEQ, of equals the lower flash address
(R351); in a twin area the choice of Table 11-5. -/
def Nv.winner (nv : Nv) (a rid : Nat) : Option NvRec :=
  if twinArea a then (nv.twinChoice a rid).1 else (nv.tops a rid).head?

/-- The RIDs that stand in an area. -/
def Nv.rids (nv : Nv) (a : Nat) : List Nat :=
  ((nv.recs.filter fun r => decide (r.area = a)).map (·.rid)).eraseDups

/-- A number of `n` data bytes: the winner's data, or none. -/
def Nv.stored (nv : Nv) (a rid : Nat) : Option (List Byte) := (nv.winner a rid).map (·.data)

/-- An area without an erased sector and without room cannot take a record of `n` bytes (R357). -/
def Dev.areaFull (d : Dev) (a n : Nat) : Bool := (d.nv.place a 0 n).isNone

/-- A request that would buffer a record of `n` bytes for an area is refused during recall and a commit (R355, R362), and
where the area has no space for it (R357). -/
def Dev.storeRefuses (d : Dev) (a n : Nat) : Option Answer :=
  if d.recalling then some ⟨.busyNv, 0x3301, []⟩
  else if d.nv.commit.isSome then some ⟨.busyNv, 0x3302, []⟩
  else if d.areaFull a n then some ⟨.fault, 0x3304, []⟩
  else none

/-- The refusal of a request that would store a parameter. -/
def Dev.storeBusy (d : Dev) : Option Answer := d.storeRefuses 1 4

/-- The bulk store is discovered and not lost (R363, R348). -/
def Dev.bulkUp (d : Dev) : Bool := d.is P.BULK_PRESENT

/-- The newest valid bulk record of a RID (R364). -/
def Nv.bulkRec (nv : Nv) (rid : Nat) : Option BulkRec :=
  let c := nv.bulk.filter fun r => r.indexed && decide (r.rid = rid)
  let top := (c.map (·.seq)).foldl max 0
  c.find? fun r => decide (r.seq = top)

/-- The newest valid bulk record of a RID without an uncorrectable unit (R364). -/
def Nv.bulkGood (nv : Nv) (rid : Nat) : Option BulkRec :=
  let c := nv.bulk.filter fun r => r.indexed && !r.damaged && decide (r.rid = rid)
  let top : Nat := (c.map (·.seq)).foldl max 0
  c.find? fun r => decide (r.seq = top)

/-- The newest record of a RID is read: an uncorrectable unit sets BULK_ERR and counts (R364). -/
def Dev.bulkRead (d : Dev) (rid : Nat) : Dev :=
  match d.nv.bulkRec rid with
  | some r => if r.damaged then (d.bump P.BULK_RD_ERR).set (.nv 8) noUnit (nvData rid r.seq r.area) else d
  | none => d

/-- A bulk write requested (R364); BULK_RECORD_WRITE commits it. -/
def Dev.bulkWrite (d : Dev) (rid area : Nat) (data : List Byte) (why : BulkWhy) : Dev :=
  { d with nv := { d.nv with bulkQ := snoc d.nv.bulkQ ⟨rid, area, data, why⟩ } }

/-- A bulk record with its data programmed, verified and committed by its index record in area 6 (R364). -/
def Dev.bulkCommit (d : Dev) (rid area : Nat) (data : List Byte) : Dev :=
  let seq := ((d.nv.bulk.filter fun r => decide (r.rid = rid)).map (·.seq)).foldl max 0 + 1
  let nv := { d.nv with bulk := snoc d.nv.bulk ⟨rid, area, seq, data, true, false⟩ }
  let idx : BufRec := ⟨rid, 6, leBytes 4 seq ++ leBytes 4 data.length ++ leBytes 4 (crc32 data)⟩
  { d with nv := (nv.write idx 0 true).getD nv }

/-- A parameter's record in area 1 (R350): its word of persistent fields. -/
def paramRecord (a w : Nat) : BufRec := ⟨a, 1, leBytes 4 w⟩

/-- A table's record in area 1. -/
def tableRecord (t : Nat) (bs : List Byte) : BufRec := ⟨0xE00000 + t, 1, bs⟩

/-- A scratch page's record in area 5. -/
def pageRecord (p : Nat) (bs : List Byte) : BufRec := ⟨0xF00000 + p, 5, bs⟩

/-- The word a parameter holds, assembled from its fields (R29). -/
def Dev.word (d : Dev) (a : Nat) : Nat := ((rowsAt a).map fun p => d.rd p.1 p.2 * 2 ^ p.1.lo).sum

/-- The records of persistent parameters a request has written (R349). -/
def Dev.storeParams (d : Dev) (as : List Nat) : Dev := d.buffer (as.map fun a => paramRecord a (d.word a))

end Sys2Proof.Machine
end

