-- ==== Sys2Proof/Machine/F32.lean ====
section
/-!
DEFINITION. Sys2Proof/Machine/F32.lean: IEEE 754 binary32 arithmetic, round to nearest even, over exact rationals:
the arithmetic of the health model (R409), the drift model and the seam solve, and the binary32 fields of records.
-/
namespace Sys2Proof

/-- A binary32 value by its bits. -/
abbrev F32 := BitVec 32

namespace F32

/-- What the bits of a binary32 stand for; a finite value is `num / den`, the sign of a zero kept apart. -/
inductive Val where
  | nan
  | inf (neg : Bool)
  | fin (neg : Bool) (num den : Nat)
deriving DecidableEq, Repr

/-- The default quiet NaN. -/
def nan : F32 := 0x7FC00000#32

/-- The bits of an infinity. -/
def inf (neg : Bool) : F32 := if neg then 0xFF800000#32 else 0x7F800000#32

/-- The value of the bits. -/
def val (x : F32) : Val :=
  let neg := x.getLsbD 31
  let e := x.toNat / 2 ^ 23 % 256
  let m := x.toNat % 2 ^ 23
  if e = 255 then (if m = 0 then .inf neg else .nan)
  else if e = 0 then .fin neg m (2 ^ 149)
  else if 150 ≤ e then .fin neg ((2 ^ 23 + m) * 2 ^ (e - 150)) 1
  else .fin neg (2 ^ 23 + m) (2 ^ (150 - e))

/-- Half-even rounding of `p / q`. -/
def divEven (p q : Nat) : Nat :=
  let d := p / q
  let r := 2 * (p % q)
  if r < q then d else if q < r then d + 1 else if d % 2 = 0 then d else d + 1

/-- The exponent `e + 149` of the last place of `p / q` in binary32, at least 0. -/
def lastPlace (p q : Nat) : Nat :=
  let l := Nat.log2 (p * 2 ^ 200 / q)
  if l < 200 + 23 - 149 then 0 else l + 149 - 223

/-- The binary32 nearest `p / q`. -/
def ofRat (neg : Bool) (p q : Nat) : F32 :=
  let s := if neg then 2 ^ 31 else 0
  if p = 0 ∨ q = 0 then BitVec.ofNat 32 s
  else
    let u := lastPlace p q
    let m := if 149 ≤ u then divEven p (q * 2 ^ (u - 149)) else divEven (p * 2 ^ (149 - u)) q
    let (m, u) := if m = 2 ^ 24 then (2 ^ 23, u + 1) else (m, u)
    if m < 2 ^ 23 then BitVec.ofNat 32 (s + m)
    else if 254 ≤ u then inf neg
    else BitVec.ofNat 32 (s + (u + 1) * 2 ^ 23 + (m - 2 ^ 23))

/-- The binary32 nearest an integer ratio. -/
def ofIntRat (i : Int) (q : Nat) : F32 := ofRat (decide (i < 0)) i.natAbs q

/-- The binary32 nearest an integer. -/
def ofInt (i : Int) : F32 := ofIntRat i 1

/-- The binary32 nearest a natural number. -/
def ofNat (n : Nat) : F32 := ofInt n

/-- Sign-carrying numerator. -/
def signed (neg : Bool) (n : Nat) : Int := if neg then -(n : Int) else n

/-- Negation. -/
def neg (x : F32) : F32 := x ^^^ 0x80000000#32

/-- Absolute value. -/
def abs (x : F32) : F32 := x &&& 0x7FFFFFFF#32

/-- Addition. -/
def add (x y : F32) : F32 :=
  match val x, val y with
  | .nan, _ => nan
  | _, .nan => nan
  | .inf a, .inf b => if a = b then inf a else nan
  | .inf a, _ => inf a
  | _, .inf b => inf b
  | .fin a n d, .fin b m e =>
    let s := signed a n * e + signed b m * d
    if s = 0 then ofRat (a && b) 0 1 else ofIntRat s (d * e)

/-- Subtraction. -/
def sub (x y : F32) : F32 := add x (neg y)

/-- Multiplication. -/
def mul (x y : F32) : F32 :=
  match val x, val y with
  | .nan, _ => nan
  | _, .nan => nan
  | .inf a, .inf b => inf (a != b)
  | .inf a, .fin b m _ => if m = 0 then nan else inf (a != b)
  | .fin a n _, .inf b => if n = 0 then nan else inf (a != b)
  | .fin a n d, .fin b m e => ofRat (a != b) (n * m) (d * e)

/-- Division. -/
def div (x y : F32) : F32 :=
  match val x, val y with
  | .nan, _ => nan
  | _, .nan => nan
  | .inf _, .inf _ => nan
  | .inf a, .fin b _ _ => inf (a != b)
  | .fin a _ _, .inf b => ofRat (a != b) 0 1
  | .fin a n d, .fin b m e =>
    if m = 0 then (if n = 0 then nan else inf (a != b)) else ofRat (a != b) (n * e) (d * m)

/-- The integer square root over `k` binary digits. -/
def isqrt : Nat → Nat → Nat
  | 0, _ => 0
  | k + 1, n =>
    let r := 2 * isqrt k (n / 4)
    if (r + 1) * (r + 1) ≤ n then r + 1 else r

/-- Square root: 64 further bits and a sticky bit decide the rounding. -/
def sqrt (x : F32) : F32 :=
  match val x with
  | .nan => nan
  | .inf a => if a then nan else inf false
  | .fin a n d =>
    if n = 0 then x
    else if a then nan
    else
      let k := n * d * 2 ^ 400
      let r := isqrt 512 k
      ofRat false (2 * r + (if r * r = k then 0 else 1)) (2 * d * 2 ^ 200)

/-- Strictly less. -/
def lt (x y : F32) : Bool :=
  match val x, val y with
  | .nan, _ => false
  | _, .nan => false
  | .inf a, .inf b => a && !b
  | .inf a, _ => a
  | _, .inf b => !b
  | .fin a n d, .fin b m e => decide (signed a n * e < signed b m * d)

/-- Less or equal. -/
def le (x y : F32) : Bool :=
  match val x, val y with
  | .nan, _ => false
  | _, .nan => false
  | _, _ => !lt y x

/-- The lesser of two values. -/
def min (x y : F32) : F32 := if lt y x then y else x

/-- The greater of two values. -/
def max (x y : F32) : F32 := if lt x y then y else x

/-- The nearest integer, halves to even; 0 for what is not finite. -/
def toInt (x : F32) : Int :=
  match val x with
  | .fin a n d => signed a (divEven n d)
  | _ => 0

/-- The integer part toward minus infinity; 0 for what is not finite. -/
def floor (x : F32) : Int :=
  match val x with
  | .fin a n d => signed a n / d
  | _ => 0

/-- Zero. -/
def zero : F32 := 0#32

/-- One. -/
def one : F32 := 0x3F800000#32

/-- Sum in list order. -/
def sum (l : List F32) : F32 := l.foldl add zero

/-- The exact value of a finite binary32 as numerator and denominator; 0 where it is not finite. -/
def exact (x : F32) : Int × Nat :=
  match val x with
  | .fin n p q => (if n then -(p : Int) else p, q)
  | _ => (0, 1)

/-- ⌊(x + a / b) × m + ½⌋ over the exact value of x. -/
def scaled (x : F32) (m : Nat) (a : Int) (b : Nat) : Int :=
  let (p, q) := exact x
  (2 * (p * b + a * q) * m + q * b) / (2 * ((q * b : Nat) : Int))

end F32

end Sys2Proof
end

