-- ==== Sys2Proof/Machine/Transc.lean ====
section
/-!
DEFINITION. Sys2Proof/Machine/Transc.lean: the binary32 powers and cosines of R189 and the logarithm of R308, each the binary32 nearest
its exact value (log 21), over integers in fixed point.
-/
namespace Sys2Proof.F32

/-! ## Powers with a rational exponent -/

/-- The largest `r` of at most `k` further binary digits behind `r` with r ^ q ≤ x. -/
def rootBits (q x : Nat) : Nat → Nat → Nat
  | 0, r => r
  | k + 1, r => rootBits q x k (if (r + 2 ^ k) ^ q ≤ x then r + 2 ^ k else r)

/-- The binary32 nearest (n / d) ^ (p / q), for n, d and q above 0: 40 binary digits of the root, and a sticky digit. -/
def rootRat (n d p q : Nat) : F32 :=
  let low : Int := (Nat.log2 (n * 2 ^ 200 / d) : Int) - 200
  let k := (40 - low * p / q).toNat
  let num := n ^ p * 2 ^ (k * q)
  let den := d ^ p
  let r := rootBits q (num / den) (((low + 1) * p / q).toNat + k + 2) 0
  ofRat false (2 * r + (if r ^ q * den = num then 0 else 1)) (2 * 2 ^ k)

/-- x ^ (p / q) in binary32, for q above 0. R189 states no power of a negative number: it is free (log 21). -/
def powRat (x : F32) (p q : Nat) : F32 :=
  match val x with
  | .nan => nan
  | .inf a => if a then Machine.powOfNegative x p q else x
  | .fin a n d => if n = 0 then zero else if a then Machine.powOfNegative x p q else rootRat n d p q

/-! ## Cosine and logarithm -/

/-- One in fixed point. -/
def fixOne : Nat := 2 ^ 160

/-- Σ t ^ (2i + 1) / (2i + 1) over `n` terms in fixed point, with every second term negative where `alt`. -/
def oddSeries (alt : Bool) (t : Nat) (n : Nat) : Int :=
  ((List.range n).map fun i =>
    let term : Int := (t ^ (2 * i + 1) / fixOne ^ (2 * i) / (2 * i + 1) : Nat)
    if alt && decide (i % 2 = 1) then -term else term).sum

/-- π in fixed point, by Machin's formula. -/
def fixPi : Int := 16 * oddSeries true (fixOne / 5) 40 - 4 * oddSeries true (fixOne / 239) 15

/-- The terms of the cosine series of an angle, in fixed point, from the term in hand on. -/
def cosTerms (sq : Nat) : Nat → Nat → Int → Int
  | 0, _, _ => 0
  | n + 1, i, t => t + cosTerms sq n (i + 1) (-(t * sq / fixOne) / ((2 * i + 1) * (2 * i + 2) : Nat))

/-- The cosine of an angle of up to 90° in 0.5°, in binary32. -/
def cosHalf (h : Nat) : F32 :=
  let a := (fixPi * h / 360).toNat
  let c := cosTerms (a * a / fixOne) 32 0 fixOne
  if 180 ≤ h then zero else ofIntRat c fixOne

/-- The cosine of an angle in 0.01°, in binary32. -/
def cosCenti (c : Int) : F32 :=
  let c := c.natAbs % 36000
  let a := (fixPi * c / 18000).toNat
  if c = 9000 || c = 27000 then zero else ofIntRat (cosTerms (a * a / fixOne) 48 0 fixOne) fixOne

/-- The sine of an angle in 0.01°, in binary32. -/
def sinCenti (c : Int) : F32 := cosCenti (c - 9000)

/-- The natural logarithm of n / d in fixed point: that of its power of two and that of the rest, by the series of artanh. -/
def fixLn (n d : Nat) : Int :=
  let l := Nat.log2 (n * 2 ^ 200 / d)
  let e : Int := (l : Int) - 200
  let m := n * 2 ^ 200 * fixOne / d / 2 ^ l
  2 * oddSeries false ((m - fixOne) * fixOne / (m + fixOne)) 60 + e * (2 * oddSeries false (fixOne / 3) 60)

/-- The natural logarithm of a positive number in binary32; R308 takes none of another. -/
def ln (x : F32) : F32 :=
  match val x with
  | .fin false n d => if n = 0 then nan else ofIntRat (fixLn n d) fixOne
  | _ => nan

end Sys2Proof.F32
end

