-- ==== Sys2Proof/Machine/Converter.lean ====
section
/-!
DEFINITION. Sys2Proof/Machine/Converter.lean: the modulators (R301 to R322): results, engineering values, thresholds,
the data register, sequences, injected conversions and system calibration.
-/
namespace Sys2Proof.Machine

/-! ## Modulators -/

/-- A modulator. -/
def Dev.mod (d : Dev) (m : Nat) : Mod := d.conv.mods.get m ⟨[], none, none, 0, false, []⟩

/-- How many injected conversions of a modulator have begun: the head of the queue, unless a conversion of the Doze watch
is still in progress (R316, R322). -/
def Mod.begun (x : Mod) : Nat := if x.watch.isEmpty then 1 else 0

/-- A modulator changed; INJ_QUEUED counts the requests queued and not begun. -/
def Dev.setMod (d : Dev) (m : Nat) (x : Mod) : Dev :=
  { d with conv := { d.conv with mods := d.conv.mods.put m x } }.wr P.INJ_QUEUED [m] (x.inj.length - x.begun)

/-- A reference channel (R301). -/
def isReference (n : Nat) : Bool := decide (30 ≤ n % 32)

/-- The odd half of a differential pair (R302). -/
def Dev.pairHalf (d : Dev) (n : Nat) : Bool := decide (n % 2 = 1) && d.is P.DIFF [n - 1]

/-- A flag of the converter group set for a channel. -/
def Dev.setConv (d : Dev) (n ch : Nat) : Dev := d.set (.conv n) (7, ch)

/-- Conversion time of Table 9-1 in 0.1 ms, with the open-wire check where it runs. -/
def convTime (odr : Nat) (ow : Bool) : Nat :=
  [12002, 6002, 3002, 1802, 1202, 602, 302, 122, 62, 32].getD odr 12002 + (if ow then 64 else 0)

/-! ## Results (R305 to R308) -/

/-- OFS and GAIN_C of a modulator at a GAIN (table 0x3114 + m). -/
def Dev.coef (d : Dev) (m gain : Nat) : Int × Nat :=
  (signedOf 32 (d.tblNat (0x3114 + m) (8 * gain) 4), d.tblNat (0x3114 + m) (8 * gain + 4) 4)

/-- The ends of a channel's code range. -/
def Dev.codeRange (d : Dev) (n : Nat) : Int × Int := if d.is P.DIFF [n] then (-0x800000, 0x7FFFFF) else (0, 0xFFFFFF)

/-- The code of a raw result (R305). -/
def Dev.codeOf (d : Dev) (n : Nat) (raw : Int) : Int :=
  let (ofs, g) := d.coef (n / 32) (d.rd P.GAIN [n])
  let (lo, hi) := d.codeRange n
  clampInt lo hi (rndDiv ((raw - ofs) * g) (2 ^ 22))

/-- What a conversion delivers: raw result, overload of a reference channel, raw results of the open-wire check. -/
structure Sample where
  /-- r. -/
  raw : Int
  /-- The overload detector saw more than 105 % of full scale. -/
  isOver : Bool
  /-- Raw result with the pull-up on the channel's pin. -/
  up : Int
  /-- Raw result with the currents exchanged. -/
  down : Int

/-- Open wire (R307). -/
def Dev.openWire (d : Dev) (n : Nat) (s : Sample) : Bool :=
  d.is P.OW_EN [n] && !isReference n &&
  (decide (d.codeOf n s.up = (d.codeRange n).2) ||
   decide ((d.rd P.OW_LIM : Int) * 2 ^ 24 < 100 * (d.codeOf n s.up - d.codeOf n s.down)))

/-- The Callendar–Van Dusen resistance at `t` mK above 0 °C, over R0, as numerator and denominator; A and B as exact
ratios. -/
def cvd (a b : Int × Nat) (t : Int) : Int × Nat :=
  let q : Nat := a.2 * b.2 * 10 ^ 27
  let lin : Int := a.1 * t * ((b.2 * 10 ^ 24 : Nat) : Int)
  let sq : Int := b.1 * t * t * ((a.2 * 10 ^ 21 : Nat) : Int)
  let c : Int := if t < 0 then -(4183 * (t - 100000) * t * t * t * ((a.2 * b.2 : Nat) : Int)) else 0
  ((q : Int) + lin + sq + c, q)

/-- The largest `t` in mK between two bounds with CVD(t) at most R / R0, by halving `n` times. -/
def cvdSearch (a b r0 r : Int × Nat) : Nat → Int → Int → Int
  | 0, lo, _ => lo
  | n + 1, lo, hi =>
    let mid := (lo + hi) / 2
    let (p, q) := cvd a b mid
    if p * r0.1 * (r.2 : Int) ≤ r.1 * ((r0.2 * q : Nat) : Int) then cvdSearch a b r0 r n mid hi
    else cvdSearch a b r0 r n lo mid

/-- An RTD's temperature in 0.01 K; none where R lies outside what −200 °C to +850 °C give (R308). -/
def rtdTemp (r p1 p2 p3 : F32) : Option Nat :=
  let a := F32.exact p2
  let b := F32.exact p3
  let r0 := F32.exact p1
  let re := F32.exact r
  let side (t : Int) : Int × Int := let (p, q) := cvd a b t; (p * r0.1 * (re.2 : Int), re.1 * ((r0.2 * q : Nat) : Int))
  let lo := side (-200000)
  let hi := side 850000
  if r0.1 ≤ 0 ∨ lo.2 < lo.1 ∨ hi.1 < hi.2 then none
  else some (natHalf (cvdSearch a b r0 re 21 (-200000) 850001 + 273150).toNat 10)

/-- An NTC's temperature in 0.01 K; none where 1/T is not positive (R308). -/
def ntcTemp (r c1 c2 c3 : F32) : Option Nat :=
  let l := F32.ln r
  let inv := F32.add (F32.add c1 (F32.mul c2 l)) (F32.mul c3 (F32.mul l (F32.mul l l)))
  if F32.le inv F32.zero then none else some (F32.scaled (F32.div F32.one inv) 100 0 1).toNat

/-- R of a code in binary32, in mΩ: x × R_REF / 2^GAIN (R308, log 214). -/
def Dev.resistance (d : Dev) (n : Nat) (c : Int) : F32 :=
  let x := F32.ofIntRat c (if d.is P.DIFF [n] then 2 ^ 23 else 2 ^ 24)
  F32.div (F32.mul x (F32.ofNat (leAt (d.tblRead 0x3110 (16 * n) 4) 0 4))) (F32.ofNat (2 ^ d.rd P.GAIN [n]))

/-- The engineering value of a code; none where it cannot be formed (R308). -/
def Dev.engineering (d : Dev) (n : Nat) (c : Int) : Option Nat :=
  let kind := d.rd P.KIND [n]
  if kind = 0 then some (wrapInt 32 c)
  else
    let e := d.tblRead 0x3110 (16 * n) 16
    let f (i : Nat) : F32 := BitVec.ofNat 32 (leAt e (4 * i) 4)
    let r := d.resistance n c
    if c < 0 ∨ leAt e 0 4 = 0 then none
    else if kind = 1 then some ((F32.scaled r 1 0 1).toNat % 2 ^ 32)
    else if c = 0 then none
    else
      let ohm := F32.div r (F32.ofNat 1000)
      if kind = 2 then rtdTemp ohm (f 1) (f 2) (f 3) else ntcTemp ohm (f 1) (f 2) (f 3)

/-! ## Thresholds (R320) -/

/-- The value a channel's thresholds are compared with. -/
def Dev.thValue (d : Dev) (n : Nat) (c : Int) (eng : Nat) : Int :=
  if 2 ≤ d.rd P.KIND [n] then eng
  else if d.is P.DIFF [n] then signedOf 16 (wrapInt 24 c / 256) else wrapInt 24 c / 256

/-- A threshold as it is compared; none where it is off. -/
def Dev.threshold (d : Dev) (n : Nat) (r : Row) : Option Int :=
  let v := d.rd r [n]
  if v = 0 then none
  else if d.rd P.KIND [n] < 2 && d.is P.DIFF [n] then some (signedOf 16 v) else some v

/-- TH_STATE after a valid result; with WAKE_ON_TH the high state of a channel with TH_ALARM is a wake event (R394). -/
def Dev.compare (d : Dev) (n : Nat) (v : Int) : Dev :=
  let hi := d.threshold n P.TH_HI
  let lo := d.threshold n P.TH_LO
  let hyst : Int := d.rd P.TH_HYST
  let st := d.rd P.TH_STATE [n]
  let st := if st = 1 then (match hi with | some h => if v < h - hyst then 0 else 1 | none => 0)
    else if st = 2 then (match lo with | some l => if l + hyst < v then 0 else 2 | none => 0) else 0
  let was := d.rd P.TH_STATE [n]
  let fresh := decide (was = 0) || (decide (was = 1) && hi.isNone) || (decide (was = 2) && lo.isNone)
  if st = 0 && fresh && (match hi with | some h => decide (h ≤ v) | none => false) then
    let d := (d.wr P.TH_STATE [n] 1).setConv 5 n
    if d.is P.WAKE_ON_TH && d.is P.TH_ALARM [n] then d.wakeEvent 3 else d
  else if st = 0 && fresh && (match lo with | some l => decide (v ≤ l) | none => false) then (d.wr P.TH_STATE [n] 2).setConv 6 n
  else d.wr P.TH_STATE [n] st

/-- CAVITY_T: the mean of CH_ENG over the channels of CAVITY_MASK with VALID; unchanged where there is none
(Table 6-14). -/
def Dev.refreshCavity (d : Dev) : Dev :=
  let l := (List.range 128).filter fun n => bitOf (d.rd P.CAVITY_MASK [n / 32]) (n % 32) && d.is P.VALID [n]
  if l.isEmpty then d else d.wr P.CAVITY_T [] (natHalf ((l.map fun n => d.rd P.CH_ENG [n]).sum) l.length)

/-- A result in the channel store, its open-wire check known (R309): CH_CODE, CH_ENG, flags, thresholds. -/
def Dev.storeAs (d : Dev) (n : Nat) (s : Sample) (inj ow : Bool) : Dev :=
  let c := d.codeOf n s.raw
  let ref := isReference n && s.isOver
  let clip := !isReference n && (decide (c = (d.codeRange n).1) || decide (c = (d.codeRange n).2))
  let eng := d.engineering n c
  let valid := eng.isSome && !ow && !ref && !clip
  let b (x : Bool) : Nat := if x then 1 else 0
  let d := d.wrs [(P.CODE, [n], wrapInt 24 c), (P.CH_OW, [n], b ow), (P.CH_REF_OVR, [n], b ref), (P.CH_CLIP, [n], b clip),
    (P.VALID, [n], b valid), (P.CH_INJ, [n], b inj), (P.CH_ENG, [n], if valid || decide (d.rd P.KIND [n] = 0) then eng.getD 0 else 0)]
  let d := if ow then d.setConv 2 n else d
  let d := if ref then d.setConv 3 n else d
  let d := if clip then d.setConv 4 n else d
  let d := if valid then d.compare n (d.thValue n c (eng.getD 0)) else d
  d.refreshCavity

/-- A result of a conversion with its channel's OW_EN (R307, R309). -/
def Dev.storeResult (d : Dev) (n : Nat) (s : Sample) (inj : Bool) : Dev := d.storeAs n s inj (d.openWire n s)

/-! ## The data register (R310 to R312) -/

/-- A channel's latest result enters DATA of its modulator, with its entry. -/
def Dev.enterData (d : Dev) (n entry : Nat) (inj : Bool) : Dev :=
  let m := n / 32
  let code := d.rd P.CODE [n]
  let v := if d.is P.ALIGN [m] then code * 256
    else if d.is P.DIFF [n] then wrapInt 32 (signedOf 24 code) else code
  let x := d.mod m
  let desc := n + (if inj then 128 else 0) + 256 * entry + 2 ^ 14 * d.rd P.CH_OW [n] + 2 ^ 15 * d.rd P.CH_REF_OVR [n] +
    2 ^ 16 * d.rd P.CH_CLIP [n]
  let d := if x.untaken then (d.bump P.DATA_OVR_CNT [m]).setConv 0 n else d
  (d.setMod m { d.mod m with desc := desc, untaken := true }).wr P.DATA [m] v

/-- A read of DATA takes the result and latches TAG (R311, R312). -/
def Dev.takeData (d : Dev) (m : Nat) : Nat × Dev :=
  let x := d.mod m
  let t := x.desc
  let d := d.wrs [(P.CH, [m], bitsOf t 0 7), (P.DD_INJ, [m], bitsOf t 7 1), (P.DD_ENTRY, [m], bitsOf t 8 5),
    (P.DD_OW, [m], bitsOf t 14 1), (P.DD_REF_OVR, [m], bitsOf t 15 1), (P.DD_CLIP, [m], bitsOf t 16 1),
    (P.FRESH, [m], if x.untaken then 1 else 0)]
  (d.rd P.DATA [m], d.setMod m { d.mod m with untaken := false })

/-! ## Sequences (R313 to R315) -/

/-- Channel and REG of an entry of a sequence. -/
def Dev.seqEntry (d : Dev) (m i : Nat) : Nat × Bool :=
  let b := byteAt (d.tblRead (0x3100 + m) (2 * i) 1) 0
  (b % 128, bitOf b 7)

/-- SEQ_GO reads 1 while RUN or PEND. -/
def Dev.seqGo (d : Dev) (m : Nat) : Dev := d.put P.SEQ_GO [m] (d.is P.RUN [m] || d.is P.PEND [m])

/-- A calibration step that runs, or waits, occupies the modulator. -/
def Dev.calStep (d : Dev) (m : Nat) : Bool := (d.mod m).cal.isSome

/-- A start (R313, R314): the checks. -/
def Dev.startCheck (d : Dev) (m : Nat) : Option Answer :=
  if d.recalling then some ⟨.busyNv, 0x3301, []⟩
  else if d.rd P.SEQ_LEN [m] = 0 then some ⟨.badParam, 0x3101, []⟩ else none

/-- A start: begins a run, is latched once, or is lost. -/
def Dev.startSeq (d : Dev) (m : Nat) : Dev :=
  if d.is P.PEND [m] then (d.bump P.START_OVR_CNT [m]).setConv 1 (32 * m)
  else if d.is P.RUN [m] || ((d.mod m).cal.any fun c => !c.waiting) then (d.put P.PEND [m] true).seqGo m
  else ((d.put P.RUN [m] true).wr P.SEQ_ENTRY [m] 0).seqGo m

/-- The run goes on to its next entry, or ends (R314, R315). -/
def Dev.nextEntry (d : Dev) (m : Nat) : Dev :=
  let e := d.rd P.SEQ_ENTRY [m] + 1
  if e < d.rd P.SEQ_LEN [m] then d.wr P.SEQ_ENTRY [m] e
  else if d.is P.CONT [m] || d.is P.PEND [m] then ((d.put P.PEND [m] false).wr P.SEQ_ENTRY [m] 0).seqGo m
  else ((d.put P.RUN [m] false).wr P.SEQ_ENTRY [m] 0).seqGo m

/-! ## Injected conversions (R316) -/

/-- A request put in the queue of its modulator, or merged with one queued and not begun. -/
def Dev.inject (d : Dev) (q : Inj) : Dev :=
  let m := q.ch / 32
  let x := d.mod m
  let tail := x.inj.drop x.begun
  if tail.any fun p => decide (p.ch = q.ch) then
    d.setMod m { x with inj := x.inj.take x.begun ++ tail.map fun p =>
      if p.ch = q.ch then { p with host := p.host || q.host, cores := p.cores ++ q.cores } else p }
  else d.setMod m { x with inj := snoc x.inj q }

/-- CAL_STATE follows the step in hand and the kept zero. -/
def Dev.calState (d : Dev) (m : Nat) : Dev :=
  let x := d.mod m
  d.wr P.CAL_STATE [m]
    (match x.cal with
     | some c => if c.waiting then 4 else if c.step = 0 then 1 else 3
     | none => if x.zero.isSome then 2 else 0)

/-! ## System calibration (R318) -/

/-- Coefficients written for a modulator and GAIN, and to the store's area 2. -/
def Dev.setCoef (d : Dev) (m gain : Nat) (ofs : Int) (g : Nat) : Dev :=
  let bs := leBytes 4 (wrapInt 32 ofs) ++ leBytes 4 g
  (d.tblWrite (0x3114 + m) (8 * gain) bs).immediate ⟨0x100 + 8 * m + gain, 2, bs⟩

/-- The factory coefficients of a modulator and GAIN: its factory record in area 2, or unit gain (R305). -/
def Dev.factoryCoef (d : Dev) (m gain : Nat) : Int × Nat :=
  match d.nv.stored 2 (0x200 + 8 * m + gain) with
  | some bs => (signedOf 32 (leAt bs 0 4), leAt bs 4 4)
  | none => (0, 0x400000)

/-- The mean of eight raw results, rounded half away from zero. -/
def meanRaw (l : List Int) : Int := rndDiv l.sum l.length

/-- A step is over: the modulator goes on, and a start latched meanwhile begins (Table 9-3). -/
def Dev.calOver (d : Dev) (m : Nat) : Dev :=
  let d := (d.setMod m { d.mod m with cal := none }).calState m
  if d.is P.PEND [m] && !d.is P.RUN [m] then
    (((d.put P.PEND [m] false).put P.RUN [m] true).wr P.SEQ_ENTRY [m] 0).seqGo m
  else d

/-- A step of CONV_CALIBRATE begins: 0 and 1 convert, 2 restores the factory coefficients and 3 discards a kept zero at
once (R318). -/
def Dev.calRun (d : Dev) (m : Nat) (c : CalStep) : Dev :=
  if c.step ≤ 1 then (d.setMod m { d.mod m with cal := some { c with waiting := false } }).calState m
  else if c.step = 2 then
    let gain := d.rd P.GAIN [c.ch]
    let (ofs, g) := d.factoryCoef m gain
    ((d.setCoef m gain ofs g).calOver m).complete c.ticket .ok
  else ((d.setMod m { d.mod m with zero := none }).calOver m).complete c.ticket .ok

/-- A step that waited begins once the injected queue is empty (R319). -/
def Dev.calBegin (d : Dev) (m : Nat) : Dev :=
  match (d.mod m).cal with
  | some c => if c.waiting && (d.mod m).inj.isEmpty then d.calRun m c else d
  | none => d

/-- An injected conversion of the head of the queue has ended: its result lands and serves every requester. -/
def Dev.endInjected (d : Dev) (m : Nat) (q : Inj) (s : Sample) : Dev × List (Nat × Option Nat) :=
  let d := (d.storeResult q.ch s true).bump P.INJ_CNT [m]
  let d := d.setMod m { d.mod m with inj := (d.mod m).inj.drop 1 }
  let d := if q.host then (d.enterData q.ch 0 true).put P.INJ_GO [m] ((d.mod m).inj.any (·.host)) else d
  let t := if d.is P.VALID [q.ch] then some (d.rd P.CH_ENG [q.ch]) else none
  (d.calBegin m, q.cores.map fun k => (k, t))

/-- CAL_STEP_DONE: a step has its eight conversions and reports by completion event (R318). -/
def calStepDone (m : Nat) (d : Dev) : Dev :=
  match (d.mod m).cal with
  | none => d
  | some c =>
    if c.waiting || c.raws.length < 8 || !d.alive then d
    else
      let mean := meanRaw c.raws
      let gain := d.rd P.GAIN [c.ch]
      if c.step = 0 then
        let d := (d.setMod m { d.mod m with zero := some ⟨c.ch, gain, mean, d.clk⟩ }).calOver m
        d.complete c.ticket .ok 0 (leBytes 4 (wrapInt 32 mean))
      else
        let z := ((d.mod m).zero.map (·.raw)).getD 0
        let g : Int := if mean = z then 0
          else rndDiv ((if mean < z then -1 else 1) * (d.rd P.CAL_FS_CODE [m] : Int) * 2 ^ 22) (mean - z).natAbs
        if g < 0x200000 ∨ 0x600000 < g then
          ((d.calOver m).set (.conv 7)).complete c.ticket .badParam 0x3107
        else
          let d := (d.setCoef m gain z g.toNat).calOver m
          d.complete c.ticket .ok 0 (leBytes 4 (wrapInt 32 z) ++ leBytes 4 g.toNat)

/-! ## The end of a conversion -/

/-- What the modulator converts now lands; the flag results are returned for the calibration engine. -/
def Dev.convert (d : Dev) (m : Nat) (s : Sample) : Dev × List (Nat × Option Nat) :=
  let x := d.mod m
  if d.dozing || !x.watch.isEmpty then
    match x.watch with
    | n :: t => ((d.storeResult n s false).setMod m { d.mod m with watch := t }, [])
    | [] => (d, [])
  else
    match x.inj with
    | q :: _ => d.endInjected m q s
    | [] =>
      match x.cal.filter fun c => !c.waiting && decide (c.raws.length < 8) with
      | some c =>
        let d := d.storeAs c.ch s false false
        (d.setMod m { d.mod m with cal := some { c with raws := c.raws ++ [s.raw] } }, [])
      | none =>
        if d.is P.RUN [m] && !d.calStep m then
          let e := d.rd P.SEQ_ENTRY [m]
          let (ch, reg) := d.seqEntry m e
          let d := d.storeResult ch s false
          let d := if reg then d.enterData ch e false else d
          (d.nextEntry m, [])
        else (d, [])

/-- The watched channels of a modulator, ascending. -/
def Dev.watched (d : Dev) (m : Nat) : List Nat := ((List.range 32).map (· + 32 * m)).filter fun n => d.is P.WATCH [n]

/-- WATCH_PERIOD: in Doze each modulator begins to convert its watched channels (R322). -/
def watchPeriod (d : Dev) : Dev :=
  if d.alive && d.dozing then d.each [0, 1, 2, 3] fun m d => d.setMod m { d.mod m with watch := d.watched m } else d

/-- Time the watched channels of a modulator take, 0.1 ms. -/
def Dev.watchTime (d : Dev) (m : Nat) : Nat :=
  ((d.watched m).map fun n => convTime (d.rd P.WATCH_ODR [m]) (d.is P.OW_EN [n])).sum

/-- Doze entry (R322). -/
def Dev.convDoze (d : Dev) : Dev :=
  d.each [0, 1, 2, 3] fun m d =>
    let x := d.mod m
    let d := d.setMod m { x with inj := [], cal := none, zero := none, watch := [] }
    let d := (((d.put P.RUN [m] false).put P.PEND [m] false).put P.INJ_GO [m] false).seqGo m |>.calState m
    match x.cal with
    | some c => d.complete c.ticket .denied 0x000E
    | none => d

/-- Wake (R322): the watch stops after the conversion in progress, and continuous sequences begin a run. -/
def Dev.convWake (d : Dev) : Dev :=
  d.each [0, 1, 2, 3] fun m d =>
    let d := d.setMod m { d.mod m with watch := (d.mod m).watch.take 1 }
    if d.is P.CONT [m] && d.rd P.SEQ_LEN [m] ≠ 0 then ((d.put P.RUN [m] true).wr P.SEQ_ENTRY [m] 0).seqGo m else d

end Sys2Proof.Machine
end

