-- ==== Sys2Proof/Machine/Coding.lean ====
section
/-!
DEFINITION. Sys2Proof/Machine/Coding.lean: the 8b/10b code of IEEE 802.3 Clause 36, as the tile buses and the chain use it (R195,
R212). The code's tables come from that standard, which the spec names (log 63).
-/
namespace Sys2Proof.Machine

/-- A character before coding: a control character K or a data character D, and its byte. -/
structure Chr where
  /-- A control character. -/
  k : Bool
  /-- Its byte: D.x.y and K.x.y stand for 32 × y + x. -/
  byte : Byte
deriving DecidableEq, Repr

/-- K28.5, the start of a record or frame (SOF). -/
def k28_5 : Chr := ⟨true, 0xBC⟩

/-- K28.0, idle. -/
def k28_0 : Chr := ⟨true, 0x1C⟩

/-- The six-bit groups abcdei of D.0 to D.31 under negative running disparity. -/
def sixes : List Nat :=
  [0b100111, 0b011101, 0b101101, 0b110001, 0b110101, 0b101001, 0b011001, 0b111000] ++
  [0b111001, 0b100101, 0b010101, 0b110100, 0b001101, 0b101100, 0b011100, 0b010111] ++
  [0b011011, 0b100011, 0b010011, 0b110010, 0b001011, 0b101010, 0b011010, 0b111010] ++
  [0b110011, 0b100110, 0b010110, 0b110110, 0b001110, 0b101110, 0b011110, 0b101011]

/-- The four-bit groups fghj of D.x.0 to D.x.7 under negative running disparity. -/
def fours : List Nat := [0b1011, 0b1001, 0b0101, 0b1100, 0b1101, 0b1010, 0b0110, 0b1110]

/-- The four-bit groups of K.x.0 to K.x.7 under negative running disparity. -/
def controlFours : List Nat := [0b1011, 0b0110, 0b1010, 0b1100, 0b1101, 0b0101, 0b1001, 0b0111]

/-- Ones of a group of `w` bits. -/
def ones (w n : Nat) : Nat := ((List.range w).map fun i => n / 2 ^ i % 2).sum

/-- Running disparity after a group of `w` bits; `true` stands for positive. The balanced groups 000111 and 0011 leave it positive,
111000 and 1100 negative. -/
def disparity (w n : Nat) (rd : Bool) : Bool :=
  let c := 2 * ones w n
  if w < c then true else if c < w then false
  else if n = 2 ^ (w / 2) - 1 then true
  else if n = 2 ^ w - 2 ^ (w / 2) then false
  else rd

/-- A group as it goes out: the complement under positive disparity, where the group is unbalanced or alternates. -/
def group (w n : Nat) (rd : Bool) : Nat :=
  let alternates := decide (2 * ones w n ≠ w ∨ n = 2 ^ w - 2 ^ (w / 2))
  if rd && alternates then 2 ^ w - 1 - n else n

/-- The six-bit group of a character. -/
def six (c : Chr) (rd : Bool) : Nat :=
  let x := c.byte.toNat % 32
  group 6 (if c.k && decide (x = 28) then 0b001111 else sixes.getD x 0) rd

/-- D.x.7 takes its alternate group 0111 or 1000 where the primary one would make a run of five. -/
def alternate (x : Nat) (rd : Bool) : Bool := if rd then decide (x ∈ [11, 13, 14]) else decide (x ∈ [17, 18, 20])

/-- The four-bit group of a character, after its six-bit group. -/
def four (c : Chr) (rd : Bool) : Nat :=
  let x := c.byte.toNat % 32
  let y := c.byte.toNat / 32
  if c.k then (let n := controlFours.getD y 0; if rd then 15 - n else n)
  else group 4 (if y = 7 && alternate x rd then 0b0111 else fours.getD y 0) rd

/-- A character's ten bits abcdeifghj, `a` the most significant, and the running disparity after it. -/
def encodeChr (rd : Bool) (c : Chr) : Nat × Bool :=
  let s := six c rd
  let rd := disparity 6 s rd
  let f := four c rd
  (16 * s + f, disparity 4 f rd)

/-- Characters coded in order. -/
def encodeChrs (rd : Bool) : List Chr → List Nat × Bool
  | [] => ([], rd)
  | c :: l =>
    let (n, rd) := encodeChr rd c
    let (ns, rd) := encodeChrs rd l
    (n :: ns, rd)

/-- The control characters of the code: K28.0 to K28.7, K23.7, K27.7, K29.7, K30.7. -/
def controls : List Byte := [0x1C, 0x3C, 0x5C, 0x7C, 0x9C, 0xBC, 0xDC, 0xFC, 0xF7, 0xFB, 0xFD, 0xFE]

/-- Every character of the code. -/
def allChrs : List Chr := ((List.range 256).map fun i => ⟨false, BitVec.ofNat 8 i⟩) ++ controls.map fun b => ⟨true, b⟩

/-- Characters read in order; none where one of them has a code or disparity error (R195). -/
def decodeChrs (rd : Bool) : List Nat → Option (List Chr)
  | [] => some []
  | n :: l =>
    match allChrs.find? fun c => decide ((encodeChr rd c).1 = n) with
    | none => none
    | some c => (decodeChrs (encodeChr rd c).2 l).map (c :: ·)

/-- The bytes behind the SOF of the record or frame that characters carry: idle before it is passed over, and it ends at the next
control character. -/
def behindSof (l : List Chr) : Option (List Byte) :=
  match l.dropWhile fun c => decide (c = k28_0) with
  | c :: t => if c = k28_5 then some ((t.takeWhile fun c => !c.k).map (·.byte)) else none
  | [] => none

/-- TYPE, LEN, payload and CRC-16 of a frame on the chain (Table 7-1) and on the service port (R390). -/
def framed (type : Nat) (b : List Byte) : List Byte :=
  let h := leBytes 1 type ++ leBytes 2 b.length ++ b
  h ++ leBytes 2 (crc16 h)

/-- A frame's length agrees with its LEN, and its CRC-16 is right. -/
def framedOk (f : List Byte) : Bool :=
  let n := leAt f 1 2
  decide (f.length = n + 5 ∧ leAt f (3 + n) 2 = crc16 (f.take (3 + n)))

/-- A frame's payload. -/
def framedPayload (f : List Byte) : List Byte := (f.drop 3).take (leAt f 1 2)

end Sys2Proof.Machine
end

