-- ==== Sys2Proof/Machine/Mesh.lean ====
section
/-!
DEFINITION. Sys2Proof/Machine/Mesh.lean: routes over the topology database (R226), Seamlink frames (R223, R227) and
the chain's ports (R212).
-/
namespace Sys2Proof.Machine

/-- A link as the device holds it. -/
def Dev.link (d : Dev) (m : Nat) : LinkSt :=
  d.plc.links.get m ⟨false, false, 0, 0, 0xFF, 0, 0, 0, 0, [], [], 0, false, false⟩

/-- A link changed. -/
def Dev.setLink (d : Dev) (m : Nat) (l : LinkSt) : Dev := { d with plc := { d.plc with links := d.plc.links.put m l } }

/-- The links that are up, lowest first (R222). -/
def Dev.upLinks (d : Dev) : List Nat := (List.range 8).filter fun m => d.is P.SL_LINK_UP [m]

/-- The advertisements of the devices that hold an address. -/
def Dev.holders (d : Dev) (a : Nat) : List Lsa := d.plc.topo.vals.filter fun l => decide (l.addr = a)

/-- The advertisement of the device that holds an address; of two, the keeper's: the earlier ADDR_SINCE, then the lower UID
(R219). -/
def Dev.keeper (d : Dev) (a : Nat) : Option Lsa :=
  (d.holders a).foldl (fun (b : Option Lsa) l => match b with
    | none => some l
    | some x => if l.since < x.since ∨ (l.since = x.since ∧ l.uid < x.uid) then some l else some x) none

/-- Two devices hold an address. -/
def Dev.contested (d : Dev) (a : Nat) : Bool := decide (2 ≤ (d.holders a).length + (if a = d.addr then 1 else 0))

/-- A device at `a` and the keeper of address `b` are neighbours, as far as `a` says so: where two devices hold `b`, the keeper names
`a` too (R219). -/
def Dev.meets (d : Dev) (a b : Nat) : Bool :=
  decide (b ≠ 0x3FF) && (!d.contested b || decide (b = d.addr) || (d.keeper b).any fun l => l.links.contains a)

/-- The neighbour on an up link is the keeper of its address. -/
def Dev.keeps (d : Dev) (m : Nat) : Bool :=
  let a := d.rd P.NEIGH [m]
  !d.contested a || (d.keeper a).any fun l => decide (l.uid = (d.link m).uid)

/-- The addresses next to an address in the topology database; the device's own are its up links' neighbours. -/
def Dev.nextTo (d : Dev) (a : Nat) : List Nat :=
  if a = d.addr then (d.upLinks.filter d.keeps).map fun m => d.rd P.NEIGH [m]
  else (((d.keeper a).map (·.links)).getD []).filter (d.meets a)

/-- The addresses within `k` hops of a set, with the hop at which each is reached. -/
def Dev.spread (d : Dev) : Nat → List Nat → List (Nat × Nat) → List (Nat × Nat)
  | 0, _, seen => seen
  | k + 1, front, seen =>
    let next := ((front.flatMap d.nextTo).eraseDups).filter fun a => !(seen.any fun p => decide (p.1 = a))
    if next.isEmpty then seen
    else
      let h := ((seen.map (·.2)).foldl max 0) + 1
      d.spread k next (seen ++ next.map fun a => (a, h))

/-- Hop counts from an address to every address it reaches (R226). -/
def Dev.hopsFrom (d : Dev) (a : Nat) : List (Nat × Nat) := d.spread 1024 [a] [(a, 0)]

/-- Hop count between two addresses, if a path exists. -/
def Dev.hops (d : Dev) (a b : Nat) : Option Nat := ((d.hopsFrom a).find? fun p => decide (p.1 = b)).map (·.2)

/-- The link a frame for `dest` leaves on: the lowest-numbered link on a shortest path (R226). -/
def Dev.route (d : Dev) (dest : Nat) : Option Nat :=
  let h := d.hopsFrom dest
  let at_ (m : Nat) : Option Nat := if d.keeps m then (h.find? fun p => decide (p.1 = d.rd P.NEIGH [m])).map (·.2) else none
  let best := (d.upLinks.filterMap at_).foldl min 2048
  if dest = d.addr then none else d.upLinks.find? fun m => decide (at_ m = some best)

/-- The device at an address is live: in the topology database and not declared down. -/
def Dev.liveAt (d : Dev) (a : Nat) : Bool :=
  decide (a = d.addr) || d.plc.topo.vals.any fun l => decide (l.addr = a ∧ l.uid ∉ d.plc.down)

/-- CLASS of a frame kind (Table 7-6); alarm carriages take 0. -/
def frameClass (kind : Nat) (alarm : Bool) : Nat :=
  if kind ≤ 2 then 0 else if kind = 3 || kind = 4 then 2 else if kind = 5 then 1
  else if kind = 6 then (if alarm then 0 else 1) else 3

/-- The next FSEQ of a KIND, and the device that has used it (R223). -/
def Dev.nextFseq (d : Dev) (kind : Nat) : Nat × Dev :=
  let n := d.kcp.fseq.get kind 0
  (n, { d with kcp := { d.kcp with fseq := d.kcp.fseq.put kind ((n + 1) % 2 ^ 32) } })

/-- A Seamlink frame's 16-byte header (Table 7-5), payload and CRC. -/
def seamFrame (kind cls hops dest src fseq : Nat) (payload : List Byte) : List Byte :=
  let h := leBytes 1 (kind + 16 * cls) ++ leBytes 1 hops ++ leBytes 2 payload.length ++
    leBytes 4 (dest + 65536 * src) ++ leBytes 4 fseq ++ List.replicate 4 0
  h ++ payload ++ leBytes 4 (crc32 (h ++ payload))

/-- A frame sent toward an address over its route; nothing where no route exists. -/
def Dev.sendTo (d : Dev) (kind dest : Nat) (payload : List Byte) (alarm : Bool := false) : Dev :=
  match d.route dest with
  | none => d
  | some m =>
    let (n, d) := d.nextFseq kind
    d.emit (.frame (40 + m) kind (seamFrame kind (frameClass kind alarm) 32 dest d.addr n payload))

/-- A flood started at this device, sent on every up link and remembered (R227). -/
def Dev.flood (d : Dev) (kind : Nat) (payload : List Byte) : Dev :=
  let (n, d) := d.nextFseq kind
  let d := { d with kcp := { d.kcp with floods := snoc d.kcp.floods ⟨kind, d.addr, n, d.clk⟩ } }
  d.each d.upLinks fun m d => d.emit (.frame (40 + m) kind (seamFrame kind (frameClass kind false) 32 0x3FF d.addr n payload))

/-- A frame passed on over a link with its HOPS one less; one whose CRC fails is ended as aborted behind what has been passed on
cut-through (R223, R225). -/
def Dev.passFrame (d : Dev) (m kind : Nat) (h : SeamHdr) (payload : List Byte) (alarm : Bool := false) : Dev :=
  let b := seamFrame kind (frameClass kind alarm) (h.hops - 1) h.dest h.src h.fseq payload
  d.emit (if h.ok then .frame (40 + m) kind b else .aborted (40 + m) kind b)

/-- A frame whose CRC fails counts in its link's SL_CRC (R223). -/
def Dev.countBad (d : Dev) (h : SeamHdr) : Dev := if h.ok then d else d.bump P.SL_CRC [h.link]

/-- A flood received, and whether it is handled here: one seen within the last second already is discarded; else it is remembered and
passed on over the other up links (R227). One whose CRC fails is counted and discarded (R223). -/
def Dev.floodNew (d : Dev) (kind : Nat) (h : SeamHdr) (payload : List Byte) : Dev × Bool :=
  let live := d.kcp.floods.filter fun f => decide (d.clk < f.at_ + sec 1)
  if live.any fun f => decide (f.kind = kind ∧ f.src = h.src ∧ f.fseq = h.fseq) then (d.countBad h, false)
  else
    let e : Dev := if h.ok then { d with kcp := { d.kcp with floods := snoc live ⟨kind, h.src, h.fseq, d.clk⟩ } } else d.countBad h
    if h.hops ≤ 1 then (if h.ok then e.bump P.SL_CRC [h.link] else e, h.ok)
    else
      (e.each (d.upLinks.filter (· ≠ h.link)) fun m e => e.passFrame m kind { h with dest := 0x3FF } payload, h.ok)

/-- A frame to one device, and whether it is taken here: elsewhere it goes on over the route; one whose HOPS reach 0 is discarded and
counted (R225), one whose CRC fails is counted and discarded (R223). -/
def Dev.arriving (d : Dev) (kind : Nat) (h : SeamHdr) (payload : List Byte) (alarm : Bool := false) : Dev × Bool :=
  if !d.alive || !d.is P.SL_LINK_UP [h.link] then (d, false)
  else if h.dest = d.addr && d.addressed then (d.countBad h, h.ok)
  else if h.hops ≤ 1 then (d.bump P.SL_CRC [h.link], false)
  else
    match d.route h.dest with
    | none => (d.countBad h, false)
    | some m => ((d.countBad h).passFrame m kind h payload alarm, false)

/-- A chain frame sent on a chain port, 52 or 53: TYPE, LEN, payload and CRC-16 behind its SOF (Table 7-1). -/
def Dev.chainSend (d : Dev) (port type : Nat) (payload : List Byte) : Dev :=
  d.emit (.frame port type (framed type payload))

end Sys2Proof.Machine
end

