-- ==== Sys2Proof/Machine/Kcp.lean ====
section
/-!
DEFINITION. Sys2Proof/Machine/Kcp.lean: the packet engine: packets (R42 to R48), the order of checks (R49), replies,
the duplicate cache (R57), authentication (R60 to R62), generations (R63), device state (R65) and relay (R54).
-/
namespace Sys2Proof.Machine

/-! ## Opcodes -/

/-- The class of an opcode (R62). -/
inductive Cls where
  /-- Open. -/
  | open_
  /-- Operator. -/
  | operator
  /-- Service. -/
  | service
  /-- Device-only (R69, D). -/
  | device
deriving DecidableEq, Repr

/-- One row of Table 2-10. -/
structure Op where
  /-- Opcode. -/
  code : Nat
  /-- Class. -/
  cls : Cls
  /-- B: broadcast permitted. -/
  bcast : Bool := false
deriving DecidableEq, Repr

/-- ST_OK with result data. -/
def okWith (data : List Byte) : Answer := ⟨.ok, 0, data⟩

/-- ST_OK. -/
def okay : Answer := ⟨.ok, 0, []⟩

/-- A refusal without data. -/
def refuse (s : Status) (det : Nat) : Answer := ⟨s, det, []⟩

/-- Parameters of the wrong length (R48, LENGTH). -/
def badLength : Answer := refuse .badParam 0x0002

/-- A value out of range (R48, PRM_VALUE). -/
def badValue : Answer := refuse .badParam 0x0016

/-- Refusal where the parameters are not `n` bytes long. -/
def lengthIs (n : Nat) (r : Req) : Option Answer := if r.params.length = n then none else some badLength

/-! ## Packets -/

/-- The 24-byte header of Table 2-1. -/
def kcpHeader (flags op dest source seq len gen : Nat) : List Byte :=
  leBytes 1 flags ++ [0] ++ leBytes 2 op ++ leBytes 4 (dest + 65536 * source) ++ leBytes 2 seq ++ leBytes 2 len ++
  leBytes 2 gen ++ List.replicate 10 0

/-- The authentication prefix (Table 2-6). -/
def authPrefix (a : Auth) : List Byte := leBytes 1 a.slot ++ [0] ++ leBytes 6 a.counter

/-- The authentication prefix a packet carries: none where TAG is clear. -/
def prefixOf (a : Option Auth) : List Byte := match a with | some a => authPrefix a | none => []

/-- The tag a packet carries: none where TAG is clear. -/
def tagOf (a : Option Auth) : List Byte := match a with | some a => a.tag | none => []

/-- Header and payload of a request, with RTX as given. -/
def reqBody (op : Nat) (r : Req) (rtx : Bool) : List Byte :=
  let pay := prefixOf r.auth ++ r.params
  kcpHeader (r.version % 16 + (if r.auth.isSome then 32 else 0) + (if rtx then 64 else 0)) op r.dest r.source r.seq
    pay.length r.gen ++ pay

/-- A request packet as it travels (R42). -/
def reqPacket (op : Nat) (r : Req) : List Byte :=
  let b := reqBody op r r.rtx ++ tagOf r.auth
  b ++ leBytes 4 (crc32 b)

/-- The status word and result of a reply (R47). -/
def Answer.bytes (a : Answer) : List Byte := leBytes 1 a.status.code ++ [0] ++ leBytes 2 a.detail ++ a.data

/-- Header and payload of a reply, with RTX as given (R46). -/
def replyBody (p : Reply) (rtx : Bool) : List Byte :=
  let pay := prefixOf p.auth ++ p.answer.bytes
  kcpHeader (1 + 16 + (if p.auth.isSome then 32 else 0) + (if rtx then 64 else 0)) p.opcode p.dest p.source p.seq
    pay.length p.gen ++ pay

/-- A reply packet as it travels. -/
def replyPacket (p : Reply) : List Byte :=
  let b := replyBody p p.rtx ++ tagOf p.auth
  b ++ leBytes 4 (crc32 b)

/-- The tag of R60 over a UID and a packet's header and payload. -/
def tagFor (key : List Byte) (uid : Nat) (body : List Byte) : List Byte :=
  (hmac256 key (leBytes 8 uid ++ body)).take 16

/-! ## Generations (R63) -/

/-- The group write generation of a group. -/
def Dev.wgen (d : Dev) (g : Nat) : Nat := d.kcp.wgen.get g 1

/-- One request has written a parameter of the group: the generation passes from 0xFFFF to 1. -/
def Dev.wrote (d : Dev) (g : Nat) : Dev :=
  let n := d.wgen g
  { d with kcp := { d.kcp with wgen := d.kcp.wgen.put g (if n = 0xFFFF then 1 else n + 1) } }

/-- The group of the first ID of a parameter request. -/
def firstGroup (r : Req) : Nat := leAt r.params 0 4 / 65536 % 256

/-- GEN of a reply (R63). -/
def Dev.replyGen (d : Dev) (op : Nat) (r : Req) : Nat :=
  if 0x4000 ≤ op ∧ op ≤ 0x4004 then d.wgen (firstGroup r) else d.rd P.CFG_GEN % 65536

/-! ## Sending replies -/

/-- The MAC address of an uplink. -/
def Dev.mac (d : Dev) (u : Nat) : Nat := d.rd P.MAC_LO [u] + 2 ^ 32 * d.rd P.MAC_HI [u]

/-- The link-local address of an uplink: fe80::/64 and the modified EUI-64 of its MAC address (R52). -/
def Dev.linkLocal (d : Dev) (u : Nat) : Nat :=
  let m := d.mac u
  0xFE80 * 2 ^ 112 + (Nat.xor (m / 2 ^ 24) 0x020000) * 2 ^ 40 + 0xFFFE * 2 ^ 24 + m % 2 ^ 24

/-- The global IPv6 address of an uplink; 0 for none. -/
def Dev.globalV6 (d : Dev) (u : Nat) : Nat := ((List.range 4).map fun w => d.rd P.IPV6_ADDR [u, w] * 2 ^ (32 * w)).sum

/-- The address a reply to a host is sent from on an uplink (R52): of the two IPv6 addresses the global one where there is one
(log 55); 0 on another transport. -/
def Dev.ownAddr (d : Dev) (h : HostId) : Nat :=
  if h.via ≠ .uplink then 0
  else if !h.v6 then d.rd P.IPV4_ADDR [h.uplink]
  else if d.globalV6 h.uplink = 0 then d.linkLocal h.uplink else d.globalV6 h.uplink

/-- The UDP port replies are sent from (R52): UDP_PORT; 0 on another transport. -/
def replyPort (h : HostId) : Nat := if h.via = .uplink then 47640 else 0

/-- A reply as formed for a request, tagged where the request was tagged (R46, R60). -/
def Dev.formReply (d : Dev) (op : Nat) (r : Req) (a : Answer) (b : Back) : Reply :=
  let p : Reply := { host := r.host, opcode := op, seq := r.seq, rseq := r.rseq, dest := r.source, source := d.addr,
                     gen := d.replyGen op r, rtx := false, auth := none, answer := a, ip := b.own, port := replyPort r.host }
  match r.auth, b.key with
  | some u, some k =>
    let q := { p with auth := some { u with tag := [] } }
    { q with auth := some { u with tag := tagFor k d.uid (replyBody q false) } }
  | _, _ => p

/-- The 8-byte envelope of a relay frame (R228). -/
def envelope (ingress hid rseq : Nat) (isReply : Bool) : List Byte :=
  leBytes 2 ingress ++ leBytes 2 hid ++ leBytes 2 rseq ++ [if isReply then 1 else 0, 0]

/-- A packet leaves on its transport: an uplink under PAUSE queues it (R71), the service port holds it for the tool
(R390), a broadcast that another device received first has no reply (R50), and the reply to a relayed request travels back as a
relay frame with DIR 1 (R228). A request finds room in the uplink's queue when it
arrives; the reply of one that was held or relayed meanwhile is queued also beyond 64 (log 56). -/
def Dev.send (d : Dev) (p : Reply) : Dev :=
  match p.host.via with
  | .flood | .passed => d
  | .uplink =>
    let u := p.host.uplink
    if d.kcp.paused.get u 0 = 0 then d.emit (.reply p)
    else { d with kcp := { d.kcp with replyQ := d.kcp.replyQ.upd u [] (· ++ [.reply p]) } }
  | .service =>
    if d.boot.svcOut.length < 4 then { d with boot := { d.boot with svcOut := d.boot.svcOut ++ [(1, replyPacket p)] } }
    else d.bump P.SVC_DROP
  | .relay | .device => d.sendTo 3 p.host.ingress (envelope p.host.ingress p.host.hid p.rseq true ++ replyPacket p)
  | .chain => d.emit (.reply p)

/-- The port on which a host's packet arrives (R1): an uplink, the chain's up port, the service port; none given for a
relay. -/
def arrivalOf (h : HostId) : Unit' :=
  match h.via with
  | .uplink => (1, 48 + h.uplink)
  | .chain | .passed => (1, 52)
  | .service => (1, 55)
  | _ => noUnit

/-- The flags a status sets (Table 2-12): AUTH_FAIL, REQ_OVERRUN. -/
def Dev.statusFlags (d : Dev) (h : HostId) (s : Status) : Dev :=
  if s = .auth then d.set (.kcp 1) (arrivalOf h) else if s = .overrun then d.set (.kcp 3) (arrivalOf h) else d

/-- The key of a slot. -/
def Dev.keyOf (d : Dev) (slot : Nat) : Option (List Byte) := (d.boot.keys.getD slot none)

/-- The key a request's reply is tagged under. -/
def Dev.keyFor (d : Dev) (r : Req) : Option (List Byte) := r.auth.bind fun a => d.keyOf a.slot

/-- How the reply to a request that arrives goes back. -/
def Dev.backOf (d : Dev) (r : Req) : Back := ⟨d.keyFor r, d.ownAddr r.host⟩

/-- The same, untagged. -/
def Back.untagged (b : Back) : Back := { b with key := none }

/-! ## Duplicate cache (R57) -/

/-- The live entry that a request matches. -/
def Dev.cached (d : Dev) (op : Nat) (r : Req) : Option DupEntry :=
  d.kcp.dup.find? fun e =>
    decide (e.reply.host = r.host ∧ e.reply.seq = r.seq ∧ e.reply.opcode = op ∧ d.clk < e.sent + sec 2)

/-- The entries with room made for one more of a host identity: at most 64 of each, at most 16 identities, the least
recently used identity evicted first. -/
def evict (l : List DupEntry) (h : HostId) : List DupEntry :=
  let own := l.filter fun e => decide (e.reply.host = h)
  let l :=
    if 64 ≤ own.length then
      let oldest := (own.map (·.sent)).foldl min (own.headD ⟨0, ⟨h, 0, 0, 0, 0, 0, 0, false, none, okay, 0, 0⟩⟩).sent
      l.eraseP fun e => decide (e.reply.host = h ∧ e.sent = oldest)
    else l
  let hosts := ((l.reverse.map (·.reply.host)).filter (· ≠ h)).eraseDups
  if 16 ≤ hosts.length then l.filter fun e => decide (e.reply.host ∉ hosts.drop 15) else l

/-- A reply kept. -/
def Dev.keep (d : Dev) (p : Reply) : Dev :=
  let l := d.kcp.dup.filter fun e =>
    !decide (e.reply.host = p.host ∧ e.reply.seq = p.seq ∧ e.reply.opcode = p.opcode)
  { d with kcp := { d.kcp with dup := snoc (evict l p.host) ⟨d.clk, p⟩ } }

/-- A request answered without an entry in the duplicate cache. -/
def Dev.answerOnly (d : Dev) (op : Nat) (r : Req) (a : Answer) (b : Back) : Dev :=
  (d.statusFlags r.host a.status).send (d.formReply op r a b)

/-- A request answered, its reply kept (R57). -/
def Dev.answer (d : Dev) (op : Nat) (r : Req) (a : Answer) (b : Back) : Dev :=
  let d := d.statusFlags r.host a.status
  let p := d.formReply op r a b
  (d.keep p).send p

/-! ## Holding requests (R55, R56) -/

/-- A request held until `w` comes; its reply goes back as `b` says. -/
def Dev.holdAs (d : Dev) (op : Nat) (r : Req) (w : Waits) (b : Back) : Dev :=
  { d with kcp := { d.kcp with held := snoc d.kcp.held ⟨op, r, w, b⟩ } }

/-- A request held until `w` comes. -/
def Dev.hold (d : Dev) (op : Nat) (r : Req) (w : Waits) : Dev := d.holdAs op r w (d.backOf r)

/-- The held requests that wait for `w` answered. -/
def Dev.release (d : Dev) (w : Waits) (a : Answer) : Dev :=
  let mine := d.kcp.held.filter fun h => decide (h.waits = w)
  let d := { d with kcp := { d.kcp with held := d.kcp.held.filter fun h => !decide (h.waits = w) } }
  d.each mine fun h d => d.answer h.opcode h.req a h.back

/-- The ticket of a request. -/
def ticket (op : Op) (r : Req) : Ticket := ⟨op.code, r.seq, r.host⟩

/-! ## Destination and forwarding (R45, R53, R54) -/

/-- Where a request goes at step 2 of R49. -/
inductive Dest where
  /-- Checked and executed here. -/
  | here
  /-- Forwarded. -/
  | away
  /-- Answered ST_DENIED, detail UNADDRESSED. -/
  | unaddressed
  /-- Passed on by others, not executed. -/
  | drop
deriving DecidableEq, Repr

/-- Step 2 of R49: at an unaddressed device R45 applies first. -/
def Dev.destOf (d : Dev) (r : Req) : Dest :=
  if d.addressed then (if r.dest = d.addr || r.dest = 0x3FF then .here else .away)
  else
    match r.host.via with
    | .uplink => .unaddressed
    | .service => if r.dest = 0x3FF then .here else .unaddressed
    | .chain | .passed => if r.dest = 0x3FF then .here else .away
    | _ => .drop

/-- HID of a host identity, given on its first use (R228). -/
def Dev.hidOf (d : Dev) (h : HostId) : Nat × Dev :=
  match d.kcp.hids.findIdx? (· == h) with
  | some i => (i, d)
  | none => (d.kcp.hids.length, { d with kcp := { d.kcp with hids := d.kcp.hids ++ [h] } })

/-- A request that does not address this device: passed down the chain, relayed, or answered NO_ROUTE (R53, R54). -/
def Dev.forward (d : Dev) (op : Nat) (r : Req) : Dev :=
  let noRoute := (d.answerOnly op r (refuse .fault 0x0005) (d.backOf r))
  match r.host.via with
  | .chain | .passed => if d.is P.DOWN_SIG then d.chainSend 53 1 (reqPacket op r) else noRoute
  | .uplink | .service =>
    if (d.route r.dest).isNone then noRoute
    else
      let (hid, d) := d.hidOf r.host
      let k := 1024 * hid + r.dest
      let n := d.kcp.rseqTx.get k 0
      let d := { d with kcp := { d.kcp with
        rseqTx := d.kcp.rseqTx.put k ((n + 1) % 65536), relays := snoc d.kcp.relays ⟨op, r, hid, n, d.clk, d.ownAddr r.host⟩ } }
      d.sendTo 3 r.dest (envelope d.addr hid n false ++ reqPacket op r)
  | _ => d

/-- A broadcast passed on (R50): down the chain where it arrived on the chain, and else over the mesh by the device that first
received it; ENUMERATE goes on as a token (R214). -/
def Dev.passOn (d : Dev) (op : Nat) (r : Req) : Dev :=
  if r.dest ≠ 0x3FF || op = 0x0600 then d
  else
    match r.host.via with
    | .chain | .passed => if d.is P.DOWN_SIG then d.chainSend 53 1 (reqPacket op r) else d
    | .uplink | .service => d.flood 4 (reqPacket op r)
    | _ => d

/-! ## Authentication (R60 to R62) -/

/-- Freshness of a slot. -/
def Dev.fresh (d : Dev) (slot : Nat) : Fresh := d.boot.fresh.get slot ⟨0, 0, 0⟩

/-- A slot refuses every request with NO_KEY: 12 to 15, empty, or exhausted (R60, R61). -/
def Dev.noKey (d : Dev) (slot : Nat) : Bool :=
  decide (12 ≤ slot) || (d.keyOf slot).isNone || decide ((d.fresh slot).high = 0xFFFFFFFFFFFF)

/-- The tag of a request verifies (R60). -/
def Dev.tagGood (d : Dev) (op : Nat) (r : Req) (a : Auth) : Bool :=
  match d.keyOf a.slot with
  | none => false
  | some k => tagFor k (if r.dest = 0x3FF then 0 else d.uid) (reqBody op r false) == a.tag

/-- A counter is accepted: above H, or within 63 below it and not accepted before (R61). -/
def Fresh.accepts (f : Fresh) (c : Nat) : Bool :=
  decide (f.high < c) || (decide (c ≤ f.high ∧ f.high ≤ c + 63) && !bitOf f.seen (f.high - c))

/-- The freshness after a counter is accepted. -/
def Fresh.take (f : Fresh) (c : Nat) : Fresh :=
  if f.high < c then { f with high := c, seen := setBit (f.seen * 2 ^ min (c - f.high) 64 % 2 ^ 64) 0 }
  else { f with seen := setBit f.seen (f.high - c) }

/-- A counter accepted; when H reaches the ceiling, the ceiling plus 4,096 is stored (R61). -/
def Dev.acceptCounter (d : Dev) (slot c : Nat) : Dev :=
  let f := (d.fresh slot).take c
  let up := decide (f.ceiling ≤ f.high)
  let ceil := if up then f.high / 4096 * 4096 + 4096 else f.ceiling
  let ceil := if up && decide (f.high < f.ceiling + 4096) then f.ceiling + 4096 else ceil
  let d := { d with boot := { d.boot with fresh := d.boot.fresh.put slot { f with ceiling := ceil } } }
  if up then d.immediate ⟨0x10 + slot, 0, leBytes 6 ceil⟩ (.ceiling slot) else d

/-- A key slot's class satisfies an opcode's class (R59, R62). -/
def slotServes (slot : Nat) (c : Cls) : Bool := if c = .service then decide (8 ≤ slot) else true

/-- A transport whose AUTH_RELAX bit exempts Operator class from the tag (R62). A broadcast that arrives by the mesh flood is none
of the four transports of AUTH_RELAX and is never exempt (log 57). -/
def Dev.relaxed (d : Dev) (v : Via) : Bool :=
  let a := d.rd P.AUTH_RELAX
  match v with
  | .uplink => bitOf a 0
  | .chain | .passed => bitOf a 1
  | .service => bitOf a 2
  | .relay => bitOf a 3
  | _ => false

/-- The outcome of step 6 of R49. -/
inductive AuthStep where
  /-- Refused; the reply is kept or not (R57), tagged or not (R46). -/
  | refuse (a : Answer) (kept tagged : Bool)
  /-- The cached reply is resent. -/
  | resend (e : DupEntry)
  /-- A retransmission of a request still executing: the one reply of that request follows. -/
  | silent
  /-- Passed. -/
  | pass
deriving DecidableEq, Repr

/-- The request is still executing: it is held, or waits in the queue. -/
def Dev.executing (d : Dev) (op : Nat) (r : Req) : Bool :=
  (d.kcp.held.any fun h => decide (h.opcode = op ∧ h.req.seq = r.seq ∧ h.req.host = r.host)) ||
  d.kcp.queue.any fun h => decide (h.opcode = op ∧ h.req.seq = r.seq ∧ h.req.host = r.host)

/-- Step 6 of R49: tag, duplicate cache, counter and class. -/
def Dev.authStep (d : Dev) (op : Op) (r : Req) : AuthStep :=
  let dup : AuthStep → AuthStep := fun next =>
    if r.rtx then
      match d.cached op.code r with
      | some e => .resend e
      | none => if d.executing op.code r then .silent else next
    else next
  match r.auth with
  | none =>
    if (op.cls = .service || (op.cls = .operator && !d.relaxed r.host.via)) then .refuse (refuse .auth 0x0007) false false
    else dup .pass
  | some a =>
    if d.noKey a.slot then .refuse (refuse .auth 0x000B) false false
    else if !d.tagGood op.code r a then .refuse (refuse .auth 0x0008) false true
    else
      dup (if !(d.fresh a.slot).accepts a.counter then
             .refuse ⟨.auth, 0x000A, leBytes 8 (d.fresh a.slot).high⟩ false true
           else if !slotServes a.slot op.cls then .refuse (refuse .auth 0x0009) true true
           else .pass)

/-- A tagged request whose counter was accepted takes it (R61): this holds of a refusal from the class check onward. -/
def Dev.takeCounter (d : Dev) (r : Req) : Dev :=
  match r.auth with
  | some a => d.acceptCounter a.slot a.counter
  | none => d

/-! ## Device state (R65) -/

/-- The opcodes of the recovery set that take their groups and tables from their parameters (R65). -/
def recoverySet (op : Nat) (r : Req) : Bool :=
  let words (step : Nat) : List Nat := (List.range (r.params.length / step)).map fun i => leAt r.params (step * i) 4
  let groups (l : List Nat) : Bool := l.all fun w => decide (w / 65536 % 256 ∈ [0x30, 0x33])
  if op = 0x4000 ∨ op = 0x4002 ∨ op = 0x4200 then true
  else if op = 0x4001 then groups (words 8)
  else if op = 0x4003 ∨ op = 0x4004 then groups [leAt r.params 0 4]
  else if op = 0x4201 then decide (0x3300 ≤ leAt r.params 0 2 ∧ leAt r.params 0 2 ≤ 0x33FF)
  else decide (op ∈ [0x4300, 0x4301, 0x0700, 0x0A01, 0x0A00, 0x0C00, 0x0C02])

/-- A table whose contents persist (R349). -/
def persistentTable (t : Nat) : Bool :=
  decide (t / 256 ∈ [0x20, 0x21, 0x22, 0x23, 0x30, 0x31, 0x32, 0x33]) || decide (t = 0x4110 ∨ t = 0x4103)

/-- The parameter IDs that a parameter request names (R66). -/
def prmIds (op : Nat) (r : Req) : List Nat :=
  let words (step : Nat) : List Nat := (List.range (r.params.length / step)).map fun i => leAt r.params (step * i) 4 % 2 ^ 24
  if op = 0x4000 then words 4
  else if op = 0x4001 then words 8
  else if op = 0x4002 ∨ op = 0x4003 then (List.range (leAt r.params 4 2)).map (leAt r.params 0 4 % 2 ^ 24 + ·)
  else if op = 0x4004 then [leAt r.params 0 4 % 2 ^ 24]
  else []

/-- A write of the parameter starts a converter or asks for an injected conversion. -/
def startsConverter (a : Nat) : Bool := decide ((0x310010 ≤ a ∧ a < 0x310014) ∨ (0x310024 ≤ a ∧ a < 0x310028))

/-- The requests R362 and the chapters name as refused while recall runs. -/
def needsRecall (op : Nat) (r : Req) : Bool :=
  decide (op ∈ [0x0A00, 0x0A01, 0x0404, 0x0800]) ||
  ((prmIds op r).any fun a => decide (a / 65536 = 0x33) || (decide (op ≠ 0x4000 ∧ op ≠ 0x4002) && startsConverter a)) ||
  (decide (op ∈ [0x4200, 0x4201]) && persistentTable (leAt r.params 0 2)) ||
  (decide (op = 0x0901) && decide (byteAt r.params 1 % 16 = 1))

/-- Step 7 of R49: the device's state (R65). "The same opcodes" of a Workroom restart are read as PING, DEVICE_STATUS and the Thimble
opcodes: the recovery set belongs to recovery alone (log 58). -/
def Dev.stateGate (d : Dev) (op : Nat) (r : Req) : Option Answer :=
  let always := decide (op ≤ 1)
  let thimble := decide (0x8000 ≤ op)
  let s := d.rd P.DEV_STATE
  if s = 3 then
    (if always || decide (op ∈ [0x8000, 0x0B01, 0x4403, 0x4404]) then none else some (refuse .denied 0x000E))
  else if s = 5 ∨ s = 6 then
    (if always || decide (op ∈ [0x8000, 0x0B01, 0x4403, 0x4404]) then none else some (refuse .busy 0x400F))
  else if always || thimble then none
  else if d.recalling && needsRecall op r then some (refuse .busyNv 0x3301)
  else if s = 7 then (if recoverySet op r then none else some (refuse .denied 0x0018))
  else if !d.boot.started then some (refuse .busy 0x000D)
  else if !d.boot.running then some (refuse .busy 0x000C)
  else none

/-! ## Serving a request -/

/-- The request reaches the packet engine: the device is out of reset and the transport is on (R65); an uplink frame
has the VLAN tag its uplink takes (R51), its IP version is served (R52) and its reply queue has room (R71). The service port is not live in Doze (Table 12-12, Table 14-8). -/
def Dev.arrives (d : Dev) (r : Req) : Bool × Bool :=
  match r.host.via with
  | .uplink =>
    let u := r.host.uplink
    let on := d.uplinkOn u
    let vlan := match r.host.vlan with
      | some v => d.is P.VLAN_EN [u] && decide (v = d.rd P.VLAN_ID [u])
      | none => !d.is P.VLAN_EN [u]
    let ip := r.host.v6 || decide (d.rd P.IPV4_ADDR [u] ≠ 0)
    let room := d.kcp.paused.get u 0 = 0 || decide ((d.kcp.replyQ.get u []).length < 64)
    (on, vlan && ip && room)
  | .service => (d.awake, true)
  | _ => (d.alive, true)

/-- Steps 3 to 5 of R49 and the length bound of R42. -/
def earlyChecks (op : Op) (r : Req) : Option Answer :=
  if r.version ≠ 1 then some (refuse .badOpcode 0x0001)
  else if r.dest = 0x3FF && !op.bcast && decide (op.code ≠ 0x0600) then some (refuse .badParam 0x0003)
  else none

/-- The length of a request's payload. -/
def payloadLen (r : Req) : Nat := r.params.length + (if r.auth.isSome then 8 else 0)

/-- An opcode of the Open class that may hold its request: those that go on to a patch's owner (R64, R69). -/
def openHeld (op : Nat) : Bool := decide (op = 0x0500 ∨ op = 0x0501)

/-- Requests in hand: held, and waiting for an earlier one (R55). -/
def Dev.inHand (d : Dev) : List HostId := d.kcp.held.map (·.req.host) ++ d.kcp.queue.map (·.req.host)

/-- Step 10 of R49: queue space (R55). -/
def Dev.queueCheck (d : Dev) (r : Req) : Option Answer :=
  if 8 ≤ (d.inHand.filter fun h => decide (h = r.host)).length then some (refuse .overrun 0x0013)
  else if 64 ≤ d.inHand.length then some (refuse .overrun 0x0014)
  else none

/-- A refusal belongs to step 9 of R49, the parameters (log 59): every one of a parameter or table opcode, whose checks R66 and R68
make entry by entry and in their order; of another opcode ST_BADPARAM with a detail of the protocol, the length alone where the
opcode addresses a patch, whose absence from the patch table is the epoch's check (R64). -/
def stepNine (op : Nat) (a : Answer) : Bool :=
  decide (op ∈ [0x4000, 0x4001, 0x4002, 0x4003, 0x4004, 0x4200, 0x4201]) ||
  (decide (a.status = .badParam) &&
    (if op ∈ [0x0500, 0x0501, 0x4400, 0x4401] then decide (a.detail = 0x0002) else decide (a.detail < 0x1000)))

/-- Steps 8 to 10 of R49: source, parameters and queue space. `chk` is what the opcode refuses, in the order of steps 9, 11
and 12. -/
def Dev.lateChecks (d : Dev) (op : Op) (chk : Dev → Req → Option Answer) (r : Req) : Option Answer :=
  if op.cls = .device && decide (r.host.via ≠ .device) then some (refuse .denied 0x0017)
  else if 1400 < payloadLen r then some badLength
  else ((chk d r).filter (stepNine op.code)).or (d.queueCheck r)

/-- An earlier request of a host identity is executing, one of the Open class apart (R55, log 127). -/
def Dev.hostBusy (d : Dev) (h : HostId) : Bool := d.kcp.held.any fun x => decide (x.req.host = h) && !openHeld x.opcode

/-- A request is not begun yet: an earlier one of its host identity is executing or waits (R55). One of the Open class runs
alongside. -/
def Dev.mustWait (d : Dev) (op : Op) (r : Req) : Bool :=
  decide (op.cls ≠ .open_) && (d.hostBusy r.host || d.kcp.queue.any fun x => decide (x.req.host = r.host))

/-- Q_PEAK follows a request entering the queue (Table 2-12). -/
def Dev.queued (d : Dev) : Dev := d.raiseTo P.Q_PEAK [] (d.inHand.length + 1)

/-- A request waits for an earlier one of its host identity. -/
def Dev.enqueue (d : Dev) (op : Nat) (r : Req) (b : Back) : Dev :=
  { d with kcp := { d.kcp with queue := snoc d.kcp.queue ⟨op, r, b⟩ } }

/-- The bridge of a region's compute die has failed. -/
def Dev.dieLost (d : Dev) (g : Nat) : Bool := bitOf (d.rd P.BRIDGE_FAIL) (g / 2)

/-- The cluster that a core is bound to lies behind a failed bridge. -/
def Dev.coreLost (d : Dev) (k : Nat) : Bool :=
  match d.pipe.bind.get? k with
  | some c => d.dieLost (c / 4)
  | none => false

/-- A request needs a failed bridge (R21): it names a core whose cluster, a region, or a patch whose context slot lies behind one
(log 203). -/
def Dev.cutOff (d : Dev) (op : Nat) (r : Req) : Bool :=
  let k := byteAt r.params 0
  if d.rd P.BRIDGE_FAIL = 0 then false
  else if op ∈ [0x0300, 0x0301, 0x0401, 0x0403, 0x0404] then
    (if k = 0xFF then List.range 64 else [k]).any d.coreLost
  else if op = 0x0402 then (List.range 4).any fun g => bitOf k g && d.dieLost g
  else if op = 0x0500 ∨ op = 0x0501 then
    (d.fus.slots.get? (leAt r.params 0 4 % 2 ^ 22)).any fun s => d.dieLost (d.fus.regions.get s.num (s.num / 1024))
  else false

/-- A request begun: steps 11 and 12 of R49 and the opcode's own part; its reply is kept. One that needs a failed bridge is answered
ST_FAULT (R21). -/
def Dev.begin_ (d : Dev) (op : Op) (chk : Dev → Req → Option Answer) (act : Dev → Req → Dev × Option Answer) (r : Req)
    (b : Back) : Dev :=
  match chk d r with
  | some a => d.answer op.code r a b
  | none =>
    if d.cutOff op.code r then d.answer op.code r (refuse .fault 0) b
    else
      match act d.queued r with
      | (d, some a) => d.answer op.code r a b
      | (d, none) => d

/-- A request past step 6 of R49: state, source, parameters, queue, and its beginning, where its turn has come. -/
def Dev.execute (d : Dev) (op : Op) (chk : Dev → Req → Option Answer) (act : Dev → Req → Dev × Option Answer)
    (r : Req) : Dev :=
  let b := d.backOf r
  match d.stateGate op.code r with
  | some a => d.answer op.code r a b
  | none =>
    match d.lateChecks op chk r with
    | some a => d.answer op.code r a b
    | none => if d.mustWait op r then d.queued.enqueue op.code r b else d.begin_ op chk act r b

/-- A request for this device: steps 3 to 12 of R49. A broadcast is passed on once it is past step 6; one refused before that goes
no further (log 60). -/
def Dev.serveHere (d : Dev) (op : Op) (chk : Dev → Req → Option Answer) (act : Dev → Req → Dev × Option Answer)
    (r : Req) : Dev :=
  match earlyChecks op r with
  | some a => d.answerOnly op.code r a (d.backOf r)
  | none =>
    match d.authStep op r with
    | .refuse a kept tagged =>
      let b := if tagged then d.backOf r else (d.backOf r).untagged
      if kept then (d.takeCounter r).answer op.code r a b else d.answerOnly op.code r a b
    | .resend e =>
      let l := d.kcp.dup.filter (· ≠ e)
      ({ d with kcp := { d.kcp with dup := l ++ [e] } }.statusFlags r.host e.reply.answer.status).send
        { e.reply with rtx := true, ip := d.ownAddr r.host, rseq := r.rseq }
    | .silent => d
    | .pass => ((d.takeCounter r).execute op chk act r).passOn op.code r

/-- A queued request whose turn has come: the device's state once more, then its beginning. -/
def Dev.serveBegun (d : Dev) (op : Op) (chk : Dev → Req → Option Answer) (act : Dev → Req → Dev × Option Answer)
    (q : Queued) : Dev :=
  match d.stateGate op.code q.req with
  | some a => d.answer op.code q.req a q.back
  | none => d.begin_ op chk act q.req q.back

/-- A request that arrives, in the order of R49. -/
def Dev.serveArriving (d : Dev) (op : Op) (chk : Dev → Req → Option Answer) (act : Dev → Req → Dev × Option Answer)
    (r : Req) : Dev :=
  match d.arrives r with
  | (false, _) => d
  | (true, false) => d.bump P.UL_RX_DROP [r.host.uplink]
  | (true, true) =>
    match d.destOf r with
    | .here => d.serveHere op chk act r
    | .away => d.forward op.code r
    | .unaddressed => d.answerOnly op.code r (refuse .denied 0x001B) (d.backOf r)
    | .drop => d

/-- One KCP request: one that arrives, or the queued one that is being begun. `chk` refuses at steps 9, 11 and 12 of R49; `act`
executes: an answer, or none where the one reply comes later. -/
def serve (op : Op) (chk : Dev → Req → Option Answer) (act : Dev → Req → Dev × Option Answer) (r : Req) (d : Dev) : Dev :=
  match d.begun with
  | some q => ({ d with begun := none } : Dev).serveBegun op chk act q
  | none => d.serveArriving op chk act r

/-- An opcode that only reports: the answer is computed and nothing changes. -/
def report (f : Dev → Req → Answer) (d : Dev) (r : Req) : Dev × Option Answer := (d, some (f d r))

/-! ## Requests of this device in its own right -/

/-- HID of a device's own requests. -/
def ownHid : Nat := 0xFFFF

/-- The host identity of a device that sends in its own right. -/
def deviceHost (addr : Nat) : HostId := ⟨.device, 0, none, false, 0, 0, addr, ownHid⟩

/-- The device's own requests that still await a reply: an array message is awaited for RELAY_TIMEOUT (R54), a gather of a census until
the census ends (R257). -/
def Dev.awaited (d : Dev) : List Asked :=
  d.plc.asked.filter fun a => decide (a.opcode < 0x4400 ∨ (a.opcode = 0x4403 ∧ d.plc.census.isSome) ∨ d.clk < a.since + ms (d.rd P.RELAY_TIMEOUT))

/-- A request sent to another device of the array over Seamlink, as a relay frame with the device as its own ingress. -/
def Dev.ask (d : Dev) (op dest : Nat) (params : List Byte) : Dev :=
  let k := 1024 * ownHid + dest
  let n := d.kcp.rseqTx.get k 0
  let r : Req := ⟨deviceHost d.addr, 1, dest, d.addr, n, 0, false, none, params, n⟩
  let d := { d with kcp := { d.kcp with rseqTx := d.kcp.rseqTx.put k ((n + 1) % 65536) },
                    plc := { d.plc with asked := snoc d.awaited ⟨dest, n, op, params, d.clk⟩ } }
  d.sendTo 3 dest (envelope d.addr ownHid n false ++ reqPacket op r)

/-- A request carries Service class (R59, R66). -/
def isService (r : Req) : Bool := match r.auth with | some a => decide (8 ≤ a.slot) | none => false

end Sys2Proof.Machine
end

