-- ==== Sys2Proof/Machine/Ingest.lean ====
section
/-!
DEFINITION. Sys2Proof/Machine/Ingest.lean: streams, frames and lines from the wire to the line buffers (R72 to R86),
setting changes and the sensor control buses (R90 to R99).
-/
namespace Sys2Proof.Machine

/-! ## Streams -/

/-- Sums of a frame with nothing counted. -/
def Sums.zero : Sums := ⟨0, 0, 65535, 0, 0, KMap.empty, 0⟩

/-- A stream with nothing received. -/
def Strm.none : Strm := ⟨0, [], [], false, 0, 0, 0, 0, [], [], []⟩

/-- A stream: 0 to 63 cores, 64 + k the companion camera of core k. -/
def Dev.strm (d : Dev) (s : Nat) : Strm := d.ing.strms.get s Strm.none

/-- A stream changed. -/
def Dev.setStrm (d : Dev) (s : Nat) (x : Strm) : Dev := { d with ing := { d.ing with strms := d.ing.strms.put s x } }

/-- Setting changes of a core. -/
def Dev.setting (d : Dev) (k : Nat) : Setting := d.ing.sets.get k ⟨[], 0, [], false, false⟩

/-- Setting changes of a core changed; SET_PEND follows. -/
def Dev.setSetting (d : Dev) (k : Nat) (x : Setting) : Dev :=
  { d with ing := { d.ing with sets := d.ing.sets.put k x } }.wr P.SET_PEND [k] x.queue.length

/-- The core of a stream. -/
def coreOf (s : Nat) : Nat := s % 64

/-- The stream is a companion camera's. -/
def isComp (s : Nat) : Bool := decide (64 ≤ s)

/-- The stream is enabled. -/
def Dev.streamOn (d : Dev) (s : Nat) : Bool := d.is P.CORE_EN [coreOf s] && (!isComp s || d.is P.COMP_EN [coreOf s])

/-- The enabled stream of a link and virtual channel (R72, R74). -/
def Dev.streamAt (d : Dev) (l vc : Nat) : Option Nat :=
  [2 * l, 2 * l + 1, 64 + 2 * l, 65 + 2 * l].find? fun s =>
    d.streamOn s && decide ((if isComp s then d.rd P.COMP_VC [coreOf s] else d.rd P.VC [coreOf s]) = vc)

/-- The link of a stream. -/
def linkOf (s : Nat) : Nat := coreOf s / 2

/-- WIDTH of a stream. -/
def Dev.width (d : Dev) (s : Nat) : Nat := if isComp s then d.rd P.C_WIDTH [coreOf s] else d.rd P.WIDTH [s]

/-- HEIGHT of a stream. -/
def Dev.height (d : Dev) (s : Nat) : Nat := if isComp s then d.rd P.C_HEIGHT [coreOf s] else d.rd P.HEIGHT [s]

/-- Data type of a stream: 0 RAW12, 1 RAW14, 2 RAW16. -/
def Dev.dataType (d : Dev) (s : Nat) : Nat := if isComp s then d.rd P.COMP_DT [coreOf s] else d.rd P.DT [s]

/-- Configured frame rate of a stream, 0.01 Hz. -/
def Dev.rate (d : Dev) (s : Nat) : Nat := if isComp s then d.rd P.COMP_RATE [coreOf s] else d.rd P.FRAME_RATE [s]

/-- Frame period of a stream in ns. -/
def Dev.period (d : Dev) (s : Nat) : Nat := 100000000000 / d.rate s

/-- FRAME_CNT of a stream. -/
def Dev.frameCnt (d : Dev) (s : Nat) : Nat := if isComp s then (d.strm s).cnt else d.rd P.FRAME_CNT [s]

/-- The stream is in the RATE_EXCESS state. -/
def Dev.excess (d : Dev) (s : Nat) : Bool := if isComp s then (d.strm s).excess else d.is P.RATE_EXC [s]

/-- DATA of an ingest event (Table 13-3) and its unit. -/
def Dev.ingData (d : Dev) (s gen : Nat) : List Byte :=
  leBytes 1 (linkOf s) ++ leBytes 1 (coreOf s) ++ leBytes 4 (d.frameCnt s) ++ leBytes 2 gen

/-- A flag of the ingest group set for a stream. -/
def Dev.setIng (d : Dev) (n s : Nat) : Dev := d.set (.ing n) (2, coreOf s) (d.ingData s (d.rd P.SET_GEN_APPLIED [coreOf s]))

/-- A packet discarded and counted on its link (R74). -/
def Dev.discard (d : Dev) (l : Nat) : Dev := (d.bump P.DISCARD [l]).set (.ing 5) (1, l) (leBytes 1 l)

/-- A core streams, at a frame start: its time toward the 60 s counts on, and 2 s of stable frames start over behind a gap (R153). -/
def Dev.streamOnward (d : Dev) (k : Nat) : Dev :=
  match d.cal.cores.get? k with
  | some c => match c.due60 with
    | some (n, none) =>
      let c := { c with due60 := some (n, some d.clk) }
      { d with cal := { d.cal with cores := d.cal.cores.put k c } }
    | _ => d
  | none => d

/-- A core stops or begins to stream: the time toward the 60 s stands, and the stable frames start over (R153). -/
def Dev.streamPause (d : Dev) (k : Nat) : Dev :=
  match d.cal.cores.get? k with
  | some c =>
    let due := c.due60.map fun x => match x.2 with
      | some t => (x.1 + (d.clk - t), none)
      | none => x
    let c := { c with due60 := due, stable := c.stable.map fun _ => d.clk }
    { d with cal := { d.cal with cores := d.cal.cores.put k c } }
  | none => d

/-- A core enters a state (Table 3-4); a change is reported by source 80. -/
def Dev.coreState (d : Dev) (k st : Nat) : Dev :=
  if d.rd P.CORE_STATE [k] = st then d
  else
    let d := { d with evt := { d.evt with stalled := if st = 4 then d.evt.stalled.put k d.clk else d.evt.stalled.del k } }
    let d := if d.rd P.CORE_STATE [k] = 3 || st = 3 then d.streamPause k else d
    (d.wr P.CORE_STATE [k] st).report 80 (2, k) (d.ingData k (d.rd P.SET_GEN_APPLIED [k]))

/-! ## Frame tags -/

/-- The tag with a flag of Table 3-3 set. -/
def Tag.mark (t : Tag) (n : Nat) : Tag := { t with flags := setBit t.flags n }

/-- A flag of the tag. -/
def Tag.has (t : Tag) (n : Nat) : Bool := bitOf t.flags n

/-- The 32 bytes of a tag (Table 3-2). -/
def Tag.bytes (t : Tag) : List Byte :=
  leBytes 1 (t.core + (if t.comp then 64 else 0)) ++ [0] ++ leBytes 2 t.flags ++ leBytes 4 t.cnt ++ leBytes 2 t.fn ++
  leBytes 2 t.gen ++ leBytes 8 t.capture ++ leBytes 2 t.fpa ++ leBytes 2 t.hous ++ leBytes 2 t.pad ++ leBytes 2 t.cut ++
  leBytes 2 t.crc ++ leBytes 2 t.hdr

/-- The open frame of a stream: its newest. -/
def Strm.openFrame (x : Strm) : Option Frame := x.frames.getLast?.filter (·.isOpen)

/-- The newest frame replaced. -/
def Strm.putLast (x : Strm) (f : Frame) : Strm := { x with frames := x.frames.dropLast ++ [f] }

/-- The frame with a FRAME_CNT. -/
def Strm.frame? (x : Strm) (cnt : Nat) : Option Frame := x.frames.find? fun f => decide (f.tag.cnt = cnt)

/-- The frame with its FRAME_CNT replaced. -/
def Strm.putFrame (x : Strm) (f : Frame) : Strm :=
  { x with frames := x.frames.map fun g => if g.tag.cnt = f.tag.cnt then f else g }

/-! ## Lines (R77, R79, R84, R85) -/

/-- The value a padded pixel at the head of a line takes: the last valid pixel of the nearest earlier line that has
one, or 0 (R79). -/
def Frame.padValue (f : Frame) (y : Nat) : Nat :=
  ((f.tails.cells.filter fun p => decide (p.1 < y)).getLast?.map (·.2)).getD 0

/-- A padded line at a position (R78). -/
def Frame.padLine (f : Frame) (y w now : Nat) : Frame :=
  { f with lines := f.lines.put y ⟨List.replicate w (f.padValue y), 0, true, false, now⟩,
           tag := { f.tag.mark 4 with pad := f.tag.pad + 1 } }

/-- Positions from `a` to `b` padded. -/
def Frame.padLines (f : Frame) (w now : Nat) (l : List Nat) : Frame := l.foldl (fun f y => f.padLine y w now) f

/-- Pixels of a payload: RAW12 and RAW14 groups packed as MIPI CSI-2 packs them, RAW16 little-endian; a partial group
at the end is dropped (R77). -/
def unpack12 : List Byte → List Nat
  | a :: b :: c :: t => (a.toNat * 16 + c.toNat % 16) :: (b.toNat * 16 + c.toNat / 16) :: unpack12 t
  | _ => []

/-- RAW14: four pixels in seven bytes. -/
def unpack14 : List Byte → List Nat
  | a :: b :: c :: e :: p :: q :: r :: t =>
    let low := p.toNat + q.toNat * 256 + r.toNat * 65536
    (a.toNat * 64 + low % 64) :: (b.toNat * 64 + low / 64 % 64) :: (c.toNat * 64 + low / 4096 % 64) ::
      (e.toNat * 64 + low / 262144 % 64) :: unpack14 t
  | _ => []

/-- RAW16: two bytes for each pixel. -/
def unpack16 : List Byte → List Nat
  | a :: b :: t => (a.toNat + 256 * b.toNat) :: unpack16 t
  | _ => []

/-- The pixels of an image payload. -/
def unpack (dt : Nat) (l : List Byte) : List Nat := if dt = 0 then unpack12 l else if dt = 1 then unpack14 l else unpack16 l

/-- Line buffers of a stream: 32, or 24 for the core and 8 for the companion camera (R84). -/
def Dev.buffers (d : Dev) (s : Nat) : Nat := if isComp s then 8 else if d.is P.COMP_EN [s] then 24 else 32

/-- Line buffers of a stream that are occupied: lines that wait and lines in pass A. -/
def Dev.occupied (d : Dev) (s : Nat) : Nat :=
  (((d.strm s).frames.flatMap fun f => f.lines.vals).filter (·.buffered)).length +
  (d.pipe.lanes.vals.filter fun j => match j with
    | .passA q _ _ l => decide (q = s) && l.buffered
    | .passB .. => false).length

/-- A frame of a stream has lines in buffers or still to come (R85): waiting, in pass A, or the frame is open. -/
def Dev.frameLive (d : Dev) (s : Nat) (f : Frame) : Bool :=
  f.isOpen || f.lines.vals.any (·.buffered) ||
  d.pipe.lanes.vals.any fun j => match j with
    | .passA q c _ l => decide (q = s ∧ c = f.tag.cnt) && l.buffered
    | .passB .. => false

/-- R85 steps 1 and 4 on a frame: its waiting lines are released and padded, it is tagged OVERRUN. -/
def Frame.finish (f : Frame) (w now : Nat) : Frame :=
  let rel := (f.lines.cells.filter fun p => p.2.buffered).map (·.1)
  let f := { f with lines := f.lines.keep fun _ l => !l.buffered, tails := f.tails.keep fun y _ => !rel.contains y }
  let f := f.padLines w now rel
  { f with tag := f.tag.mark 1 }

/-- R85 on one frame of a stream: OVR_FRAMES and the flag once for the frame. -/
def Dev.finishFrame (d : Dev) (s : Nat) (f : Frame) : Dev :=
  let g := f.finish (d.width s) d.clk
  let d := d.setStrm s ((d.strm s).putFrame g)
  let d := d.wr P.PAD_LINES [coreOf s] (d.rd P.PAD_LINES [coreOf s] + (g.tag.pad - f.tag.pad))
  if f.tag.has 1 then d else (d.bump P.OVR_FRAMES [coreOf s]).setIng 4 s

/-- An overrun of a stream (R85): its oldest live frame is finished, and the next ones while no buffer comes free. -/
def Dev.overrun (d : Dev) (s : Nat) : Dev :=
  d.each ((d.strm s).frames.filter (d.frameLive s)) fun f e =>
    if e.buffers s ≤ e.occupied s && (e.strm s).openFrame.all (fun g => !g.tag.has 1) then e.finishFrame s f else e

/-- A line discarded and counted as cut: by R77, or as a further line of a frame that R85 has finished. -/
def Dev.cutLine (d : Dev) (s : Nat) (f : Frame) (extra : Bool) : Dev :=
  let tag := if extra then f.tag.mark 5 else f.tag
  let d := d.setStrm s ((d.strm s).putLast { f with tag := { tag with cut := f.tag.cut + 1 } })
  let d := d.bump P.CUT_LINES [coreOf s]
  if extra then d.setIng 3 s else d

/-- A line discarded as `cutLine` does; one whose CRC fails counts in CRC_LINES and damages its frame all the same (R76). -/
def Dev.cutBad (d : Dev) (s : Nat) (f : Frame) (crcOk extra : Bool) : Dev :=
  let d := if crcOk then d else d.bump P.CRC_LINES [coreOf s]
  d.cutLine s (if crcOk then f else { f with tag := { f.tag.mark 0 with crc := f.tag.crc + 1 } }) extra

/-- The frame closed (R78, R83): empty positions padded, telemetry that did not come flagged. -/
def Dev.closeFrame (d : Dev) (s : Nat) (noFe : Bool) : Dev :=
  let x := d.strm s
  match x.openFrame with
  | none => d
  | some f =>
    let missing := (List.range (d.height s)).map (· + 1) |>.filter fun y => decide (f.top < y)
    let g := f.padLines (d.width s) d.clk missing
    let lack (src : Nat) : Bool :=
      let ty := if src = 8 then 0x12 else 0x30 + src
      decide (src < 9) && !(f.tel.any fun p => decide (p.1 = ty)) && !isComp s
    let tel := lack (d.rd P.FPA_SRC [coreOf s]) || lack (d.rd P.HOUS_SRC [coreOf s] % 16)
    let damaged := g.tag.has 8
    let g := { g with isOpen := false, top := max f.top (d.height s) }
    let g := if noFe then { g with tag := g.tag.mark 9 } else g
    let g := if tel then { g with tag := g.tag.mark 8 } else g
    let d := d.setStrm s { (x.putLast g) with fpa := g.tag.fpa, hous := g.tag.hous, kept := (f.tel :: x.kept).take 4 }
    let d := d.wr P.PAD_LINES [coreOf s] (d.rd P.PAD_LINES [coreOf s] + missing.length)
    if tel && !damaged then d.setIng 7 s else d

/-! ## Packet rows -/

/-- What a packet's header does to its stream before the packet is handled (R75): none where it is discarded. -/
def Dev.header (d : Dev) (l vc : Nat) (h : Hdr) : Option Nat × Dev :=
  match h with
  | .bad => (none, ((d.bump P.ECC_UNCORR [l]).bump P.DISCARD [l] |>.set (.ing 1) (1, l) (leBytes 1 l)).set (.ing 5) (1, l) (leBytes 1 l))
  | _ =>
    let d := if h = .fixed then (d.bump P.ECC_CORR [l]).set (.ing 0) (1, l) (leBytes 1 l) else d
    match d.streamAt l vc with
    | none => (none, d.discard l)
    | some s => (some s, d)

/-- A corrected header counted in the open frame (R75). -/
def Dev.fixFrame (d : Dev) (s : Nat) (h : Hdr) : Dev :=
  let x := d.strm s
  let d := d.setStrm s { x with heard := d.clk }
  match h, x.openFrame with
  | .fixed, some f =>
    d.setStrm s ({ x with heard := d.clk }.putLast { f with tag := { f.tag.mark 6 with hdr := f.tag.hdr + 1 } })
  | _, _ => d

/-- A packet is received: its link is enabled and the device is awake. -/
def Dev.linkOn (d : Dev) (l : Nat) : Bool := d.awake && d.is P.CSI_LINK_EN [l]

/-- The handling of a packet: `f` at the stream it belongs to. -/
def Dev.packet (d : Dev) (l vc : Nat) (h : Hdr) (f : Nat → Dev → Dev) : Dev :=
  if d.linkOn l then
    match d.header l vc h with
    | (none, d) => d
    | (some s, d) => f s (d.fixFrame s h)
  else d

/-- LINE_START: the position of the next line when LINE_NUM is 1 (R77). -/
def lineStart (l vc n : Nat) (h : Hdr) (d : Dev) : Dev :=
  d.packet l vc h fun s d =>
    match (d.strm s).openFrame with
    | some f => if d.is P.LINE_NUM [coreOf s] then d.setStrm s ((d.strm s).putLast { f with ls := some n }) else d
    | none => d

/-- LINE_END: ignored (R74). -/
def lineEnd (l vc : Nat) (h : Hdr) (d : Dev) : Dev := d.packet l vc h fun _ d => d

/-- GENERIC_SHORT_PACKET, or any data type without a use: discarded and counted (R74). -/
def genericPacket (l vc : Nat) (h : Hdr) (d : Dev) : Dev := d.packet l vc h fun _ d => d.discard l

/-- CRC_ERR of a link, for a packet of a stream (R76). -/
def Dev.payloadError (d : Dev) (l s : Nat) : Dev := (d.bump P.CRC_ERR [l]).setIng 2 s

/-- A long packet on a virtual channel that no enabled stream uses, whose payload CRC fails, counts on its link (R76). -/
def Dev.strayError (d : Dev) (l vc : Nat) (h : Hdr) (crcOk : Bool) : Dev :=
  if crcOk || !d.linkOn l || h = .bad || (d.streamAt l vc).isSome then d
  else (d.bump P.CRC_ERR [l]).set (.ing 2) (1, l) (leBytes 1 l)

/-- A field of a telemetry packet (R83): source word, conversion word; none where the packet is too short. -/
def telemetryField (src conv : Nat) (payload : List Byte) : Option Nat :=
  let off := bitsOf src 4 12
  let n := bitsOf src 16 2 + 1
  if payload.length < off + n then none
  else
    let bs := (payload.drop off).take n
    let v := if bitOf src 19 then beNat bs else leNat bs
    let v : Int := if bitOf src 18 then signedOf (8 * n) v else v
    some (clampInt 0 65535 (rndDiv (v * signedOf 16 (bitsOf conv 0 16)) 4096 + signedOf 16 (bitsOf conv 16 16))).toNat

/-- The source and conversion words of the two values: FPA, HOUS. -/
def Dev.telWords (d : Dev) (k : Nat) (hous : Bool) : Nat × Nat :=
  if hous then (d.rd P.HOUS_SRC [k], d.rd P.HOUS_CONV [k]) else (bitsOf (d.word (0x200106 + 16 * k)) 0 20, d.word (0x200108 + 16 * k))

/-- One telemetry value taken from a packet, if its source word names it and it is the first such packet. DESIGN CHOICE
(log 29): the source words are the core's, and the tag of a companion frame holds 0 for both values. -/
def Dev.takeTelemetry (d : Dev) (s dt : Nat) (payload : List Byte) (good hous : Bool) (f : Frame) : Frame :=
  let (src, conv) := d.telWords (coreOf s) hous
  let ty := if src % 16 = 8 then 0x12 else 0x30 + src % 16
  if isComp s || 8 < src % 16 || ty ≠ dt || f.tel.any fun p => decide (p.1 = dt) then f
  else
    match (if good then telemetryField src conv payload else none) with
    | some v => if hous then { f with tag := { f.tag with hous := v } } else { f with tag := { f.tag with fpa := v } }
    | none => { f with tag := f.tag.mark 8 }

/-- TELEMETRY: an embedded or user-defined packet (R83). -/
def telemetry (l vc dt : Nat) (payload : List Byte) (crcOk : Bool) (h : Hdr) (d : Dev) : Dev :=
  (d.strayError l vc h crcOk).packet l vc h fun s d =>
    let d := if crcOk then d else d.payloadError l s
    if dt = 0x12 || (0x30 ≤ dt && dt ≤ 0x37) then
      match (d.strm s).openFrame with
      | none => d.discard l
      | some f =>
        let was := f.tag.has 8
        let g := d.takeTelemetry s dt payload crcOk true (d.takeTelemetry s dt payload crcOk false f)
        let g := { g with tel := g.tel ++ [(dt, payload)], telBad := if crcOk then g.telBad else dt :: g.telBad }
        let d := d.setStrm s ((d.strm s).putLast g)
        if g.tag.has 8 && !was then d.setIng 7 s else d
    else d.discard l

/-- The line placed at a position of the open frame (R76, R77): skipped positions padded first. -/
def Dev.placeLine (d : Dev) (s y : Nat) (f : Frame) (payload : List Byte) (crcOk : Bool) : Dev :=
  let w := d.width s
  let got := unpack (d.dataType s) payload
  let skipped := (List.range y).filter fun p => decide (f.top < p)
  let f := f.padLines w d.clk skipped
  let short := decide (got.length < w)
  let long := decide (w < got.length)
  let body := got.take w
  let fill := (body.getLast?).getD (f.padValue y)
  let line : Line := ⟨fitTo w fill body, min got.length w, !crcOk || short || long, true, d.clk⟩
  let tag := f.tag
  let tag := if short then { tag.mark 2 with pad := tag.pad + 1 } else tag
  let tag := if long then { tag.mark 3 with cut := tag.cut + 1 } else tag
  let tag := if crcOk then tag else { tag.mark 0 with crc := tag.crc + 1 }
  let f := { f with tag := tag, top := y, ls := none, lines := f.lines.put y line,
                    tails := match body.getLast? with | some v => f.tails.put y v | none => f.tails }
  let d := d.setStrm s ((d.strm s).putLast f)
  let pads := skipped.length + (if short then 1 else 0)
  let k := coreOf s
  let d := (d.wr P.PAD_LINES [k] (d.rd P.PAD_LINES [k] + pads)).wr P.CUT_LINES [k] (d.rd P.CUT_LINES [k] + (if long then 1 else 0))
  let d := if crcOk then d else d.bump P.CRC_LINES [coreOf s]
  if short || long then d.setIng 3 s else d

/-- IMAGE_LINE (R76, R77, R84, R85). -/
def imageLine (l vc dt : Nat) (payload : List Byte) (crcOk : Bool) (h : Hdr) (d : Dev) : Dev :=
  (d.strayError l vc h crcOk).packet l vc h fun s d =>
    let d := if crcOk then d else d.payloadError l s
    if dt ≠ 0x2C + d.dataType s then d.discard l
    else
      match (d.strm s).openFrame with
      | none => d.discard l
      | some f =>
        let y := if d.is P.LINE_NUM [coreOf s] then f.ls.getD 0 else f.top + 1
        let extra := decide (y ≤ f.top ∨ d.height s < y)
        if extra || f.tag.has 1 then d.cutBad s f crcOk extra
        else if d.buffers s ≤ d.occupied s then
          let d := d.overrun s
          match (d.strm s).openFrame with
          | none => d
          | some f => if f.tag.has 1 then d.cutBad s f crcOk false else d.placeLine s y f payload crcOk
        else d.placeLine s y f payload crcOk

/-- CSI_LINK_UP: the clock lane is detected and the lanes come into normal operation, or are lost (R103). -/
def csiLinkUp (l : Nat) (up : Bool) (d : Dev) : Dev :=
  if d.awake && decide (l < 32) then d.put P.CSI_LINK_UP [l] (up && d.is P.CSI_LINK_EN [l]) else d

/-! ## Setting changes (R92 to R97) -/

/-- The cores of a sensor control bus whose writes run next, in the order of the FE stamps of their changes (R94). -/
def Dev.busCores (d : Dev) (b : Nat) : List Nat :=
  let l := (List.range 8).map (· + 8 * b) |>.filter fun k => (d.setting k).queue.any (·.begun)
  let stamp (k : Nat) : Nat := match (d.setting k).queue with
    | c :: _ => c.stamp
    | [] => 0
  let first := (l.map stamp).foldl min (2 ^ 64)
  l.filter fun k => decide (stamp k = first)

/-- The bus address a write goes to. -/
def Dev.target (d : Dev) (k : Nat) (comp : Bool) : Nat := if comp then d.rd P.COMP_ADDR [k] else d.rd P.BUS_ADDR [k]

/-- A write as it is driven on its bus. The two common command codes of R91 are driven to the target's address with
the codes MIPI I3C gives them, 0x87 SETDASA and 0x81 DISEC. -/
def Dev.drive (d : Dev) (b k : Nat) : BusOp → Dev
  | .setdasa c => d.emit (.busWrite b (d.target k c) 0x87 (leBytes 1 (2 * d.target k c)))
  | .disec c => d.emit (.busWrite b (d.target k c) 0x81 [9])
  | .write c verify wide reg data =>
    let r := if wide then reg else reg % 256
    let d := d.emit (.busWrite b (d.target k c) r data)
    if verify && d.is P.BUS_MODE [b] then d.emit (.busRead b (d.target k c) r data.length) else d

/-- The read-back of a VERIFY entry fails: in I3C mode it returned other data than was written (R92). -/
def Dev.readBackFails (d : Dev) (b : Nat) (op : BusOp) (e : WriteEnd) : Bool :=
  match op, e with
  | .write _ true _ _ data, .readBack got => d.is P.BUS_MODE [b] && decide (got ≠ data)
  | _, _ => false

/-- The attempt at a write failed (R92). -/
def Dev.writeFails (d : Dev) (b : Nat) (op : BusOp) (e : WriteEnd) : Bool :=
  decide (e = .nack ∨ e = .busError) || d.readBackFails b op e

/-- Outcome of a change for the request that was deferred (R97): the generation in the result. -/
def Dev.changeDone (d : Dev) (c : Change) (st : Status) : Dev :=
  match c.ticket with
  | some t => d.complete t st 0 (leBytes 2 c.gen)
  | none => d

/-- A staged set without its gather's records; none where nothing else is staged. -/
def Staged.dropGather (s : Staged) : Option Staged :=
  if s.knots.isNone && !s.reload then none else some { s with recs := s.under, slot := none }

/-- A setting change has completed (R153, R172): 2 s of stable frames are awaited, and a gather whose result is not
armed yet is discarded. A SHUTTER_NOW whose result is discarded before it is computed ends with ST_FAULT (log 204). -/
def Dev.discardResult (d : Dev) (k : Nat) : Dev :=
  match d.cal.cores.get? k with
  | none => d
  | some a =>
    let late := a.cycle.any fun c => c.complete && !c.failed && !c.aborted
    let asked := if late then (a.cycle.bind (·.ticket)).toList else []
    let staged := a.staged.any fun s => s.slot.isSome
    let a := { a with
      stable := some d.clk,
      cycle := a.cycle.map fun c =>
        if c.complete then { c with aborted := true, ticket := if late then none else c.ticket } else c,
      staged := if staged then a.staged.bind Staged.dropGather else a.staged,
      classes := if staged then [] else a.classes }
    let d : Dev := { d with cal := { d.cal with cores := d.cal.cores.put k a } }
    let d := if staged then d.wr P.STAGED [k] (d.rd P.STAGED [k] / 2 * 2) else d
    let d := if d.rd P.RAMP_STATE [k] = 1 && a.staged.isNone then d.wr P.RAMP_STATE [k] 0 else d
    let d := if d.rd P.CYC_STATE [k] = 0 then d.wr P.CYC_STATE [k] 8 else d
    let d := if late || staged then d.set (.cal 11) (2, k) (leBytes 1 k) else d
    d.each asked fun t d => d.complete t .fault

/-- The first change of a core has completed (R92, R95). DESIGN CHOICE (log 28): a core leaves the bus-fault state by the
completion of a whole setting change, for waiting where it has stamped no frame and for streaming otherwise. -/
def Dev.completeChange (d : Dev) (k : Nat) (c : Change) : Dev :=
  let x := d.setting k
  let d := d.setSetting k { x with
    queue := x.queue.drop 1, tries := 0, failed := false,
    applied := x.applied ++ [⟨c.gen, d.rd P.SET_LAG [k] + 1, c.rate, c.compRate⟩] }
  let d := d.changeDone c .ok
  let st := d.rd P.CORE_STATE [k]
  let enabling := decide (c.gen = 1 ∧ st = 1)
  let d := if c.gen = 1 && decide (st = 1 ∨ st = 5) then d.coreState k 2
    else if st = 5 then d.coreState k (if (d.strm k).stamps.isEmpty then 2 else 3) else d
  if enabling then d else d.discardResult k

/-- The first change of a core fails (R96). -/
def Dev.failChange (d : Dev) (k : Nat) (c : Change) : Dev :=
  let x := d.setting k
  let d := d.setSetting k { x with queue := x.queue.drop 1, tries := 0, failed := true }
  let d := (d.coreState k 5).set (.ing 9) (2, k) (d.ingData k c.gen)
  (d.report 81 (2, k) (d.ingData k c.gen)).changeDone c .fault

/-- Changes of no writes at the head of a core's queue complete at once. -/
def completeEmpty : Nat → Nat → Dev → Dev
  | 0, _, d => d
  | n + 1, k, d =>
    match (d.setting k).queue with
    | c :: _ => if c.begun && c.ops.isEmpty then completeEmpty n k (d.completeChange k c) else d
    | [] => d

/-- CORE_WRITE: the write in hand on a sensor control bus ends (R92, R94, R96). -/
def coreWrite (b : Nat) (e : WriteEnd) (d : Dev) : Dev :=
  if !d.awake then d
  else
    match (d.busCores b).head? with
    | none => d
    | some k =>
      let x := d.setting k
      match x.queue with
      | [] => d
      | c :: rest =>
        match c.ops with
        | [] => d.completeChange k c
        | op :: ops =>
          let d := d.drive b k op
          if !d.writeFails b op e then
            if ops.isEmpty then completeEmpty 8 k (d.completeChange k c)
            else d.setSetting k { x with queue := { c with ops := ops } :: rest, tries := 0 }
          else
            let d := d.bump P.NACK_CNT [b]
            let d := if e = .busError then
                ((d.emit (.busReset b)).bump P.BUS_RESET_CNT [b]).set (.ing 9) (1, 32 + b) (d.ingData k c.gen)
              else d
            if x.tries < d.rd P.RETRIES [b] then d.setSetting k { x with tries := x.tries + 1 }
            else completeEmpty 8 k (d.failChange k c)

/-- The next generation of a core (R93). -/
def nextGen (g : Nat) : Nat := if 0xFFFF ≤ g then 1 else g + 1

/-- A core is in its gather window (R97, R172). -/
def Dev.gathering (d : Dev) (k : Nat) : Bool :=
  decide (d.rd P.CYC_STATE [k] ∈ [2, 3, 4]) && ((d.cal.cores.get? k).bind (·.cycle)).isSome

/-- The entries of a setting profile as writes (Table 3-5). -/
def profileOps (bs : List Byte) : List BusOp :=
  (List.range (min 32 (byteAt bs 0))).map fun i =>
    let e := (bs.drop (8 + 8 * i)).take 8
    let fl := byteAt e 0
    let n := byteAt e 1
    let data := (e.drop 4).take n
    .write (bitOf fl 0) (bitOf fl 1) (bitOf fl 2) (leAt e 2 2) (if bitOf fl 3 then data.reverse else data)

/-- A setting change accepted (R93): the generation it gets. -/
def Dev.addChange (d : Dev) (k : Nat) (ops : List BusOp) (rate comp profile : Nat) (t : Option Ticket) : Nat × Dev :=
  let g := nextGen (d.rd P.SET_GEN_ISSUED [k])
  let x := d.setting k
  let d := d.setSetting k { x with queue := x.queue ++ [⟨g, ops, rate, comp, false, 0, t⟩] }
  (g, (d.wr P.SET_GEN_ISSUED [k] g).wr P.SET_PROFILE [k] profile)

end Sys2Proof.Machine
end

