-- ==== Sys2Proof/Machine/Surface.lean ====
section
/-!
DEFINITION. Sys2Proof/Machine/Surface.lean: the configuration image (R250), the surface configuration (R179, Tables 6-1
to 6-3) and the warp grids (R180, R181).
-/
namespace Sys2Proof.Machine

/-! ## The image (R250) -/

/-- A section of a configuration image; nothing where the directory does not name it. -/
def imageSection (img : List Byte) (id : Nat) : List Byte :=
  let n := byteAt img 12
  match (List.range n).find? fun i => decide (byteAt img (16 + 8 * i) = id) with
  | none => []
  | some i => (img.drop (leAt img (18 + 8 * i) 4)).take (1024 * leAt img (22 + 8 * i) 2)

/-- The entries of a section of `n`-byte entries; the all-zero entries of its fill are none (log 20). -/
def entries (n : Nat) (s : List Byte) : List (Nat × List Byte) :=
  ((List.range (s.length / n)).map fun i => (i, (s.drop (n * i)).take n)).filter fun e => e.2.any (· ≠ 0#8)

/-- The first 8 bytes of SHA-256 over an image. -/
def digestOf (img : List Byte) : List Byte := (sha256 img).take 8

/-! ## Tiles (Table 6-1) -/

/-- A tile table entry. -/
structure TileRow where
  /-- Tile ID. -/
  tile : Nat
  /-- PATCH. -/
  patch : Nat
  /-- Attaching device. -/
  dev : Nat
  /-- Bus. -/
  bus : Nat
  /-- Drop. -/
  drop : Nat
  /-- NORM_AZ. -/
  az : Nat
  /-- NORM_EL. -/
  el : Int
  /-- LED_U. -/
  ledU : Nat
  /-- LED_V. -/
  ledV : Nat
  /-- Neighbours by direction. -/
  neigh : List (Option Nat)
deriving DecidableEq, Repr

/-- An entry of the tile table read. -/
def tileRow (t : Nat) (e : List Byte) : TileRow :=
  let a := leAt e 4 4
  { tile := t, patch := leAt e 0 4 % 2 ^ 22, dev := bitsOf a 0 10, bus := bitsOf a 10 8, drop := bitsOf a 18 5,
    az := leAt e 8 2, el := signedOf 16 (leAt e 10 2), ledU := leAt e 12 2, ledV := leAt e 14 2,
    neigh := (List.range 8).map fun n =>
      let w := leAt e (16 + 3 * n) 3
      if bitOf w 23 then none else some (w % 2 ^ 18) }

/-- The tiles of an image, ascending. -/
def tilesOf (img : List Byte) : List TileRow := (entries 40 (imageSection img 2)).map fun e => tileRow e.1 e.2

/-- A tile of the active configuration. -/
def Dev.tile? (d : Dev) (t : Nat) : Option TileRow :=
  let e := ((imageSection d.plc.image 2).drop (40 * t)).take 40
  if e.length = 40 && e.any (· ≠ 0#8) then some (tileRow t e) else none

/-- The tiles of a patch in ascending order: their position is the patch tile index (R178). -/
def Dev.patchTiles (d : Dev) (p : Nat) : List TileRow := (tilesOf d.plc.image).filter fun t => decide (t.patch = p)

/-- The tiles attached to this device, by drop order on a bus. -/
def Dev.attached (d : Dev) : List TileRow := (tilesOf d.plc.image).filter fun t => decide (t.dev = d.addr)

/-- The tiles on one bus of this device in drop order. -/
def Dev.busTiles (d : Dev) (b : Nat) : List TileRow :=
  let l := d.attached.filter fun t => decide (t.bus = b)
  (List.range 32).flatMap fun n => l.filter fun t => decide (t.drop = n)

/-! ## Patches (Table 6-2) -/

/-- A patch table entry. -/
structure PatchRow where
  /-- PATCH. -/
  patch : Nat
  /-- EMIS. -/
  emis : Nat
  /-- ANG_TAB. -/
  tab : Nat
  /-- BG_T. -/
  bg : Nat
deriving DecidableEq, Repr

/-- The patches of an image. -/
def patchesOf (img : List Byte) : List PatchRow :=
  (entries 12 (imageSection img 3)).map fun e =>
    ⟨leAt e.2 0 4 % 2 ^ 22, leAt e.2 4 2, byteAt e.2 6, leAt e.2 8 2⟩

/-- A patch of the active configuration. -/
def Dev.patch? (d : Dev) (p : Nat) : Option PatchRow := (patchesOf d.plc.image).find? fun r => decide (r.patch = p)

/-! ## Grid, angular tables, mounts, thresholds -/

/-- CELLS_X, CELLS_Y and EMIS_N of an image: its section 1 opens with the word of PRM 0x230010 (log 20). -/
def gridOf (img : List Byte) : Nat × Nat × Nat :=
  let w := leAt (imageSection img 1) 0 4
  (bitsOf w 0 5, bitsOf w 5 5, bitsOf w 10 8)

/-- Cells of a tile of the active configuration. -/
def Dev.tileCells (d : Dev) : Nat := d.rd P.CELLS_X * d.rd P.CELLS_Y

/-- A factor of an angular table, 1/10,000, for `i` × 10°. -/
def Dev.angFactor (d : Dev) (tab i : Nat) : Nat := leAt (imageSection d.plc.image 4) (16 * tab + 2 * min i 7) 2

/-- A(θ) in 1/10,000, θ in 0.5° steps: interpolated between entries, the 70° entry above (Table 6-2), as numerator
over 20. -/
def Dev.angOf (d : Dev) (tab halfDeg : Nat) : Nat :=
  let i := halfDeg / 20
  let r := halfDeg % 20
  if 7 ≤ i then 20 * d.angFactor tab 7 else (20 - r) * d.angFactor tab i + r * d.angFactor tab (i + 1)

/-- Mount entries of this device: core, POS in mm, ORIENT (Table 6-3). -/
def Dev.mount? (d : Dev) (k : Nat) : Option (List Byte) :=
  ((entries 40 (imageSection d.plc.image 5)).find? fun e => decide (leAt e.2 0 8 = d.uid ∧ byteAt e.2 8 = k)).map (·.2)

/-- ABS_THR and RATE_THR of a core; 0 where no entry names it (R250). -/
def thresholdsOf (img : List Byte) (uid k : Nat) : Nat × Nat :=
  match (entries 16 (imageSection img 6)).find? fun e => decide (leAt e.2 0 8 = uid ∧ byteAt e.2 8 = k) with
  | some e => (leAt e.2 12 2, leAt e.2 14 2)
  | none => (0, 0)

/-! ## The checks of R179 -/

/-- Values of a list that occur twice. -/
def hasRepeat : List Nat → Bool
  | [] => false
  | a :: t => t.contains a || hasRepeat t

/-- Values strictly rising. -/
def strictlyRising : List Nat → Bool
  | a :: b :: t => decide (a < b) && strictlyRising (b :: t)
  | _ => true

/-- A staged surface configuration passes R179. -/
def surfaceValid (img : List Byte) : Bool :=
  let ts := tilesOf img
  let ps := patchesOf img
  let (cx, cy, n) := gridOf img
  let size (p : Nat) : Nat := (ts.filter fun t => decide (t.patch = p)).length
  let tile (i : Nat) : Option TileRow := ts.find? fun t => decide (t.tile = i)
  decide (4 ≤ cx ∧ cx ≤ 16 ∧ 4 ≤ cy ∧ cy ≤ 16 ∧ 32 ≤ n ∧ n ≤ 96) &&
  ps.all (fun p => decide (1 ≤ size p.patch ∧ size p.patch ≤ 64) &&
    decide (1000 ≤ p.emis ∧ p.emis ≤ 10000 ∧ p.tab < 16)) &&
  strictlyRising (ps.map (·.patch)) &&
  ts.all (fun t => ps.any fun p => decide (p.patch = t.patch)) &&
  ts.all (fun t => decide ((ts.filter fun q => decide (q.dev = t.dev ∧ q.bus = t.bus)).length ≤ 32)) &&
  !hasRepeat (ts.map fun t => (t.dev * 256 + t.bus) * 32 + t.drop) &&
  ts.all fun t => (List.range 8).all fun n =>
    match t.neigh.getD n none with
    | none => true
    | some q => match tile q with
      | some q => decide (q.neigh.getD ((n + 4) % 8) none = some t.tile)
      | none => false

/-! ## Warp grids (R180, R181) -/

/-- Nodes across and down of a core's grid. -/
def Dev.gridSize (d : Dev) (k : Nat) : Nat × Nat :=
  ((d.rd P.WIDTH [k] + 15) / 16 + 1, (d.rd P.HEIGHT [k] + 15) / 16 + 1)

/-- A node as its 64-bit word (Table 6-4). -/
def Dev.node (d : Dev) (k i j : Nat) : Nat := d.tblNat (0x2300 + k) (8 * (j * (d.gridSize k).1 + i)) 8

/-- Steps of direction `n` in tile widths and heights. -/
def dirStep (n : Nat) : Int × Int :=
  [((1 : Int), (0 : Int)), (1, 1), (0, 1), (-1, 1), (-1, 0), (-1, -1), (0, -1), (1, -1)].getD n (0, 0)

/-- A point of a tile in the frame of a reference tile; none where the tile is not the reference or a neighbour. -/
def Dev.inFrame (d : Dev) (ref : TileRow) (t : Nat) (u v : Int) : Option (Int × Int) :=
  if t = ref.tile then some (u, v)
  else ((List.range 8).find? fun n => decide (ref.neigh.getD n none = some t)).map fun n =>
    (u + (dirStep n).1 * 256 * d.rd P.CELLS_X, v + (dirStep n).2 * 256 * d.rd P.CELLS_Y)

/-- A point in a reference tile's frame on the tile it falls on; none where there is no such neighbour. -/
def Dev.onTile (d : Dev) (ref : TileRow) (u v : Int) : Option (Nat × Int × Int) :=
  let cx : Int := 256 * d.rd P.CELLS_X
  let cy : Int := 256 * d.rd P.CELLS_Y
  let du : Int := if u < 0 then -1 else if cx ≤ u then 1 else 0
  let dv : Int := if v < 0 then -1 else if cy ≤ v then 1 else 0
  let tile : Option Nat :=
    if du = 0 ∧ dv = 0 then some ref.tile
    else ((List.range 8).find? fun n => decide (dirStep n = (du, dv))).bind fun n => ref.neigh.getD n none
  tile.map fun t => (t, u - du * cx, v - dv * cy)

/-- A VALID node's u, v and angle in the frame of a reference tile. -/
def Dev.nodeIn (d : Dev) (ref : TileRow) (w : Nat) : Option (Int × Int × Nat) :=
  if bitOf w 52 then
    (d.inFrame ref (bitsOf w 0 18) (bitsOf w 18 12) (bitsOf w 32 12)).map fun p => (p.1, p.2, bitsOf w 44 8)
  else none

/-- a + (b − a) × f in binary32. -/
def lerp (a b f : F32) : F32 := F32.add a (F32.mul (F32.sub b a) f)

/-- The fraction of `x` between `a` and `b` in binary32; 0 where they coincide. -/
def between (x a b : Nat) : F32 := if b ≤ a then F32.zero else F32.ofIntRat ((x : Int) - a) (b - a)

/-- Where a pixel falls: tile, cell index and view angle in 0.5°, binary32; none where it is unmapped (R181). -/
def Dev.mapPixel (d : Dev) (k x y : Nat) : Option (Nat × Nat × F32) :=
  let w := d.rd P.WIDTH [k]
  let h := d.rd P.HEIGHT [k]
  let i := x / 16
  let j := y / 16
  let n00 := d.node k i j
  match (if bitOf n00 52 then d.tile? (bitsOf n00 0 18) else none) with
  | none => none
  | some ref =>
    match d.nodeIn ref n00, d.nodeIn ref (d.node k (i + 1) j), d.nodeIn ref (d.node k i (j + 1)),
        d.nodeIn ref (d.node k (i + 1) (j + 1)) with
    | some a, some b, some c, some e =>
      let fx := between x (16 * i) (min (16 * (i + 1)) (w - 1))
      let fy := between y (16 * j) (min (16 * (j + 1)) (h - 1))
      let mix (p q r s : Int) : F32 :=
        lerp (lerp (F32.ofInt p) (F32.ofInt q) fx) (lerp (F32.ofInt r) (F32.ofInt s) fx) fy
      let u := F32.floor (mix a.1 b.1 c.1 e.1)
      let v := F32.floor (mix a.2.1 b.2.1 c.2.1 e.2.1)
      let ang := mix a.2.2 b.2.2 c.2.2 e.2.2
      (d.onTile ref u v).map fun q => (q.1, q.2.2.toNat / 256 * d.rd P.CELLS_X + q.2.1.toNat / 256, ang)
    | _, _, _, _ => none

/-- A cell's index within its patch (R178). -/
def Dev.patchCell (d : Dev) (t cell : Nat) : Option (Nat × Nat) :=
  (d.tile? t).bind fun r =>
    ((d.patchTiles r.patch).findIdx? fun q => decide (q.tile = t)).map fun i => (r.patch, i * d.tileCells + cell)

/-- The VALID nodes of a core's grid. -/
def Dev.validNodes (d : Dev) (k : Nat) : Nat :=
  let (nx, ny) := d.gridSize k
  ((List.range ny).flatMap fun j => (List.range nx).filter fun i => bitOf (d.node k i j) 52).length

/-- The patches and cells a core's pixels map onto, with the row of each: patch, cell, row. -/
def Dev.mapped (d : Dev) (k : Nat) : List (Nat × Nat × Nat) :=
  if d.validNodes k = 0 then []
  else
    ((List.range (d.rd P.HEIGHT [k])).flatMap fun y => (List.range (d.rd P.WIDTH [k])).filterMap fun x =>
      (d.mapPixel k x y).bind fun m => (d.patchCell m.1 m.2.1).map fun c => (c.1, c.2, y))

/-- The patches a core sees, ascending in order of first pixel. -/
def Dev.sees (d : Dev) (k : Nat) : List Nat := ((d.mapped k).map (·.1)).eraseDups

/-- The last row that maps onto a patch. -/
def Dev.lastRow (d : Dev) (k p : Nat) : Nat :=
  (((d.mapped k).filter fun m => decide (m.1 = p)).map fun m => m.2.2).foldl max 0

end Sys2Proof.Machine
end

