-- ==== Sys2Proof/Machine/Fuse.lean ====
section
/-!
DEFINITION. Sys2Proof/Machine/Fuse.lean: cell views and contributions (R186 to R188), fusion, the join offset and the
publication of a patch (R189 to R193), Tile Link records and tile queues (R196 to R203).
-/
namespace Sys2Proof.Machine

/-! ## Slots and places -/

/-- What this device knows of a patch's placement. -/
def Dev.place (d : Dev) (p : Nat) : Place := d.plc.places.get p ⟨0x3FF, 0, 0, 0x3FF, none, false, none, none⟩

/-- A patch's placement changed. -/
def Dev.setPlace (d : Dev) (p : Nat) (x : Place) : Dev := { d with plc := { d.plc with places := d.plc.places.put p x } }

/-- The patch is owned here. -/
def Dev.owns (d : Dev) (p : Nat) : Bool := decide ((d.place p).owner = d.addr) && d.addressed

/-- A slot with nothing in it. -/
def Slot.fresh (num : Nat) : Slot :=
  ⟨num, none, [], [], none, false, 0, 0, 0, 0, 0, KMap.empty, none, none, true, false, false⟩

/-- The context slot of a patch. -/
def Dev.slot? (d : Dev) (p : Nat) : Option Slot := d.fus.slots.get? p

/-- A slot changed. -/
def Dev.setSlot (d : Dev) (p : Nat) (x : Slot) : Dev := { d with fus := { d.fus with slots := d.fus.slots.put p x } }

/-- The region a slot number belongs to (R10, R12). -/
def Dev.slotRegion (d : Dev) (n : Nat) : Nat := d.fus.regions.get n (n / 1024)

/-- No patch holds a slot number. -/
def Dev.vacant (d : Dev) (n : Nat) : Bool := !d.fus.slots.vals.any fun s => decide (s.num = n)

/-- The lowest free slot of a region. -/
def Dev.freeIn (d : Dev) (r : Nat) : Option Nat := (List.range 4096).find? fun n => d.vacant n && decide (d.slotRegion n = r)

/-- A free slot, of the region preferred where it has one (R249). -/
def Dev.allot (d : Dev) (r : Nat) : Option Nat := (d.freeIn r).or ((List.range 4096).find? d.vacant)

/-- The device sends no contribution and no record: it is in Doze or enters it, is unaddressed, or has no active configuration
(R245). -/
def Dev.mute (d : Dev) : Bool := !d.addressed || decide (d.rd P.DEV_STATE ∈ [3, 5]) || d.plc.image.isEmpty

/-- A flag of the output group set, with the unit it concerns (R10, Table 13-2). -/
def Dev.setOut (d : Dev) (n : Nat) (u : Unit' := noUnit) : Dev := d.set (.out n) u

/-- The unit of a tile on its bus, 32 × bus + drop; of a bus without a tile its drop 0 (Table 13-2). -/
def Dev.tileUnit (d : Dev) (q : Nat) : Unit' :=
  if 2 ^ 18 ≤ q then (9, 32 * (q - 2 ^ 18))
  else match d.tile? q with
    | some r => (9, 32 * r.bus + r.drop)
    | none => noUnit

/-- The unit of a core of this device; none for a core of another. -/
def Dev.coreUnit (d : Dev) (dev core : Nat) : Unit' := if dev = d.addr then (2, core) else noUnit

/-! ## Cell views (R186, R187) -/

/-- The weight of a pixel in 1/60 (Table 6-5). -/
def weight60 (f : Frame) (r : Res) : Nat :=
  if f.tag.has 7 || bitOf r.st 0 || bitOf r.st 1 || bitOf r.st 5 then 0
  else if bitOf r.st 4 then 15 else 4 * r.conf

/-- A pixel added to a cell's sums. -/
def CellSum.add (c : CellSum) (f : Frame) (r : Res) (ang : F32) : CellSum :=
  let w := weight60 f r
  { w := c.w + w, wt := c.wt + w * r.t, wa := F32.add c.wa (F32.mul (F32.ofIntRat w 60) ang),
    ramping := c.ramping || bitOf r.st 6, range := c.range || bitOf r.st 7,
    clean := c.clean && (decide (w = 0) || decide (r.st % 8 = 0 ∧ r.cls = 0 ∧ 8 ≤ r.conf) && !bitOf r.st 4) }

/-- A line's results added to the sums of its core (R187). -/
def Dev.accumulate (d : Dev) (k : Nat) (f : Frame) (row : Nat) (l : List Res) : Dev :=
  let zero : CellSum := ⟨0, 0, F32.zero, false, false, true⟩
  let acc := (l.mapIdx fun x r => (x, r)).foldl (fun (m : KMap CellSum) p =>
    match d.mapPixel k p.1 row with
    | none => m
    | some (t, cell, ang) =>
      match d.patchCell t cell with
      | none => m
      | some (patch, c) => m.upd (patch * 65536 + c) zero fun s => s.add f p.2 ang) (d.fus.acc.get k KMap.empty)
  { d with fus := { d.fus with acc := d.fus.acc.put k acc } }

/-- The cell view of a cell's sums; none below VIEW_MIN_N (R187). -/
def Dev.cellView (d : Dev) (capture : Nat) (c : CellSum) : Option CellView :=
  if c.w = 0 || 16 * c.w < 60 * d.rd P.VIEW_MIN_N then none
  else
    some { capture := capture, n := min 0xFFFF (256 * c.w / 60), t := natHalf c.wt c.w,
           ang := (F32.scaled (F32.div c.wa (F32.ofIntRat c.w 60)) 1 0 1).toNat,
           ramping := c.ramping, range := c.range, clean := c.clean }

/-- A list in runs of at most `n`. -/
def runs {α : Type} (n : Nat) : Nat → List α → List (List α)
  | 0, _ => []
  | _, [] => []
  | k + 1, l => l.take n :: runs n k (l.drop n)

/-- A contribution message (Table 6-6). -/
def contribution (patch epoch capture src core : Nat) (last : Bool) (l : List (Nat × CellView)) : List Byte :=
  leBytes 4 patch ++ leBytes 4 epoch ++ leBytes 8 capture ++ leBytes 2 src ++ leBytes 1 core ++ leBytes 1 l.length ++
  leBytes 1 (if last then 1 else 0) ++ [0, 0, 0] ++
  l.flatMap fun e => leBytes 2 e.1 ++ leBytes 2 e.2.n ++ leBytes 2 e.2.t ++ leBytes 1 e.2.ang ++
    leBytes 1 ((if e.2.ramping then 1 else 0) + (if e.2.range then 2 else 0))

/-- The cell views of a contribution message. It says nothing of classes and CONF: a view counts as clean for R160 where
it has no RANGE pixel (log 24). -/
def contributionCells (m : List Byte) : List (Nat × CellView) :=
  (List.range (byteAt m 19)).map fun i =>
    let e := (m.drop (24 + 8 * i)).take 8
    let fl := byteAt e 7
    (leAt e 0 2 % 16384, ⟨leAt m 8 8, leAt e 2 2, leAt e 4 2, byteAt e 6, bitOf fl 0, bitOf fl 1, !bitOf fl 1⟩)

/-- The place of a view among a slot's views. -/
def Slot.viewAt (s : Slot) (dev core : Nat) : Option Nat := s.views.findIdx? fun v => decide (v.dev = dev ∧ v.core = core)

/-- A contribution message as the owner takes it. -/
def contribOf (m : List Byte) (now : Nat) : Contrib :=
  ⟨leAt m 16 2 % 1024, byteAt m 18, leAt m 8 8, bitOf (byteAt m 20) 0, contributionCells m, now⟩

/-- A complete frame of a view: its cell views take the place of those before it, cell by cell (R188). -/
def View.finish (v : View) (origin viewRamp : Nat) (own : Option Nat) : View :=
  let period := match own with
    | some p => p
    | none => match v.capture with
      | some c => v.comingAt - c
      | none => 0
  { v with
    cells := v.coming.cells.foldl (fun m e => m.put e.1 e.2) v.cells,
    capture := some v.comingAt, coming := KMap.empty, origin := origin, done := false, period := period,
    join := match v.join with
      | some i => if i < viewRamp then some (i + 1) else none
      | none => none,
    mapped := (v.mapped ++ v.coming.keys).eraseDups }

/-- A view of which nothing has come yet: it joins (R189). -/
def View.joining (c : Contrib) : View := ⟨c.dev, c.core, KMap.empty, none, 0, true, 0, KMap.empty, c.capture, some 0, []⟩

/-- A contribution added to its view's frame, which LAST completes. -/
def View.take (v : View) (c : Contrib) (viewRamp : Nat) (own : Option Nat) : View :=
  let v := if v.comingAt = c.capture then v else { v with coming := KMap.empty, comingAt := c.capture }
  let v := { v with coming := c.cells.foldl (fun m e => m.put e.1 e.2) v.coming }
  if c.last then v.finish c.origin viewRamp own else v

/-- A contribution taken by the slot of its patch (R188); a ninth view is not admitted, and its contributions are discarded and
counted (R193). -/
def Dev.takeIn (d : Dev) (p : Nat) (c : Contrib) : Dev :=
  match d.slot? p with
  | none => d
  | some s =>
    let found := s.viewAt c.dev c.core
    if found.isNone && decide (8 ≤ s.views.length) then (d.bump P.STALE_CNT).setOut 4 (d.coreUnit c.dev c.core)
    else
      let views := if found.isSome then s.views else s.views ++ [View.joining c]
      let i := found.getD s.views.length
      let own := if c.dev = d.addr then some (d.period c.core) else none
      d.setSlot p { s with views := views.set i ((views.getD i (View.joining c)).take c (d.rd P.VIEW_RAMP) own) }

/-- A frame of a view has arrived in part. -/
def View.midFrame (v : View) : Bool := !v.coming.cells.isEmpty

/-- A contribution belongs to a frame that the slot has taken in part. -/
def Slot.opened (s : Slot) (c : Contrib) : Bool :=
  s.views.any fun v => decide (v.dev = c.dev ∧ v.core = c.core ∧ v.comingAt = c.capture) && v.midFrame

/-- The move of a slot takes effect where it lies between frames of every contributing core (R12): its number changes region against a
free one of the new region, so that each region keeps its 1,024 (log 199), and the contributions that wait are taken. -/
def Dev.settleMove (d : Dev) (p : Nat) : Dev :=
  match d.slot? p with
  | none => d
  | some s =>
    match s.moving with
    | none => d
    | some r =>
      if s.views.any View.midFrame then d
      else
        let regions := match d.freeIn r with
          | some n => (d.fus.regions.put s.num r).put n (d.slotRegion s.num)
          | none => d.fus.regions
        let d : Dev := { d with fus := { d.fus with regions := regions } }
        (d.setSlot p { s with moving := none, waits := [] }).each s.waits fun c d => d.takeIn p c

/-- A contribution reaches the slot of its patch: while the slot belongs to neither region, one of a frame not yet begun waits in the
new region's input queue (R12). -/
def Dev.contribute (d : Dev) (p : Nat) (c : Contrib) : Dev :=
  match d.slot? p with
  | none => d
  | some s =>
    if s.moving.isSome && !s.opened c then d.setSlot p { s with waits := snoc s.waits c }
    else (d.takeIn p c).settleMove p

/-- The views of a slot that `keep` selects stay; the lead view stays the lead while it does (R193). -/
def Slot.keepViews (s : Slot) (keep : View → Bool) : Slot :=
  let l := s.views.filter keep
  let lead := (s.lead.bind fun i => s.views[i]?).bind fun v => l.findIdx? fun w => decide (w.dev = v.dev ∧ w.core = v.core)
  { s with views := l, lead := lead, waits := s.waits.filter fun c => keep (View.joining c) }

/-- The views of the slots held here that `keep` selects by patch and view stay. -/
def Dev.keepViews (d : Dev) (keep : Nat → View → Bool) : Dev :=
  d.each d.fus.slots.keys fun p d => match d.slot? p with
    | some s => d.setSlot p (s.keepViews (keep p))
    | none => d

/-- The directory of a patch: the live device that attaches the lowest tile (chapter 7). -/
def Dev.directory (d : Dev) (p : Nat) : Option Nat := ((d.patchTiles p).find? fun t => d.liveAt t.dev).map (·.dev)

/-- A placement body of R234 behind its patch prefix, whose EPOCH is 0. -/
def placeBody (p kind reason owner former score epoch tc cells state : Nat) : List Byte :=
  leBytes 4 p ++ leBytes 4 0 ++ leBytes 1 kind ++ leBytes 1 reason ++ leBytes 2 owner ++ leBytes 2 former ++
  leBytes 2 score ++ leBytes 4 epoch ++ leBytes 8 tc ++ leBytes 2 cells ++ leBytes 1 state ++ [0]

/-- The QUERY for a patch is outstanding: it was sent within the 5 ms that contributions wait for its answer (R241). -/
def Dev.asking (d : Dev) (p : Nat) : Bool :=
  match (d.place p).asked with
  | some t => decide (d.clk ≤ t + ms 5)
  | none => false

/-- A QUERY for a patch sent to its directory (R234, R241). -/
def Dev.query (d : Dev) (p : Nat) : Dev :=
  match d.directory p with
  | none => d
  | some a =>
    if d.asking p || a = d.addr then d
    else (d.setPlace p { d.place p with asked := some d.clk }).ask 0x4400 a (placeBody p 4 0 0x3FF 0x3FF 0 0 0 0 0)

/-- The device lost the patch and its forwarding entry stands (R242). -/
def Place.forwards (pl : Place) : Bool :=
  match pl.lost with
  | some l => decide (pl.epoch < l.2.1 + 2)
  | none => false

/-- What Table 7-9 has a device do with a contribution or a hit record. -/
inductive Verdict where
  /-- Used. -/
  | use
  /-- Forwarded to the new owner. -/
  | pass (owner : Nat)
  /-- Discarded and counted. -/
  | stale
deriving DecidableEq, Repr

/-- Table 7-9. An owner that a commit has kept goes on with the frames up to T_c too (R237). -/
def Dev.verdict (d : Dev) (p capture : Nat) : Verdict :=
  let pl := d.place p
  if d.owns p then (if pl.kept.isSome || pl.tc < capture then .use else .stale)
  else
    match pl.lost with
    | some l =>
      if !pl.forwards then .stale
      else if l.2.2.1 < capture then (if pl.owner = 0x3FF then .stale else .pass pl.owner)
      else if (d.slot? p).isSome then .use else .stale
    | none => .stale

/-- The device that a frame's contributions and hit records are addressed to: the former owner up to T_c, then the owner (R236, R238);
an owner that a commit has kept, for all. -/
def Dev.ownerFor (d : Dev) (p capture : Nat) : Nat :=
  let pl := d.place p
  if pl.kept.isNone && decide (capture ≤ pl.tc ∧ pl.former ≠ 0x3FF) then pl.former else pl.owner

/-- A discarded contribution, hit record or tile record: counted, STALE_REC set. -/
def Dev.stale (d : Dev) (u : Unit') : Dev := (d.bump P.STALE_CNT).setOut 4 u

/-- A contribution message sent to the owner of its frame; it waits for the directory's answer where no owner is known or a QUERY is
outstanding (R241). -/
def Dev.sendContribution (d : Dev) (p capture : Nat) (m : List Byte) : Dev :=
  if (d.place p).owner = 0x3FF || d.asking p then
    ({ d with plc := { d.plc with queried := snoc d.plc.queried (p, m, d.clk) } } : Dev).query p
  else d.sendTo 5 (d.ownerFor p capture) m

/-- A core's contributions to a patch: taken here where they are addressed to this device, or sent (R187). -/
def Dev.contributeOwn (d : Dev) (p : Nat) (c : Contrib) : Dev :=
  if d.ownerFor p c.capture = d.addr then
    (if d.verdict p c.capture = .use then d.contribute p c else d.stale (2, c.core))
  else
    let parts := runs 29 1024 c.cells
    d.each (parts.mapIdx fun i q => (i, q)) fun e d =>
      d.sendContribution p c.capture
        (contribution p (d.place p).epoch c.capture d.addr c.core (decide (e.1 + 1 = parts.length)) e.2)

/-- The contributions of a core to a patch leave, or are taken here, when its closing line is handed off (R187). -/
def Dev.closePatch (d : Dev) (k : Nat) (f : Frame) (p origin : Nat) : Dev :=
  let acc := d.fus.acc.get k KMap.empty
  let mine := acc.cells.filter fun c => decide (c.1 / 65536 = p)
  let l := mine.filterMap fun c => (d.cellView f.tag.capture c.2).map fun v => (c.1 % 65536, v)
  let d : Dev := { d with fus := { d.fus with acc := d.fus.acc.put k (acc.keep fun c _ => decide (c / 65536 ≠ p)) } }
  if l.isEmpty || d.mute then d else d.contributeOwn p ⟨d.addr, k, f.tag.capture, true, l, origin⟩

/-- A line's results handed to fusion (R130, R187). -/
def Dev.handOff (d : Dev) (k : Nat) (f : Frame) (y arrival : Nat) (l : List Res) : Dev :=
  let d := d.accumulate k f (y - 1) l
  d.each (d.sees k) fun p d =>
    if y = min (d.lastRow k p + 2) (d.height k) then d.closePatch k f p arrival else d

/-! ## Tile Link records (R196, R197) -/

/-- The characters of a record from offset 1 on, CRC included; SOF stands before them. -/
def tileRecord (r : TRec) : List Byte :=
  let len := 14 + r.payload.length
  let b := leBytes 2 len ++ leBytes 3 (r.tile + (if r.all then 2 ^ 23 else 0)) ++ leBytes 1 (r.kind + 16) ++
    fitTo 5 0 r.tspec ++ r.payload
  b ++ leBytes 2 (crc16 b)

/-- A state map as its held-notice carries it: 2 bits for each cell. -/
def mapBytes (m : List Nat) : List Byte :=
  (List.range ((m.length + 3) / 4)).map fun i =>
    BitVec.ofNat 8 ((List.range 4).map fun j => m.getD (4 * i + j) 0 % 4 * 4 ^ j).sum

/-- The map a held-notice's payload carries. -/
def mapOf (n : Nat) (b : List Byte) : List Nat := (List.range n).map fun i => byteAt b (i / 4) / 4 ^ (i % 4) % 4

/-- An attached tile's state. -/
def Dev.attach (d : Dev) (t : Nat) : Attach :=
  d.fus.tiles.get t ⟨0, 0, 1, 0, 0, [], none, 0, 0, false, 0, 0, 0, 0, 0, 0, none⟩

/-- An attached tile changed. -/
def Dev.setAttach (d : Dev) (t : Nat) (x : Attach) : Dev := { d with fus := { d.fus with tiles := d.fus.tiles.put t x } }

/-- A tile queue as it stands. -/
def Dev.tileQ (d : Dev) (t : Nat) : TileQ := d.fus.queues.get t ⟨[], 0⟩

/-- The records of a tile queue. -/
def Dev.queue (d : Dev) (t : Nat) : List TRec := (d.tileQ t).recs

/-- The producer index of a queue, a ring of ten places, of which at most nine are in use (R33, R201). -/
def TileQ.prod (q : TileQ) : Nat := (q.cons + q.recs.length) % 10

/-- A queue is full when its producer index plus one equals its consumer index (R33). -/
def TileQ.full (q : TileQ) : Bool := decide ((q.prod + 1) % 10 = q.cons)

/-- The records of a tile queue changed, its consumer index standing. -/
def Dev.setQueue (d : Dev) (t : Nat) (q : List TRec) : Dev :=
  { d with fus := { d.fus with queues := d.fus.queues.put t { d.tileQ t with recs := q } } }

/-- A record put into a queue, where it is not full. -/
def Dev.pushRec (d : Dev) (t : Nat) (r : TRec) : Dev := if (d.tileQ t).full then d else d.setQueue t (d.queue t ++ [r])

/-- The oldest record of a queue taken out. -/
def Dev.popRec (d : Dev) (t : Nat) : Dev :=
  let q := d.tileQ t
  if q.recs.isEmpty then d
  else { d with fus := { d.fus with queues := d.fus.queues.put t ⟨q.recs.drop 1, (q.cons + 1) % 10⟩ } }

/-- The queue of the records to ALL of a bus. -/
def allQueue (b : Nat) : Nat := 2 ^ 18 + b

/-- A record of another kind than temperature and alarm queued; at most four wait (R201). -/
def Dev.pushOther (d : Dev) (t : Nat) (r : TRec) : Dev :=
  if ((d.queue t).filter fun r => decide (3 ≤ r.kind)).length < 4 then d.pushRec t r else d

/-- GAP_MAX of a tile: the bound of R207, rounded up to the next ms. -/
def Dev.gapMax (d : Dev) (t : Nat) : Nat :=
  let i := 5 * (d.attach t).interval / 2
  max (max (ms (d.rd P.HOLD_PERIOD)) (ms (d.rd P.SILENCE_MIN))) i / 1000000 + 11 - 
    (if max (max (ms (d.rd P.HOLD_PERIOD)) (ms (d.rd P.SILENCE_MIN))) i % 1000000 = 0 then 1 else 0)

/-- A held-notice of a tile with a map and REASON, under the next MAP_SEQ where the map changes. -/
def Dev.notice (d : Dev) (t : Nat) (map : List Nat) (reason : Nat) (change : Bool) : Dev :=
  let a := d.attach t
  let seq := if change then (a.mapSeq + 1) % 256 else a.mapSeq
  let gap := d.gapMax t
  let r : TRec := ⟨t, 3, false, [BitVec.ofNat 8 seq, BitVec.ofNat 8 reason] ++ leBytes 2 gap, mapBytes map, d.clk, 0⟩
  (d.pushOther t r).setAttach t { a with mapSeq := seq, gap := gap, noticed := d.clk, reason := reason }

/-- A held map: every seen cell held (R203). -/
def heldMap (m : List Nat) : List Nat := m.map fun s => if s = 3 then 3 else 1

/-- The map in force at a tile: its map, marked held while it is silent. -/
def Attach.inForce (a : Attach) : List Nat := if a.silent then heldMap a.map else a.map

/-- The interval before GAP_MAX rises is announced first (R199, R207). -/
def Dev.spacing (d : Dev) (t : Nat) : Dev :=
  let a := d.attach t
  if a.gap < d.gapMax t && a.gap ≠ 0 then d.notice t a.inForce 7 false else d

/-- The same of every attached tile that is served, where HOLD_PERIOD or SILENCE_MIN changes (R207). -/
def Dev.spaceAll (d : Dev) : Dev := d.each d.attached fun t d => d.spacing t.tile

/-- A temperature record queued under the map in force; it replaces a waiting one (R201). -/
def Dev.pushTemp (d : Dev) (t : Nat) (r : TRec) : Dev :=
  let q := d.queue t
  let waits := q.any fun r => decide (r.kind = 1)
  let d := if waits then (d.bump P.SUPERSEDED_CNT).setOut 3 (d.tileUnit t) else d
  let r := { r with tspec := (fitTo 5 0 r.tspec).set 1 (BitVec.ofNat 8 (d.attach t).mapSeq) }
  (d.setQueue t (q.filter fun r => decide (r.kind ≠ 1))).pushRec t r

/-- A temperature record accepted at its attaching device (R202): stale ones are discarded and counted. A held
publication has no lead frame: its CAPTURE is not compared. -/
def Dev.acceptTemp (d : Dev) (t epoch capture : Nat) (r : TRec) : Dev :=
  let a := d.attach t
  if epoch < a.epoch || (capture ≠ 0 && capture ≤ a.capture) then d.stale (d.tileUnit t)
  else
    let first := decide (a.epoch < epoch)
    let interval := if a.at_ = 0 then a.interval else d.clk - a.at_
    let d := d.setAttach t { a with
      epoch := epoch, capture := max a.capture capture, at_ := d.clk, interval := interval,
      last := some (r.tspec, r.payload) }
    let d := d.spacing t
    let d := if a.silent then d.setAttach t { d.attach t with silent := false } else d
    let d := if a.silent && (first || decide (a.inForce ≠ a.map)) then
        d.notice t a.map (if first then 2 else 0) (decide (a.inForce ≠ a.map))
      else d
    let flags := byteAt r.tspec 2
    d.pushTemp t { r with tspec := r.tspec.set 2 (BitVec.ofNat 8 (if first then setBit flags 4 else flags)) }

/-- Hits of an alarm record's frame on its tile. -/
def TRec.hits (r : TRec) : Nat := leAt r.payload 12 2

/-- Two alarm records are of one frame and tile. -/
def TRec.sameHit (r x : TRec) : Bool := decide (x.kind = 2 ∧ x.frame = r.frame ∧ x.tile = r.tile)

/-- An alarm record for a tile accepted into a queue; one under a lower epoch is discarded (R202). A record that counts further hits of
a frame only raises the count of the one not yet sent; at most four alarm records wait, a further one is counted and sets ALARM_OVF
(R200). -/
def Dev.acceptAlarm (d : Dev) (q t epoch : Nat) (r : TRec) : Dev :=
  let l := d.queue q
  if epoch < (d.attach t).epoch then d.stale (d.tileUnit t)
  else if l.any r.sameHit then d.setQueue q (l.map fun x => if r.sameHit x then { x with payload := r.payload } else x)
  else if 1 < r.hits then d
  else if (l.filter fun r => decide (r.kind = 2)).length < 4 then d.pushRec q r
  else (d.bump P.ALARM_OVF_CNT).setOut 9 (d.tileUnit q)

/-- A held-notice of the owner accepted: a map that differs from that in force is announced under the next MAP_SEQ
(R199), and one of a new owner after silence in any case (R202). -/
def Dev.acceptMap (d : Dev) (t epoch : Nat) (map : List Nat) (reason : Nat) : Dev :=
  let a := d.attach t
  if epoch < a.epoch then d.stale (d.tileUnit t)
  else
    let d := d.setAttach t { a with map := map, silent := false }
    let change := decide (map ≠ a.inForce)
    if change || (a.silent && decide (reason = 2)) then d.notice t map reason change else d

/-- A record accepted by its kind; one to ALL joins the queue of its bus. -/
def Dev.acceptRecord (d : Dev) (t bus epoch capture : Nat) (r : TRec) : Dev :=
  if r.kind = 1 then d.acceptTemp t epoch capture r
  else if r.kind = 2 then d.acceptAlarm (if r.all then allQueue bus else t) t epoch r
  else if r.kind = 3 then d.acceptMap t epoch (mapOf d.tileCells r.payload) (byteAt r.tspec 1)
  else d.pushOther (if r.all then allQueue bus else t) r

/-- A record as Seamlink carries it: the 16-byte carriage header and the record with its SOF (R201). -/
def carriage (t epoch capture : Nat) (r : TRec) : List Byte :=
  leBytes 4 t ++ leBytes 4 epoch ++ leBytes 8 capture ++ 0xBC#8 :: tileRecord r

/-- A record for a tile: accepted here, or carried to its attaching device (R201). -/
def Dev.toTile (d : Dev) (t epoch capture : Nat) (r : TRec) : Dev :=
  match d.tile? t with
  | none => d
  | some row =>
    if row.dev = d.addr then d.acceptRecord t row.bus epoch capture r
    else d.sendTo 6 row.dev (carriage t epoch capture r) (r.kind = 2)

/-! ## Fusion (R188 to R191) -/

/-- A temperature of 0.01 K as binary32 in K. -/
def kelvin (t : Nat) : F32 := F32.ofIntRat t 100

/-- U_k of a view's core, K (R154, R163). -/
def Dev.viewU (d : Dev) (v : View) : F32 :=
  if v.dev = d.addr then kelvin (d.rd P.UNC [v.core])
  else match d.cal.nodes.get? (64 * v.dev + v.core) with
    | some n => kelvin n.u
    | none => kelvin (remoteNoise (2 * v.dev + 1) v.core)

/-- NETD_k of a view's core, K. -/
def Dev.viewNetd (d : Dev) (v : View) : F32 :=
  if v.dev = d.addr then kelvin (d.rd P.NETD [v.core]) else kelvin (remoteNoise (2 * v.dev) v.core)

/-- T_b of a patch, 0.01 K (Table 6-2). -/
def Dev.background (d : Dev) (p : Nat) : Nat :=
  match d.patch? p with
  | some r => if r.bg = 0 then d.rd P.CAVITY_T else r.bg
  | none => d.rd P.CAVITY_T

/-- Object temperature of a cell view, K (R189). -/
def Dev.objectTemp (d : Dev) (p : Nat) (c : CellView) : F32 :=
  let row := (d.patch? p).getD ⟨p, 10000, 0, 0⟩
  let eps := F32.mul (F32.ofIntRat row.emis 10000) (F32.ofIntRat (d.angOf row.tab c.ang) 200000)
  let n := d.rd P.EMIS_N
  let bg := F32.powRat (kelvin (d.background p)) n 16
  let top := F32.sub (F32.powRat (kelvin c.t) n 16) (F32.mul (F32.sub F32.one eps) bg)
  F32.powRat (F32.div top eps) 16 n

/-- u_v² of a cell view (R189). -/
def Dev.viewVar (d : Dev) (v : View) (c : CellView) : F32 :=
  let u := d.viewU v
  let n := d.viewNetd v
  F32.add (F32.mul u u) (F32.div (F32.mul n n) (F32.ofIntRat c.n 256))

/-- r_v (R189). -/
def Dev.viewRamp (d : Dev) (v : View) : F32 :=
  match v.join with
  | some i => F32.ofIntRat i (d.rd P.VIEW_RAMP)
  | none => F32.one

/-- One view's part in a cell: identity, W_v, T_v, u_v², RAMPING. -/
structure Part where
  /-- 64 × device + core. -/
  id : Nat
  /-- W_v. -/
  w : F32
  /-- T_v. -/
  t : F32
  /-- u_v². -/
  var : F32
  /-- RAMPING. -/
  ramping : Bool

/-- The part of a view in a cell. -/
def Dev.partOf (d : Dev) (p : Nat) (v : View) (c : CellView) : Part :=
  let var := d.viewVar v c
  ⟨64 * v.dev + v.core, F32.div (F32.mul (d.viewRamp v) (F32.cosHalf c.ang)) var, d.objectTemp p c, var, c.ramping⟩

/-- A CAPTURE lies within 2P of a view's core before a moment of system time (R188). -/
def View.within (v : View) (capture t : Nat) : Bool := decide (capture ≤ t ∧ t ≤ capture + 2 * v.period)

/-- A view's latest frame is fresh at a moment of system time. -/
def View.recent (v : View) (t : Nat) : Bool := v.capture.any fun c => v.within c t

/-- The latest complete cell view of a view for a cell, where it is fresh under a lead frame's CAPTURE: frames tagged SHUTTER
contribute none (R188). -/
def Dev.freshView (d : Dev) (v : View) (lead cell : Nat) : Option CellView :=
  (v.cells.get? cell).filter fun c => v.within c.capture lead && decide (c.ang ≤ 2 * d.rd P.ANGLE_MAX)

/-- The parts of the fresh views of a cell (R188). -/
def Dev.freshParts (d : Dev) (p : Nat) (s : Slot) (lead cell : Nat) : List Part :=
  s.views.filterMap fun v => (d.freshView v lead cell).map (d.partOf p v)

/-- A part into a list ordered by falling W_v, the lower identity first on equal weights. -/
def insertPart (a : Part) : List Part → List Part
  | [] => [a]
  | b :: t => if F32.lt b.w a.w || (b.w == a.w && decide (a.id < b.id)) then a :: b :: t else b :: insertPart a t

/-- The four parts of the highest weight (R189). -/
def bestParts (l : List Part) : List Part := (l.foldl (fun r a => insertPart a r) []).take 4

/-- T_f (R189). -/
def fused (l : List Part) : F32 := F32.div (F32.sum (l.map fun a => F32.mul a.w a.t)) (F32.sum (l.map (·.w)))

/-- U_c in 0.01 K (R189). -/
def cellU (l : List Part) : Nat :=
  (F32.scaled (F32.div F32.one (F32.sqrt (F32.sum (l.map fun a => F32.div F32.one a.var)))) 100 0 1).toNat

/-- T_f of the set that a cell used before, with its latest cell views; what was published less its J where a view of it is no longer
one of the patch (R190, log 66). -/
def Dev.formerFused (d : Dev) (p : Nat) (s : Slot) (cell : Nat) (old : Cell) : F32 :=
  let parts := s.views.filterMap fun v =>
    if old.used.contains (64 * v.dev + v.core) then (v.cells.get? cell).map (d.partOf p v) else none
  if parts.length = old.used.length then fused parts else F32.sub (kelvin old.t) (F32.ofIntRat old.join 1000)

/-- The join offset of a cell at a publication (R190): J in 0.001 K, and whether JOIN_MAX was passed. -/
def Dev.joinOffset (d : Dev) (p : Nat) (s : Slot) (cell : Nat) (old : Cell) (used : List Part) : Int × Bool :=
  let tf := fused used
  let ids := used.map (·.id)
  let slew : Int := d.rd P.JOIN_SLEW
  let j : Int :=
    if old.state = 1 && old.t ≠ 0 then F32.scaled (F32.sub (kelvin old.t) tf) 1000 0 1
    else if ids.all old.used.contains && old.used.all ids.contains then
      (if slew < old.join then old.join - slew else if old.join < -slew then old.join + slew else 0)
    else if old.used.isEmpty then old.join
    else F32.scaled (F32.sub (d.formerFused p s cell old) tf) 1000 old.join 1000
  if 10 * d.rd P.JOIN_MAX < j.natAbs then (0, true) else (j, false)

/-- The cells that a view's warp grid maps into a patch: as the grid has them for a core of this device, and as its
contributions have shown them for a core of another (R190). -/
def Dev.viewCells (d : Dev) (p : Nat) (v : View) : List Nat :=
  if v.dev = d.addr then (((d.mapped v.core).filter fun m => decide (m.1 = p)).map fun m => m.2.1).eraseDups else v.mapped

/-- Enabled cores of this device that map onto a patch and have contributed no frame yet, as far as eight views allow. -/
def Dev.viewsToCome (d : Dev) (p : Nat) (s : Slot) : List Nat :=
  ((List.range 64).filter fun k =>
    d.is P.CORE_EN [k] && (d.sees k).contains p && !s.views.any fun v => decide (v.dev = d.addr ∧ v.core = k)).take (8 - s.views.length)

/-- Configured views of a cell (R190). -/
def Dev.configured (d : Dev) (p : Nat) (s : Slot) (c : Nat) : Nat :=
  (s.views.filter fun v => (d.viewCells p v).contains c).length +
    ((d.viewsToCome p s).filter fun k => (d.mapped k).any fun m => decide (m.1 = p ∧ m.2.1 = c)).length

/-- A patch is held: by a grant, or by the last epoch there is (R191, R235). -/
def Dev.patchHeld (d : Dev) (p : Nat) (s : Slot) : Bool := s.held || decide ((d.place p).epoch = 0xFFFFFFFF)

/-- One cell at a publication under a lead frame's CAPTURE; without one no view is fresh (R190 to R192). -/
def Dev.fuseCell (d : Dev) (p : Nat) (s : Slot) (at_ : Option Nat) (cell : Nat) : Cell × Bool :=
  let lead := at_.getD s.lastPub
  let old := s.cells.get cell ⟨0, 0, 3, 0, F32.zero, 0, []⟩
  let conf := d.configured p s cell
  let parts := if at_.isNone then [] else d.freshParts p s lead cell
  if conf = 0 then (⟨0, 0, 3, 0, F32.zero, 0, []⟩, false)
  else if d.patchHeld p s || parts.isEmpty then ({ old with state := 1, fresh := parts.length }, false)
  else
    let used := bestParts parts
    let (j, isOver) := d.joinOffset p s cell old used
    let t := (F32.scaled (fused used) 100 j 1000).toNat
    let dt := lead - s.lastPub
    let r := F32.div (F32.ofInt (((t : Int) - old.t) * 1000000000)) (F32.ofNat dt)
    let frac := F32.min F32.one (F32.div (F32.ofNat dt) (F32.ofNat (d.rd P.RATE_TAU * 100000000)))
    let rate := if old.state = 3 || dt = 0 then old.rate else F32.add old.rate (F32.mul (F32.sub r old.rate) frac)
    (⟨t, cellU used, if conf = 1 then 2 else 0, parts.length, rate, j, used.map (·.id)⟩, isOver)

/-- The cells of a patch. -/
def Dev.patchCells (d : Dev) (p : Nat) : Nat := (d.patchTiles p).length * d.tileCells

/-- |R_c| in 0.01 K/s, saturating at 255. -/
def Cell.rateAbs (c : Cell) : Nat := min 255 (F32.scaled (F32.abs c.rate) 1 0 1).toNat

/-- A used view of a cell is RAMPING (R197). -/
def Slot.cellRamping (s : Slot) (c : Nat) (x : Cell) : Bool :=
  decide (x.state ∈ [0, 2]) &&
    s.views.any fun v => x.used.contains (64 * v.dev + v.core) && (v.cells.get? c).any (·.ramping)

/-- The temperature record of one tile of a patch (Table 6-11), the `i`-th of the patch; SEQ and MAP_SEQ are set where it is sent. -/
def Dev.tempRecord (d : Dev) (s : Slot) (i t : Nat) (origin : Nat) : TRec :=
  let n := d.tileCells
  let cells := (List.range n).map fun c => s.cells.get (i * n + c) ⟨0, 0, 3, 0, F32.zero, 0, []⟩
  let any (st : Nat) : Bool := cells.any fun c => decide (c.state = st)
  let alarm := match s.hitAt with
    | some t => decide (d.clk < t + ms (d.rd P.ALARM_HOLD))
    | none => false
  let ramping := (List.range n).any fun c => (s.cells.get? (i * n + c)).any (s.cellRamping (i * n + c))
  let flags := (if ramping || cells.any fun c => decide (c.join ≠ 0) then 1 else 0) + (if any 1 then 2 else 0) +
    (if any 2 then 4 else 0) + (if alarm then 8 else 0)
  ⟨t, 1, false, [0, 0, BitVec.ofNat 8 flags, BitVec.ofNat 8 (min 255 ((cells.map (·.u)).foldl max 0)),
     BitVec.ofNat 8 ((cells.map Cell.rateAbs).foldl max 0)],
   cells.flatMap fun c => leBytes 2 (if c.state = 3 then 0 else c.t), origin, 0⟩

/-- REASON of a held-notice that announces a map change (Table 6-11). -/
def Slot.reason (s : Slot) : Nat :=
  if s.recast then 5 else if s.first then 2 else if s.regrid then 6 else if s.held then 1 else 0

/-- The epoch under which a publication is sent: for a lead frame up to T_c the epoch before, under which the patch was owned here
(R236, R237). -/
def Dev.pubEpoch (d : Dev) (p capture : Nat) : Nat :=
  let pl := d.place p
  if d.owns p then
    match pl.kept with
    | some e => if capture ≠ 0 && capture ≤ pl.tc then e else pl.epoch
    | none => pl.epoch
  else match pl.lost with
    | some l => l.2.2.2
    | none => pl.epoch

/-- The records of a publication: for each tile a held-notice where its map changed, then its temperature record. -/
def Dev.sendTiles (d : Dev) (p capture origin : Nat) (before after : Slot) : Dev :=
  let n := d.tileCells
  let epoch := d.pubEpoch p capture
  let state (s : Slot) (c : Nat) : Nat := (s.cells.get c ⟨0, 0, 3, 0, F32.zero, 0, []⟩).state
  d.each ((d.patchTiles p).mapIdx fun i t => (i, t.tile)) fun e d =>
    let map := (List.range n).map fun c => state after (e.1 * n + c)
    let was := (List.range n).map fun c => state before (e.1 * n + c)
    let d := if map ≠ was || before.first || before.recast then
        d.toTile e.2 epoch capture ⟨e.2, 3, false, [0, BitVec.ofNat 8 before.reason, 0, 0, 0], mapBytes map, d.clk, 0⟩
      else d
    d.toTile e.2 epoch capture (d.tempRecord after e.1 e.2 origin)

/-- A patch fused and published under a lead frame's CAPTURE, or held where none is given (R189 to R192). -/
def Dev.publish (d : Dev) (p : Nat) (lead : Option Nat) (origin : Nat) : Dev :=
  match d.slot? p with
  | none => d
  | some s =>
    let now := lead.getD s.lastPub
    let results := (List.range (d.patchCells p)).map fun c => (c, d.fuseCell p s lead c)
    let isOver := (results.filter fun r => r.2.2).length
    let newHeld := results.any fun r => decide (r.2.1.state = 1) &&
      decide ((s.cells.get r.1 ⟨0, 0, 3, 0, F32.zero, 0, []⟩).state ≠ 1)
    let after : Slot := { s with
      cells := results.foldl (fun m r => m.put r.1 r.2.1) s.cells, lastPub := now, pubs := (s.pubs + 1) % 2 ^ 32,
      pubAt := d.clk, bg := d.background p, first := false, regrid := false, recast := false,
      uMax := min 65535 (((results.filter fun r => decide (r.2.1.state ∈ [0, 2])).map (·.2.1.u)).foldl max 0),
      views := s.views.map fun v => if v.capture = lead then { v with done := true } else v }
    let d := (d.setSlot p after).sendTiles p (lead.getD 0) origin s after
    let d := d.each (List.range isOver) fun _ d => d.setOut 10
    if newHeld then d.setOut 0 else d

/-- The lead view of a slot at a moment: the fresh view of the most configured cells, ties to the lower identity
(R192). -/
def Dev.leadAt (d : Dev) (p : Nat) (s : Slot) (now : Nat) : Option Nat :=
  let l : List (Nat × View) := (s.views.mapIdx fun i v => (i, v)).filter fun p => p.2.recent now
  let best := (l.map fun v => (d.viewCells p v.2).length).foldl max 0
  let l := l.filter fun v => decide ((d.viewCells p v.2).length = best)
  let low := (l.map fun p : Nat × View => 64 * p.2.dev + p.2.core).foldl min (2 ^ 32)
  (l.find? fun p : Nat × View => decide (64 * p.2.dev + p.2.core = low)).map fun p => p.1

end Sys2Proof.Machine
end

