-- ==== Sys2Proof/Machine/Pipeline.lean ====
section
/-!
DEFINITION. Sys2Proof/Machine/Pipeline.lean: the clusters and their lanes (R13 to R17, R105 to R131), the alarm path
(R126 to R129), record repair (R115), raw taps (R132 to R136), the rate monitor (R36, R37) and the bridges (R21).
-/
namespace Sys2Proof.Machine

/-! ## Records and curves of a core -/

/-- The record table of a core. -/
def pixTable (k : Nat) : Nat := 0x2100 + k

/-- Offset of a pixel's record in a bank (R139). -/
def Dev.recOffset (d : Dev) (k bank i : Nat) : Nat := 16 * (bank * (d.rd P.WIDTH [k] * d.rd P.HEIGHT [k]) + i)

/-- A pixel's record. -/
def Dev.recAt (d : Dev) (k bank i : Nat) : Rec := recOf (d.tblRead (pixTable k) (d.recOffset k bank i) 16)

/-- The curve of a bank. -/
def Dev.curve (d : Dev) (k bank : Nat) : Curve := curveOf (d.tblRead (0x2140 + k) (136 * bank) 136)

/-- A flag of the pipeline group set for a core, with the core's hit latch (Table 13-3). -/
def Dev.setPipe (d : Dev) (n k : Nat) : Dev :=
  d.set (.pipe n) (2, k) (leBytes 1 k ++ [0] ++ leBytes 2 (d.rd P.HIT_X [k]) ++ leBytes 2 (d.rd P.HIT_Y [k]) ++
    leBytes 1 (d.rd P.HIT_KIND [k]) ++ [0] ++ leBytes 2 (d.rd P.HIT_T [k]) ++ leBytes 2 (d.rd P.HIT_DT [k]) ++
    leBytes 4 (d.rd P.HIT_FRAME [k]))

/-! ## Clusters (R13 to R17) -/

/-- Pixel rate of a core and its companion camera, in pixels per 100 s. -/
def Dev.pixelRate (d : Dev) (k : Nat) : Nat :=
  d.rd P.WIDTH [k] * d.rd P.HEIGHT [k] * d.rd P.FRAME_RATE [k] +
    (if d.is P.COMP_EN [k] then d.rd P.C_WIDTH [k] * d.rd P.C_HEIGHT [k] * d.rd P.COMP_RATE [k] else 0)

/-- The cores bound to a cluster, ascending. -/
def Dev.bound (d : Dev) (c : Nat) : List Nat := (d.pipe.bind.cells.filter fun p => decide (p.2 = c)).map (·.1)

/-- Load of a cluster, in pixels per 100 s. -/
def Dev.load (d : Dev) (c : Nat) : Nat := ((d.bound c).map d.pixelRate).sum

/-- The guaranteed lane rate in 0.01 Mpx/s at a supply in 10 mV (Table 1-4): the row at or below it; below 0.65 V the
row of 0.65 V (log 32). -/
def laneRateAt (v : Nat) : Nat :=
  if 85 ≤ v then 2300 else if 80 ≤ v then 2100 else if 75 ≤ v then 1900 else if 70 ≤ v then 1650 else 1400

/-- VMIN of the die of a cluster. -/
def Dev.vmin (d : Dev) (c : Nat) : Nat := if c < 8 then d.rd P.VMIN_A else d.rd P.VMIN_B

/-- The capacity of a cluster, in pixels per 100 s (R246). -/
def Dev.capacity (d : Dev) (c : Nat) : Nat := 8 * laneRateAt (d.vmin c) * 1000000

/-- The cores that a cluster holds or is promised: bound, or waiting for a frame boundary to come (R13). -/
def Dev.claimed (d : Dev) (c : Nat) : List Nat :=
  d.bound c ++ (((d.pipe.rebind.cells.filter fun p => decide (p.2 = c)).map (·.1)).filter fun k =>
    decide (d.pipe.bind.get? k ≠ some c))

/-- Load of a cluster with every core promised to it, so that no move that waits can bring it above R17. -/
def Dev.claimedLoad (d : Dev) (c : Nat) : Nat := ((d.claimed c).map d.pixelRate).sum

/-- A cluster has room for a core under R13 and R17. None behind a failed bridge takes a core (R21, log 203). -/
def Dev.hasRoom (d : Dev) (c need : Nat) : Bool :=
  !d.dieLost (c / 4) && decide ((d.claimed c).length < 4 ∧ d.claimedLoad c + need ≤ d.capacity c)

/-- VREQ_A and VREQ_B: the lowest row of Table 1-4 that serves the die's highest cluster load with RATE_MARGIN, in 10 mV;
0xFF where none does (R433). -/
def Dev.voltageFor (d : Dev) (die : Nat) : Nat :=
  let top := (((List.range 8).map (· + 8 * die)).map d.load).foldl max 0
  (([65, 70, 75, 80, 85] : List Nat).find? fun v =>
    decide (top * (256 + d.rd P.RATE_MARGIN) ≤ 8 * laneRateAt v * 1000000 * 256)).getD 0xFF

/-! ## Rate monitor (R36, R37) -/

/-- The condition of R37 with `m` / 256 of margin, for a cluster of a region measured at `rate` (0.01 Mpx/s). -/
def Dev.short (d : Dev) (c rate m : Nat) : Bool :=
  let g := max (d.load c) (100000000 * d.rd P.RATE_FLOOR)
  !(d.bound c).isEmpty && decide (8 * rate * 1000000 * 256 < g * (256 + m))

/-- The clusters of a region. -/
def clustersOf (r : Nat) : List Nat := (List.range 4).map (· + 4 * r)

/-- The condition of re-arming holds for every compared cluster of a region. -/
def Dev.eased (d : Dev) (r rate : Nat) : Bool := !(clustersOf r).any fun c => d.short c rate (2 * d.rd P.RATE_MARGIN)

/-- A region whose condition of re-arming fails within a window has not held it for that window. -/
def Dev.refreshEasing (d : Dev) : Dev :=
  { d with pipe := { d.pipe with easing := d.pipe.easing.filter fun r => d.eased r (d.rd P.LANE_RATE [r]) } }

/-- CL_LOAD, CL_CORES, DEV_INGEST, RESIDENT and the supplies asked for follow the bindings and the configured rates
(Tables 1-7, 3-8, 14-13). DESIGN CHOICE (log 26): CL_LOAD and DEV_INGEST are rounded down to their unit. -/
def Dev.refreshLoads (d : Dev) : Dev :=
  let d := d.each (List.range 16) fun c d => d.wrs [(P.CL_LOAD, [c], d.load c / 1000000), (P.CL_CORES, [c], (d.bound c).length)]
  let on := (List.range 64).filter fun k => d.is P.CORE_EN [k]
  (d.wrs [(P.DEV_INGEST, [], (on.map d.pixelRate).sum / 10000000),
    (P.RESIDENT, [], (on.map fun k => d.rd P.WIDTH [k] * d.rd P.HEIGHT [k]).sum),
    (P.VREQ_A, [], d.voltageFor 0), (P.VREQ_B, [], d.voltageFor 1)]).refreshEasing

/-- A core bound to a cluster. -/
def Dev.bindCore (d : Dev) (k c : Nat) : Dev :=
  { d with pipe := { d.pipe with bind := d.pipe.bind.put k c, rebind := d.pipe.rebind.del k } }.refreshLoads

/-- Between two frames of a core: a waiting rebind takes effect (R13), and a disabled core leaves its cluster. -/
def Dev.frameBoundary (d : Dev) (k : Nat) : Dev :=
  if !((d.strm k).frames.isEmpty && (d.strm (64 + k)).frames.isEmpty) then d
  else if !d.is P.CORE_EN [k] then
    { d with pipe := { d.pipe with bind := d.pipe.bind.del k, rebind := d.pipe.rebind.del k } }.refreshLoads
  else
    match d.pipe.rebind.get? k with
    | some c => d.bindCore k c
    | none => d

/-! ## The corrected-line window (R106) -/

/-- A core's window. -/
def Dev.window (d : Dev) (k : Nat) : List WinLine := d.pipe.win.get k []

/-- A core's window changed. -/
def Dev.setWindow (d : Dev) (k : Nat) (w : List WinLine) : Dev := { d with pipe := { d.pipe with win := d.pipe.win.put k w } }

/-- A line of a frame in the window. -/
def lineIn (w : List WinLine) (cnt y : Nat) : Option WinLine := w.find? fun l => decide (l.cnt = cnt ∧ l.y = y)

/-- Pass B of a line is ready by its neighbours. -/
def Dev.lineReady (d : Dev) (k : Nat) (w : List WinLine) (l : WinLine) : Bool :=
  !l.begun && (decide (l.y ≤ 1) || (lineIn w l.cnt (l.y - 1)).isSome) &&
  (decide (d.rd P.HEIGHT [k] ≤ l.y) || (lineIn w l.cnt (l.y + 1)).isSome)

/-- Lines that still take a place of the window: a line leaves it after its own pass B and that of both its
neighbours. -/
def windowUsed (w : List WinLine) : List WinLine :=
  w.filter fun l => !(l.done && (lineIn w l.cnt (l.y - 1)).all (·.done) && (lineIn w l.cnt (l.y + 1)).all (·.done))

/-- The lines of a core whose pass B may be taken: the ready ones, or in a full window the oldest one that waits. -/
def Dev.readyLines (d : Dev) (k : Nat) : List WinLine :=
  let w := d.window k
  let r := w.filter fun l => d.lineReady k w l
  if r.isEmpty && 8 ≤ (windowUsed w).length && !(w.any fun l => l.begun && !l.done) then (w.filter fun l => !l.begun).take 1
  else r

/-- Pass A jobs of a stream that lanes work on. -/
def Dev.inPassA (d : Dev) (s : Nat) : Nat :=
  (d.pipe.lanes.vals.filter fun j => match j with
    | .passA q .. => decide (q = s)
    | .passB .. => false).length

/-! ## LANE_GRANT (R107, R16, R86) -/

/-- The pass B a free lane of a cluster takes: the oldest arrival stamp, then the lower core. -/
def Dev.pickB (d : Dev) (c : Nat) : Option (Nat × WinLine) :=
  let l := (d.bound c).flatMap fun k => (d.readyLines k).map fun w => (k, w)
  let first := (l.map fun p : Nat × WinLine => p.2.arrival).foldl min (2 ^ 64)
  l.find? fun p : Nat × WinLine => decide (p.2.arrival = first)

/-- The next line of a stream whose pass A may begin: FRAME_CNT, position, line. -/
def Dev.nextLine (d : Dev) (s : Nat) : Option (Nat × Nat × Line) :=
  match (d.strm s).frames.find? fun f => !f.lines.cells.isEmpty with
  | none => none
  | some f =>
    if !isComp s && !f.tag.has 11 && 8 ≤ (windowUsed (d.window s)).length + d.inPassA s then none
    else f.lines.cells.head?.map fun p => (f.tag.cnt, p.1, p.2)

/-- The pass A a free lane of a cluster takes: the oldest line of the streams outside RATE_EXCESS, then of those in it. -/
def Dev.pickA (d : Dev) (c : Nat) : Option (Nat × Nat × Nat × Line) :=
  let l := (d.bound c).flatMap fun k => [k, 64 + k].filterMap fun s => (d.nextLine s).map fun n => (s, n.1, n.2.1, n.2.2)
  let calm := l.filter fun p : Nat × Nat × Nat × Line => !d.excess p.1
  let l := if calm.isEmpty then l else calm
  let first := (l.map fun p : Nat × Nat × Nat × Line => p.2.2.2.arrival).foldl min (2 ^ 64)
  l.find? fun p : Nat × Nat × Nat × Line => decide (p.2.2.2.arrival = first)

/-- LANE_GRANT: a free lane takes its next work. -/
def laneGrant (lane : Nat) (d : Dev) : Dev :=
  if !d.awake || 128 ≤ lane || (d.pipe.lanes.get? lane).isSome then d
  else
    match d.pickB (lane / 8) with
    | some (k, l) =>
      let d := d.setWindow k ((d.window k).map fun w => if w.cnt = l.cnt ∧ w.y = l.y then { w with begun := true } else w)
      { d with pipe := { d.pipe with lanes := d.pipe.lanes.put lane (.passB k l.cnt l.y) } }
    | none =>
      match d.pickA (lane / 8) with
      | some (s, cnt, y, line) =>
        let x := d.strm s
        let x := { x with frames := x.frames.map fun f =>
          if f.tag.cnt = cnt then { f with lines := f.lines.del y, begun := f.begun + 1 } else f }
        let d := d.setStrm s x
        { d with pipe := { d.pipe with lanes := d.pipe.lanes.put lane (.passA s cnt y line) } }
      | none => d

/-! ## Lines that leave the cluster (R15, R100) -/

/-- A line added to the statistics of its frame. -/
def Sums.addLine (s : Sums) (line : Line) (lo shift bad range : Nat) : Sums :=
  let s := { s with bad := s.bad + bad, range := s.range + range }
  if line.flagged then s
  else
    { s with
      n := s.n + line.px.length, sum := s.sum + line.px.sum, lo := line.px.foldl min s.lo, hi := line.px.foldl max s.hi,
      hist := line.px.foldl (fun m v => m.upd (min 63 ((v - lo) / 2 ^ shift)) 0 (· + 1)) s.hist }

/-- The statistics record (Table 3-6). -/
def statsRecord (f : Frame) (comp : Bool) : List Byte :=
  let s := f.sums
  f.tag.bytes ++ leBytes 4 (if s.n = 0 then 0 else natHalf (256 * s.sum) s.n) ++ leBytes 2 (if s.n = 0 then 0 else s.lo) ++
  leBytes 2 s.hi ++ leBytes 4 s.n ++ leBytes 4 (if comp then 0 else s.bad) ++
  (List.range 64).flatMap fun b => leBytes 4 (s.hist.get b 0)

/-- Words of a tap's ring. -/
def Dev.ringWords (d : Dev) (t : Nat) : Nat := 2 ^ d.rd P.TAP_SIZE [t] / 8

/-- A record of a ring: header and body, zero-filled to whole words (R133). -/
def tapRecord (type t boundary line : Nat) (body : List Byte) : List Byte :=
  let words := (8 + body.length + 7) / 8
  fitTo (8 * words) 0 (leBytes 1 type ++ leBytes 1 t ++ leBytes 1 boundary ++ [0] ++ leBytes 2 line ++ leBytes 2 words ++ body)

/-- Words of records from a place in the ring on, pad records included: the words taken and the place after them. -/
def ringPlan (size : Nat) : Nat → List Nat → Nat × Nat
  | at_, [] => (0, at_)
  | at_, n :: t =>
    let pad := if size < at_ + n then size - at_ else 0
    let start := if pad = 0 then at_ else 0
    let (w, e) := ringPlan size ((start + n) % size) t
    (pad + n + w, e)

/-- A record's words put in the ring from the producer index, a pad record first where it does not fit. -/
def Dev.ringWrite (d : Dev) (t : Nat) (r : List Byte) : Dev :=
  let size := d.ringWords t
  let n := r.length / 8
  let prod := d.rd P.TAP_PROD [t]
  let put (d : Dev) (at_ : Nat) (b : List Byte) : Dev :=
    d.each (List.range (b.length / 8)) fun i d =>
      { d with pipe := { d.pipe with taps := d.pipe.taps.upd t ⟨KMap.empty, 0, 0, [], 0⟩ fun x =>
        { x with ring := x.ring.put ((at_ + i) % size) ((b.drop (8 * i)).take 8) } } }
  if size < prod + n then
    let pad := fitTo (8 * (size - prod)) 0 (leBytes 1 0 ++ leBytes 1 t ++ leBytes 1 (d.rd P.BOUNDARY [t]) ++ [0, 0, 0] ++
      leBytes 2 (size - prod))
    (put (put d prod pad) 0 r).wr P.TAP_PROD [t] n
  else (put d prod r).wr P.TAP_PROD [t] ((prod + n) % size)

/-- Free words of a ring (R33). -/
def Dev.ringFree (d : Dev) (t : Nat) : Nat :=
  let n := d.ringWords t
  (d.rd P.TAP_CONS [t] + 2 * n - d.rd P.TAP_PROD [t] - 1) % n

/-- The element of a boundary (Table 4-7), with the status bits that the stages before it set: stage 1 FLAGGED, PADDED and
RAIL, stage 2 STEP (R114, R116); the others follow at stage 4 and in pass B. -/
def tapElement (b : Nat) (p : Px) (r : Option Res) (hit : Nat) : List Byte :=
  let st := match r with | some q => q.st | none => p.st
  match b, r with
  | 0, _ => leBytes 2 p.x
  | 1, _ => leBytes 4 (p.x + p.st % 8 * 65536)
  | 2, _ => leBytes 4 (p.xf + p.st % 16 * 65536)
  | 3, _ => leBytes 4 (p.xf + p.st % 16 * 65536 + p.conf * 2 ^ 24 + p.cls * 2 ^ 28)
  | 4, _ => leBytes 4 (wrapInt 32 p.c)
  | 5, some q => leBytes 4 (wrapInt 32 q.c5)
  | 6, some q => leBytes 4 (q.t + st * 65536)
  | 7, some q => leBytes 4 (q.t + st * 65536 + (if q.abs then 2 ^ 24 else 0) + (if q.rate then 2 ^ 25 else 0) +
      (if hit ≠ 0 then 2 ^ 26 else 0))
  | _, some q => leBytes 4 q.word
  | _, none => []

/-- A line added to the records of the taps that take its frame; a SHUTTER frame has none beyond boundary 1 (R132). -/
def Dev.tapLine (d : Dev) (f : Frame) (y : Nat) (px : List Px) (res : Option (List Res)) : Dev :=
  let hits := match res with | some l => hitsOf f l | none => []
  d.each f.taps fun t d =>
    let b := d.rd P.BOUNDARY [t]
    if b = 15 || (1 < b && f.tag.has 11) then d
    else
      let body := (px.mapIdx fun i p => tapElement b p (res.bind fun l => l[i]?) (hits.getD i 0)).flatten
      { d with pipe := { d.pipe with taps := d.pipe.taps.upd t ⟨KMap.empty, 0, 0, [], 0⟩ fun x =>
        { x with frame := x.frame ++ [tapRecord 2 t b y body] } } }

/-- The records of a frame written to the rings of its taps (R133, R134). -/
def Dev.tapFrame (d : Dev) (f : Frame) : Dev :=
  d.each f.taps fun t d =>
    let x := d.pipe.taps.get t ⟨KMap.empty, 0, 0, [], 0⟩
    let b := d.rd P.BOUNDARY [t]
    let tel := if b = 15 then f.tel.map fun p => tapRecord 3 t b p.1 p.2 else []
    let head := tapRecord 1 t b 0 (f.tag.bytes ++ leBytes 4 x.skipped ++ [0, 0, 0, 0])
    let recs := head :: (x.frame ++ tel)
    let need := (ringPlan (d.ringWords t) (d.rd P.TAP_PROD [t]) (recs.map fun r => r.length / 8)).1
    if !d.is P.TAP_EN [t] then d
    else if b = 15 && d.ringFree t < need then
      let d := { d with pipe := { d.pipe with taps := d.pipe.taps.put t { x with skipped := x.skipped + 1, frame := [] } } }
      (d.bump P.TAP_SKIP [t]).setPipe 4 f.tag.core
    else
      let d := { d with pipe := { d.pipe with taps := d.pipe.taps.put t { x with skipped := 0, frame := [] } } }
      (d.each recs fun r d => d.ringWrite t r).bump P.TAP_FRAMES [t]

/-- The planes of a companion frame: RGB and near-infrared (R101, R102). -/
def Dev.planesOf (d : Dev) (k : Nat) (f : Frame) : List (List Nat) :=
  let w := d.rd P.C_WIDTH [k]
  let h := d.rd P.C_HEIGHT [k]
  let col (x y : Nat) : Nat := mosaicAt (d.rd P.MOSAIC [k]) (y + d.rd P.PH_Y [k]) (x + d.rd P.PH_X [k])
  let px (r c : Nat) : Nat := (f.rows.get r []).getD c 0
  let plane (colour : Nat) : List Nat :=
    (List.range h).flatMap fun y => (List.range w).map fun x => planeAt px w h colour col x y
  let r := plane 0
  let g := plane 1
  let b := plane 2
  let n := plane 3
  [r, g, b, if d.rd P.MOSAIC [k] = 0 then n
    else (List.range n.length).map fun i => n.getD i 0 - r.getD i 0 - g.getD i 0 - b.getD i 0]

/-- A whole companion frame in the registration buffer: the latest RGB planes, and in a session the NIR planes. -/
def Dev.companionDone (d : Dev) (k : Nat) (f : Frame) : Dev :=
  let ps := d.planesOf k f
  let d := { d with fus := { d.fus with rgb := d.fus.rgb.put k ps } }
  if d.fus.regs.any fun g => g.cores.contains k then
    { d with fus := { d.fus with planes := d.fus.planes.upd k [] fun l => (f.tag.capture, ps.getD 3 []) :: l } }
  else d

/-- The frame's last line has left its cluster (R100): the statistics record, the totals, the taps and the frame
boundary. -/
def Dev.frameDone (d : Dev) (s : Nat) (f : Frame) : Dev :=
  let k := coreOf s
  let x := d.strm s
  let d := d.setStrm s { x with stats := statsRecord f (isComp s), frames := x.frames.filter fun g => decide (g.tag.cnt ≠ f.tag.cnt) }
  let d := d.tapFrame f
  let d := if isComp s then d.companionDone k f
    else if f.tag.has 11 then d
    else (d.wr P.BAD_TOTAL [k] f.sums.bad).wr P.RANGE_PIX [k] f.sums.range
  let d := if !isComp s && f.blend = some 0 && !f.tag.has 11 then d.wr P.RAMP_DMAX [k] (min 65535 f.dmax) else d
  d.frameBoundary k

/-- A line leaves its cluster: it is counted, and the frame ends with its last line. -/
def Dev.leave (d : Dev) (s cnt : Nat) (line : Line) (bad range : Nat) : Dev :=
  match (d.strm s).frame? cnt with
  | none => d
  | some f =>
    let f := { f with left := f.left + 1, sums := f.sums.addLine line f.cfg.histLo f.cfg.histShift bad range }
    let d := d.setStrm s ((d.strm s).putFrame f)
    if !f.isOpen && d.height s ≤ f.left then d.frameDone s f else d

/-- The neighbours of a line in the window, as pass B sees them. -/
def Dev.around (d : Dev) (k cnt y : Nat) : List Px × List Px :=
  let w := d.window k
  let px (o : Option WinLine) : List Px := match o with | some l => l.px | none => []
  (if y ≤ 1 then [] else px (lineIn w cnt (y - 1)), px (lineIn w cnt (y + 1)))

/-- Pass B of a line of the window. -/
def Dev.resultsOf (d : Dev) (k : Nat) (f : Frame) (l : WinLine) : List Res :=
  let (prev, next) := d.around k l.cnt l.y
  passBLine f (d.curve k f.bank) (d.curve k (1 - f.bank)) prev l.px next

/-! ## Where a table lies (R267, R283) -/

/-- The rank of a slot (R267). -/
def Dev.rankOf (d : Dev) (s : Nat) : Nat := bitsOf (if s < 8 then d.rd P.RANK_MAP_LO else d.rd P.RANK_MAP_HI) (4 * (s % 8)) 4

/-- The rank and the rank address of a device address: consecutive 4 KiB pages fall on consecutive slots (R267). -/
def Dev.rankAddress (d : Dev) (da : Nat) : Nat × Nat :=
  let n := d.rd P.N_SVC
  (d.rankOf (da / 4096 % n), da / 4096 / n * 4096 + da % 4096)

/-- A request for `n` bytes of a DRAM table takes the ranks that hold them out of power-down (R283, log 171). -/
def Dev.touch (d : Dev) (t off n : Nat) : Dev :=
  if (List.range 16).all fun r => !d.is P.PD [r] then d
  else
    let ends := ((List.range (n / 4096 + 1)).map fun i => off + 4096 * i) ++ [off + n - 1]
    d.each (ends.map fun o => (d.rankAddress (tableAddress t o)).1) fun r d => d.wr P.PD [r] 0

/-! ## PASS_A (R114 to R121, R131) -/

/-- The block that an error of a line's read names. -/
def blockAt (k applied row : Nat) (e : BlockErr) : BadBlock :=
  ⟨k, if e.target then 1 - applied else applied, e.state, row, e.block⟩

/-- The record blocks of a row that fail in a frame: those whose read failed now, and those that stood unrepaired at the
frame's start (R115), in the applied bank and, while it is armed, in the target bank. -/
def Frame.failing (f : Frame) (k row : Nat) (errs : List BlockErr) : List BadBlock :=
  ((errs.map (blockAt k f.bank row)) ++ f.bad.filter fun b => decide (b.row = row)).eraseDups.filter fun b : BadBlock =>
    f.blend.isSome || decide (b.bank = f.bank)

/-- A block failed (R114): counted, flagged and reported for repair, unless its repair waits or has failed twice. It fails in
every frame whose frame start precedes the repair. -/
def Dev.blockError (d : Dev) (b : BadBlock) : Dev :=
  let d := (d.bump P.REC_ERR_CNT [b.core]).setPipe 5 b.core
  if d.pipe.dead.contains b || d.pipe.bad.any fun r => decide (r.block = b) then d
  else
    let d := { d with pipe := { d.pipe with bad := snoc d.pipe.bad ⟨b, 0⟩ } }
    let x := d.strm b.core
    d.setStrm b.core { x with frames := x.frames.map fun f => { f with bad := snoc f.bad b } }

/-- Pass A of a line of a core's frame whose record blocks `bs` fail. -/
def Dev.passAOf (d : Dev) (k : Nat) (f : Frame) (y : Nat) (line : Line) (bs : List BadBlock) : List Px :=
  let w := d.rd P.WIDTH [k]
  let hit (state : Bool) (bank x : Nat) : Bool := bs.any fun b => decide (b.state = state ∧ b.bank = bank) && inBlock state b.block x
  line.px.mapIdx fun x raw =>
    let i := (y - 1) * w + x
    let upd := (f.updates.reverse.find? fun u : Nat × Nat × Bool => decide (u.1 = (y - 1) * 2048 + x)).map
      fun u : Nat × Nat × Bool => (u.2.1, u.2.2)
    let inp : PxIn :=
      ⟨d.recAt k f.bank i, if f.blend.isSome then some (d.recAt k (1 - f.bank) i) else none,
       hit false f.bank x || hit false (1 - f.bank) x, hit true f.bank x, hit true (1 - f.bank) x, upd⟩
    passAPixel f (d.rd P.DT [k]) inp x (y - 1) raw (decide (x < line.valid)) line.flagged

/-- A SHUTTER line handed to the calibration engine (R131, R144): the gather sums of a gathered frame. -/
def Dev.gatherLine (d : Dev) (k : Nat) (f : Frame) (y : Nat) (px : List Px) : Dev :=
  match d.cal.cores.get? k with
  | none => d
  | some c =>
    match c.cycle with
    | none => d
    | some cy =>
      if cy.gathered = 0 || f.tag.cnt < cy.base || cy.base + 16 ≤ f.tag.cnt then d
      else
        let w := d.rd P.WIDTH [k]
        let m := (px.mapIdx fun x p => (x, p)).foldl (fun (m : KMap GPx) p =>
          m.upd ((y - 1) * w + p.1) ⟨0, 0, 0, 0⟩ fun g =>
            let rails := g.rails + (if bitOf p.2.st 2 then 1 else 0)
            if p.2.st % 4 ≠ 0 then { g with rails := rails }
            else ⟨g.n + 1, g.sum + p.2.x, g.sq + p.2.x * p.2.x, rails⟩) cy.px
        { d with cal := { d.cal with cores := d.cal.cores.put k { c with cycle := some { cy with px := m } } } }

/-! ## Lines leave their cluster in line order (R15) -/

/-- A line of a companion or SHUTTER frame leaves: to the taps, and a SHUTTER line to the calibration engine (R131). -/
def Dev.leaveRaw (d : Dev) (s : Nat) (f : Frame) (y : Nat) (line : Line) (px : List Px) : Dev :=
  let k := coreOf s
  if isComp s then (d.tapLine f y px none).leave s f.tag.cnt line 0 0
  else
    let bad := ((List.range px.length).filter fun x => decide ((d.recAt k f.bank ((y - 1) * d.rd P.WIDTH [k] + x)).cls ≠ 0)).length
    ((d.gatherLine k f y px).tapLine f y px none).leave s f.tag.cnt line bad 0

/-- A line of the window leaves: its results, as pass B left them, are handed off to fusion and to the taps (R130), and the
lines that need no neighbour any more leave the window. -/
def Dev.leaveLine (d : Dev) (k : Nat) (f : Frame) (l : WinLine) : Dev :=
  let bad := (l.px.filter fun p => decide (p.cls ≠ 0)).length
  let range := (l.res.filter fun r => bitOf r.st 7).length
  let d := (d.handOff k f l.y l.arrival l.res).tapLine f l.y l.px (some l.res)
  let d := d.leave k l.cnt l.line bad range
  let w := d.window k
  let gone := (d.strm k).frames.head?.map fun g => (g.tag.cnt, g.left)
  d.setWindow k (w.filter fun q =>
    (windowUsed w).any (fun u => decide (u.cnt = q.cnt ∧ u.y = q.y)) ||
      (match gone with
       | some (c, left) => decide (c = q.cnt ∧ left < q.y)
       | none => false))

/-- The lines of a stream that are complete leave the cluster in line order, a line that completes before an earlier line of
its frame being held until that one has left (R15). -/
def leaveInOrder : Nat → Nat → Dev → Dev
  | 0, _, d => d
  | n + 1, s, d =>
    match (d.strm s).frames.head? with
    | none => d
    | some f =>
      match f.waiting.get? (f.left + 1) with
      | some (line, px) =>
        let f := { f with waiting := f.waiting.del (f.left + 1) }
        leaveInOrder n s ((d.setStrm s ((d.strm s).putFrame f)).leaveRaw s f (f.left + 1) line px)
      | none =>
        match lineIn (d.window s) f.tag.cnt (f.left + 1) with
        | none => d
        | some l => if l.done then leaveInOrder n s (d.leaveLine s f l) else d

/-- A lane is free again. -/
def Dev.freeLane (d : Dev) (lane : Nat) : Dev := { d with pipe := { d.pipe with lanes := d.pipe.lanes.del lane } }

/-- Pass A of a line of stream `s` completes; `errs` are the record blocks whose read failed. -/
def Dev.finishA (d : Dev) (s cnt y : Nat) (line : Line) (errs : List BlockErr) : Dev :=
  let k := coreOf s
  match (d.strm s).frame? cnt with
  | none => d
  | some f =>
    if isComp s || f.tag.has 11 then
      let dt := if isComp s then d.rd P.COMP_DT [k] else d.rd P.DT [k]
      let px := line.px.mapIdx fun x raw => shutterPixel dt raw (decide (x < line.valid)) line.flagged
      let rows := if isComp s then f.rows.put (y - 1) (line.px.map (align dt)) else f.rows
      leaveInOrder 4096 s (d.setStrm s ((d.strm s).putFrame { f with rows := rows, waiting := f.waiting.put y (line, px) }))
    else
      let w := d.rd P.WIDTH [k]
      let d := d.touch (pixTable k) (d.recOffset k f.bank ((y - 1) * w)) (16 * w)
      let bs := f.failing k (y - 1) errs
      let d := d.each bs fun b d => d.blockError b
      d.setWindow k (d.window k ++ [⟨cnt, y, line.arrival, line, d.passAOf k f y line bs, false, false, []⟩])

/-- PASS_A: a lane completes pass A of its line. -/
def passA (lane : Nat) (errs : List BlockErr) (d : Dev) : Dev :=
  match d.pipe.lanes.get? lane with
  | some (.passA s cnt y line) => if d.awake then (d.freeLane lane).finishA s cnt y line errs else d
  | _ => d

/-! ## PASS_B (R122 to R130) -/

/-- The first hit of a kind in a frame counted, and of the frame latched (R127). -/
def Dev.firstHit (d : Dev) (k : Nat) (f : Frame) (x y kind : Nat) (r : Res) : Dev :=
  let new := kind - (kind &&& f.hits)
  let d := if f.hits = 0 then
      d.wrs [(P.HIT_X, [k], x), (P.HIT_Y, [k], y), (P.HIT_KIND, [k], kind), (P.HIT_T, [k], r.t),
        (P.HIT_DT, [k], wrapInt 16 r.dt), (P.HIT_FRAME, [k], f.tag.cnt)]
    else d
  let d := if f.hits = 0 then
      d.set (.alarmHit k) (2, k) (leBytes 1 k ++ [0] ++ leBytes 2 x ++ leBytes 2 y ++ leBytes 1 kind ++ [0] ++
        leBytes 2 r.t ++ leBytes 2 (wrapInt 16 r.dt) ++ leBytes 4 f.tag.cnt)
    else d
  let d := if bitOf new 0 then (d.bump P.ABS_CNT [k]).setPipe 0 k else d
  if bitOf new 1 then (d.bump P.RATE_CNT [k]).setPipe 1 k else d

/-- The hits of a line (R126, R127): the first of the frame latched, each passed to fusion, at most 64 in a frame. -/
def Dev.lineHits (d : Dev) (k : Nat) (f : Frame) (y : Nat) (res : List Res) : Dev × Frame :=
  ((hitsOf f res).zip res |>.mapIdx fun x p => (x, p.1, p.2)).foldl (fun (a : Dev × Frame) p =>
    let (d, f) := a
    if p.2.1 = 0 then a
    else
      let d := d.firstHit k f p.1 (y - 1) p.2.1 p.2.2
      let d := { d with pipe := { d.pipe with alarmAt := some d.clk } }
      let d := if f.hitCnt < 64 then
          let h := [k, p.1, y - 1, p.2.1, p.2.2.t, wrapInt 16 p.2.2.dt, f.tag.cnt, d.clk, f.tag.capture]
          { d with fus := { d.fus with hits := snoc d.fus.hits h } }
        else d
      (d, { f with hits := f.hits ||| p.2.1, hitCnt := min 64 (f.hitCnt + 1) })) (d, f)

/-- One whole block of the state plane of a line written: bytes 12 to 15 of the up to sixteen records it holds; what lies past WIDTH is
zero-filled and no record's (R270). -/
def Dev.putStates (d : Dev) (k bank y b : Nat) (block : List Byte) : Dev :=
  let w := d.rd P.WIDTH [k]
  d.each ((List.range 16).filter fun j => decide (16 * b + j < w)) fun j d =>
    d.tblWrite (pixTable k) (d.recOffset k bank ((y - 1) * w + (16 * b + j)) + 12) ((block.drop (4 * j)).take 4)

/-- The states of a line's records written back, block by block (R111, R117, R270): in the applied bank, and in the target bank while
armed; a state block whose read failed is not written (R114). -/
def Dev.writeBack (d : Dev) (k : Nat) (f : Frame) (y : Nat) (px : List Px) (res : List Res) : Dev :=
  let cells := (px.zip res).map fun p => (p.1, leBytes 2 p.1.s ++ leBytes 1 (p.2.back.1 + 16 * p.2.back.2) ++ [0])
  d.each (List.range (stateBlocks (d.rd P.WIDTH [k]))) fun b d =>
    let l := (cells.drop (16 * b)).take 16
    let block := fitTo 64 0 (l.flatMap (·.2))
    let d := if l.any (·.1.barApp) then d else d.putStates k f.bank y b block
    if f.blend.isNone || l.any (·.1.barTgt) then d else d.putStates k (1 - f.bank) y b block

/-- Pass B of a line completes. -/
def Dev.finishB (d : Dev) (k cnt y : Nat) : Dev :=
  match (d.strm k).frame? cnt, lineIn (d.window k) cnt y with
  | some f, some l =>
    let res := d.resultsOf k f l
    let d := d.writeBack k f y l.px res
    let lived := (res.filter (·.lived)).length
    let lone := (res.filter fun r => bitOf r.st 5).length
    let d := d.wr P.LIVE_CNT [k] (d.rd P.LIVE_CNT [k] + lived)
    let d := if lived ≠ 0 && !f.lived then d.setPipe 2 k else d
    let d := d.wr P.NO_DONOR_CNT [k] (d.rd P.NO_DONOR_CNT [k] + lone)
    let d := if lone ≠ 0 then d.setPipe 3 k else d
    let (d, f) := d.lineHits k f y res
    let f := { f with lived := f.lived || decide (lived ≠ 0), dmax := (res.map (·.dmax)).foldl max f.dmax }
    let d := d.setStrm k ((d.strm k).putFrame f)
    let d := d.setWindow k ((d.window k).map fun w =>
      if w.cnt = cnt ∧ w.y = y then { w with done := true, res := res } else w)
    leaveInOrder 4096 k d
  | _, _ => d

/-- PASS_B: a lane completes pass B of its line. -/
def passB (lane : Nat) (d : Dev) : Dev :=
  match d.pipe.lanes.get? lane with
  | some (.passB k cnt y) => if d.awake then (d.freeLane lane).finishB k cnt y else d
  | _ => d

/-- Every lane completes what it has accepted (R11): pass A, and then the pass B of the lines in hand. -/
def Dev.drainLanes (d : Dev) : Dev :=
  d.each d.pipe.lanes.cells fun e d =>
    match e.2 with
    | .passA s cnt y line => (d.freeLane e.1).finishA s cnt y line []
    | .passB k cnt y => (d.freeLane e.1).finishB k cnt y

/-! ## Alarms (R127, R129) -/

/-- A bit of ALARM_HIT stands. -/
def Dev.anyHit (d : Dev) : Bool := decide (d.rd P.ALARM_HIT_LO ≠ 0 ∨ d.rd P.ALARM_HIT_HI ≠ 0)

/-- A source of ALARM_N stands (R127): a hit, a self-test, a faulted alarm line, a flag routed to it, a
converter channel of R321. -/
def Dev.alarmStands (d : Dev) : Bool :=
  d.anyHit || d.is P.TEST_GO || decide (d.rd P.LINE_DIE % 4 ≠ 0) || d.routed 6 || d.convAlarm

/-- ALARM_HOLD: the hold passes with no source standing, and ALARM_N is released (the pin follows in `settle`). -/
def alarmHold (d : Dev) : Dev :=
  match d.pipe.alarmAt with
  | some t =>
    if d.alarmStands then d
    else
      let d := d.reach (t + ms (d.rd P.ALARM_HOLD))
      { d with pipe := { d.pipe with alarmAt := none } }
  | none => d

/-- SELFTEST: the self-test ends, and TEST_OK records whether the I/O die saw it (R129). -/
def selfTest (seen : Bool) (d : Dev) : Dev :=
  if d.is P.TEST_GO then
    let d := (d.put P.TEST_GO [] false).put P.TEST_OK [] seen
    { d with pipe := { d.pipe with alarmAt := some d.clk } }.report 112 (3, d.rd P.TEST_LANE)
  else d

/-- ALARM_LINE_FAULT: the two wires of an alarm line, or of a frame-sync line, of a bridge agree (R129). -/
def alarmLineFault (bridge : Nat) (sync : Bool) (d : Dev) : Dev :=
  if d.alive && decide (bridge < 2) then
    let bit := if sync then 2 + bridge else bridge
    (d.wr P.LINE_DIE [] (setBit (d.rd P.LINE_DIE) bit)).set (.pipe (if sync then 7 else 6))
  else d

/-- BRIDGE_TRANSFER_ERROR: a transfer fails its CRC and is replayed; a transfer that fails after three replays marks
the bridge failed (R21). `again`: it is the replay of the transfer in hand that fails; otherwise that replay succeeded and
another transfer fails. The row names no transfer and no outcome of one (log 211). -/
def bridgeTransferError (bridge : Nat) (again : Bool) (d : Dev) : Dev :=
  if !d.alive || 2 ≤ bridge then d
  else
    let n := if again then d.pipe.replays.get bridge 0 else 0
    if n < 3 then { d with pipe := { d.pipe with replays := d.pipe.replays.put bridge (n + 1) } }.set (.bridgeErr bridge)
    else
      ({ d with pipe := { d.pipe with replays := d.pipe.replays.put bridge 0 } }.set (.bridgeFail bridge)).refreshState

/-! ## RATE_WINDOW (R36, R37) -/

/-- The end of the monitor window in hand of a region: the first ends one window after RESET_N release. -/
def Dev.windowEnd (d : Dev) (r : Nat) : Nat := d.pipe.winEnd.get r (1000 * d.rd P.RATE_WINDOW)

/-- RATE_WINDOW: the window in hand of a region ends, its lowest monitor having measured `rate`, in 0.01 Mpx/s; the next one
begins. The event is re-armed where its condition held at the start of the window and all through it, which its two ends show
(log 212). -/
def rateWindow (r rate : Nat) (d : Dev) : Dev :=
  if !d.awake || 4 ≤ r then d
  else
    let d := d.reach (d.windowEnd r)
    let d := { d with pipe := { d.pipe with winEnd := d.pipe.winEnd.put r (d.clk + 1000 * d.rd P.RATE_WINDOW) } }
    let d := (d.wr P.LANE_RATE [r] rate).lowerTo P.LANE_RATE_MIN [r] (rate % 65536)
    let held := d.pipe.easing.contains r
    let now := d.eased r rate
    let rest := d.pipe.easing.filter (· ≠ r)
    let d := { d with pipe := { d.pipe with easing := if now then r :: rest else rest } }
    if d.pipe.raised.contains r then
      if held && now then { d with pipe := { d.pipe with raised := d.pipe.raised.filter (· ≠ r) } } else d
    else if (clustersOf r).any fun c => d.short c rate (d.rd P.RATE_MARGIN) then
      { d with pipe := { d.pipe with raised := r :: d.pipe.raised } }.set (.rateLow r) (5, r)
    else d

/-! ## RECORD_REPAIR (R115) -/

/-- Bytes 0 to 11 of a record that the core's learned set and factory record give, and its CLASS: the record as
enable wrote it (R171); `base` is that record's 16 bytes. -/
def coefBytes (base : List Byte) (slot : Option Nat) : List Byte := base.take 11 ++ [BitVec.ofNat 8 (slot.getD 0)]

/-- The contents a repair writes for one pixel of a block (R115): the bytes of its record that lie in the block. -/
def Dev.repairPixel (d : Dev) (b : BadBlock) (x : Nat) (learned : List Byte) : Dev :=
  let applied := d.rd P.APPLIED_BANK [b.core]
  let i := b.row * d.rd P.WIDTH [b.core] + x
  let o := d.recOffset b.core b.bank i
  if b.state then
    d.tblWrite (pixTable b.core) (o + 12) ([0, 0] ++ leBytes 1 (byteAt learned 14 % 16 + 240) ++ [1])
  else
    let bs := if b.bank = applied then coefBytes learned ((d.cal.cores.get? b.core).bind (·.slot))
      else d.tblRead (pixTable b.core) (d.recOffset b.core applied i) 12
    let (lo, n) := blockBytes b.block x
    d.tblWrite (pixTable b.core) (o + lo) ((bs.drop lo).take n)

end Sys2Proof.Machine
end

