-- ==== Sys2Proof/Machine/Memory.lean ====
section
/-!
DEFINITION. Sys2Proof/Machine/Memory.lean: the memory controller (R265 to R298): ranks and their migration, refresh,
set points, margin scans and the admission of armed banks.
-/
namespace Sys2Proof.Machine

/-! ## Ranks (R265, R272, R292) -/

/-- RANK_STATE of a rank. -/
def Dev.rankState (d : Dev) (n : Nat) : Nat :=
  bitsOf (if n < 8 then d.rd P.RANK_STATE_LO else d.rd P.RANK_STATE_HI) (3 * (n % 8)) 3

/-- A field of `w` bits at bit `lo` of a word replaced. -/
def putBits (v lo w x : Nat) : Nat := v - bitsOf v lo w * 2 ^ lo + x % 2 ^ w * 2 ^ lo

/-- DATA of a memory event (Table 13-3): the location words of Table 8-8, RANK_STATE old and new. -/
def Dev.memData (d : Dev) (old new : Nat) : List Byte :=
  leBytes 4 (d.word 0x30001D) ++ leBytes 4 (d.word 0x30001E) ++ leBytes 1 old ++ leBytes 1 new

/-- A flag of the memory group set for a rank. -/
def Dev.setMem (d : Dev) (b n : Nat) : Dev := d.set (.mem b) (6, n) (d.memData (d.rankState n) (d.rankState n))

/-- SPARES_LEFT counts the spares. -/
def Dev.refreshSpares (d : Dev) : Dev :=
  d.wr P.SPARES_LEFT [] ((List.range 16).filter fun n => decide (d.rankState n = 1)).length

/-- A rank enters a state; source 240 reports a change. -/
def Dev.setRank (d : Dev) (n st : Nat) : Dev :=
  let old := d.rankState n
  if old = st then d
  else
    let d := if n < 8 then d.wr P.RANK_STATE_LO [] (putBits (d.rd P.RANK_STATE_LO) (3 * n) 3 st)
      else d.wr P.RANK_STATE_HI [] (putBits (d.rd P.RANK_STATE_HI) (3 * (n - 8)) 3 st)
    d.refreshSpares.report 240 (6, n) (d.memData old st)

/-- Column, bank and row of a rank address under map A (0), B (1) or C (2) (R268, Table 8-1). -/
def rankPlace (map ra : Nat) : Nat × Nat × Nat :=
  let row := bitsOf ra 14 16
  if map = 1 then (bitsOf ra 9 5 * 32 + bitsOf ra 1 5, bitsOf ra 6 3, row)
  else (bitsOf ra 1 10, if map = 2 then bitsOf ra 11 3 ^^^ bitsOf ra 14 3 else bitsOf ra 11 3, row)

/-- The rank address of the check code of the block at a rank address (R269); the same map places it. -/
def codeAddress (ra : Nat) : Nat := 960 * 2 ^ 20 + 4 * (ra / 64)

/-- A slot given a rank. -/
def Dev.setSlotRank (d : Dev) (s n : Nat) : Dev :=
  if s < 8 then d.wr P.RANK_MAP_LO [] (putBits (d.rd P.RANK_MAP_LO) (4 * s) 4 n)
  else d.wr P.RANK_MAP_HI [] (putBits (d.rd P.RANK_MAP_HI) (4 * (s - 8)) 4 n)

/-- The spare that takes a rank's place: the lowest free one on another channel, or failing that the lowest (R292). -/
def Dev.spareFor (d : Dev) (n : Nat) : Option Nat :=
  let l := (List.range 16).filter fun m => decide (d.rankState m = 1)
  match l.find? fun m => decide (m % 8 ≠ n % 8) with
  | some m => some m
  | none => l.head?

/-- The RID of the retirement record in area 2. -/
def retirementRid : Nat := 0x300

/-- The retired ranks as one bit each; a rank that migrates out counts (R295). -/
def Dev.retiredBits (d : Dev) : Nat :=
  ((List.range 16).map fun n => if d.rankState n ∈ [2, 4] then 2 ^ n else 0).sum

/-- LEFT, RIGHT, WIDTH and CENTRE of the error-free run about the trained setting, `first` being the offset of the first
step (R289, log 31). -/
def margins (counts : List Nat) (first : Int) : Int × Int × Nat × Int :=
  let at_ (i : Int) : Bool := decide (counts.getD (i - first).toNat 1 = 0) && decide (first ≤ i)
  let zero := at_ 0
  let left := ((List.range (0 - first).toNat).takeWhile fun j : Nat => at_ (-(j : Int) - 1)).length
  let right := ((List.range counts.length).takeWhile fun j : Nat => at_ ((j : Int) + 1)).length
  if zero then (-(left : Int), right, left + right + 1, ((right : Int) - left) / 2) else (0, 0, 0, 0)

/-- First step and number of steps of a scan type (Table 8-5). -/
def scanRange (type : Nat) : Int × Nat := if type % 2 = 0 then (-64, 128) else (-20, 41)

/-- The entry of a lane written to table 0x3010 + c (R289). -/
def Dev.writeMargin (d : Dev) (c : Nat) (s : Scan) : Dev :=
  let (l, r, w, m) := margins s.counts (scanRange s.type).1
  d.tblWrite (0x3010 + c) (272 * (4 * s.lane + s.type))
    (leBytes 2 (wrapInt 16 l) ++ leBytes 2 (wrapInt 16 r) ++ leBytes 2 w ++ leBytes 2 (wrapInt 16 m) ++ leBytes 8 d.now ++
      fitTo 256 0 (s.counts.flatMap fun n => leBytes 2 (min 65535 n)))

/-- MEM_MODE after a scan that holds the test mode has ended (R290): recovery. -/
def Dev.refreshMode (d : Dev) : Dev :=
  if d.rd P.MEM_MODE ∈ [2, 3] then
    d.wr P.MEM_MODE [] (if d.mem.scans.vals.any fun s => decide (2 ≤ s.type) then 2 else 3)
  else d

/-- A scan over. -/
def Dev.dropScan (d : Dev) (c : Nat) : Dev := { d with mem := { d.mem with scans := d.mem.scans.del c } }.refreshMode

/-- A scan aborted: its completion carries ST_BUSY, SCAN_ABORTED. -/
def Dev.abortScan (d : Dev) (c : Nat) : Dev :=
  match d.mem.scans.get? c with
  | none => d
  | some s => ((d.writeMargin c s).dropScan c).complete s.ticket .busy 0x3006

/-- A migration begins (R292, R293). -/
def Dev.startMigration (d : Dev) (n dst : Nat) : Dev :=
  let d := (d.setRank n 2).setRank dst 3
  let d := d.wrs [(P.MIG_SRC, [], n), (P.MIG_DST, [], dst), (P.MIG_ACTIVE, [], 1), (P.MIG_PTR, [], 0)]
  ((d.setMem 3 n).immediate ⟨retirementRid, 2, leBytes 2 d.retiredBits⟩).abortScan (n % 8)

/-- How far the copy of a migration has come: MIG_PTR moves on by a free amount while the device is awake (R293, log 213). -/
def Dev.senseMigration (d : Dev) : Dev :=
  if d.is P.MIG_ACTIVE && d.awake then
    let (v, d) := d.draw 0xF00001
    d.raiseTo P.MIG_PTR [] v
  else d

/-- DEMAND measured anew, PEAK_DEMAND its highest. -/
def Dev.senseDemand (d : Dev) : Dev :=
  let d := d.sense P.DEMAND []
  d.raiseTo P.PEAK_DEMAND [] (d.rd P.DEMAND)

/-- No free spare: the rank stays in service in state 5 (R292); FAULT_N follows in `settle`. -/
def Dev.noSpare (d : Dev) (n : Nat) : Dev := ((d.setRank n 5).setMem 6 n).refreshState

/-- The next rank that waits begins its migration. -/
def nextMigration : Nat → Dev → Dev
  | 0, d => d
  | k + 1, d =>
    match d.mem.queue with
    | [] => d
    | n :: t =>
      let d := { d with mem := { d.mem with queue := t } }.wr P.MIG_QUEUED [] t.length
      match d.spareFor n with
      | some m => d.startMigration n m
      | none => nextMigration k (d.noSpare n)

/-- A rank in service is to be taken out of service (R292). -/
def Dev.failRank (d : Dev) (n : Nat) : Dev :=
  if d.rankState n ≠ 0 || d.mem.queue.contains n || d.rd P.MEM_MODE ≠ 1 then d
  else
    let q := snoc d.mem.queue n
    let d := { d with mem := { d.mem with queue := q } }.wr P.MIG_QUEUED [] q.length
    if d.is P.MIG_ACTIVE then d else nextMigration 17 d

/-- The migration's target has failed (R295): it is retired, and the migration starts over or ends without a spare. -/
def Dev.abortMigration (d : Dev) : Dev :=
  let src := d.rd P.MIG_SRC
  let dst := d.rd P.MIG_DST
  let d := (d.setRank dst 4).setMem 5 dst
  match d.spareFor src with
  | some m => d.startMigration src m
  | none =>
    let d := d.wr P.MIG_ACTIVE [] 0
    nextMigration 17 (d.noSpare src)

/-! ## Refresh (R278 to R280) -/

/-- OWED of a rank: the highest count among its banks. -/
def Dev.refreshOwed (d : Dev) (n : Nat) : Dev :=
  d.wr P.OWED [n] (((List.range 8).map fun b => d.mem.owed.get (8 * n + b) 0).foldl max 0)

/-- Every owed refresh of a rank paid. -/
def Dev.payOwed (d : Dev) (n : Nat) : Dev :=
  { d with mem := { d.mem with
    owed := d.mem.owed.keep fun k _ => decide (k / 8 ≠ n), paying := d.mem.paying.del n } }.refreshOwed n

/-- A payoff of a rank has ended. -/
def Dev.paidOff (d : Dev) (n : Nat) : Bool := (d.mem.paying.get? n).any fun t => decide (t ≤ d.clk)

/-- What a rank owes once a payoff that has ended is reckoned with. -/
def Dev.settleOwed (d : Dev) (n : Nat) : Dev := if d.paidOff n then d.payOwed n else d

/-- The payoff of a rank (R280): every owed refresh counts `f` times at the new interval, and they are paid at once, 90 ns apart and 140 ns
apart in one bank (log 170). -/
def Dev.payoff (d : Dev) (n f : Nat) : Dev :=
  let l := (List.range 8).map fun b => f * d.mem.owed.get (8 * n + b) 0
  if l.sum = 0 then d
  else
    let m := (List.range 8).foldl (fun m b => if l.getD b 0 = 0 then m else m.put (8 * n + b) (l.getD b 0)) d.mem.owed
    { d with mem := { d.mem with
      owed := m, paying := d.mem.paying.put n (d.clk + max (90 * (l.sum - 1) + 140) (140 * l.foldl max 0)) } }.refreshOwed n

/-- REF_MULT of a code (Table 8-4). -/
def refMult (code : Nat) : Nat := if code ≤ 3 then 0 else if code = 4 then 1 else 2

/-- Doze entry (R284): refreshes paid, scans aborted, every rank in self-refresh. -/
def Dev.memDoze (d : Dev) : Dev :=
  let d := d.each d.mem.scans.keys fun c d => d.abortScan c
  d.each (List.range 16) fun n d => ((d.payOwed n).wr P.PD [n] 0).wr P.SR [n] 1

/-- One rank's mode register 4 read (R279 to R281): at a shorter interval it pays what it owes; FAULT_N follows in `settle`. -/
def Dev.pollRank (d : Dev) (n code : Nat) : Dev :=
  let d := d.settleOwed n
  let was := d.rd P.REF_MULT [n]
  let d := d.wrs [(P.MR4_CODE, [n], code), (P.REF_MULT, [n], refMult code)]
  let d := if was < refMult code then (d.payoff n (2 ^ (refMult code - was))).setMem 7 n else d
  if code = 7 then d.setMem 8 n else d

/-- Mode register 4 of each rank read. -/
def Dev.pollAll (d : Dev) (codes : List Nat) : Dev :=
  d.each ((codes.take 16).mapIdx fun n c => (n, c % 8)) fun p d => d.pollRank p.1 p.2

/-- The refresh codes that `n` ranks answer: no operand brings them, so they are free (log 6). -/
def Dev.drawCodes (d : Dev) : Nat → List Nat × Dev
  | 0 => ([], d)
  | n + 1 =>
    let (c, d) := d.draw 8
    let (l, d) := d.drawCodes n
    (c :: l, d)

/-- Wake: the ranks leave self-refresh and each one's mode register 4 is read (R284). -/
def Dev.memWake (d : Dev) : Dev :=
  let (codes, d) := (d.each (List.range 16) fun n d => d.wr P.SR [n] 0).drawCodes 16
  d.pollAll codes

/-! ## Set points (R285, R286) -/

/-- DEV_INGEST, Σ of the pixel rates of enabled cores and cameras, exceeds 400 Mpx/s. -/
def Dev.ingestHigh (d : Dev) : Bool :=
  decide (40000000000 < (((List.range 64).filter fun k => d.is P.CORE_EN [k]).map d.pixelRate).sum)

/-- Why a change to a set point is refused (R286); a change already in progress is one more (Table 8-11). -/
def Dev.pointCheck (d : Dev) (f : Nat) : Option Answer :=
  if d.is P.FSP_BUSY then some (refuse .busy 0x3003)
  else if !d.mem.scans.cells.isEmpty then some (refuse .busy 0x3002)
  else if d.is P.MIG_ACTIVE || d.rd P.MIG_QUEUED ≠ 0 then some (refuse .busy 0x3004)
  else if f = 1 && d.ingestHigh then some (refuse .denied 0x3005)
  else none

/-- A set-point change accepted: FSP_BUSY until SET_POINT_SWITCH. -/
def Dev.beginPoint (d : Dev) (f : Nat) : Dev := (d.wr P.FSP_SEL [] f).wr P.FSP_BUSY [] 1

/-! ## Armed banks (R274) -/

/-- Pixel rate of a core alone, in pixels per 100 s. -/
def Dev.coreRate (d : Dev) (k : Nat) : Nat := d.rd P.WIDTH [k] * d.rd P.HEIGHT [k] * d.rd P.FRAME_RATE [k]

/-- Summed rate of the cores whose target bank is armed. -/
def Dev.armedRate (d : Dev) : Nat := (((List.range 64).filter fun k => d.is P.ARMED [k]).map d.coreRate).sum

/-- The cores that wait to arm: refused, and with a staged set still. -/
def Dev.waitingToArm (d : Dev) : List Nat :=
  d.mem.refused.filter fun k => match d.cal.cores.get? k with
    | some c => c.staged.isSome
    | none => false

/-- ARMED_RATE and ARM_WAITING. -/
def Dev.refreshArmed (d : Dev) : Dev :=
  d.wrs [(P.ARMED_RATE, [], d.armedRate / 100000000), (P.ARM_WAITING, [], d.waitingToArm.length)]

/-- A core whose staged set has become ready takes its place in the order, and one without leaves it. -/
def Dev.noteReady (d : Dev) (k : Nat) (staged : Bool) : Dev :=
  let m := d.mem
  if staged then (if m.ready.contains k then d else { d with mem := { m with ready := snoc m.ready k } })
  else if m.ready.contains k then
    { d with mem := { m with ready := m.ready.filter (· ≠ k), refused := m.refused.filter (· ≠ k) } }.refreshArmed
  else d

/-- A core may arm its target bank at this frame start. -/
def Dev.mayArm (d : Dev) (k : Nat) : Bool :=
  let limit := (if d.is P.FSP_CUR then min (d.rd P.ARM_LIMIT) 100 else d.rd P.ARM_LIMIT) * 100000000
  let before := d.mem.ready.takeWhile (· ≠ k)
  !(before.any d.waitingToArm.contains) && (decide (d.armedRate + d.coreRate k ≤ limit) || decide (d.armedRate = 0))

/-- The arming of a core refused: it waits, and ARM_WAIT is set. -/
def Dev.armWait (d : Dev) (k : Nat) : Dev :=
  let m := d.mem
  let d : Dev := if m.refused.contains k then d else { d with mem := { m with refused := snoc m.refused k } }
  d.refreshArmed.setMem 9 0

end Sys2Proof.Machine
end

