-- ==== Sys2Proof/Machine/Shutter.lean ====
section
/-!
DEFINITION. Sys2Proof/Machine/Shutter.lean: the shutter drivers (R328 to R344): checks on close requests,
energisations, releases, latches, diagnoses and clears, as the commands and the calibration engine use them.
-/
namespace Sys2Proof.Machine

/-! ## Channels -/

/-- A channel. -/
def Dev.sh (d : Dev) (n : Nat) : ShCh := d.shut.chs.get n ⟨0, [], false, false, none, none, none, false, false⟩

/-- A channel changed. -/
def Dev.setSh (d : Dev) (n : Nat) (x : ShCh) : Dev := { d with shut := { d.shut with chs := d.shut.chs.put n x } }

/-- The other channel of the pair. -/
def partner (n : Nat) : Nat := if n % 2 = 0 then n + 1 else n - 1

/-- The channel's state code (Table 10-9). -/
def Dev.drv (d : Dev) (n : Nat) : Nat := d.rd P.DRV_STATE [n]

/-- The channel is in pull-in or hold. -/
def Dev.energised (d : Dev) (n : Nat) : Bool := decide (d.drv n ∈ [2, 3])

/-- The channel is energised, in release decay or waiting. -/
def Dev.chActive (d : Dev) (n : Nat) : Bool := decide (d.drv n ∈ [1, 2, 3, 4])

/-- A fault is latched on the channel or its switch. -/
def Dev.chLatched (d : Dev) (n : Nat) : Bool := (d.sh n).latch || d.is P.HS_LATCH [n / 2]

/-- DATA of a shutter event (Table 13-3). -/
def Dev.shData (d : Dev) (n : Nat) (st : Nat) : List Byte :=
  leBytes 1 n ++ leBytes 1 (d.drv n) ++ leBytes 1 (d.rd P.DIAG [n]) ++ [0] ++ leBytes 2 (d.rd P.I_MEAS [n]) ++
  leBytes 2 (d.rd P.VSHUT_MV) ++ leBytes 1 st

/-- LATCH, HS_ON and HS_I of a pair follow its channels: the switch is on while either channel is energised or in
release decay (R328). -/
def Dev.refreshPair (d : Dev) (n : Nat) : Dev :=
  let j := n / 2
  let on := [2 * j, 2 * j + 1].any fun c => decide (d.drv c ∈ [2, 3, 4])
  let d := d.each [2 * j, 2 * j + 1] fun c d => d.put P.LATCH [c] (d.chLatched c)
  (d.put P.HS_ON [j] on).wr P.HS_I [j] (if on then d.rd P.I_MEAS [2 * j] + d.rd P.I_MEAS [2 * j + 1] else 0)

/-- The current of a channel that is energised or in release decay, measured anew: the value is free (log 6). -/
def Dev.senseCoil (d : Dev) (n : Nat) : Dev :=
  if d.drv n ∈ [2, 3, 4] then (d.sense P.I_MEAS [n]).refreshPair n else d

/-- A flag of the shutter group set for a channel, with the current as it is measured then. -/
def Dev.setShd (d : Dev) (b n : Nat) : Dev :=
  let d := d.senseCoil n
  d.set (.shd b) (8, n) (d.shData n 0)

/-- The state of a channel that is off: 5 diagnosing, 6 faulted, 0 off. -/
def Dev.restState (d : Dev) (n : Nat) : Nat :=
  if (d.sh n).diag.isSome then 5 else if d.chLatched n then 6 else 0

/-- The states of the channels of a pair that are off follow their diagnoses and latches. -/
def Dev.refreshRest (d : Dev) (n : Nat) : Dev :=
  let j := n / 2
  (d.each [2 * j, 2 * j + 1] fun c d => if d.chActive c then d else d.wr P.DRV_STATE [c] (d.restState c)).refreshPair n

/-- The core whose running cycle has the channel's flag closed or opening. -/
def Dev.cycleOn (d : Dev) (n : Nat) : Option Nat :=
  (d.cal.cores.cells.find? fun p : Nat × CalCore =>
    p.2.cycle.isSome && decide (d.rd P.SHUT_CH [p.1] = n ∧ d.rd P.CYC_STATE [p.1] ∈ [2, 3, 4, 5, 6])).map fun p => p.1

/-- An enabled core names the channel in SHUT_CH (R343). -/
def Dev.inUse (d : Dev) (n : Nat) : Bool :=
  (List.range 64).any fun k => d.is P.CORE_EN [k] && decide (d.rd P.SHUT_CH [k] = n)

/-! ## Actuations (R339) -/

/-- ACT_WEAR is set when ACT_CNT ≥ ACT_WARN begins to hold. -/
def Dev.refreshWear (d : Dev) (n : Nat) : Dev :=
  let now := decide (d.rd P.ACT_WARN ≤ d.rd P.ACT_CNT [n])
  let was := (d.sh n).worn
  let d := d.setSh n { d.sh n with worn := now }
  if now && !was then d.setShd 10 n else d

/-- The next reserve requested: not durable until its record is. -/
def Dev.reserveNext (d : Dev) (n : Nat) : Dev := (d.setSh n { d.sh n with reserve := false }).count n

/-! ## Close requests (Table 10-1) -/

/-- E: the time the channel was energised within the last DUTY_WIN seconds (R331), ns. -/
def Dev.dutyE (d : Dev) (n : Nat) : Nat :=
  let from_ := d.clk - sec (d.rd P.DUTY_WIN [n])
  let past := ((d.sh n).past.map fun p : Nat × Nat => p.2 - max p.1 from_).sum
  if d.energised n then past + (d.clk - max (d.sh n).since from_) else past

/-- Twenty times the current budget B of a channel in mA (R332). -/
def Dev.budget20 (d : Dev) (n : Nat) : Nat := 21 * d.rd P.HOLD_I [n] + 100

/-- Table 10-1 for a request of a channel; `again` makes the checks of a request that already waits. ST_OK: pull-in
may begin. -/
def Dev.closeCheck (d : Dev) (n : Nat) (immediate again : Bool) : Answer :=
  let p := partner n
  if d.recalling then refuse .busyNv 0x3301
  else if !d.is P.CH_EN [n] then refuse .denied 0x3209
  else if d.chLatched n then refuse .denied 0x3205
  else if d.shut.low then refuse .denied 0x3208
  else if d.chActive n && !again then refuse .denied 0x3206
  else if !(d.sh n).reserve then refuse .busyNv 0x320B
  else if sec (d.rd P.DUTY_PCT [n] * d.rd P.DUTY_WIN [n]) < 100 * (d.dutyE n + ms (d.rd P.PULL_T [n])) then refuse .duty 0x3201
  else if (d.energised p || decide (d.drv p = 1)) && decide (12000 < d.budget20 n + d.budget20 p) then refuse .duty 0x3202
  else if d.drv p = 2 then (if immediate then refuse .busy 0x3203 else refuse .deferred 0x3204)
  else okay

/-- What a refusal of Table 10-1 counts: DUTY_CNT with its flag, WAIT_CNT. -/
def Dev.countRefusal (d : Dev) (n : Nat) (a : Answer) : Dev :=
  if a.status = .duty then (d.bump P.DUTY_CNT [n]).setShd (if a.detail = 0x3201 then 6 else 7) n
  else if a.detail = 0x3203 ∨ a.detail = 0x3204 then d.bump P.WAIT_CNT [n]
  else d

/-- A diagnosis of a channel abandoned: a clear that needed it has failed (R338). -/
def Dev.abandonDiag (d : Dev) (n : Nat) : Dev :=
  match (d.sh n).diag with
  | some (.clear c) =>
    let d := d.setSh n { d.sh n with diag := none, clearOk := none }
    (d.setSh c { d.sh c with clearOk := none }).release (.clearing c) (refuse .denied 0x3205)
  | _ => d.setSh n { d.sh n with diag := none }

/-- A pull-in begins (R330, R339): a diagnosis of the channel is abandoned, the reserve is used. -/
def Dev.energise (d : Dev) (n owner : Nat) : Dev :=
  let d := d.abandonDiag n
  let d := d.setSh n { d.sh n with since := d.clk, diag := none, wait := none }
  let d := d.wrs [(P.DRV_STATE, [n], 2), (P.OWNER, [n], owner), (P.ACT_CNT, [n], d.rd P.ACT_CNT [n] + 1)]
  ((d.refreshWear n).reserveNext n).refreshPair n

/-- The outcome of a waiting host request: the WAIT_END record and the COMPLETION record (R332). -/
def Dev.endWait (d : Dev) (n : Nat) (a : Answer) : Dev :=
  match (d.sh n).wait with
  | none => d
  | some t =>
    let d := d.setSh n { d.sh n with wait := none }
    let d := if a.status = .ok then d.energise n 2 else ((d.wrs [(P.DRV_STATE, [n], 0), (P.OWNER, [n], 0)]).refreshRest n).countRefusal n a
    let d := d.senseCoil n
    (d.report 304 (8, n) (d.shData n a.status.code)).complete t a.status a.detail

/-- A waiting request of the channel goes on at once, after the checks of Table 10-1 are made again (R341); at Doze entry,
where no channel is energised (R340), it ends with ST_DENIED, DOZE. -/
def Dev.waitAgain (d : Dev) (n : Nat) : Dev :=
  if d.drv n = 1 then
    d.endWait n (if d.rd P.DEV_STATE ∈ [3, 5, 6] then refuse .denied 0x000E else d.closeCheck n false true)
  else d

/-! ## Release and faults -/

/-- An energisation ends: its length is kept and release decay begins (R333, R334). -/
def Dev.stopCh (d : Dev) (n : Nat) : Dev :=
  if d.energised n then
    let x := d.sh n
    let keep := x.past.filter fun p : Nat × Nat => decide (d.clk < p.2 + sec 600)
    let d := d.setSh n { x with past := (x.since, d.clk) :: keep }
    (d.wrs [(P.DRV_STATE, [n], 4), (P.OWNER, [n], 0), (P.LAST_ON, [n], min 65535 ((d.clk - x.since) / 1000000))]).refreshPair n
  else d

/-- A channel released; the partner's waiting request goes on. -/
def Dev.releaseCh (d : Dev) (n : Nat) : Dev :=
  if d.energised n then (d.stopCh n).waitAgain (partner n) else d

/-- The flag of a fault (Table 10-8). -/
def shFaultBit : ShFault → Nat
  | .openLoad => 0
  | .shortGround => 1
  | .shortSupply => 2
  | .switchShort => 3

/-- The fault latches on the switch. -/
def shFaultOnSwitch : ShFault → Bool
  | .openLoad => false
  | .shortSupply => false
  | .shortGround => true
  | .switchShort => true

/-- A fault latched (R335): its flag and FAULT_CNT, where it is not latched already. -/
def Dev.latchFault (d : Dev) (n : Nat) (f : ShFault) : Dev :=
  if shFaultOnSwitch f then
    if d.is P.HS_LATCH [n / 2] then d
    else ((((d.put P.HS_LATCH [n / 2] true).bump P.FAULT_CNT [n]).bump P.FAULT_CNT [partner n]).setShd (shFaultBit f) n)
  else if (d.sh n).latch then d
  else ((d.setSh n { d.sh n with latch := true }).bump P.FAULT_CNT [n]).setShd (shFaultBit f) n

/-- A fault detected on a channel: latched, the part named switched off, PAIR_LOSS of a partner that loses its drive.
The cores whose cycles are told are returned. -/
def Dev.faultCh (d : Dev) (n : Nat) (f : ShFault) : Dev × List Nat :=
  let p := partner n
  let lost := shFaultOnSwitch f && d.energised p
  let told := (d.cycleOn n).toList ++ (if lost then (d.cycleOn p).toList else [])
  let d := (d.latchFault n f).stopCh n
  let d := if shFaultOnSwitch f then d.stopCh p else d
  let d := if lost && !(d.sh p).latch then d.setShd 11 p else d
  let d := if shFaultOnSwitch f then (d.waitAgain n).waitAgain p else d.waitAgain p
  (d.refreshRest n, told)

/-! ## Diagnoses (R336 to R338) -/

/-- An off-state diagnosis begins; a channel that is energised, decaying or waiting, or is being diagnosed, is left as
it is. -/
def Dev.diagnose (d : Dev) (n : Nat) (why : DiagWhy) : Dev :=
  if d.chActive n || (d.sh n).diag.isSome then d
  else (d.setSh n { d.sh n with diag := some why }).refreshRest n

/-- The open check of a core's channel begins (R337). -/
def Dev.openCheck (d : Dev) (n : Nat) : Dev :=
  let d := d.setSh n { d.sh n with openOk := false, diag := some .openCheck }
  if d.chActive n then d else d.refreshRest n

/-- The result of an off-state diagnosis (Table 10-4): 1 pass, 2 partial pass, 3 open load, 4 short to ground, 5 short
to supply; `mv` is the voltage of SHLS in mV. -/
def diagCode (inPartner : Bool) (mv : Nat) : Nat :=
  if mv < 500 then 4
  else if inPartner then (if mv < 4000 then 3 else 2)
  else if mv < 2000 then 1
  else if mv < 4000 then 3 else 5

/-- The fault a failing result latches. -/
def diagFault (c : Nat) : Option ShFault :=
  if c = 3 then some .openLoad else if c = 4 then some .shortGround else if c = 5 then some .shortSupply else none

/-- The channels a clear of a channel diagnoses: both of the pair for a fault of the switch; a disabled channel is
never diagnosed (R329). -/
def Dev.clearSet (d : Dev) (n : Nat) : List Nat :=
  if d.is P.HS_LATCH [n / 2] then [n] ++ [partner n].filter fun p => d.is P.CH_EN [p] else [n]

/-- A clear ends once every diagnosis it began has ended (R338); `hs` is the voltage of SHHS in mV. A latch of the switch
that its own diagnosis set needs the partner's check too, which has not passed. -/
def Dev.finishClear (d : Dev) (n hs : Nat) : Dev :=
  let set := d.clearSet n
  if [n, partner n].all fun c => decide ((d.sh c).diag ≠ some (.clear n)) then
    let sw := d.is P.HS_LATCH [n / 2]
    let good := (set.all fun c => (d.sh c).clearOk = some true) && (!sw || decide (hs ≤ 4000))
    let d := d.each set fun c d => d.setSh c { d.sh c with clearOk := none }
    if good then
      let d := d.setSh n { d.sh n with latch := false }
      let d := { d with shut := { d.shut with stuck := d.shut.stuck.filter (· ≠ n / 2) } }
      ((d.put P.HS_LATCH [n / 2] false).refreshRest n).release (.clearing n) okay
    else d.release (.clearing n) (refuse .denied 0x3205)
  else d

/-- Every diagnosis abandoned and every channel released (R340): Doze, or VSHUT below 8 V with `diags` false. -/
def Dev.releaseAll (d : Dev) (diags : Bool) : Dev :=
  let d := d.each (List.range 64) fun n d => d.stopCh n
  let d := d.each (List.range 64) fun n d => d.waitAgain n
  if diags then
    d.each (List.range 64) fun n d =>
      if (d.sh n).diag.isNone then d else (d.abandonDiag n).refreshRest n
  else d

end Sys2Proof.Machine
end

