-- ==== Sys2Proof/Machine/Calib.lean ====
section
/-!
DEFINITION. Sys2Proof/Machine/Calib.lean: the calibration engines (R141 to R172): cycles and reservations, learned
sets, the gather result and the drift update, ramps, and their share of a core's frame starts and frame ends.
-/
namespace Sys2Proof.Machine

/-! ## Cores -/

/-- P₀ = diag(1, 1, 4) (R157). -/
def covReset : List F32 := [F32.one, 0, 0, 0, F32.one, 0, 0, 0, 0x40800000#32]

/-- A core's calibration state with nothing done. -/
def CalCore.fresh : CalCore :=
  ⟨none, covReset, none, none, KMap.empty, none, KMap.empty, none, [], 0, [], none, none, none, 0, 0, F32.zero, 0⟩

/-- Calibration state of a core. -/
def Dev.calCore (d : Dev) (k : Nat) : CalCore := d.cal.cores.get k CalCore.fresh

/-- Calibration state of a core changed. -/
def Dev.setCal (d : Dev) (k : Nat) (c : CalCore) : Dev := { d with cal := { d.cal with cores := d.cal.cores.put k c } }

/-- The cycle of a core changed. -/
def Dev.setCycle (d : Dev) (k : Nat) (c : Option Cycle) : Dev := d.setCal k { d.calCore k with cycle := c }

/-- DATA of a calibration event (Table 13-3). -/
def Dev.calData (d : Dev) (k patch : Nat) : List Byte :=
  leBytes 1 k ++ leBytes 1 (d.rd P.CYC_STATE [k]) ++ leBytes 2 (d.rd P.UNC [k]) ++ leBytes 2 (d.rd P.LAST_RES) ++
  leBytes 2 (d.rd P.FLAG_T [k]) ++ leBytes 4 patch

/-- A flag of the calibration group set for a core. -/
def Dev.setCalF (d : Dev) (n k : Nat) (patch : Nat := 0) : Dev := d.set (.cal n) (2, k) (d.calData k patch)

/-- STAGED and RAMP_STATE follow the staged set and the armed bank (Table 5-10). -/
def Dev.refreshStaged (d : Dev) (k : Nat) : Dev :=
  let s := (d.calCore k).staged
  let b (x : Bool) : Nat := if x then 1 else 0
  let bits := match s with
    | some s => b s.slot.isSome + 2 * b s.knots.isSome + 4 * b s.reload
    | none => 0
  let d := (d.wr P.STAGED [k] bits).noteReady k s.isSome
  if d.is P.ARMED [k] then d else d.wr P.RAMP_STATE [k] (b s.isSome)

/-- Time of the grant start limit and of a stated interruption, ns (R149, R145). -/
def startLimit (period : Nat) : Nat := 2 * period + ms 20

/-- The interruption a cycle of a core states, ns (R145). -/
def Dev.interruption (d : Dev) (k : Nat) : Nat :=
  let p := max 1 (d.period k)
  let pull := ms (d.rd P.PULL_T [d.rd P.SHUT_CH [k]] + 120)
  ((pull + p - 1) / p + 16) * p + 86600000

/-! ## Reservations at the owner (R148, R151) -/

/-- A SEAM_EXCHANGE message of entries to a device; a run of at most 100 or 50 entries each (R152). -/
def Dev.seamSend (d : Dev) (type dest : Nat) (es : List (List Byte)) : Dev :=
  d.each (runs (if type ≤ 3 then 100 else 50) 4096 es) fun run d =>
    d.ask 0x4402 dest (leBytes 1 type ++ leBytes 1 run.length ++ [0, 0] ++ run.flatten)

/-- A view is open: it has contributed a frame within the last 2P of its core (R151), and frames it contributes are not
SHUTTER. -/
def Dev.viewOpen (d : Dev) (v : View) : Bool := v.recent d.now

/-- A view holds a grant of the patch. -/
def Dev.holdsGrant (d : Dev) (p dev core : Nat) : Bool :=
  d.cal.given.any fun g => decide (g.patch = p ∧ g.dev = dev ∧ g.core = core)

/-- A patch held by a grant, or back in service when none holds it (R148, R149). -/
def Dev.refreshHeld (d : Dev) (p : Nat) : Dev :=
  match d.slot? p with
  | some s => d.setSlot p { s with held := d.cal.given.any fun g => g.hold && decide (g.patch = p) }
  | none => d

/-- The views of a patch at its owner: the cores whose grid maps onto it as far as the owner knows, this device's own, those that
contribute, and one that asks (R148). -/
def Dev.viewers (d : Dev) (p dev core : Nat) : List (Nat × Nat) :=
  let own := ((List.range 64).filter fun k => d.is P.CORE_EN [k] && (d.sees k).contains p).map fun k => (d.addr, k)
  let met := match d.slot? p with | some s => s.views.map fun v => (v.dev, v.core) | none => []
  ((dev, core) :: own ++ met).eraseDups

/-- The owner's decision on a reservation (Table 5-3): 0 GRANT, 1 GRANT_HOLD, 2 REFUSE, 3 NOT_OWNER. -/
def Dev.ownerDecision (d : Dev) (p epoch : Nat) (force : Bool) (dev core : Nat) : Nat :=
  if !d.owns p || epoch < (d.place p).epoch then 3
  else if d.clk < d.cal.barred.get p 0 then 2
  else
    let vs := match d.slot? p with | some s => s.views | none => []
    if (d.viewers p dev core).length ≤ 1 then 1
    else if vs.any fun v => !decide (v.dev = dev ∧ v.core = core) && d.viewOpen v && !d.holdsGrant p v.dev v.core then 0
    else if force then 1 else 2

/-- A reservation decided and a grant recorded at the owner; `intr` is the stated interruption, ns. -/
def Dev.decideHere (d : Dev) (p epoch : Nat) (force : Bool) (dev core period intr : Nat) : Dev × Nat :=
  let dec := d.ownerDecision p epoch force dev core
  if dec ≤ 1 then
    let rest := d.cal.given.filter fun g => !decide (g.patch = p ∧ g.dev = dev ∧ g.core = core)
    let g : Given := ⟨p, dev, core, d.clk, startLimit period + intr + sec 1, dec = 1⟩
    let d : Dev := { d with cal := { d.cal with given := snoc rest g } }
    let d := d.refreshHeld p
    let d := if dec = 1 then d.setCalF 1 core p else d
    (d, dec)
  else (d, dec)

/-- A grant returned at the owner: the patch goes back to normal service (R149). -/
def Dev.takeBack (d : Dev) (p dev core : Nat) : Dev :=
  let rest := d.cal.given.filter fun g => !decide (g.patch = p ∧ g.dev = dev ∧ g.core = core)
  { d with cal := { d.cal with given := rest } }.refreshHeld p

/-! ## Reservations at the requester (R148 to R150) -/

/-- The device that holds a grant's record: it travels with its patch, so after a handover the owner this device knows (R149, R151). -/
def Dev.grantHome (d : Dev) (g : Grant) : Nat :=
  let o := (d.place g.patch).owner
  if o = 0x3FF then g.owner else o

/-- Every grant of a core's attempt released (R149). -/
def Dev.releaseGrants (d : Dev) (k : Nat) : Dev :=
  match (d.calCore k).cycle with
  | none => d
  | some c =>
    let mine := (c.grants.filter fun g => g.decision ≠ some 2 && g.decision ≠ some 3).map fun g =>
      { g with owner := if g.decision.isSome then d.grantHome g else g.owner }
    let here := mine.filter fun g => decide (g.owner = d.addr)
    let away := mine.filter fun g => decide (g.owner ≠ d.addr)
    let d := d.each here fun g d => d.takeBack g.patch d.addr k
    let d := d.each ((away.map (·.owner)).eraseDups) fun o d =>
      d.seamSend 3 o ((away.filter fun g => decide (g.owner = o)).map fun g => leBytes 4 g.patch ++ leBytes 2 k ++ [0, 0])
    d.setCycle k (some { c with grants := [] })

/-- A RESERVE entry (Table 5-4). -/
def Dev.reserveEntry (d : Dev) (k p : Nat) (force : Bool) : List Byte :=
  leBytes 4 (p + (if force then 2 ^ 22 else 0)) ++ leBytes 4 (d.place p).epoch ++ leBytes 2 k ++
  leBytes 2 ((d.interruption k + 999999) / 1000000)

/-- A grant's decision recorded. -/
def Cycle.note (c : Cycle) (p owner dec at_ : Nat) : Cycle :=
  { c with grants := c.grants.map fun g => if g.patch = p then ⟨p, owner, some dec, at_⟩ else g }

/-- An attempt has been refused: its grants are released and the next one is due (R149, R155). -/
def Dev.deferCycle (d : Dev) (k : Nat) (byDriver : Bool) : Dev :=
  let d := (d.releaseGrants k).bump P.DEFERS [k]
  match (d.calCore k).cycle with
  | none => d
  | some c =>
    let wait := ms (d.rd P.RETRY + (if byDriver then 0 else d.uid % 256))
    d.setCycle k (some { c with retryAt := some (d.clk + wait), refusals := c.refusals + 1, duty := c.duty && byDriver })

/-- The decisions of an attempt examined: a refusal defers it. -/
def Dev.examine (d : Dev) (k : Nat) : Dev :=
  match (d.calCore k).cycle with
  | none => d
  | some c => if c.retryAt.isNone && c.grants.any fun g => decide (g.decision = some 2) then d.deferCycle k false else d

/-- Reservations of an attempt for every patch the core sees (R148): decided here, or sent to their owners. -/
def Dev.reserve (d : Dev) (k : Nat) : Dev :=
  match (d.calCore k).cycle with
  | none => d
  | some c =>
    let ps := d.sees k
    let d := d.setCycle k (some { c with retryAt := none, grants := ps.map fun p => ⟨p, (d.place p).owner, none, d.clk⟩ })
    let d := d.each (ps.filter d.owns) fun p d =>
      let (d, dec) := d.decideHere p (d.place p).epoch c.force d.addr k (d.period k) (d.interruption k)
      match (d.calCore k).cycle with
      | some c => d.setCycle k (some (c.note p d.addr dec d.clk))
      | none => d
    let away := ps.filter fun p => !d.owns p
    let d := d.each ((away.map fun p => (d.place p).owner).eraseDups) fun o d =>
      d.seamSend 1 o ((away.filter fun p => decide ((d.place p).owner = o)).map fun p => d.reserveEntry k p c.force)
    d.examine k

/-- A cycle with nothing done. -/
def Cycle.fresh (t : Option Ticket) (now : Nat) : Cycle :=
  ⟨t, false, [], now, none, true, 0, 0, 0, 0, 0, 0, [], [], KMap.empty, [], false, false, now, false, false, false⟩

/-- A cycle requested for a core: its reservations begin. -/
def Dev.startCycle (d : Dev) (k : Nat) (t : Option Ticket) : Dev :=
  let d := d.setCal k { d.calCore k with cycle := some (Cycle.fresh t d.clk), due60 := none, stable := none }
  (d.wr P.CYC_STATE [k] 1).reserve k

/-- The SHUTTER_NOW of a cycle completed, once. -/
def Dev.endTicket (d : Dev) (k : Nat) (st : Status) (det : Nat) : Dev :=
  match (d.calCore k).cycle with
  | some c =>
    match c.ticket with
    | some t => (d.setCycle k (some { c with ticket := none })).complete t st det
    | none => d
  | none => d

/-- A cycle is over: CYCLE_END (source 144) and the idle state, 8 where stable frames are awaited. -/
def Dev.dropCycle (d : Dev) (k : Nat) : Dev :=
  let d := d.report 144 (2, k) (d.calData k 0)
  (d.setCycle k none).wr P.CYC_STATE [k] (if (d.calCore k).stable.isSome then 8 else 0)

/-- A cycle abandoned (R172): flag and grants released. -/
def Dev.abandonCycle (d : Dev) (k : Nat) : Dev :=
  if (d.calCore k).cycle.isNone then d
  else
    let d := if d.rd P.CYC_STATE [k] ∈ [2, 3, 4] then d.releaseCh (d.rd P.SHUT_CH [k]) else d
    (((d.releaseGrants k).bump P.ABORTS [k]).endTicket k .fault 0).dropCycle k

/-- What a failure counts (R147): FAILS, CYCLE_FAIL, and the suspension after three consecutive ones. -/
def Dev.countFail (d : Dev) (k : Nat) : Dev :=
  let n := min 3 (d.rd P.CONSEC_FAIL [k] + 1)
  let d := ((d.bump P.FAILS [k]).wr P.CONSEC_FAIL [k] n).setCalF 0 k
  let d := d.endTicket k .fault 0
  if n = 3 && !d.is P.SUSP [k] then (d.put P.SUSP [k] true).setCalF 9 k else d

/-- A release of the flag begins, or has begun. -/
def Dev.beginRelease (d : Dev) (k : Nat) : Dev :=
  if d.rd P.CYC_STATE [k] ∈ [2, 3, 4] then
    let d := (d.releaseCh (d.rd P.SHUT_CH [k])).wr P.CYC_STATE [k] 5
    match (d.calCore k).cycle with
    | some c => d.setCycle k (some { c with phaseAt := d.clk })
    | none => d
  else d

/-- A running cycle fails (R147). -/
def Dev.cycleFault (d : Dev) (k : Nat) : Dev :=
  match (d.calCore k).cycle with
  | none => d
  | some c =>
    if c.failed || d.rd P.CYC_STATE [k] ∉ [2, 3, 4, 5, 6] then d
    else ((d.setCycle k (some { c with failed := true })).countFail k).beginRelease k

/-- The cycles a shutter fault is reported to (R335). -/
def tellCycles (r : Dev × List Nat) : Dev := r.1.each r.2 fun k d => d.cycleFault k

/-- The cycle of a core in its gather window is aborted by a setting change (R97, R172). -/
def Dev.gatherAbort (d : Dev) (k : Nat) : Dev :=
  match (d.calCore k).cycle with
  | some c =>
    if c.aborted || c.failed then d
    else ((d.setCycle k (some { c with aborted := true })).bump P.ABORTS [k]).setCalF 4 k |>.endTicket k .fault 0
  | none => d

/-! ## Flag conversions (R147) -/

/-- A conversion of a core's FLAG_CH asked for; an odd half of a differential pair cannot be converted (R302). -/
def Dev.flagConversion (d : Dev) (k : Nat) : Dev :=
  let ch := d.rd P.FLAG_CH [k]
  if d.pairHalf ch then d.cycleFault k else d.inject ⟨ch, false, [k]⟩

/-- A flag temperature delivered to a core's cycle. -/
def Dev.flagResult (d : Dev) (k : Nat) (t : Option Nat) : Dev :=
  match (d.calCore k).cycle, t with
  | none, _ => d
  | some _, none => d.cycleFault k
  | some c, some t =>
    let ts := c.temps ++ [t]
    let d := d.setCycle k (some { c with temps := ts })
    match ts with
    | [a, b] =>
      let v := natHalf (a + b) 2
      let cv := d.curve k (d.rd P.APPLIED_BANK [k])
      let d := d.wr P.FLAG_T [k] v
      if 10 < max a b - min a b || v < cv.k 0 || cv.k 64 < v || cv.k 0 = cv.k 64 then d.cycleFault k else d
    | _ => d

/-! ## Learned sets and the tables of a core (R169 to R171) -/

/-- RID of a core's factory record. -/
def factoryRid (k : Nat) : Nat := 0x080000 + k

/-- RID of a core's learned set. -/
def learnedRid (k : Nat) : Nat := 0x090000 + k

/-- A core's factory record: 16 bytes for each pixel, the curve (136), FPA_REF (2), HOUS_REF (2). -/
def Dev.factory (d : Dev) (k : Nat) : List Byte := ((d.nv.bulkRec (factoryRid k)).map (·.data)).getD []

/-- A core's newest committed learned set that reads whole, if any (R364). -/
def Dev.learned (d : Dev) (k : Nat) : Option (List Byte) := (d.nv.bulkGood (learnedRid k)).map (·.data)

/-- Pixels of a core. -/
def Dev.pixels (d : Dev) (k : Nat) : Nat := d.rd P.WIDTH [k] * d.rd P.HEIGHT [k]

/-- The 16 bytes of a pixel's record as enable writes them: the factory record overlaid with the learned set (R171). -/
def overlay (fac : List Byte) (lrn : Option (List Byte)) (i : Nat) : List Byte :=
  let b := fitTo 16 0 ((fac.drop (16 * i)).take 16)
  match lrn with
  | none => b
  | some l =>
    let s := fitTo 10 0 ((l.drop (10 * i)).take 10)
    s.take 3 ++ (b.drop 3).take 2 ++ (s.drop 3).take 6 ++ (b.drop 11).take 3 ++
      leBytes 1 (byteAt b 14 / 16 * 16 + byteAt s 9 % 16) ++ b.drop 15

/-- The 136 bytes of the curve as enable writes them. -/
def overlayCurve (fac : List Byte) (lrn : Option (List Byte)) (n : Nat) : List Byte :=
  let c := fitTo 136 0 ((fac.drop (16 * n)).take 136)
  match lrn with
  | none => c
  | some l => c.take 4 ++ fitTo 130 0 ((l.drop (10 * n)).take 130) ++ c.drop 134

/-- TRIM_SUM, S_RMS and STORE_SEQ of a core as its learned set gives them (R171). -/
def Dev.recallLearned (d : Dev) (k : Nat) : Dev :=
  match d.learned k with
  | none => d
  | some l =>
    let o := 10 * d.pixels k + 130 + 36 + 6
    d.wrs [(P.S_RMS, [k], leAt l o 2), (P.TRIM_SUM, [k], leAt l (o + 2) 2), (P.STORE_SEQ, [k], leAt l (o + 4) 4)]

/-- A binary32 value as 4 bytes. -/
def f32Bytes (x : F32) : List Byte := leBytes 4 x.toNat

/-- Drift inputs as 6 bytes. -/
def inputBytes (x : Int × Int × Int) : List Byte :=
  leBytes 2 (wrapInt 16 x.1) ++ leBytes 2 (wrapInt 16 x.2.1) ++ leBytes 2 (wrapInt 16 x.2.2)

/-- P and d_prev in table 0x2240 + k (R158); without a d_prev its bytes are 0. -/
def Dev.writeDrift (d : Dev) (k : Nat) (cov : List F32) (prev : Option (Int × Int × Int)) : Dev :=
  d.tblWrite (0x2240 + k) 128 (cov.flatMap f32Bytes ++ inputBytes (prev.getD (0, 0, 0)))

/-- The tables of a core written at enable (R171): the applied bank's records and curve, FPA_REF and HOUS_REF; the
drift model starts over and a cycle is due when the core has streamed for 60 s. -/
def Dev.loadCore (d : Dev) (k : Nat) : Dev :=
  let d := d.bulkRead (learnedRid k)
  let fac := d.factory k
  let lrn := d.learned k
  let n := d.pixels k
  let bank := d.rd P.APPLIED_BANK [k]
  let d := d.each (List.range n) fun i d => d.tblWrite (pixTable k) (d.recOffset k bank i) (overlay fac lrn i)
  let d := d.tblWrite (0x2140 + k) (136 * bank) (overlayCurve fac lrn n)
  let d := d.wrs [(P.FPA_REF, [k], leAt fac (16 * n + 136) 2), (P.HOUS_REF, [k], leAt fac (16 * n + 138) 2)]
  let c := d.calCore k
  let d := d.setCal k { CalCore.fresh with hist := c.hist, slot := c.slot, swaps := c.swaps, enabled := d.clk,
                                           due60 := some (0, none) }
  let d := d.writeDrift k covReset none
  ((d.wrs [(P.CYC_STATE, [k], 0), (P.ARMED, [k], 0), (P.BLEND, [k], 0), (P.RAMP_I, [k], 0), (P.RAMP_N, [k], 0)]).recallLearned
    k).refreshStaged k

/-- The knots of a core as the next trim shifts them: staged, else of the armed bank, else applied (R163). -/
def Dev.knotsNow (d : Dev) (k : Nat) : List Nat :=
  match (d.calCore k).staged.bind (·.knots) with
  | some l => l
  | none =>
    let a := d.rd P.APPLIED_BANK [k]
    (d.curve k (if d.is P.ARMED [k] then 1 - a else a)).knots

/-- A core's learned set (R169). -/
def Dev.learnedSet (d : Dev) (k : Nat) : List Byte :=
  let a := d.rd P.APPLIED_BANK [k]
  let c := d.calCore k
  ((List.range (d.pixels k)).flatMap fun i =>
    let b := d.tblRead (pixTable k) (d.recOffset k a i) 16
    b.take 3 ++ (b.drop 5).take 6 ++ leBytes 1 (byteAt b 14 % 16)) ++
  (d.knotsNow k).flatMap (leBytes 2) ++ c.cov.flatMap f32Bytes ++ inputBytes (c.prev.getD (0, 0, 0)) ++
  leBytes 2 (d.rd P.S_RMS [k]) ++ leBytes 2 (d.rd P.TRIM_SUM [k]) ++ leBytes 4 (d.rd P.STORE_SEQ [k] + 1)

/-- A store of a core's learned set requested (R169): an earlier store of the core still running is abandoned. With the bulk
store lost the store fails (R348). -/
def Dev.storeLearned (d : Dev) (k : Nat) : Dev :=
  let d := { d with nv := { d.nv with bulkQ := d.nv.bulkQ.filter fun j => decide (j.why ≠ BulkWhy.learned k) } }
  if d.bulkUp then d.bulkWrite (learnedRid k) 9 (d.learnedSet k) (.learned k)
  else (d.setCalF 8 k).set (.nv 4) noUnit (nvData (learnedRid k) 0 9)

/-! ## The gather result (R156 to R159) -/

/-- A binary32 value rounded to an integer, halves away from zero. -/
def rndF (x : F32) : Int := rndDiv (F32.exact x).1 (F32.exact x).2

/-- The segment of the reference count (R156). -/
def refSegment (c : Curve) (t : Nat) : Nat :=
  let seg := List.range 64
  if t < c.k 64 then (seg.find? fun j => decide (c.k j ≤ t ∧ t < c.k (j + 1))).getD 0
  else (seg.reverse.find? fun j => decide (c.k j < c.k (j + 1))).getD 0

/-- The reference count (R156). -/
def refCount (c : Curve) (t : Nat) : Int :=
  let j := refSegment c t
  let w := 2 ^ (c.shift + 7)
  c.base + (j * w : Nat) + (natHalf ((t - c.k j) * w) (c.k (j + 1) - c.k j) : Nat)

/-- Mean of each drift input over the gathered frames, halves away from zero (R156). -/
def meanInputs (l : List (Int × Int × Int)) : Int × Int × Int :=
  let n := l.length
  (rndDiv (l.map (·.1)).sum n, rndDiv (l.map (·.2.1)).sum n, rndDiv (l.map (·.2.2)).sum n)

/-- θ · Δ in 1/128 count times 200. -/
def driftDot (r : Rec) (x : Int × Int × Int) : Int := r.df * x.1 + r.dh * x.2.1 + r.dr * x.2.2

/-- Core level of the update (R157): whether there is information, g and the new P. -/
def driftGain (cov : List F32) (prev : Option (Int × Int × Int)) (now : Int × Int × Int) (lambda min_ : Nat) :
    Bool × List F32 × List F32 :=
  match prev with
  | none => (false, [], cov)
  | some q =>
    let hundred := F32.ofNat 100
    let phi := [now.1 - q.1, now.2.1 - q.2.1, now.2.2 - q.2.2].map fun x => F32.div (F32.ofInt x) hundred
    let p (i j : Nat) : F32 := cov.getD (3 * i + j) 0
    let f (i : Nat) : F32 := phi.getD i 0
    let top := phi.foldl (fun a x => F32.max a (F32.abs x)) F32.zero
    if F32.lt top (F32.div (F32.ofNat min_) hundred) then (false, [], cov)
    else
      let lam := F32.div (F32.ofNat lambda) (F32.ofNat 65536)
      let three (a b c : F32) : F32 := F32.add (F32.add a b) c
      let v (i : Nat) : F32 := three (F32.mul (p i 0) (f 0)) (F32.mul (p i 1) (f 1)) (F32.mul (p i 2) (f 2))
      let w (j : Nat) : F32 := three (F32.mul (f 0) (p 0 j)) (F32.mul (f 1) (p 1 j)) (F32.mul (f 2) (p 2 j))
      let q := three (F32.mul (f 0) (v 0)) (F32.mul (f 1) (v 1)) (F32.mul (f 2) (v 2))
      let den := F32.add lam q
      let g (i : Nat) : F32 := F32.div (v i) den
      (true, (List.range 3).map g,
        (List.range 9).map fun n => F32.div (F32.sub (p (n / 3) (n % 3)) (F32.mul (g (n / 3)) (w (n % 3)))) lam)

/-- A drift coefficient after the update (R157). -/
def driftStep (theta : Int) (g : F32) (e : Int) : Int :=
  let t := F32.div (F32.mul (F32.mul (F32.ofNat 256) g) (F32.ofInt e)) (F32.ofNat 128)
  clampInt (-32768) 32767 (rndF (F32.add (F32.ofInt theta) t))

/-- What the engine makes of one pixel of a gather. -/
structure PxGather where
  /-- Pixel. -/
  i : Nat
  /-- The record in the applied bank. -/
  old : Rec
  /-- Gather sums. -/
  g : GPx
  /-- TF_STATE at the opening frame start. -/
  tf : Nat
  /-- x̄ in 1/128 count; where the gather sample is valid. -/
  xbar : Option Nat
  /-- Offset sample and model error, where GAIN is not 0 as well. -/
  fit : Option (Int × Int)

/-- Samples and errors of a core's pixels (pass 1 of R157). -/
def Dev.pxGathers (d : Dev) (k : Nat) (c : Cycle) (cref : Int) (ds : Int × Int × Int) : List PxGather :=
  let a := d.rd P.APPLIED_BANK [k]
  (List.range (d.pixels k)).map fun i =>
    let r := d.recAt k a i
    let g := c.px.get i ⟨0, 0, 0, 0⟩
    let xbar := if 12 ≤ g.n then some (natHalf (128 * g.sum) g.n) else none
    let fit := match xbar with
      | some x =>
        if r.gain = 0 then none
        else
          let o := (x : Int) - floorHalf (cref * 32768) r.gain
          some (o, o - (r.offset + rndDiv (driftDot r ds) 200))
      | none => none
    ⟨i, r, g, c.tf.getD i 0, xbar, fit⟩

/-- s of R157 over the valid class-0 pixels. -/
def errorRms (l : List PxGather) : F32 :=
  let es := (l.filter fun p => decide (p.old.cls = 0)).filterMap fun p => p.fit.map (·.2)
  F32.div (F32.sqrt (F32.ofRat false (es.map fun e => e.natAbs * e.natAbs).sum es.length)) (F32.ofNat 128)

/-- A pixel's error exceeds lim (R157). -/
def isOutlier (lim : F32) (e : Int) : Bool := F32.lt lim (F32.div (F32.abs (F32.ofInt e)) (F32.ofNat 128))

/-- OFFSET and the drift coefficients of a pixel's new record (pass 2 of R157); none where it has no offset sample. -/
def newRecord (p : PxGather) (info : Bool) (g : List F32) (lim : F32) (ds : Int × Int × Int) : Option (List Byte) :=
  p.fit.map fun (o, e) =>
    let learn := info && !isOutlier lim e
    let th (t : Int) (i : Nat) : Int := if learn then driftStep t (g.getD i 0) e else t
    let r := { p.old with df := th p.old.df 0, dh := th p.old.dh 1, dr := th p.old.dr 2 }
    let off := clampInt (-(2 ^ 23)) (2 ^ 23 - 1) (o - rndDiv (driftDot r ds) 200)
    leBytes 3 (wrapInt 24 off) ++ leBytes 2 (wrapInt 16 r.df) ++ leBytes 2 (wrapInt 16 r.dh) ++
      leBytes 2 (wrapInt 16 r.dr)

/-- A pixel's history entry (R158). -/
def historyEntry (p : PxGather) (lim : F32) : List Byte :=
  match p.fit with
  | some (o, e) => leBytes 4 (wrapInt 24 o + 2 ^ 24 + (if isOutlier lim e then 2 ^ 25 else 0))
  | none => [0, 0, 0, 0]

/-- A value put in a rising list. -/
def insertSorted (a : Nat) : List Nat → List Nat
  | [] => [a]
  | b :: t => if a ≤ b then a :: b :: t else b :: insertSorted a t

/-- The two middle values of a list; the same one twice for an odd count. -/
def middles (l : List Nat) : Nat × Nat :=
  let s := l.foldl (fun r a => insertSorted a r) []
  (s.getD ((s.length - 1) / 2) 0, s.getD (s.length / 2) 0)

/-- The variance of a pixel's values times 21,840² (R159): exact, since their number is 12 to 16. -/
def GPx.variance (g : GPx) : Nat := (g.n * g.sq - g.sum * g.sum) * (21840 / g.n) * (21840 / g.n)

/-- A standard deviation exceeds four times the mean of two others, by their variances. -/
def deviates (v a b : Nat) : Bool :=
  decide (4 * (a + b) < v) && decide (64 * a * b < (v - 4 * (a + b)) * (v - 4 * (a + b)))

/-- The class of the first test of R159 a pixel fails; `outliers` are its OUTLIER entries among the valid ones. -/
def failedTest (p : PxGather) (x : Nat) (deadOn : Bool) (sd : Nat × Nat) (outliers : Nat) : Option Nat :=
  if deadOn && decide (((x : Int) - 128 * p.tf).natAbs < 512) then some 1
  else if 12 ≤ p.g.rails then some 2
  else if deviates p.g.variance sd.1 sd.2 then some 3
  else if 3 ≤ outliers then some 4
  else none

/-- OUTLIER entries among a pixel's valid history entries. -/
def Dev.outliers (d : Dev) (k i : Nat) : Nat :=
  ((List.range 8).filter fun s =>
    let w := d.tblNat (0x2200 + k) (32 * i + 4 * s) 4
    bitOf w 24 && bitOf w 25).length

/-- A class-update entry (R112). -/
def classEntry (w i cls : Nat) (reset : Bool) : Nat := i % w + 2048 * (i / w) + 2 ^ 22 * cls + (if reset then 2 ^ 26 else 0)

/-- Classing after a gather (R159): the entries that wait for the arming and the counts of passes. -/
def Dev.classPixels (d : Dev) (k : Nat) (l : List PxGather) : Dev :=
  let w := d.rd P.WIDTH [k]
  let c0 := l.filter fun p => decide (p.old.cls = 0) && p.xbar.isSome
  let diff (p : PxGather) : Nat := ((p.xbar.getD 0 : Int) - 128 * p.tf).natAbs
  let md := middles (c0.map diff)
  let deadOn := decide (2 * 8192 < md.1 + md.2)
  let sd := middles (c0.map fun p => p.g.variance)
  d.each l fun p d =>
    match p.xbar with
    | none => d
    | some x =>
      let c := d.calCore k
      match failedTest p x deadOn sd (d.outliers k p.i) with
      | some cls =>
        let c := { c with passes := c.passes.del p.i }
        if p.old.cls = 0 then
          let d := d.setCal k { c with classes := c.classes ++ [classEntry w p.i cls false] }
          if cls = 4 then d.setCalF 10 k else d
        else d.setCal k c
      | none =>
        if 1 ≤ p.old.cls ∧ p.old.cls ≤ 4 then
          let n := c.passes.get p.i 0 + 1
          if n < 3 then d.setCal k { c with passes := c.passes.put p.i n }
          else d.setCal k { c with passes := c.passes.del p.i, classes := c.classes ++ [classEntry w p.i 0 true] }
        else d

/-- Core history and drift state in table 0x2240 + k (R158): eight 16-byte entries, P, d_prev, the newest slot. -/
def Dev.writeHistory (d : Dev) (k slot capture sRms : Nat) (ds : Int × Int × Int) (cov : List F32) : Dev :=
  let d := d.tblWrite (0x2240 + k) (16 * slot) (leBytes 8 capture ++ inputBytes ds ++ leBytes 2 sRms)
  (d.writeDrift k cov (some ds)).tblWrite (0x2240 + k) 170 (leBytes 1 slot)

/-- A staged set with nothing in it. -/
def Staged.empty : Staged := ⟨KMap.empty, KMap.empty, none, none, KMap.empty, false, []⟩

/-- The gather computation (R156 to R159): drift update, history, classing, and the result staged (R165). -/
def Dev.gatherUpdate (d : Dev) (k : Nat) (c : Cycle) : Dev :=
  let x := d.calCore k
  let cv := d.curve k (d.rd P.APPLIED_BANK [k])
  let t := d.rd P.FLAG_T [k]
  let ds := meanInputs c.inputs
  let l := d.pxGathers k c (refCount cv t) ds
  let (info, g, cov) := driftGain x.cov x.prev ds (d.rd P.DRIFT_LAMBDA) (d.rd P.DRIFT_MIN)
  let s := errorRms l
  let lim := F32.max (F32.mul (F32.ofNat (d.rd P.OUT_K)) s) (F32.ofNat 2)
  let sRms := min 65535 (rndF (F32.mul (F32.ofNat 128) s)).toNat
  let slot := match x.slot with | some n => (n + 1) % 8 | none => 0
  let d := d.each l fun p d => d.tblWrite (0x2200 + k) (32 * p.i + 4 * slot) (historyEntry p lim)
  let old := x.staged.getD Staged.empty
  let recs := l.foldl (fun m p => match newRecord p info g lim ds with | some b => m.put p.i b | none => m) old.recs
  let d := d.setCal k { x with
    cov := cov, prev := some ds, seg := some (refSegment cv t), slot := some slot,
    staged := some { old with recs := recs, under := if old.slot.isSome then old.under else old.recs, slot := some slot },
    hist := x.hist.put slot ⟨c.capture, ds, sRms⟩ }
  let d := (d.wr P.S_RMS [k] sRms).writeHistory k slot c.capture sRms ds cov
  (d.classPixels k l).refreshStaged k

/-- At least 90 % of the class-0 pixels, and at least one, have valid gather samples (R147). -/
def Dev.coverageGood (d : Dev) (k : Nat) (c : Cycle) : Bool :=
  let a := d.rd P.APPLIED_BANK [k]
  let zero := (List.range (d.pixels k)).filter fun i => decide ((d.recAt k a i).cls = 0)
  let good := zero.filter fun i => decide (12 ≤ (c.px.get i ⟨0, 0, 0, 0⟩).n ∧ (d.recAt k a i).gain ≠ 0)
  !good.isEmpty && decide (9 * zero.length ≤ 10 * good.length)

/-! ## Ramps (R165 to R168) -/

/-- Bytes 0 to 11 of a pixel's record under a staged set, on top of the applied record (R165). -/
def Staged.onto (s : Staged) (i : Nat) (old : List Byte) : List Byte :=
  let r := match s.recs.get? i with
    | some b => b
    | none => old.take 3 ++ (old.drop 5).take 6
  let b := match s.base.get? i with
    | some b => b
    | none => (old.drop 3).take 2 ++ (old.drop 11).take 1
  r.take 3 ++ b.take 2 ++ r.drop 3 ++ (match s.slot with | some n => leBytes 1 n | none => b.drop 2)

/-- The class updates of a gather join the class-update list (R112, R159): an append that would overflow is refused whole, and is not
made again (log 205). -/
def Dev.appendClasses (d : Dev) (k : Nat) (l : List Nat) : Dev :=
  let q := d.pipe.classQ.get k []
  if q.length + l.length ≤ 4096 then { d with pipe := { d.pipe with classQ := d.pipe.classQ.put k (q ++ l) } } else d

/-- The staged set copied on top of the applied bank into bytes 0 to 11 of the other bank and into its curve's knots, and armed: the
frame is the probe frame (R111, R165, R166). -/
def Dev.arm (d : Dev) (k : Nat) : Dev :=
  let x := d.calCore k
  match x.staged with
  | none => d
  | some s =>
    let a := d.rd P.APPLIED_BANK [k]
    let d := d.each (List.range (d.pixels k)) fun i d =>
      d.tblWrite (pixTable k) (d.recOffset k (1 - a) i) (s.onto i (d.tblRead (pixTable k) (d.recOffset k a i) 12))
    let cv := d.tblRead (0x2140 + k) (136 * a) 136
    let knots := match s.knots with | some l => l.flatMap (leBytes 2) | none => (cv.drop 4).take 130
    let d := d.tblWrite (0x2140 + k) (136 * (1 - a)) (cv.take 4 ++ knots ++ cv.drop 134)
    let d := d.appendClasses k x.classes
    let d := d.setCal k { x with staged := none, classes := [], ramping := s.tickets, step := 0 }
    (d.wrs [(P.ARMED, [k], 1), (P.BLEND, [k], 0), (P.RAMP_STATE, [k], 2), (P.RAMP_I, [k], 0), (P.RAMP_N, [k], 0)]).refreshStaged
      k

/-- A seam pair's key: the lower core first (R160). -/
def pairKey (a b : Nat) : Nat := 2 ^ 32 * min a b + max a b

/-- The sums of every pair that includes a core are reset (R160). -/
def Dev.resetPairs (d : Dev) (k : Nat) : Dev :=
  let id := 64 * d.addr + k
  let other (q : Nat) (_ : Pair) : Bool := decide (q / 2 ^ 32 ≠ id ∧ q % 2 ^ 32 ≠ id)
  { d with cal := { d.cal with pairs := d.cal.pairs.keep other, brought := d.cal.brought.keep other } }

/-- A CAL_RELOAD is complete when the last core of its request has ended its ramp (R174). -/
def Dev.endReload (d : Dev) (t : Ticket) : Dev :=
  let waits (c : CalCore) : Bool := c.ramping.contains t || c.staged.any fun s => s.tickets.contains t
  if d.cal.cores.vals.any waits then d else d.complete t .ok

/-- The armed bank becomes the applied bank (R167). -/
def Dev.swapBanks (d : Dev) (k : Nat) : Dev :=
  let x := d.calCore k
  let d := d.wrs [(P.APPLIED_BANK, [k], 1 - d.rd P.APPLIED_BANK [k]), (P.ARMED, [k], 0), (P.BLEND, [k], 0)]
  let d := d.refreshArmed
  let d := d.setCal k { x with swaps := x.swaps + 1, ramping := [],
                               due60 := if x.ramping.isEmpty then x.due60 else some (0, none) }
  let d := ((d.resetPairs k).refreshStaged k).storeLearned k
  d.each x.ramping fun t d => d.endReload t

/-- b, N and whether the step exceeds the slew limit (R166). -/
def rampPlan (delta slew len : Nat) : Nat × Nat × Bool :=
  let least := (256 + len - 2) / (len - 1)
  let first := 256 * slew / (10 * delta)
  let b := if delta = 0 then 256 else min 256 (max first least)
  (b, (256 + b - 1) / b, decide (delta ≠ 0) && decide (first < least))

/-- A ramp at a frame start that is not SHUTTER (R166, R167). The probe frame's RAMP_DMAX is awaited. -/
def Dev.rampStep (d : Dev) (k : Nat) : Dev :=
  if !d.is P.ARMED [k] then (if (d.calCore k).staged.isNone then d else if d.mayArm k then (d.arm k).refreshArmed else d.armWait k)
  else if d.rd P.RAMP_STATE [k] = 2 then
    if (d.strm k).frames.any fun f => decide (f.blend = some 0) then d
    else
      let (b, n, steep) := rampPlan (d.rd P.RAMP_DMAX [k]) (d.rd P.SLEW) (d.rd P.RAMP_LEN)
      let d := d.setCal k { d.calCore k with step := b }
      let d := d.wrs [(P.RAMP_STATE, [k], 3), (P.RAMP_N, [k], n), (P.RAMP_I, [k], 1), (P.BLEND, [k], min 256 b)]
      if steep then d.setCalF 3 k else d
  else
    let i := d.rd P.RAMP_I [k]
    if d.rd P.RAMP_N [k] ≤ i then d.swapBanks k
    else d.wrs [(P.RAMP_I, [k], i + 1), (P.BLEND, [k], min 256 ((i + 1) * (d.calCore k).step))]

/-! ## Offset uncertainty (R154) -/

/-- The steepest segment of a curve, or one segment, in 0.01 K times 2 ^ SEG_SHIFT per count. -/
def slopeOf (c : Curve) (seg : Option Nat) : Int :=
  let s (j : Nat) : Int := (c.k (j + 1) : Int) - c.k j
  match seg with
  | some j => s j
  | none => ((List.range 64).map s).foldl max (s 0)

/-- U of a core at a frame start, 0.01 K, in binary32 in the order R154 writes it. -/
def Dev.uncertainty (d : Dev) (k : Nat) (drift : Int × Int × Int) : Nat :=
  let x := d.calCore k
  let cv := d.curve k (d.rd P.APPLIED_BANK [k])
  let first := x.seg.isNone
  let sigma := if first then F32.ofNat 4 else F32.ofIntRat (d.rd P.S_RMS [k]) 128
  let cov := if first then covReset else x.cov
  let q := if first then (0, 0, 0) else x.prev.getD (0, 0, 0)
  let phi := [drift.1 - q.1, drift.2.1 - q.2.1, drift.2.2 - q.2.2].map fun v => F32.ofIntRat v 100
  let f (i : Nat) : F32 := phi.getD i 0
  let row (i : Nat) : F32 :=
    F32.add (F32.add (F32.mul (cov.getD (3 * i) 0) (f 0)) (F32.mul (cov.getD (3 * i + 1) 0) (f 1)))
      (F32.mul (cov.getD (3 * i + 2) 0) (f 2))
  let quad := F32.add (F32.add (F32.mul (f 0) (row 0)) (F32.mul (f 1) (row 1))) (F32.mul (f 2) (row 2))
  let slope := F32.ofIntRat (slopeOf cv x.seg) (2 ^ cv.shift)
  let since := if first then x.enabled else x.lastOpen.getD x.enabled
  let hours := F32.ofRat false (d.clk - since) 3600000000000
  let u := F32.add (F32.mul (F32.mul sigma slope) (F32.sqrt (F32.add F32.one quad)))
    (F32.mul (F32.ofNat (d.rd P.UNC_AGE)) hours)
  min 65535 (F32.scaled u 1 0 1).toNat

/-! ## A core's frame starts and frame ends -/

/-- A grant of the attempt has passed its grant start limit (R149). -/
def Dev.grantsLate (d : Dev) (k : Nat) (c : Cycle) : Bool :=
  c.grants.any fun g => decide (g.at_ + startLimit (d.period k) < d.clk)

/-- Every grant the cycle needs is held and within its limit (R146). -/
def Dev.granted (d : Dev) (k : Nat) (c : Cycle) : Bool :=
  c.retryAt.isNone && (c.grants.all fun g => decide (g.decision = some 0 ∨ g.decision = some 1)) && !d.grantsLate k c

/-- The attempt fails without an actuation: the cycle is over (R330, R147). -/
def Dev.refusedCycle (d : Dev) (k : Nat) : Dev := ((d.countFail k).releaseGrants k).dropCycle k

/-- An FS of the core as a possible opening frame start (R146, R155). -/
def Dev.tryOpen (d : Dev) (k : Nat) : Dev :=
  match (d.calCore k).cycle with
  | none => d
  | some c =>
    if d.rd P.CYC_STATE [k] ≠ 1 || !d.granted k c then d
    else
      let ch := d.rd P.SHUT_CH [k]
      let a := d.closeCheck ch true false
      let d := d.countRefusal ch a
      match a.status with
      | .ok =>
        let applied := d.rd P.APPLIED_BANK [k]
        let tf := (List.range (d.pixels k)).map fun i => (d.recAt k applied i).tf
        let d := d.setCycle k (some { c with opening := d.clk, pull := d.rd P.PULL_T [ch], tf := tf, phaseAt := d.clk })
        (d.energise ch 1).wr P.CYC_STATE [k] 2
      | .duty => d.deferCycle k true
      | .denied => d.refusedCycle k
      | _ => d

/-- The gather at a frame start of a SHUTTER frame (R143, R144, R147): the gather FS, and each gathered frame. -/
def Dev.gatherStart (d : Dev) (k : Nat) (t : Tag) (drift : Int × Int × Int) : Dev :=
  match (d.calCore k).cycle with
  | none => d
  | some c =>
    let st := d.rd P.CYC_STATE [k]
    let first := decide (st = 3 ∧ c.opening + ms (c.pull + 120) ≤ d.clk) && !c.failed && !c.aborted
    if first then
      let d := d.setCycle k (some { c with gathered := 1, base := t.cnt, capture := t.capture, inputs := [drift] })
      (d.wr P.CYC_STATE [k] 4).flagConversion k
    else if st = 4 && c.gathered < 16 then
      let d := d.setCycle k (some { c with gathered := c.gathered + 1, inputs := c.inputs ++ [drift] })
      if c.gathered = 15 then d.flagConversion k else d
    else d

/-- The FE of a core's frame (R143, R172): the last gathered frame, and an aborted cycle, begin the release. -/
def Dev.cycleFrameEnd (d : Dev) (k cnt : Nat) : Dev :=
  match (d.calCore k).cycle with
  | none => d
  | some c =>
    if c.aborted then d.beginRelease k
    else if d.rd P.CYC_STATE [k] = 4 && c.gathered = 16 && decide (cnt = (c.base + 15) % 2 ^ 32) then
      (d.setCycle k (some { c with complete := true })).beginRelease k
    else d

/-- The frame is tagged SHUTTER: its FS falls in an interruption (R144). -/
def Dev.shuttering (d : Dev) (k : Nat) : Bool :=
  (d.calCore k).cycle.isSome && decide (d.rd P.CYC_STATE [k] ∈ [2, 3, 4, 5, 6])

/-! ## Triggers (R153) -/

/-- A trigger of Table 5-5 that holds now, for times other than those of `timeDue`. -/
def Dev.triggered (d : Dev) (k : Nat) : Bool :=
  let x := d.calCore k
  let free := match x.lastOpen with | some t => decide (t + sec (d.rd P.MIN_INT) ≤ d.clk) | none => true
  free && ((decide (d.rd P.UNC_THR ≠ 0 ∧ d.rd P.UNC_THR < d.rd P.UNC [k])) ||
    decide (d.rd P.SEAM_THR ≠ 0 ∧ 2 ≤ x.overThr))

/-- The times at which the other triggers hold: the maximum interval, 60 s of streaming, 2 s of stable frames. -/
def Dev.timeDue (d : Dev) (k : Nat) : List Nat :=
  let x := d.calCore k
  (x.lastOpen.map fun t => t + sec (d.rd P.MAX_INT)).toList ++
  (x.due60.bind fun n => n.2.map fun t => t + (sec 60 - n.1)).toList ++
  (x.stable.map fun t => t + sec 2).toList

/-- An automatic cycle may be requested for the core (R153). -/
def Dev.mayCycle (d : Dev) (k : Nat) : Bool :=
  d.awake && d.boot.running && d.is P.AUTO_EN [k] && !d.is P.SUSP [k] && !d.is P.ARMED [k] &&
  (d.calCore k).staged.isNone && (d.calCore k).cycle.isNone &&
  decide (d.rd P.CORE_STATE [k] = 3 ∧ d.rd P.SHUT_CH [k] ≠ 0x7F ∧ d.rd P.FLAG_CH [k] ≠ 0x7F)

/-- Stable frames (R153): a frame that is not stable starts the 2 s over. -/
def Dev.stableFrame (d : Dev) (k : Nat) (t : Tag) (sameGen : Bool) : Dev :=
  let x := d.calCore k
  if x.stable.isSome && (t.has 7 || t.has 10 || !sameGen) then d.setCal k { x with stable := some d.clk } else d

/-! ## Disable, Doze, Workroom -/

/-- A core's calibration at the FE where its disable takes effect (R172). -/
def Dev.calDisable (d : Dev) (k : Nat) : Dev :=
  let d := d.abandonCycle k
  let x := d.calCore k
  let d := d.setCal k { x with staged := none, classes := [], ramping := [], due60 := none, stable := none }
  let d := d.wrs [(P.ARMED, [k], 0), (P.BLEND, [k], 0), (P.RAMP_I, [k], 0), (P.RAMP_N, [k], 0), (P.CYC_STATE, [k], 0)]
  let d := (d.refreshStaged k).refreshArmed
  d.each (x.ramping ++ ((x.staged.map (·.tickets)).getD [])).eraseDups fun t d => d.complete t .fault

/-- Doze entry (R172): every cycle abandoned, seam sums reset. -/
def Dev.calDoze (d : Dev) : Dev :=
  let d := d.each d.cal.cores.keys fun k d => d.abandonCycle k
  { d with cal := { d.cal with pairs := KMap.empty, brought := KMap.empty } }

/-- Wake: a cycle is due when the core has streamed for 60 s (R153). -/
def Dev.calWake (d : Dev) : Dev :=
  d.each ((List.range 64).filter fun k => d.is P.CORE_EN [k]) fun k d =>
    d.setCal k { d.calCore k with due60 := some (0, none) }

/-- Workroom stops (R142): reservations that are not complete are abandoned, and seam solves. -/
def Dev.calStop (d : Dev) : Dev :=
  let d := d.each d.cal.cores.keys fun k d =>
    match (d.calCore k).cycle with
    | some c => if d.rd P.CYC_STATE [k] = 1 && !d.granted k c then d.abandonCycle k else d
    | none => d
  let ts := (d.cal.solves.vals.filterMap (·.ticket)).eraseDups
  let d := { d with cal := { d.cal with solves := KMap.empty } }
  d.each ts fun t d => d.complete t .fault

end Sys2Proof.Machine
end

