-- ==== Sys2Proof/Machine/Seam.lean ====
section
/-!
DEFINITION. Sys2Proof/Machine/Seam.lean: seam trimming (R160 to R164): samples, sums between regions and devices, the
solve and its outcome.
-/
namespace Sys2Proof.Machine

/-! ## Samples (R160) -/

/-- A sum with one more sample. -/
def Pair.add (p : Pair) (x : Int) : Pair := ⟨p.n + 1, p.sum + x, p.sq + x.natAbs * x.natAbs⟩

/-- No samples. -/
def Pair.zero : Pair := ⟨0, 0, 0⟩

/-- A view of a cell that may be sampled: identity and object temperature in 0.01 K. -/
def Dev.seamView (d : Dev) (p cell : Nat) (v : View) : Option (Nat × Int) :=
  match v.cells.get? cell with
  | none => none
  | some c =>
    if v.within c.capture d.now && !c.ramping && c.clean && decide (c.ang ≤ 120) then
      some (64 * v.dev + v.core, F32.scaled (d.objectTemp p c) 100 0 1)
    else none

/-- Every pair of a list. -/
def pairsOf {α : Type} : List α → List (α × α)
  | [] => []
  | a :: t => (t.map fun b => (a, b)) ++ pairsOf t

/-- The samples of one cell added to the pair sums. -/
def Dev.sampleCell (d : Dev) (p : Nat) (s : Slot) (cell : Nat) (m : KMap Pair) : KMap Pair :=
  let slow := match s.cells.get? cell with
    | some c => F32.le (F32.abs c.rate) (F32.ofNat 50)
    | none => false
  if !slow then m
  else
    (pairsOf (s.views.filterMap (d.seamView p cell))).foldl (fun m q =>
      let x := if q.1.1 < q.2.1 then q.1.2 - q.2.2 else q.2.2 - q.1.2
      m.upd (pairKey q.1.1 q.2.1) Pair.zero fun s => s.add x) m

/-- SEAM_SAMPLE: once per second of system time, a sample of every seam cell of the owned patches (R160). -/
def seamSample (d : Dev) : Dev :=
  if !d.awake then d
  else
    let slots := d.fus.slots.cells.filter fun s => d.owns s.1 && !s.2.held
    let m := slots.foldl (fun m s => (List.range (d.patchCells s.1)).foldl (fun m c => d.sampleCell s.1 s.2 c m) m) d.cal.pairs
    { d with cal := { d.cal with pairs := m } }

/-! ## The solve (R161, R162) -/

/-- Region of a core: that of its cluster. -/
def Dev.regionOf (d : Dev) (k : Nat) : Option Nat := (d.pipe.bind.get? k).map (· / 4)

/-- One pair of a solve: the lower and the higher node, d_e, w_e. -/
structure Edge where
  /-- Lower identity. -/
  a : Nat
  /-- Higher identity. -/
  b : Nat
  /-- d_e. -/
  d : F32
  /-- w_e. -/
  w : F32

/-- The local nodes of a region: identities of the cores bound to it, ascending. -/
def Dev.localNodes (d : Dev) (r : Nat) : List Nat :=
  ((List.range 64).filter fun k => d.is P.CORE_EN [k] && decide (d.regionOf k = some r)).map fun k => 64 * d.addr + k

/-- The NODES entry of an external node that is anchored. -/
def Dev.external (d : Dev) (id : Nat) : Option Node := (d.cal.nodes.get? id).filter (·.anchored)

/-- The edges of a region's solve over some sums: n of 64 or more, a local end, and every other end local or an
anchored external node. -/
def Dev.edges (d : Dev) (r : Nat) (sums : KMap Pair) : List Edge :=
  let loc := d.localNodes r
  let known (id : Nat) : Bool := loc.contains id || (d.external id).isSome
  sums.cells.filterMap fun e =>
    let a := e.1 / 2 ^ 32
    let b := e.1 % 2 ^ 32
    let p := e.2
    if p.n < 64 || !(loc.contains a || loc.contains b) || !known a || !known b then none
    else
      let n := F32.ofNat p.n
      let de := F32.div (F32.ofInt p.sum) n
      let ve := F32.sub (F32.div (F32.ofNat p.sq) n) (F32.mul de de)
      let ux := if loc.contains a && loc.contains b then 0
        else ((d.external (if loc.contains a then b else a)).map (·.u)).getD 0
      let sys := d.rd P.SEAM_SYS
      let den := F32.add (F32.add (F32.div ve (F32.ofNat (min p.n 4096))) (F32.ofNat (sys * sys))) (F32.ofNat (ux * ux))
      some ⟨a, b, de, F32.div F32.one den⟩

/-- A local core is an anchor (R161). -/
def Dev.anchor (d : Dev) (id : Nat) : Bool :=
  let k := id % 64
  !d.is P.SUSP [k] && match (d.calCore k).lastOpen with
    | some t => decide (d.clk ≤ t + sec (d.rd P.ANCHOR_AGE))
    | none => false

/-- W_k (R161). -/
def Dev.prior (d : Dev) (id : Nat) : F32 :=
  let u := if d.anchor id then d.rd P.UNC [id % 64] else d.rd P.PRIOR_SIG
  F32.div F32.one (F32.ofNat (u * u))

/-- Values of the nodes of a solve. -/
abbrev Values := KMap F32

/-- One node's new value. -/
def relax (es : List Edge) (w : F32) (t : Values) (k : Nat) : F32 :=
  let v (i : Nat) : F32 := t.get i F32.zero
  let up (z : F32 × F32) (e : Edge) : F32 × F32 :=
    if e.a = k then (F32.add z.1 (F32.mul e.w (F32.add (v e.b) e.d)), F32.add z.2 e.w) else z
  let down (z : F32 × F32) (e : Edge) : F32 × F32 :=
    if e.b = k then (F32.add z.1 (F32.mul e.w (F32.sub (v e.a) e.d)), F32.add z.2 e.w) else z
  let z := es.foldl down (es.foldl up (F32.zero, w))
  F32.div z.1 z.2

/-- Sweeps until no value moves by 0.1, or for `n` sweeps: the values and the sweeps made (R162). -/
def sweeps (es : List Edge) (ws : List (Nat × F32)) : Nat → Nat → Values → Values × Nat
  | 0, made, t => (t, made)
  | n + 1, made, t =>
    let (t, dmax) := ws.foldl (fun (z : Values × F32) kw =>
      let new := relax es kw.2 z.1 kw.1
      (z.1.put kw.1 new, F32.max z.2 (F32.abs (F32.sub new (z.1.get kw.1 F32.zero))))) (t, F32.zero)
    if F32.lt dmax 0x3DCCCCCD#32 then (t, made + 1) else sweeps es ws n (made + 1) t

/-- The nodes of a component: what a list of nodes reaches over the edges, in `n` rounds. -/
def reached : Nat → List Edge → List Nat → List Nat
  | 0, _, l => l
  | n + 1, es, l =>
    let more := es.flatMap fun e => (if l.contains e.a then [e.b] else []) ++ (if l.contains e.b then [e.a] else [])
    let l' := (l ++ more).eraseDups
    if l'.length = l.length then l else reached n es l'

/-- What a solve gives. -/
structure Solved where
  /-- Values of the local nodes. -/
  t : Values
  /-- Sweeps made. -/
  iter : Nat
  /-- Edges. -/
  es : List Edge
  /-- Local nodes. -/
  loc : List Nat

/-- The solve of a region. -/
def Dev.solve (d : Dev) (r : Nat) (sums : KMap Pair) : Solved :=
  let loc := d.localNodes r
  let es := d.edges r sums
  let ext := ((es.flatMap fun e => [e.a, e.b]).filter fun i => !loc.contains i).eraseDups
  let t0 := ext.foldl (fun m i => m.put i (F32.ofInt (((d.external i).map (·.t)).getD 0))) (KMap.empty : Values)
  let (t, n) := sweeps es (loc.map fun i => (i, d.prior i)) (d.rd P.SEAM_ITER_MAX) 0 t0
  ⟨t, n, es, loc⟩

/-- The component of a node is anchored (R162). -/
def Dev.anchoredNode (d : Dev) (s : Solved) (id : Nat) : Bool :=
  (reached 4096 s.es [id]).any fun i => if s.loc.contains i then d.anchor i else (d.external i).isSome

/-- The residual of an edge, 0.01 K. -/
def Solved.residual (s : Solved) (e : Edge) : Nat :=
  (F32.scaled (F32.abs (F32.sub e.d (F32.sub (s.t.get e.a F32.zero) (s.t.get e.b F32.zero)))) 1 0 1).toNat

/-- A node's value and uncertainty as NODES carries them (R163). -/
def Dev.nodeOf (d : Dev) (s : Solved) (num id : Nat) : Node :=
  let ws := F32.sum ((s.es.filter fun e => decide (e.a = id ∨ e.b = id)).map (·.w))
  let u := if d.anchor id then d.rd P.UNC [id % 64]
    else if s.es.all fun e => decide (e.a ≠ id ∧ e.b ≠ id) then 65535
    else min 65535 (F32.scaled (F32.sqrt (F32.div F32.one ws)) 1 0 1).toNat
  ⟨num % 65536, rndF (s.t.get id F32.zero), u, d.anchoredNode s id⟩

/-- A NODES entry (Table 5-4). -/
def nodeEntry (id : Nat) (n : Node) : List Byte :=
  leBytes 2 (id % 64 + (if n.anchored then 64 else 0)) ++ leBytes 2 n.num ++ leBytes 4 (wrapInt 32 n.t) ++ leBytes 2 n.u ++ [0, 0]

/-! ## Periods and ends -/

/-- Two sums of a pair together. -/
def Pair.join (a b : Pair) : Pair := ⟨a.n + b.n, a.sum + b.sum, a.sq + b.sq⟩

/-- The sums of every pair: those sampled here and those brought by SUMS messages (R160). -/
def Dev.allSums (d : Dev) : KMap Pair :=
  d.cal.brought.cells.foldl (fun m e => m.upd e.1 Pair.zero fun p => p.join e.2) d.cal.pairs

/-- A solve begins in a region, over the sums as they stand (R161, R172). -/
def Dev.beginSolve (d : Dev) (r : Nat) (t : Option Ticket) : Dev :=
  let notes := (d.localNodes r).map fun i => (i % 64, (d.calCore (i % 64)).swaps, (d.calCore (i % 64)).cycle.isSome)
  { d with cal := { d.cal with solves := d.cal.solves.put r ⟨t, notes, d.allSums⟩ } }

/-- The SUMS entry of a pair with one end here (Table 5-4). An entry names one core of the sender and one of the receiver, so a pair of
two cores elsewhere has none (log 206). -/
def Dev.sumsEntry (d : Dev) (e : Nat × Pair) : Option (Nat × List Byte) :=
  let a := e.1 / 2 ^ 32
  let b := e.1 % 2 ^ 32
  let entry (me you : Nat) : List Byte :=
    leBytes 2 (me % 64 + 256 * (you % 64)) ++ [0, 0] ++ leBytes 4 e.2.n ++ leBytes 8 (wrapInt 64 e.2.sum) ++ leBytes 8 e.2.sq
  if a / 64 = d.addr ∧ b / 64 ≠ d.addr then some (b / 64, entry a b)
  else if b / 64 = d.addr ∧ a / 64 ≠ d.addr then some (a / 64, entry b a)
  else none

/-- SEAM_PERIOD: the sums sampled here are delivered and each region starts its solve; the next period's sums start over. -/
def seamPeriod (d : Dev) : Dev :=
  if !d.awake || !d.boot.running then d
  else
    let es := d.cal.pairs.cells.filterMap d.sumsEntry
    let d := d.each ((es.map (·.1)).eraseDups) fun o d =>
      d.seamSend 4 o ((es.filter fun e : Nat × List Byte => decide (e.1 = o)).map fun e : Nat × List Byte => e.2)
    let d := d.each (List.range 4) fun r d => if (d.cal.solves.get? r).isSome then d else d.beginSolve r none
    { d with cal := { d.cal with pairs := KMap.empty, brought := KMap.empty } }

/-- A trim staged for a core as a knot change (R163, R165). -/
def Dev.stageTrim (d : Dev) (k : Nat) (trim : Int) : Dev :=
  let knots := (d.knotsNow k).map fun n : Nat => (clampInt 0 65535 ((n : Int) - trim)).toNat
  let x := d.calCore k
  let s := x.staged.getD Staged.empty
  let d := (d.setCal k { x with staged := some { s with knots := some knots } }).refreshStaged k
  let d := d.wrInt P.LAST_TRIM [k] trim
  (d.wrInt P.TRIM_SUM [k] (d.rdInt P.TRIM_SUM [k] - trim)).storeLearned k

/-- The trim of one local node applied (R163), unless a swap or a cycle came in between (R172). -/
def Dev.applyTrim (d : Dev) (s : Solved) (notes : List (Nat × Nat × Bool)) (id : Nat) : Dev :=
  let k := id % 64
  let same := notes.any fun n => decide (n.1 = k ∧ n.2.1 = (d.calCore k).swaps)
  let raw := rndF (s.t.get id F32.zero)
  let lim : Int := d.rd P.TRIM_MAX
  let trim := clampInt (-lim) lim raw
  if !d.anchoredNode s id || !same || (d.calCore k).cycle.isSome || raw.natAbs < d.rd P.TRIM_MIN then d
  else
    let d := if trim ≠ raw then d.setCalF 7 k else d
    d.stageTrim k trim

/-- SEAM_RES of a core after a solve, and what R153 counts of it. -/
def Dev.noteResidual (d : Dev) (s : Solved) (id : Nat) : Dev :=
  let k := id % 64
  let res := ((s.es.filter fun e => decide (e.a = id ∨ e.b = id)).map s.residual).foldl max 0
  let isOver := decide (d.rd P.SEAM_THR ≠ 0 ∧ d.rd P.SEAM_THR < res)
  let x := d.calCore k
  let d := (d.setCal k { x with overThr := if isOver then x.overThr + 1 else 0 }).wr P.SEAM_RES [k] (min 65535 res)
  if isOver then d.setCalF 6 k else d

/-- NODES entries sent to every device that holds a partner of a local node, whether or not that partner is in the solve, and kept for
the other regions here (R163). -/
def Dev.sendNodes (d : Dev) (s : Solved) (sums : KMap Pair) (num : Nat) : Dev :=
  let nodes := s.loc.map fun i => (i, d.nodeOf s num i)
  let d := { d with cal := { d.cal with nodes := nodes.foldl (fun m (n : Nat × Node) => m.put n.1 n.2) d.cal.nodes } }
  let met := sums.keys.map fun q => (q / 2 ^ 32, q % 2 ^ 32)
  let far := (met.filter fun q => s.loc.contains q.1 || s.loc.contains q.2).flatMap fun q => [q.1 / 64, q.2 / 64]
  d.each (far.filter (· ≠ d.addr)).eraseDups fun o d =>
    let mine := nodes.filter fun n : Nat × Node =>
      met.any fun q => decide ((q.1 = n.1 ∧ q.2 / 64 = o) ∨ (q.2 = n.1 ∧ q.1 / 64 = o))
    d.seamSend 5 o (mine.map fun n : Nat × Node => nodeEntry n.1 n.2)

/-- SOLVE_END: a region's solve ends; trims are staged and NODES are sent (R162 to R164). -/
def solveEnd (r : Nat) (d : Dev) : Dev :=
  match d.cal.solves.get? r with
  | none => d
  | some v =>
    let s := d.solve r v.sums
    let num := d.cal.solveNo
    let paired := s.loc.filter fun i => s.es.any fun e => decide (e.a = i ∨ e.b = i)
    let d := { d with cal := { d.cal with solves := d.cal.solves.del r, solveNo := num + 1 } }
    let res := (s.es.map s.residual).foldl max 0
    let d := (d.bump P.SOLVE_CNT).wrs [(P.LAST_ITER, [], s.iter), (P.LAST_RES, [], min 65535 res)]
    let d := if paired.all (d.anchoredNode s) then d else d.set (.cal 5) (5, r) (d.calData 0 0)
    let d := d.sendNodes s v.sums num
    let d := d.each paired fun i d => (d.applyTrim s v.notes i).noteResidual s i
    match v.ticket with
    | some t =>
      if d.cal.solves.vals.any fun w => decide (w.ticket = some t) then d
      else d.complete t .ok 0 (leBytes 2 (d.rd P.LAST_RES))
    | none => d.report 146 (5, r) (d.calData 0 0)

/-! ## Messages (R152) -/

/-- The check of a SEAM_EXCHANGE message: its header and its entries of `n` bytes. -/
def seamCheck (n : Nat) (_ : Dev) (r : Req) : Option Answer :=
  let c := byteAt r.params 1
  if r.params.length < 4 || r.params.length ≠ 4 + n * c then some badLength
  else if (if n = 24 ∨ byteAt r.params 0 = 5 then 50 else 100) < c then some badValue
  else none

/-- The entries of a SEAM_EXCHANGE message. -/
def seamEntries (n : Nat) (r : Req) : List (List Byte) :=
  (List.range (byteAt r.params 1)).map fun i => (r.params.drop (4 + n * i)).take n

/-- A SEAM_EXCHANGE message of one TYPE: every one is answered ST_OK on receipt. -/
def seamMessage (type n : Nat) (f : Req → List Byte → Dev → Dev) (r : Req) (d : Dev) : Dev :=
  serve { code := 0x4402, cls := .device } (seamCheck n)
    (fun d r => (d.each (seamEntries n r) fun e d => f r e d, some okay)) (withByte' type r) d
where
  /-- The TYPE fixed. -/
  withByte' (t : Nat) (r : Req) : Req := { r with params := r.params.set 0 (BitVec.ofNat 8 t) }

/-- RESERVE: each reservation decided by Table 5-3 in order, its decision sent as a GRANT message (R148). The frame period of a core that
has contributed nothing here is not known: the longest that its stated interruption of at least 17 periods and 86.6 ms allows stands in
for it in the lease (log 207). -/
def reserveMsg (r : Req) (d : Dev) : Dev :=
  seamMessage 1 12 (fun r e d =>
    let w := leAt e 0 4
    let p := w % 2 ^ 22
    let core := leAt e 8 2 % 64
    let period := match (d.slot? p).bind fun s => s.views.find? fun v => decide (v.dev = r.source ∧ v.core = core) with
      | some v => v.period
      | none => (ms (leAt e 10 2) - 86600000) / 17
    let (d, dec) := d.decideHere p (leAt e 4 4) (bitOf w 22) r.source core period (ms (leAt e 10 2))
    let pl := d.place p
    d.seamSend 2 r.source [leBytes 4 p ++ leBytes 4 pl.epoch ++ leBytes 1 dec ++ [0] ++ leBytes 2 pl.owner]) r d

/-- The core whose attempt waits for a decision on a patch. -/
def Dev.awaits (d : Dev) (p : Nat) : Option Nat :=
  (d.cal.cores.cells.find? fun c : Nat × CalCore =>
    c.2.cycle.any fun y => y.grants.any fun g => decide (g.patch = p) && g.decision.isNone).map fun c => c.1

/-- GRANT: the requester receives the owner's decisions (R149, R151). -/
def grantMsg (r : Req) (d : Dev) : Dev :=
  seamMessage 2 12 (fun r e d =>
    let p := leAt e 0 4 % 2 ^ 22
    let dec := byteAt e 8
    let owner := leAt e 10 2 % 1024
    match d.awaits p with
    | none => d
    | some k =>
      match (d.calCore k).cycle with
      | none => d
      | some c =>
        if dec = 3 then
          let pl := d.place p
          let d := if pl.epoch < leAt e 4 4 then d.setPlace p { pl with owner := owner, epoch := leAt e 4 4 } else d
          let d := d.setCycle k (some { c with grants := c.grants.map fun g =>
            if g.patch = p then { g with owner := owner } else g })
          d.seamSend 1 owner [d.reserveEntry k p c.force]
        else (d.setCycle k (some (c.note p r.source dec d.clk))).examine k) r d

/-- RELEASE: the owner returns held patches to normal service (R149). -/
def releaseMsg (r : Req) (d : Dev) : Dev :=
  seamMessage 3 8 (fun r e d => d.takeBack (leAt e 0 4 % 2 ^ 22) r.source (leAt e 4 2 % 64)) r d

/-- SUMS: seam sums of a pair across devices are added here (R160). -/
def sumsMsg (r : Req) (d : Dev) : Dev :=
  seamMessage 4 24 (fun r e d =>
    let w := leAt e 0 2
    let q := pairKey (64 * r.source + w % 64) (64 * d.addr + w / 256 % 64)
    let add (p : Pair) : Pair := ⟨p.n + leAt e 4 4, p.sum + signedOf 64 (leAt e 8 8), p.sq + leAt e 16 8⟩
    { d with cal := { d.cal with brought := d.cal.brought.upd q Pair.zero add } }) r d

/-- NODES: external node values for the next solve (R161). -/
def nodesMsg (r : Req) (d : Dev) : Dev :=
  seamMessage 5 12 (fun r e d =>
    let w := leAt e 0 2
    let n : Node := ⟨leAt e 2 2, signedOf 32 (leAt e 4 4), leAt e 8 2, bitOf w 6⟩
    { d with cal := { d.cal with nodes := d.cal.nodes.put (64 * r.source + w % 64) n } }) r d

end Sys2Proof.Machine
end

