-- ==== Sys2Proof/Machine/Trust.lean ====
section
/-!
DEFINITION. Sys2Proof/Machine/Trust.lean: the Thimble opcodes (R379 to R391): key slots, AUTH_RELAX, Workroom images
and their update, trials, Workroom restarts and debug unlock.
-/
namespace Sys2Proof.Machine

/-! ## Key slots -/

/-- State of a slot as KEY_STATUS gives it (R379). -/
def Dev.slotState (d : Dev) (s : Nat) : Nat :=
  if (d.keyOf s).isNone then 0 else if (d.fresh s).high = 0xFFFFFFFFFFFF then 2 else 1

/-- The 12-byte entry of a slot in KEY_STATUS (R379). -/
def Dev.slotEntry (d : Dev) (s : Nat) : List Byte :=
  leBytes 1 (d.slotState s) ++ leBytes 1 (if s < 8 then 0 else if s < 12 then 1 else 2) ++
  leBytes 6 (d.fresh s).high ++ (match d.keyOf s with | some k => (sha256 k).take 4 | none => [0, 0, 0, 0])

/-- The fuse word PRM 0x400011. -/
def Dev.fuseWord (d : Dev) : Nat :=
  let f := d.boot.fuses
  f.wrSvn + 128 * f.thSvn + 8192 * f.revoke + 131072 * (if f.ownerHash.all (· == 0#8) then 0 else 1) +
    262144 * (if f.dbg2Off then 1 else 0)

/-- KEY_STATUS. -/
def keyStatus (r : Req) (d : Dev) : Dev :=
  serve { code := 0x8000, cls := .open_ } (fun _ => lengthIs 0)
    (report fun d _ => okWith (((List.range 16).flatMap d.slotEntry) ++ leBytes 4 d.fuseWord)) r d

/-- A key slot given a key or emptied; H and its ceiling become 0 (R61). -/
def Dev.putKey (d : Dev) (s : Nat) (k : Option (List Byte)) : Dev :=
  { d with boot := { d.boot with keys := d.boot.keys.set s k, fresh := d.boot.fresh.del s } }

/-- The KEK of R380 under the key of the authenticating slot. -/
def Dev.kek (d : Dev) (r : Req) (slot : Nat) : List Byte :=
  let ctr := match r.auth with | some a => a.counter | none => 0
  (hmac256 ((d.keyFor r).getD []) (leBytes 8 d.uid ++ leBytes 1 slot ++ leBytes 6 ctr)).take 32

/-- An active Service slot would remain when slot `s` holds `k` (R380). -/
def Dev.serviceLeft (d : Dev) (s : Nat) (k : Option (List Byte)) : Bool :=
  [8, 9, 10, 11].any fun t => if t = s then k.isSome else decide (d.slotState t = 1)

/-- The parameter checks of KEY_ROTATE, and the key it installs. -/
def Dev.rotateKey (d : Dev) (r : Req) : Answer ⊕ Option (List Byte) :=
  let slot := byteAt r.params 0
  let w := r.params.drop 4
  if r.params.length < 4 then .inl badLength
  else if 12 ≤ slot then .inl badValue
  else
    let k := if w.isEmpty then some none
             else if w.length = 40 then (aesUnwrap (d.kek r slot) w).map some else none
    match k with
    | none => .inl (refuse .badParam 0x400B)
    | some k => if d.serviceLeft slot k then .inr k else .inl (refuse .denied 0x400C)

/-- KEY_ROTATE (R380): answered once the record is durable. -/
def keyRotate (r : Req) (d : Dev) : Dev :=
  serve { code := 0x8001, cls := .service } (fun d r => match d.rotateKey r with | .inl a => some a | .inr _ => none)
    (fun d r =>
      match d.rotateKey r with
      | .inl a => (d, some a)
      | .inr k =>
        let slot := byteAt r.params 0
        let n := d.nv.immNum
        (((d.immediate ⟨0x20 + slot, 0, k.getD []⟩ (.key slot k)).hold 0x8001 r (.durable n)), none)) r d

/-- AUTH_SET (R381): answered once the record is durable. -/
def authSet (r : Req) (d : Dev) : Dev :=
  serve { code := 0x8007, cls := .service }
    (fun _ r => match lengthIs 1 r with
      | some a => some a
      | none => if 16 ≤ byteAt r.params 0 then some badValue else none)
    (fun d r =>
      let n := d.nv.immNum
      ((d.immediate ⟨0x1, 0, r.params⟩ .authRelax).hold 0x8007 r (.durable n), none)) r d

/-! ## Images (R382, Table 12-5) -/

/-- The bank not selected for boot. -/
def Dev.spare (d : Dev) : Nat := 1 - d.boot.selected

/-- The RID of a bank's image in area 12. -/
def bankRid (b : Nat) : Nat := 0x0C0000 + b

/-- The image of a bank; none where the bank or the bulk store holds none. -/
def Dev.bankImage (d : Dev) (b : Nat) : Option (List Byte) :=
  if d.bulkUp then ((d.nv.bulkRec (bankRid b)).filter (fun r => !r.damaged)).map (·.data) else none

/-- All bytes are zero. -/
def allZero (l : List Byte) : Bool := l.all (· == 0#8)

/-- The format check of Table 12-5 for a target: 0 Workroom, 1 patch. -/
def imageFormat (img : List Byte) (target stepIo : Nat) : Bool :=
  let len := leAt img 4 4
  byteAt img 0 = 1 && byteAt img 1 = target && decide (len = img.length) &&
  decide (512 ≤ len ∧ len ≤ (if target = 0 then 16777216 else 16384)) &&
  decide (byteAt img 12 ≤ (if target = 0 then 64 else 32) ∧ byteAt img 13 ≤ 3 ∧ byteAt img 14 ≤ stepIo ∧ byteAt img 15 < 16) &&
  allZero ((img.drop 2).take 2) && allZero ((img.drop 20).take 12) && allZero ((img.drop 192).take 64) &&
  !bitOf (byteAt img 15) (byteAt img 13)

/-- Table 12-5 in order: the first failure, if any. -/
def Dev.imageFailure (d : Dev) (img : List Byte) (target : Nat) : Option Answer :=
  let f := d.boot.fuses
  let pub := (img.drop 64).take 64
  if !imageFormat img target (d.rd P.STEP_IO) then some (refuse .badParam 0x4001)
  else if sha256 pub ≠ f.signHash.getD (byteAt img 13) [] || bitOf f.revoke (byteAt img 13) then some (refuse .denied 0x4003)
  else if !ecdsaVerify pub (sha256 (img.take 128)) ((img.drop 128).take 64) then some (refuse .denied 0x4004)
  else if sha256 (img.drop 256) ≠ (img.drop 32).take 32 then some (refuse .denied 0x4004)
  else if byteAt img 12 < (if target = 0 then f.wrSvn else f.thSvn) then some (refuse .denied 0x4005)
  else none

/-- A bank verifies (R375). -/
def Dev.bankVerifies (d : Dev) (b : Nat) : Bool :=
  match d.bankImage b with
  | some img => (d.imageFailure img 0).isNone
  | none => false

/-- The bank parameters as they stand (Table 12-7). -/
def Dev.refreshBanks (d : Dev) : Dev :=
  d.each [0, 1] fun b d =>
    let img := (d.bankImage b).getD []
    let ok := d.bankVerifies b
    d.wrs [(P.BANK_VALID, [b], if ok then 1 else 0), (P.BANK_VER, [b], if ok then leAt img 8 4 else 0),
           (P.BANK_SVN, [b], byteAt img 12), (P.BANK_KEY, [b], byteAt img 13)]

/-- The boot selection record written to area 7 (R375, R384): bank, fallback bank of a trial, and 1 where it confirms one. -/
def Dev.select (d : Dev) (bank : Nat) (fallback : Option Nat) : Dev :=
  let d := { d with boot := { d.boot with selected := bank } }
  d.immediate ⟨0x2, 7, leBytes 1 bank ++ leBytes 1 (fallback.getD 0xFF) ++ [0]⟩

/-! ## Workroom restarts (R387 to R389) -/

/-- Workroom stops for a cause: requests it was executing are answered ST_FAULT, WR_RESTART is set and counter 131
increments (Table 12-8); seam solves stop with it (R142). -/
def Dev.stopWorkroom (d : Dev) (cause : Nat) : Dev :=
  let d := d.calStop
  let mine := d.kcp.held.filter fun h => decide (h.opcode < 0x8000)
  let d := { d with kcp := { d.kcp with held := d.kcp.held.filter fun h => decide (0x8000 ≤ h.opcode) },
                    boot := { d.boot with running := false } }
  let d := d.each mine fun h d => d.answer h.opcode h.req (refuse .fault 0) h.back
  ((((d.wr P.LAST_CAUSE [] cause).bump P.RESTARTS).wr P.WR_VER [] 0).count 131).set (.trust 4)

/-- The trial reverts to its fallback bank (R384): TRIAL_REVERT is set and the fallback is selected. -/
def Dev.revert (d : Dev) (t : Trial) : Dev :=
  let d := d.select t.fallback none
  let d := { d with boot := { d.boot with trial := none } }
  ((d.put P.TRIAL [] false).wr P.BOOT_BANK [] t.fallback).set (.trust 5)

/-- A restart not caused by a command: outside a trial the third within 600 s boots the other bank where it verifies,
and is held stopped where there is none or after three more (R389); a second one in a trial reverts it (R384). -/
def Dev.faultRestart (d : Dev) (cause : Nat) : Dev :=
  let d := d.stopWorkroom cause
  match d.boot.trial with
  | some t =>
    if 1 ≤ t.restarts then d.revert t
    else { d with boot := { d.boot with trial := some { t with restarts := t.restarts + 1 } } }
  | none =>
    let recent := d.clk :: d.boot.restarts.filter fun t => decide (d.clk < t + sec 600)
    if recent.length < 3 then { d with boot := { d.boot with restarts := recent } }
    else if !d.boot.changed && d.bankVerifies d.spare then
      let d := (d.select d.spare none)
      let d := { d with boot := { d.boot with restarts := [], changed := true } }
      (d.wr P.BOOT_BANK [] d.boot.selected).report 368
    else
      let d := { d with boot := { d.boot with restarts := recent } }
      (d.set (.trust 9)).refreshState

/-- WR_HALTED: Workroom is held stopped (R389). -/
def Dev.halted (d : Dev) : Bool := bitOf (d.rd P.TRUST_FLAGS) 9

/-- WORKROOM_RESTART: ST_OK, then a restart with cause 4. -/
def workroomRestart (r : Req) (d : Dev) : Dev :=
  serve { code := 0x0B02, cls := .service } (fun _ => lengthIs 0) (fun d _ => (d.stopWorkroom 4, some okay)) r d

/-- WATCHDOG: a Workroom core misses its kick for 50 ms, cause 1. Nothing runs to be watched while Workroom is stopped. -/
def watchdog (d : Dev) : Dev := if d.alive && d.boot.running then d.faultRestart 1 else d

/-- FW_VIOLATION: the access is refused, its address recorded, cause 2 (R371). -/
def fwViolation (addr : Nat) (d : Dev) : Dev :=
  if d.alive && d.boot.running then (((d.wr P.FW_VIOL_ADDR [] addr).set (.trust 3)).faultRestart 2) else d

/-- FATAL_EXCEPTION: a Workroom core reports a fatal exception, cause 3. -/
def fatalException (d : Dev) : Dev := if d.alive && d.boot.running then d.faultRestart 3 else d

/-- WR_RESTART: the restart completes and requests are served again (Table 12-8), except while Workroom is held
stopped (R389). -/
def wrRestart (d : Dev) : Dev :=
  if d.alive && !d.boot.running && d.boot.started && !d.halted && !d.inRecovery then
    { d with boot := { d.boot with running := true } }.wr P.WR_VER [] (d.rd P.BANK_VER [d.rd P.BOOT_BANK])
  else d

/-! ## Update (R383 to R386) -/

/-- The staged image. -/
def Session.image (s : Session) : List Byte := (List.range s.len).map fun i => s.bytes.get i 0

/-- FW_BEGIN. -/
def fwBegin (r : Req) (d : Dev) : Dev :=
  serve { code := 0x8002, cls := .service }
    (fun _ r => match lengthIs 12 r with
      | some a => some a
      | none =>
        let len := leAt r.params 0 4
        let target := byteAt r.params 8
        if 512 ≤ len ∧ len ≤ (if target = 0 then 16777216 else 16384) ∧ target ≤ 1 then none
        else some (refuse .badParam 0x4001))
    (fun d r =>
      if d.boot.trial.isSome then (d, some (refuse .busy 0x4008))
      else
        let taken := match d.boot.session with | some s => decide (s.host ≠ r.host) || s.committing | none => false
        if taken then (d, some (refuse .busy 0x4007))
        else
          let s : Session := ⟨r.host, leAt r.params 0 4, byteAt r.params 8, KMap.empty, d.clk, false⟩
          ({ d with boot := { d.boot with session := some s } }, some okay)) r d

/-- Bytes written into a staging buffer from an offset. -/
def stageBytes (m : KMap Byte) : Nat → List Byte → KMap Byte
  | _, [] => m
  | o, b :: t => stageBytes (m.put o b) (o + 1) t

/-- FW_DATA. -/
def fwData (r : Req) (d : Dev) : Dev :=
  serve { code := 0x8003, cls := .service }
    (fun _ r => if 5 ≤ r.params.length ∧ r.params.length ≤ 1388 then none else some badLength)
    (fun d r =>
      match d.boot.session with
      | none => (d, some (refuse .denied 0x4006))
      | some s =>
        let o := leAt r.params 0 4
        let bs := r.params.drop 4
        if s.len < o + bs.length then (d, some badValue)
        else ({ d with boot := { d.boot with session := some { s with bytes := stageBytes s.bytes o bs, at_ := d.clk } } },
              some okay)) r d

/-- The session closed. -/
def Dev.closeSession (d : Dev) : Dev := { d with boot := { d.boot with session := none } }

/-- FW_COMMIT's work after acceptance: the digest, Table 12-5, then the spare bank or the patch (R383, R385). -/
def Dev.commitImage (d : Dev) (s : Session) (digest : List Byte) (t : Ticket) : Dev :=
  let img := s.image
  if sha256 img ≠ digest then d.closeSession.complete t .badParam 0x4002
  else
    match d.imageFailure img s.target with
    | some a => d.closeSession.complete t a.status a.detail
    | none =>
      let d := { d with boot := { d.boot with session := some { s with committing := true } } }
      if s.target = 1 then
        d.immediate ⟨0x3, 7, img⟩ (.patch t)
      else if !d.bulkUp then d.closeSession.complete t .fault 0x3305
      else
        let b := d.spare
        let d := { d with nv := { d.nv with bulk := d.nv.bulk.filter fun r => decide (r.rid ≠ bankRid b) } }
        d.refreshBanks.bulkWrite (bankRid b) 12 img (.image b t)

/-- FW_COMMIT: ST_OK on acceptance, the outcome by completion event. -/
def fwCommit (r : Req) (d : Dev) : Dev :=
  let op : Op := { code := 0x8004, cls := .service }
  serve op (fun _ => lengthIs 32)
    (fun d r =>
      match d.boot.session with
      | none => (d, some (refuse .denied 0x4006))
      | some s =>
        if s.committing then (d, some (refuse .busy 0x4007))
        else (d.commitImage { s with committing := true } r.params (ticket op r), some okay)) r d

/-- A request with bit `n` of its parameter byte `i` fixed: the row that names one use of a shared opcode. -/
def withBit (i n : Nat) (b : Bool) (r : Req) : Req :=
  let v := byteAt r.params i
  { r with params := r.params.set i (BitVec.ofNat 8 (if b then setBit v n else clrBit v n)) }

/-- A request with its parameter byte `i` fixed. -/
def withByte (i v : Nat) (r : Req) : Req := { r with params := r.params.set i (BitVec.ofNat 8 v) }

/-- FW_SELECT (R383, R384). -/
def fwSelect (r : Req) (d : Dev) : Dev :=
  serve { code := 0x8005, cls := .service } (fun _ => lengthIs 1)
    (fun d r =>
      let b := byteAt r.params 0 % 2
      if !bitOf (byteAt r.params 0) 1 then
        if !d.bankVerifies b then (d, some (refuse .denied 0x4009))
        else
          match d.boot.trial with
          | some t =>
            if t.bank = b then (d, some okay) else (d, some (refuse .busy 0x4008))
          | none =>
            if b = d.rd P.BOOT_BANK && !d.halted && !d.inRecovery then (d, some okay)
            else
            let former := d.boot.selected
            let d := d.select b (some former)
            let d := { d with boot := { d.boot with trial := some ⟨b, former, d.clk, 0⟩, restarts := [], changed := false,
                                                    started := true } }
            let halted := d.halted
            let d := if halted then d.wr P.TRUST_FLAGS [] (clrBit (d.rd P.TRUST_FLAGS) 9) else d
            let d := if d.inRecovery then
                (if d.boot.memTested then d.wr P.MEM_MODE [] 1 else d).wr P.DEV_STATE [] 1
              else d
            (((d.put P.TRIAL [] true).wr P.BOOT_BANK [] b).stopWorkroom 5 |>.refreshState, some okay)
      else
        match d.boot.trial with
        | some t =>
          if t.bank = b then
            let n := d.nv.immNum
            (((d.immediate ⟨0x2, 7, leBytes 1 b ++ [0xFF, 1]⟩ (.confirmed b)).hold 0x8005 r (.durable n)), none)
          else (d, some (refuse .denied 0x400A))
        | none => (d, some (refuse .denied 0x400A))) r d

/-- FW_SELECT with CONFIRM 0. -/
def fwSelectTrial (r : Req) (d : Dev) : Dev := fwSelect (withBit 0 1 false r) d

/-- FW_SELECT with CONFIRM 1. -/
def fwSelectConfirm (r : Req) (d : Dev) : Dev := fwSelect (withBit 0 1 true r) d

/-- The confirm record is durable: the trial ends, WR_SVN and the REVOKE bits are burned and the banks judged again
(R384). -/
def Dev.confirmTrial (d : Dev) (bank : Nat) : Dev :=
  let img := (d.bankImage bank).getD []
  let f := d.boot.fuses
  let f := { f with wrSvn := max f.wrSvn (byteAt img 12), revoke := f.revoke ||| byteAt img 15 % 16 }
  let d := { d with boot := { d.boot with trial := none, selected := bank, fuses := f } }
  (d.put P.TRIAL [] false).refreshBanks

/-- TRIAL_TIME: no confirm within TRIAL_TIME: the trial reverts and Workroom restarts into the fallback (R384). -/
def trialTime (d : Dev) : Dev :=
  match d.boot.trial with
  | some t =>
    let d := d.reach (t.since + sec (d.rd P.TRIAL_TIME))
    (d.revert t).stopWorkroom 5
  | none => d

/-- SESSION_TIMEOUT: 600 s without FW_DATA close an update session without effect (R383). -/
def sessionTimeout (d : Dev) : Dev :=
  match d.boot.session with
  | some s => if s.committing then d else (d.reach (s.at_ + sec 600)).closeSession
  | none => d

/-! ## Debug unlock (R391) -/

/-- OWNER_HASH is set. -/
def Dev.ownerSet (d : Dev) : Bool := !allZero d.boot.fuses.ownerHash

/-- The side effect of levels 2 and 3: slots 0 to 7 and 9 to 11 emptied, slot 8 at the factory key, H and ceilings 0. -/
def Dev.resetKeys (d : Dev) : Dev :=
  let keys := (List.range 16).map fun s => if s = 8 then some d.boot.fuses.factoryKey else none
  let d := { d with boot := { d.boot with keys := keys, fresh := KMap.empty } }
  d.each (List.range 12) fun s d =>
    (d.immediate ⟨0x20 + s, 0, ((keys.getD s none).getD [])⟩).immediate ⟨0x10 + s, 0, leBytes 6 0⟩ (.ceiling s)

/-- An unlock granted. -/
def Dev.unlock (d : Dev) (level : Nat) : Dev :=
  let d := if 2 ≤ level then d.resetKeys else d
  let d := { d with boot := { d.boot with access := max d.boot.access (if level = 3 then 0 else level) } }
  (d.raiseTo P.DEBUG_LEVEL [] level).set (.trust 6)

/-- DEBUG_UNLOCK (R391): accepted without a tag on the service port. -/
def debugReq (r : Req) (d : Dev) : Dev :=
  serve { code := 0x8006, cls := if r.host.via = .service && r.auth.isNone then .open_ else .service }
    (fun _ r => if r.params.length = 4 ∨ r.params.length = 132 then
        (if 1 ≤ byteAt r.params 0 ∧ byteAt r.params 0 ≤ 3 then none else some badValue) else some badLength)
    (fun d r =>
      let level := byteAt r.params 0
      if !d.ownerSet then (d, some (refuse .auth 0x000B))
      else if level = 2 && d.boot.fuses.dbg2Off then (d, some (refuse .denied 0x400E))
      else if r.params.length = 4 then
        let (n, d) := d.draw (2 ^ 256)
        let ch := leBytes 8 d.uid ++ leBytes 1 level ++ List.replicate 7 0 ++ leBytes 32 n
        ({ d with boot := { d.boot with challenge := some ⟨ch, level, d.clk⟩ } }, some (okWith ch))
      else
        let pub := (r.params.drop 4).take 64
        let good := match d.boot.challenge with
          | some c => decide (c.level = level ∧ d.clk < c.at_ + sec 60) && decide (sha256 pub = d.boot.fuses.ownerHash) &&
              ecdsaVerify pub (sha256 c.bytes) (r.params.drop 68)
          | none => false
        let d := { d with boot := { d.boot with challenge := none } }
        if good then (d.unlock level, some okay) else (d, some (refuse .auth 0x400D))) r d

/-- DEBUG_UNLOCK without a response: a new challenge. -/
def debugChallenge (r : Req) (d : Dev) : Dev := debugReq { r with params := r.params.take 4 } d

/-- DEBUG_UNLOCK with a response. -/
def debugUnlock (r : Req) (d : Dev) : Dev := debugReq (if r.params.length ≤ 4 then { r with params := fitTo 132 0 r.params } else r) d

/-- CHALLENGE_EXPIRY: a challenge is valid for 60 s. -/
def challengeExpiry (d : Dev) : Dev :=
  match d.boot.challenge with
  | some c => let d := d.reach (c.at_ + sec 60); { d with boot := { d.boot with challenge := none } }
  | none => d

end Sys2Proof.Machine
end

