-- ==== Sys2Proof/Machine/ConvRows.lean ====
section
/-!
DEFINITION. Sys2Proof/Machine/ConvRows.lean: the converter's commands: its opcodes (R325) and the ends of conversions.
-/
namespace Sys2Proof.Machine

/-- CONV_SEQ_START: a start of a sequence (R313 to R315). -/
def convSeqStart (r : Req) (d : Dev) : Dev :=
  serve { code := 0x0800, cls := .operator }
    (fun d r => match lengthIs 1 r with
      | some a => some a
      | none => if 4 ≤ byteAt r.params 0 then some badValue else d.startCheck (byteAt r.params 0))
    (fun d r => (d.startSeq (byteAt r.params 0), some okay)) r d

/-- The 276 bytes of CONV_STATUS, DATA being taken. -/
def Dev.convBlock (d : Dev) (m : Nat) : List Byte × Dev :=
  let (v, d) := d.takeData m
  (leBytes 4 (d.word (0x310010 + m)) ++ leBytes 4 (d.word (0x310014 + m)) ++ leBytes 4 v ++
    leBytes 4 (d.word (0x31001C + m)) ++ leBytes 4 (d.word 0x310000) ++
    (List.range 32).flatMap fun i =>
      let n := 32 * m + i
      leBytes 4 (d.word (0x310101 + 4 * n)) ++ leBytes 4 (d.rd P.CH_ENG [n]), d)

/-- CONV_STATUS. -/
def convStatus (r : Req) (d : Dev) : Dev :=
  serve { code := 0x0801, cls := .open_ }
    (fun _ r => match lengthIs 1 r with
      | some a => some a
      | none => if 4 ≤ byteAt r.params 0 then some badValue else none)
    (fun d r => let (b, d) := d.convBlock (byteAt r.params 0); (d, some (okWith b))) r d

/-- A kept zero serves a full-scale step: same channel and GAIN, at most 600 s old (R318). -/
def Dev.zeroKept (d : Dev) (m : Nat) : Bool :=
  let ch := d.rd P.CAL_CH [m]
  match (d.mod m).zero with
  | some z => decide (z.ch = ch ∧ z.gain = d.rd P.GAIN [ch] ∧ d.clk ≤ z.at_ + sec 600)
  | none => false

/-- The checks of CONV_CALIBRATE. A step that needs a channel where CAL_CH names none is out of order (log 30). -/
def calCheck (d : Dev) (r : Req) : Option Answer :=
  let m := byteAt r.params 0
  let st := byteAt r.params 1
  match lengthIs 2 r with
  | some a => some a
  | none =>
    if 4 ≤ m ∨ 4 ≤ st then some badValue
    else if d.recalling then some (refuse .busyNv 0x3301)
    else if (d.mod m).cal.isSome then some (refuse .busy 0x3108)
    else if st ≠ 3 ∧ d.rd P.CAL_CH [m] = 0x7F then some (refuse .denied 0x3106)
    else if st = 1 && !d.zeroKept m then some (refuse .denied 0x3106)
    else none

/-- CONV_CALIBRATE: a step accepted (R318, R319): it begins at once, or waits for the injected queue. -/
def Dev.calibrate (d : Dev) (m st : Nat) (t : Ticket) : Dev × Answer :=
  let x := d.mod m
  let c : CalStep := ⟨st, d.rd P.CAL_CH [m], [], !x.inj.isEmpty, t⟩
  if c.waiting then ((d.setMod m { x with cal := some c }).calState m, refuse .deferred 0x3109)
  else (d.calRun m c, okay)

/-- CONV_CALIBRATE with its step fixed. -/
def convCalibrate (st : Nat) (r : Req) (d : Dev) : Dev :=
  let op : Op := { code := 0x0802, cls := .service }
  serve op calCheck
    (fun d r => let (d, a) := d.calibrate (byteAt r.params 0) (byteAt r.params 1) (ticket op r); (d, some a))
    (withByte 1 st r) d

/-- CONV_CALIBRATE, step 0. -/
def convCalibrateZero (r : Req) (d : Dev) : Dev := convCalibrate 0 r d

/-- CONV_CALIBRATE, step 1. -/
def convCalibrateFullScale (r : Req) (d : Dev) : Dev := convCalibrate 1 r d

/-- CONV_CALIBRATE, step 2. -/
def convCalibrateFactory (r : Req) (d : Dev) : Dev := convCalibrate 2 r d

/-- CONV_CALIBRATE, step 3. -/
def convCalibrateAbandon (r : Req) (d : Dev) : Dev := convCalibrate 3 r d

/-- CONVERSION_END: the conversion in hand of a modulator completes (R309, R316); flag results reach the cycles they
serve. Nothing is converted before recall has ended (R323). -/
def conversionEnd (m : Nat) (raw : Int) (isOver : Bool) (up down : Int) (d : Dev) : Dev :=
  if !d.alive || d.recalling || 4 ≤ m then d
  else
    let (d, l) := d.convert m ⟨raw, isOver, up, down⟩
    d.each l fun p d => d.flagResult p.1 p.2

end Sys2Proof.Machine
end

