-- ==== Sys2Proof/Machine/ShutterRows.lean ====
section
/-!
DEFINITION. Sys2Proof/Machine/ShutterRows.lean: the shutter drivers' commands: the opcodes of R343 and what the drive
stage reports and times (R333 to R340).
-/
namespace Sys2Proof.Machine

/-! ## Opcodes (R343) -/

/-- Word 4 of a channel: I_MEAS and DUTY_USED, which is E / DUTY_WIN in 0.1 % (R331). -/
def Dev.dutyWord (d : Dev) (n : Nat) : Nat :=
  d.rd P.I_MEAS [n] + 65536 * min 1000 (1000 * d.dutyE n / max 1 (sec (d.rd P.DUTY_WIN [n])))

/-- SHUTTER_DRIVE_STATUS: eight channel words, the switch's word, the partner's word 0. -/
def shutterDriveStatus (r : Req) (d : Dev) : Dev :=
  serve { code := 0x0900, cls := .open_ }
    (fun _ r => match lengthIs 1 r with
      | some a => some a
      | none => if 64 ≤ byteAt r.params 0 then some badValue else none)
    (fun d r =>
      let n := byteAt r.params 0
      let d := (d.senseCoil n).senseCoil (partner n)
      let w (a : Nat) : List Byte := leBytes 4 (d.word a)
      (d, some (okWith (((List.range 8).flatMap fun i =>
          if i = 4 then leBytes 4 (d.dutyWord n) else w (0x320100 + 8 * n + i)) ++
        w (0x320500 + n / 2) ++ w (0x320100 + 8 * partner n))))) r d

/-- The checks SHUTTER_TEST makes of its parameters for an action. -/
def testCheck (act : Nat) (d : Dev) (r : Req) : Option Answer :=
  let n := byteAt r.params 0
  match lengthIs 2 r with
  | some a => some a
  | none =>
    if 64 ≤ n && !(decide (n = 0xFF) && (act = 0 || act = 4)) then some badValue
    else if act = 4 then
      (if byteAt r.params 1 / 16 % 8 = 7 then some badValue
       else if n ≠ 0xFF && decide (d.drv n ∈ [1, 2, 3]) then some (refuse .denied 0x3206) else d.storeBusy)
    else if act = 1 && d.recalling then some (refuse .busyNv 0x3301)
    else if n ≠ 0xFF && !d.is P.CH_EN [n] then some (refuse .denied 0x3209)
    else none

/-- SHUTTER_TEST with its action fixed in bits 3 to 0. -/
def shutterTest (act : Nat) (f : Dev → Req → Dev × Option Answer) (r : Req) (d : Dev) : Dev :=
  serve { code := 0x0901, cls := .service } (testCheck act) f (withByte 1 (byteAt r.params 1 / 16 * 16 + act) r) d

/-- Action 0. -/
def shutterTestDiagnose (r : Req) (d : Dev) : Dev :=
  shutterTest 0 (fun d r =>
    let n := byteAt r.params 0
    if n = 0xFF then
      (d.each ((List.range 64).filter fun c => d.is P.CH_EN [c]) fun c d => d.diagnose c .plain, some okay)
    else (d.diagnose n .plain, some okay)) r d

/-- Action 1. -/
def shutterTestClose (r : Req) (d : Dev) : Dev :=
  shutterTest 1 (fun d r =>
    let n := byteAt r.params 0
    let op : Op := { code := 0x0901, cls := .service }
    if d.inUse n then (d, some (refuse .denied 0x3207))
    else
      let a := d.closeCheck n false false
      let d := d.countRefusal n a
      match a.status with
      | .ok => (d.energise n 2, some a)
      | .deferred => (((d.setSh n { d.sh n with wait := some (ticket op r) }).wrs [(P.DRV_STATE, [n], 1), (P.OWNER, [n], 2)]).refreshPair n,
          some a)
      | _ => (d, some a)) r d

/-- Action 2. -/
def shutterTestRelease (r : Req) (d : Dev) : Dev :=
  shutterTest 2 (fun d r =>
    let n := byteAt r.params 0
    if d.drv n = 1 then (d.endWait n (refuse .denied 0x320A), some okay)
    else if d.energised n && decide (d.rd P.OWNER [n] = 1) then (d, some (refuse .denied 0x3207))
    else (d.releaseCh n, some okay)) r d

/-- Action 3: the diagnoses it needs begin, and the request is held until they have ended. -/
def shutterTestClear (r : Req) (d : Dev) : Dev :=
  shutterTest 3 (fun d r =>
    let n := byteAt r.params 0
    if d.chActive n then (d, some (refuse .denied 0x3206))
    else
      let d := d.each (d.clearSet n) fun c d => d.abandonDiag c
      let d := d.each (d.clearSet n) fun c d => d.setSh c { d.sh c with diag := some (.clear n), clearOk := none }
      ((d.refreshRest n).hold 0x0901 r (.clearing n), none)) r d

/-- The six drive fields of a channel written from a profile (R344). -/
def Dev.applyDrive (d : Dev) (n p : Nat) : Dev :=
  let t := d.tblRead (0x32C0 + p) 0 16
  d.wrs [(P.PULL_I, [n], leAt t 0 2), (P.PULL_T, [n], byteAt t 2), (P.HOLD_I, [n], leAt t 4 2), (P.MAX_ON, [n], leAt t 6 2),
    (P.DUTY_PCT, [n], byteAt t 8), (P.DUTY_WIN, [n], leAt t 9 2), (P.DRV_PROF, [n], p)]

/-- Action 4. -/
def shutterTestApplyProfile (r : Req) (d : Dev) : Dev :=
  shutterTest 4 (fun d r =>
    let n := byteAt r.params 0
    let p := byteAt r.params 1 / 16 % 8
    let set := if n = 0xFF then (List.range 64).filter fun c => !decide (d.drv c ∈ [1, 2, 3]) else [n]
    let d := d.each set fun c d => d.applyDrive c p
    ((d.storeParams (set.flatMap fun c => [1, 2, 3].map (0x320100 + 8 * c + ·))).wrote 0x32, some okay)) r d

/-! ## Energisations -/

/-- An engine's cycle whose channel has gone to hold awaits the flag (R143). -/
def Dev.flagSettles (d : Dev) (n : Nat) : Dev :=
  match d.cycleOn n with
  | some k => if d.rd P.CYC_STATE [k] = 2 then d.wr P.CYC_STATE [k] 3 else d
  | none => d

/-- PULL_IN_END: pull-in ends after PULL_T with a coil current of `mA` (R333); the partner's waiting request begins
its pull-in (R332). -/
def pullInEnd (n mA : Nat) (d : Dev) : Dev :=
  if 64 ≤ n || d.drv n ≠ 2 then d
  else
    let d := d.reach ((d.sh n).since + ms (d.rd P.PULL_T [n]))
    let d := (d.wrs [(P.I_MEAS, [n], min 2047 mA), (P.DRV_STATE, [n], 3)]).refreshPair n
    let d := if 100 * mA < 90 * d.rd P.PULL_I [n] then d.set (.shd 8) (8, n) (d.shData n 0) else d
    let p := partner n
    let d := d.flagSettles n
    if d.drv p = 1 then d.endWait p okay else d

/-- MAX_ON: an energisation that reaches its limit is released, and reported to its owner (R333). -/
def maxOn (n : Nat) (d : Dev) : Dev :=
  if 64 ≤ n || !d.energised n then d
  else
    let d := d.reach ((d.sh n).since + ms (d.rd P.MAX_ON [n]))
    let k := d.cycleOn n
    let engine := decide (d.rd P.OWNER [n] = 1)
    let d := (d.setShd 5 n).releaseCh n
    match k with
    | some k => if engine then d.cycleFault k else d
    | none => d

/-- RELEASE_DECAY_END: the coil current has fallen below 10 mA (R334). -/
def releaseDecayEnd (n : Nat) (d : Dev) : Dev :=
  if 64 ≤ n || d.drv n ≠ 4 then d
  else
    let d := d.wrs [(P.I_MEAS, [n], 0), (P.DRV_STATE, [n], 0)]
    d.refreshRest n

/-- ON_STATE_FAULT: the on-state diagnosis of a channel detects a fault (R335). Open-load detection is suspended while
VSHUT is low. -/
def onStateFault (n : Nat) (f : ShFault) (d : Dev) : Dev :=
  let live := match f with
    | .openLoad => d.energised n && !d.shut.low
    | .shortSupply => d.energised n || decide (d.drv n = 4)
    | .shortGround => d.energised n || decide (d.drv n = 4)
    | .switchShort => d.energised n || decide (d.drv n = 4)
  if 64 ≤ n || !live then d else tellCycles (d.faultCh n f)

/-! ## Diagnoses -/

/-- OFF_STATE_DIAGNOSIS: the diagnosis in progress on a channel ends with SHLS at `mv`, SHHS at `hs` mV and the coil
current below 10 mA or not (R336 to R338). The partner's switch state gives the mode. -/
def offStateDiagnosis (n mv hs : Nat) (lowCur : Bool) (d : Dev) : Dev :=
  match (d.sh n).diag with
  | none => d
  | some why =>
    if d.energised n then d
    else
      let code := diagCode (decide (d.drv (partner n) ∈ [2, 3, 4])) mv
      let pass := decide (code ≤ 2)
      let d := d.wr P.DIAG [n] code
      let d := d.setSh n { d.sh n with diag := none, openOk := (d.sh n).openOk || (pass && lowCur) }
      let d := match diagFault code with
        | some f => tellCycles (d.faultCh n f)
        | none => d.refreshRest n
      match why with
      | .clear c => (d.setSh n { d.sh n with clearOk := some (decide (code = 1)) }).finishClear c hs
      | _ => d

/-- DIAG_PERIOD: an enabled idle channel is diagnosed, one channel of a switch at a time (R337). -/
def diagPeriod (n : Nat) (d : Dev) : Dev :=
  if 64 ≤ n || !d.awake || d.recalling || d.rd P.DIAG_PERIOD = 0 || !d.is P.CH_EN [n] || (d.sh (partner n)).diag.isSome then d
  else d.diagnose n .plain

/-- STUCK_ON: SHHS of a switch that is off has stood above 4.0 V for 100 ms (R336); FAULT_N follows in `settle`. -/
def stuckOn (j : Nat) (d : Dev) : Dev :=
  if 32 ≤ j || !d.awake || d.is P.HS_ON [j] || d.shut.stuck.contains j then d
  else
    let d := { d with shut := { d.shut with stuck := j :: d.shut.stuck } }
    ((d.put P.HS_LATCH [j] true).setShd 4 (2 * j)).refreshRest (2 * j)

/-- VSHUT_LOW: VSHUT is read as `mv`. Below 10.5 V close requests are refused and the owners of energised channels are
told; below 8 V every channel is released (R335, R340). In Doze, where VSHUT may be removed, it is only measured. -/
def vshutLow (mv : Nat) (d : Dev) : Dev :=
  if !d.alive then d
  else
    let was := d.shut.low
    let d := (d.wr P.VSHUT_MV [] (min 65535 mv))
    let d := { d with shut := { d.shut with low := decide (mv < 10500) } }
    if 10500 ≤ mv || !d.awake then d
    else
      let on := (List.range 64).filter d.energised
      let d := if was then d
        else
          let d := d.set (.shd 9) noUnit (d.shData 0 0)
          tellCycles (d, on.filterMap d.cycleOn)
      if mv < 8000 then d.releaseAll false else d

end Sys2Proof.Machine
end

