-- ==== Sys2Proof/Machine/CalRows.lean ====
section
/-!
DEFINITION. Sys2Proof/Machine/CalRows.lean: the calibration commands: the opcodes of R173 and R174, and what the engines
do at their instants (R143 to R169), with the record repair of R115.
-/
namespace Sys2Proof.Machine

/-! ## Opcodes (R173, R174) -/

/-- One parameter byte `n`, below a bound. -/
def oneByte (bound : Nat) (r : Req) : Option Answer :=
  match lengthIs 1 r with
  | some a => some a
  | none => if bound ≤ byteAt r.params 0 then some badValue else none

/-- SHUTTER_PROFILE: the seven fields of a calibration profile. -/
def shutterProfile (r : Req) (d : Dev) : Dev :=
  serve { code := 0x0400, cls := .operator, bcast := true } (fun _ => oneByte 7)
    (fun d r =>
      let p := byteAt r.params 0
      let t := d.tblRead (0x22C0 + p) 0 16
      let d := d.wrs [(P.MIN_INT, [], leAt t 0 2), (P.MAX_INT, [], leAt t 2 2), (P.UNC_THR, [], leAt t 4 2),
        (P.SEAM_THR, [], leAt t 6 2), (P.MAX_DEFER, [], leAt t 8 2), (P.SLEW, [], byteAt t 10), (P.RAMP_LEN, [], byteAt t 11),
        (P.CAL_PROF, [], p)]
      (d.wrote 0x22, some okay)) r d

/-- SHUTTER_NOW. -/
def shutterNow (r : Req) (d : Dev) : Dev :=
  let op : Op := { code := 0x0401, cls := .operator }
  serve op
    (fun d r =>
      let k := byteAt r.params 0
      match oneByte 64 r with
      | some a => some a
      | none =>
        if d.rd P.CORE_STATE [k] ≠ 3 then some (refuse .denied 0x2202)
        else if d.rd P.CYC_STATE [k] ∉ [0, 8] then some (refuse .busy 0x2201)
        else if d.rd P.SHUT_CH [k] = 0x7F ∨ d.rd P.FLAG_CH [k] = 0x7F then some (refuse .denied 0x2204)
        else none)
    (fun d r => (d.startCycle (byteAt r.params 0) (some (ticket op r)), some okay)) r d

/-- The regions of a mask. -/
def regionsOf (mask : Nat) : List Nat := (List.range 4).filter (bitOf mask)

/-- SEAM_SOLVE. -/
def seamSolve (r : Req) (d : Dev) : Dev :=
  let op : Op := { code := 0x0402, cls := .operator }
  serve op
    (fun d r =>
      match oneByte 16 r with
      | some a => some a
      | none =>
        if (regionsOf (byteAt r.params 0)).any fun g => (d.cal.solves.get? g).isSome then some (refuse .busy 0x2203) else none)
    (fun d r =>
      let l := regionsOf (byteAt r.params 0)
      let t := ticket op r
      if l.isEmpty then (d.complete t .ok 0 (leBytes 2 (d.rd P.LAST_RES)), some okay)
      else (d.each l fun g d => d.beginSolve g (some t), some okay)) r d

/-- NEXT_MIN and NEXT_MAX: MIN_INT or MAX_INT after LAST_END, and the reset value 0 while no flag opening of the core is known (Table 5-10). -/
def Dev.nextCycle (d : Dev) (k : Nat) (interval : Row) : Nat :=
  if (d.calCore k).lastOpen.isNone then 0 else (d.rd P.LAST_END [k] + d.rd interval) % 2 ^ 32

/-- Word `i` of a core's calibration block (Table 5-10). -/
def Dev.calWord (d : Dev) (k i : Nat) : Nat :=
  if i = 3 then d.nextCycle k P.MIN_INT
  else if i = 4 then d.nextCycle k P.MAX_INT
  else d.word (0x220100 + 16 * k + i)

/-- CAL_STATUS. -/
def calStatus (r : Req) (d : Dev) : Dev :=
  serve { code := 0x0403, cls := .open_ } (fun _ => oneByte 64)
    (report fun d r => okWith ((List.range 16).flatMap fun i => leBytes 4 (d.calWord (byteAt r.params 0) i))) r d

/-- The stored learned set of a core staged as a reload: bytes 0 to 11 of every record, and the knots; CURVE_BASE and SEG_SHIFT stay
those of the applied bank (R165). P is as it is stored; there is no previous gather until the next cycle (R154, R157, R174). A reload
that is still staged is replaced, and its request ends with this one's ramp. -/
def Dev.stageReload (d : Dev) (k : Nat) (t : Ticket) : Dev :=
  let fac := d.factory k
  let lrn := d.learned k
  let n := d.pixels k
  let bytes (i : Nat) : List Byte := overlay fac lrn i
  let recs := KMap.ofList ((List.range n).map fun i => (i, (bytes i).take 3 ++ ((bytes i).drop 5).take 6))
  let base := KMap.ofList ((List.range n).map fun i => (i, ((bytes i).drop 3).take 2 ++ ((bytes i).drop 11).take 1))
  let cv := overlayCurve fac lrn n
  let knots := (curveOf cv).knots
  let cov := match lrn with
    | some l => (List.range 9).map fun i => BitVec.ofNat 32 (leAt l (10 * n + 130 + 4 * i) 4)
    | none => covReset
  let x := d.calCore k
  let before := (x.staged.map (·.tickets)).getD []
  ((d.setCal k { x with
    cov := cov, prev := none, seg := none, classes := [],
    staged := some ⟨recs, recs, none, some knots, base, true, before ++ [t]⟩ }).writeDrift k cov none).refreshStaged k

/-- CAL_RELOAD: of a core, or of every enabled core for 0xFF. -/
def calReload (r : Req) (d : Dev) : Dev :=
  let op : Op := { code := 0x0404, cls := .service }
  serve op
    (fun d r =>
      let k := byteAt r.params 0
      match lengthIs 1 r with
      | some a => some a
      | none =>
        if k = 0xFF then none
        else if 64 ≤ k then some badValue
        else if !d.is P.CORE_EN [k] then some (refuse .denied 0x2202)
        else none)
    (fun d r =>
      let k := byteAt r.params 0
      let l := if k = 0xFF then (List.range 64).filter fun c => d.is P.CORE_EN [c] else [k]
      let t := ticket op r
      let d := d.each l fun c d => d.stageReload c t
      (if l.isEmpty then d.complete t .ok else d, some okay)) r d

/-! ## Requests and reservations (R148 to R155) -/

/-- CYCLE_REQUEST: a trigger of Table 5-5 holds for a core. -/
def cycleRequest (k : Nat) (d : Dev) : Dev :=
  if 64 ≤ k || !d.mayCycle k then d
  else if d.triggered k then d.startCycle k none
  else
    match d.timeDue k with
    | [] => d
    | t :: l => (d.reach (l.foldl min t)).startCycle k none

/-- A further attempt of a cycle: while Workroom restarts its reservation is abandoned (R142). -/
def Dev.reserveAgain (d : Dev) (k : Nat) : Dev := if d.boot.running then d.reserve k else d.abandonCycle k

/-- RETRY: the engine reserves again after a refusal (R149, R155). -/
def retryCycle (k : Nat) (d : Dev) : Dev :=
  match (d.calCore k).cycle with
  | none => d
  | some c =>
    match c.retryAt with
    | none => d
    | some t => (d.reach t).reserveAgain k

/-- GRANT_START_LIMIT: a grant passes its limit without an opening frame start (R149). -/
def grantStartLimit (k : Nat) (d : Dev) : Dev :=
  match (d.calCore k).cycle with
  | none => d
  | some c =>
    match c.grants.filter fun g => decide (g.decision = some 0 ∨ g.decision = some 1) with
    | [] => d
    | g :: l =>
      if d.rd P.CYC_STATE [k] ≠ 1 || c.retryAt.isSome then d
      else
        let t := (l.map (·.at_)).foldl min g.at_
        ((d.reach (t + startLimit (d.period k))).releaseGrants k).reserveAgain k

/-- MAX_DEFER: a cycle has been refused for MAX_DEFER since its first reservation (R150). One that SHUTTER_NOW asked for
and that the driver alone refused ends with ST_DUTY (R155). -/
def maxDefer (k : Nat) (d : Dev) : Dev :=
  match (d.calCore k).cycle with
  | none => d
  | some c =>
    if d.rd P.CYC_STATE [k] ≠ 1 || c.refusals = 0 || c.force then d
    else
      let d := d.reach (c.first + sec (d.rd P.MAX_DEFER))
      if c.duty && c.ticket.isSome then ((d.endTicket k .duty 0x3201).releaseGrants k).dropCycle k
      else (d.setCycle k (some { c with force := true })).setCalF 2 k

/-- GRANT_VOID: the owner voids its oldest grant of a patch at the end of its lease (R149). -/
def grantVoid (p : Nat) (d : Dev) : Dev :=
  match d.cal.given.find? fun g => decide (g.patch = p) with
  | none => d
  | some g => (((d.reach (g.at_ + g.lease)).takeBack p g.dev g.core).report 145 (d.coreUnit g.dev g.core) (d.calData g.core p))

/-! ## The phases of a cycle (R143, R147) -/

/-- A cycle in a phase. -/
def Dev.inPhase (d : Dev) (k ph : Nat) : Option Cycle :=
  if d.rd P.CYC_STATE [k] = ph then (d.calCore k).cycle else none

/-- RELEASE_PHASE_END: 25 ms after the release began. -/
def releasePhaseEnd (k : Nat) (d : Dev) : Dev :=
  match d.inPhase k 5 with
  | none => d
  | some c =>
    let d := d.reach (c.phaseAt + ms 25)
    (d.setCycle k (some { c with phaseAt := d.clk, settled := false })).wr P.CYC_STATE [k] 6

/-- OPEN_SETTLE_END: open settle ends and the open check is asked for. -/
def openSettleEnd (k : Nat) (d : Dev) : Dev :=
  match d.inPhase k 6 with
  | none => d
  | some c =>
    if c.settled then d
    else
      let d := d.reach (c.phaseAt + ms 60)
      (d.setCycle k (some { c with phaseAt := d.clk, settled := true })).openCheck (d.rd P.SHUT_CH [k])

/-- The flag has been found open: the interruption is over (R143, R149). -/
def Dev.opened (d : Dev) (k : Nat) (c : Cycle) : Dev :=
  let d := d.wr P.LAST_END [k] (d.now / 1000000000)
  let d := d.setCal k { d.calCore k with lastOpen := some d.clk }
  let d := d.releaseGrants k
  if c.complete && !c.failed && !c.aborted then d.wr P.CYC_STATE [k] 7 else d.dropCycle k

/-- OPEN_CONFIRMATION: the open check reports open (R337) and the channel itself latches no fault (Table 5-1); a latch of the switch alone does not stop the report. -/
def openConfirmation (k : Nat) (d : Dev) : Dev :=
  match d.inPhase k 6 with
  | none => d
  | some c =>
    let ch := d.rd P.SHUT_CH [k]
    if c.settled && (d.sh ch).openOk && !(d.sh ch).latch then d.opened k c else d

/-- OPEN_CONFIRMATION_TIMEOUT: none within 10 ms of the end of open settle fails the cycle. -/
def openConfirmationTimeout (k : Nat) (d : Dev) : Dev :=
  match d.inPhase k 6 with
  | none => d
  | some c => if c.settled then (d.reach (c.phaseAt + ms 10)).cycleFault k else d

/-- FLAG_CLOSED_FAULT: still closed one second after the end of open settle; FAULT_N follows in `settle`. -/
def flagClosedFault (k : Nat) (d : Dev) : Dev :=
  match d.inPhase k 6 with
  | none => d
  | some c =>
    if c.settled then
      let d := d.reach (c.phaseAt + sec 1)
      match (d.calCore k).cycle with
      | some c => d.setCycle k (some { c with closed := true })
      | none => d
    else d

/-- Frames of the gather that have not left the cluster. -/
def Dev.gatherPending (d : Dev) (k : Nat) (c : Cycle) : Bool :=
  (d.strm k).frames.any fun f => decide (c.base ≤ f.tag.cnt ∧ f.tag.cnt < c.base + 16)

/-- GATHER_RESULT: the gather computation of a core's cycle completes (R156 to R159); too little coverage fails it. -/
def gatherResult (k : Nat) (d : Dev) : Dev :=
  match d.inPhase k 7 with
  | none => d
  | some c =>
    if d.gatherPending k c then d
    else if c.aborted then d.dropCycle k
    else if !d.coverageGood k c then (d.countFail k).dropCycle k
    else
      let d := d.gatherUpdate k c
      let d := (d.bump P.CYCLES [k]).wr P.CONSEC_FAIL [k] 0
      let d := if c.ticket.isSome then d.put P.SUSP [k] false else d
      (d.endTicket k .ok 0).dropCycle k

/-- LEARNED_SET_STORE: the store of the oldest learned set that waits commits or fails (R169). -/
def learnedSetStore (ok : Bool) (d : Dev) : Dev :=
  let learned (j : BulkJob) : Option Nat := match j.why with
    | .learned k => some k
    | _ => none
  match d.nv.bulkQ.find? fun j => (learned j).isSome with
  | none => d
  | some j =>
    let k := (learned j).getD 0
    let d := { d with nv := { d.nv with bulkQ := d.nv.bulkQ.erase j } }
    if ok && d.bulkUp then (d.bulkCommit j.rid j.area j.data).bump P.STORE_SEQ [k] else d.setCalF 8 k

/-! ## RECORD_REPAIR (R115) -/

/-- A store of a core's learned set is running. -/
def Dev.storing (d : Dev) (k : Nat) : Bool := d.nv.bulkQ.any fun j => decide (j.why = .learned k)

/-- RECORD_REPAIR: the calibration engine writes the oldest reported block whole, or its write fails. The frames already
begun do not use what it writes (R115). -/
def recordRepair (ok : Bool) (d : Dev) : Dev :=
  match d.pipe.bad with
  | [] => d
  | q :: rest =>
    let b := q.block
    if !d.awake then d
    else if !d.is P.CORE_EN [b.core] then { d with pipe := { d.pipe with bad := rest } }
    else if d.storing b.core then d
    else if ok then
      let fac := d.factory b.core
      let lrn := d.learned b.core
      let w := d.rd P.WIDTH [b.core]
      let d := d.each (blockCols b.state b.block w) fun x d => d.repairPixel b x (overlay fac lrn (b.row * w + x))
      { d with pipe := { d.pipe with bad := rest } }
    else if q.tries = 0 then { d with pipe := { d.pipe with bad := ⟨b, 1⟩ :: rest } }
    else
      let data := leBytes 1 b.core ++ leBytes 1 b.bank ++ leBytes 1 (if b.state then 1 else 0) ++ [0] ++ leBytes 4 b.row ++
        leBytes 4 b.block
      let d := { d with pipe := { d.pipe with bad := rest, dead := snoc d.pipe.dead b } }
      (d.queueLog (d.record 101 2 (2, b.core) 0 data)).1

end Sys2Proof.Machine
end

