-- ==== Sys2Proof/Machine/MemRows.lean ====
section
/-!
DEFINITION. Sys2Proof/Machine/MemRows.lean: the memory commands: the opcodes of R288, R289, R297 and R298, and what the
controller does at its instants (R278 to R295).
-/
namespace Sys2Proof.Machine

/-- MEM_STATUS: 92 bytes (R298). -/
def memStatus (r : Req) (d : Dev) : Dev :=
  serve { code := 0x0700, cls := .open_ } (fun _ => lengthIs 0)
    (fun d _ =>
      let d := d.senseMigration.senseDemand
      (d, some (okWith (leBytes 1 (d.rd P.FSP_CUR) ++ leBytes 1 (d.rd P.MEM_MODE) ++ leBytes 1 (d.rd P.SPARES_LEFT) ++ [0] ++
        ((List.range 16).flatMap fun n => leBytes 1 (d.rankState n)) ++
        ((List.range 16).flatMap fun n => leBytes 2 (d.rd P.CE_CNT [n])) ++
        ((List.range 16).flatMap fun n => leBytes 2 (d.rd P.UE_CNT [n])) ++
        leBytes 4 (d.rd P.MIG_PTR) ++ leBytes 2 (d.rd P.DEMAND) ++ [0, 0])))) r d

/-- MEM_PROFILE (R297): answered at once, or after the set-point switch it asks for (R285). -/
def memProfile (r : Req) (d : Dev) : Dev :=
  serve { code := 0x0701, cls := .operator }
    (fun d r => match oneByte 7 r with
      | some a => some a
      | none =>
        let f := byteAt (d.tblRead (0x30C0 + byteAt r.params 0) 0 1) 0 % 2
        if f ≠ d.rd P.FSP_CUR || d.is P.FSP_BUSY then d.pointCheck f else none)
    (fun d r =>
      let p := byteAt r.params 0
      let t := d.tblRead (0x30C0 + p) 0 16
      let f := byteAt t 0 % 2
      let d := d.wrs [(P.REF_POSTPONE, [], byteAt t 1), (P.PD_IDLE, [], leAt t 2 2), (P.MIG_RATE, [], leAt t 4 2),
        (P.ARM_LIMIT, [], leAt t 6 2), (P.MEM_PROF, [], p)]
      let d := d.wrote 0x30
      if f = d.rd P.FSP_CUR then (d.wr P.FSP_SEL [] f, some okay)
      else ((d.beginPoint f).hold 0x0701 r .setPoint, none)) r d

/-- SET_POINT_SWITCH: all eight channels run at the new set point, and the reply follows (R285). -/
def setPointSwitch (d : Dev) : Dev :=
  if d.is P.FSP_BUSY && d.awake then
    let d := d.each (List.range 16) fun n d => d.payOwed n
    (d.wrs [(P.FSP_CUR, [], d.rd P.FSP_SEL), (P.FSP_BUSY, [], 0)]).release .setPoint okay
  else d

/-! ## Margin scans (R288, R289) -/

/-- The channel holds a migrating rank. -/
def Dev.migratesOn (d : Dev) (c : Nat) : Bool :=
  d.is P.MIG_ACTIVE && (decide (d.rd P.MIG_SRC % 8 = c) || decide (d.rd P.MIG_DST % 8 = c))

/-- The checks of MARGIN_SCAN. -/
def scanCheck (d : Dev) (r : Req) : Option Answer :=
  let c := byteAt r.params 0
  let lane := byteAt r.params 1
  let type := byteAt r.params 2
  match lengthIs 4 r with
  | some a => some a
  | none =>
    if 8 ≤ c || !decide (lane ∈ [0, 1, 0xFF]) || 4 ≤ type then some badValue
    else if 2 ≤ type && !decide (d.rd P.MEM_MODE ∈ [2, 3]) then some (refuse .denied 0x3001)
    else if (d.mem.scans.get? c).isSome then some (refuse .busy 0x3002)
    else if d.is P.FSP_BUSY then some (refuse .busy 0x3003)
    else if d.migratesOn c then some (refuse .busy 0x3004)
    else none

/-- MARGIN_SCAN. -/
def marginScan (r : Req) (d : Dev) : Dev :=
  let op : Op := { code := 0x4300, cls := .service }
  serve op scanCheck
    (fun d r =>
      let c := byteAt r.params 0
      let lane := byteAt r.params 1
      let s : Scan := ⟨byteAt r.params 2, if lane = 1 then 1 else 0, if lane = 0xFF then [1] else [], [], false, ticket op r⟩
      ({ d with mem := { d.mem with scans := d.mem.scans.put c s } }.refreshMode, some okay)) r d

/-- MARGIN_ABORT: the scan of a channel stops at its next step. -/
def marginAbort (r : Req) (d : Dev) : Dev :=
  serve { code := 0x4301, cls := .service }
    (fun d r => match oneByte 8 r with
      | some a => some a
      | none => if (d.mem.scans.get? (byteAt r.params 0)).isNone then some (refuse .denied 0x3007) else none)
    (fun d r =>
      let c := byteAt r.params 0
      match d.mem.scans.get? c with
      | some s => ({ d with mem := { d.mem with scans := d.mem.scans.put c { s with stopping := true } } }, some okay)
      | none => (d, some okay)) r d

/-- MARGIN_SCAN_STEP: a step of a channel's scan ends with a count of errors. -/
def marginScanStep (c errors : Nat) (d : Dev) : Dev :=
  match d.mem.scans.get? c with
  | none => d
  | some s =>
    let s := { s with counts := snoc s.counts errors }
    let put (d : Dev) (s : Scan) : Dev := { d with mem := { d.mem with scans := d.mem.scans.put c s } }
    if s.stopping then (put d s).abortScan c
    else if s.counts.length < (scanRange s.type).2 then put d s
    else
      let d := d.writeMargin c s
      match s.todo with
      | l :: t => put d { s with lane := l, todo := t, counts := [] }
      | [] => (d.dropScan c).complete s.ticket .ok

/-! ## Refresh, temperature, power-down (R278 to R283) -/

/-- REFRESH_DUE: a bank's refresh interval passes. A busy bank owes the refresh while the temperature and REF_POSTPONE
allow it; in an idle bank it is issued, with what the bank owes. While the rank pays off at a shortened interval what it owes is paid apart
from this (R280). -/
def refreshDue (n b : Nat) (busy : Bool) (d : Dev) : Dev :=
  if !d.alive || d.is P.SR [n] || 16 ≤ n || 8 ≤ b then d
  else
    let d := d.settleOwed n
    let k := 8 * n + b
    let owed := d.mem.owed.get k 0
    let limit := if d.rd P.MR4_CODE [n] ≤ 3 then d.rd P.REF_POSTPONE else 0
    let d := d.wr P.PD [n] 0
    let o := if (d.mem.paying.get? n).isSome then d.mem.owed
      else if busy then (if owed < limit then d.mem.owed.put k (owed + 1) else d.mem.owed)
      else d.mem.owed.del k
    { d with mem := { d.mem with owed := o } }.refreshOwed n

/-- MR4_POLL: mode register 4 of each rank is read. -/
def mr4Poll (codes : List Nat) (d : Dev) : Dev :=
  if !d.alive || d.dozing then d
  else d.pollAll codes

/-- ZQ_CALIBRATION: a channel's ranks are calibrated one at a time; nothing that a host can see changes (R282). -/
def zqCalibration (_ : Nat) (d : Dev) : Dev := d

/-- A rank has something to do: it owes refreshes, a migration copies from it or to it, or a scan runs on its channel (R278, R283, R289,
R293). -/
def Dev.rankBusy (d : Dev) (n : Nat) : Bool :=
  ((List.range 8).any fun b => d.mem.owed.get (8 * n + b) 0 ≠ 0) ||
  (d.is P.MIG_ACTIVE && d.awake && decide (d.rd P.MIG_SRC = n ∨ d.rd P.MIG_DST = n)) || (d.mem.scans.get? (n % 8)).isSome

/-- POWER_DOWN_ENTRY: a rank idle for PD_IDLE enters power-down (R283); one that has something to do does not. -/
def powerDownEntry (n : Nat) (d : Dev) : Dev :=
  if !d.alive || d.is P.SR [n] || 16 ≤ n then d
  else
    let d := d.settleOwed n
    if d.rankBusy n then d else d.wr P.PD [n] 1

/-! ## Errors and migration (R291 to R295) -/

/-- CE_HOUR counts the corrected errors of the running hour. -/
def Dev.countHour (d : Dev) (n : Nat) : Dev :=
  let h := d.clk / sec 3600
  let d := if d.mem.hours.get n 0 = h then d
    else { d with mem := { d.mem with hours := d.mem.hours.put n h } }.wr P.CE_HOUR [n] 0
  d.wr P.CE_HOUR [n] (min 65535 (d.rd P.CE_HOUR [n] + 1))

/-- An uncorrectable read: UE_CNT, UE and its log record (R291). -/
def Dev.countUe (d : Dev) (n : Nat) : Dev :=
  let head := d.rd P.RING_HEAD
  let d := (d.bump P.UE_CNT [n]).setMem 1 n
  if d.rd P.RING_HEAD = head then (d.queueLog (d.record 225 1 (6, n) (d.occOf (.mem 1)) (d.memData (d.rankState n) (d.rankState n)))).1 else d

/-- What follows an uncorrectable error in service mode. -/
def Dev.ueFollows (d : Dev) (n : Nat) : Dev :=
  if d.rd P.MEM_MODE ≠ 1 then d
  else if d.is P.MIG_ACTIVE && decide (d.rd P.MIG_DST = n) then d.abortMigration
  else d.failRank n

/-- What the in-line code makes of an error in a block (R269): an error of one byte is corrected, one of two bytes and a wrong address are
found; of three bytes and more the spec says nothing, and the outcome is free (log 209). -/
def Dev.codeFinds (d : Dev) : DramErr → Option DramErr × Dev
  | .bytes 0 => (none, d)
  | .bytes 1 => (some .corrected, d)
  | .bytes 2 => (some .uncorrectable, d)
  | .bytes _ =>
    let (x, d) := d.draw 3
    (if x = 0 then none else if x = 1 then some .corrected else some .uncorrectable, d)
  | .misplaced => (some .uncorrectable, d)
  | e => (some e, d)

/-- ERR_KIND of an error (Table 8-8). -/
def errKind : DramErr → Nat
  | .corrected => 1
  | .poisoned => 3
  | .parity => 4
  | _ => 2

/-- The error response to a port; a partial write whose read found the error is not performed (R271, R291). -/
def Dev.memFails (d : Dev) (port : Nat) (merge : Bool) : Dev := d.emit (.memError port merge)

/-- DRAM_READ_ERROR: a read at a rank, bank, row and column for a port meets an error. `merge`: it is the read of a partial write's
read-modify-write (R271). -/
def dramReadError (n bank row col port : Nat) (merge : Bool) (e : DramErr) (d : Dev) : Dev :=
  if !d.alive || 16 ≤ n || d.is P.SR [n] then d
  else
    match d.codeFinds e with
    | (none, d) => d.wr P.PD [n] 0
    | (some e, d) =>
      let d := d.wrs [(P.ERR_RANK, [], n), (P.ERR_BANK, [], bank), (P.ERR_ROW, [], row), (P.ERR_KIND, [], errKind e),
        (P.ERR_MODE, [], d.rd P.MEM_MODE), (P.ERR_COL, [], col), (P.ERR_PORT, [], port), (P.PD, [n], 0)]
      match e with
      | .corrected =>
        let d := ((d.bump P.CE_CNT [n]).countHour n).setMem 0 n
        if d.rd P.CE_LIMIT ≤ d.rd P.CE_HOUR [n] then d.failRank n else d
      | .parity => d.setMem 2 n
      | .poisoned => (d.countUe n).memFails port merge
      | .parityTwice => (((d.setMem 2 n).countUe n).ueFollows n).memFails port merge
      | _ => ((d.countUe n).ueFollows n).memFails port merge

/-- MIGRATE_DONE: the running migration ends; it is paused in Doze (R293, R295). -/
def migrateDone (d : Dev) : Dev :=
  if !d.is P.MIG_ACTIVE || !d.awake then d
  else
    let src := d.rd P.MIG_SRC
    let dst := d.rd P.MIG_DST
    let d := match (List.range (d.rd P.N_SVC)).find? fun s => decide (d.rankOf s = src) with
      | some s => d.setSlotRank s dst
      | none => d
    let d := (d.setRank src 4).setRank dst 0
    let d := d.wrs [(P.MIG_ACTIVE, [], 0), (P.MIG_PTR, [], 0xF00000)]
    nextMigration 17 (d.setMem 4 src)

end Sys2Proof.Machine
end

