-- ==== Sys2Proof/Machine/Cores.lean ====
section
/-!
DEFINITION. Sys2Proof/Machine/Cores.lean: admission and control of cores: the limits of R87 and R246, CORE_ENABLE (R89),
CORE_SETTING (R93 to R99), the status opcodes of the fabric, the cores and the pipeline, and their profiles.
-/
namespace Sys2Proof.Machine

/-! ## Admission (R87) -/

/-- Bits per second, times 100, of an enabled stream. -/
def Dev.streamBits (d : Dev) (s : Nat) : Nat :=
  d.width s * d.height s * d.rate s * dtBits (d.dataType s)

/-- The streams of a link that are enabled. -/
def Dev.linkStreams (d : Dev) (l : Nat) : List Nat :=
  [2 * l, 2 * l + 1, 64 + 2 * l, 65 + 2 * l].filter d.streamOn

/-- The virtual channel of a stream. -/
def Dev.vcOf (d : Dev) (s : Nat) : Nat := if isComp s then d.rd P.COMP_VC [coreOf s] else d.rd P.VC [s]

/-- The enabled cores. -/
def Dev.enabledCores (d : Dev) : List Nat := (List.range 64).filter fun k => d.is P.CORE_EN [k]

/-- The limits of R87 in their order, on the device as a request would leave it, for the link of the core it concerns.
The ingest limit of R286 at set point 1 follows them. -/
def Dev.admission (d : Dev) (k : Nat) : Option Answer :=
  let on := d.enabledCores
  let l := k / 2
  let ss := d.linkStreams l
  let vcs := ss.map d.vcOf
  let ingest := (on.map d.pixelRate).sum
  if 160000000000 < ingest then some (refuse .denied 0x2001)
  else if 42000000 < (on.map fun k => d.rd P.WIDTH [k] * d.rd P.HEIGHT [k]).sum then some (refuse .denied 0x2002)
  else if 5 * (ss.map d.streamBits).sum > 4 * ((d.rd P.LANES [l] + 1) * d.rd P.LINK_RATE [l] * 1000000000) then
    some (refuse .denied 0x2003)
  else if hasRepeat vcs then some (refuse .badParam 0x2004)
  else if d.is P.FSP_CUR && d.ingestHigh then some (refuse .denied 0x3005)
  else none

/-- A core's rates raised to the higher of the present and the new ones, as R95 checks them. -/
def Dev.withRates (d : Dev) (k rate comp : Nat) : Dev :=
  (d.raiseTo P.FRAME_RATE [k] rate).raiseTo P.COMP_RATE [k] comp

/-- Bytes of the rings of the enabled taps. -/
def Dev.ringBytes (d : Dev) : Nat := (((List.range 16).filter fun t => d.is P.TAP_EN [t]).map fun t => 2 ^ d.rd P.TAP_SIZE [t]).sum

/-- Bytes of DRAM in service: the 15/16 of each rank's 1 GiB that ECC leaves (R266). -/
def Dev.dramBytes (d : Dev) : Nat := d.rd P.N_SVC * 960 * 1048576

/-- The tables of the enabled cores and the rings fit in DRAM, 76 bytes for each resident pixel (chapter 8). -/
def Dev.dramHolds (d : Dev) : Bool :=
  decide (76 * (d.enabledCores.map fun k => d.rd P.WIDTH [k] * d.rd P.HEIGHT [k]).sum + d.ringBytes ≤ d.dramBytes)

/-! ## Binding (R246) -/

/-- The patch of which a core sees the most cells, the lowest of several. -/
def Dev.mostSeen (d : Dev) (k : Nat) : Option Nat :=
  let m := (d.mapped k).map fun c => (c.1, c.2.1)
  let cells (p : Nat) : Nat := ((m.filter fun c => decide (c.1 = p)).eraseDups).length
  let ps := (m.map (·.1)).eraseDups
  let top := (ps.map cells).foldl max 0
  (ps.filter fun p => decide (cells p = top)).min?

/-- The cluster that the Cutter binds a core to, among clusters that hold it (R246): the region of the patch's context
first, then the lowest share of capacity, then the lowest number. -/
def Dev.chooseCluster (d : Dev) (k : Nat) : Option Nat :=
  let need := d.pixelRate k
  let ok := (List.range 16).filter fun c => d.hasRoom c need
  let home := (d.mostSeen k).bind fun p => (d.slot? p).map fun s => d.slotRegion s.num
  let near := ok.filter fun c => decide (home = some (c / 4))
  let l := if near.isEmpty then ok else near
  l.foldl (fun (b : Option Nat) c =>
    match b with
    | none => some c
    | some x => if (d.claimedLoad c + need) * d.capacity x < (d.claimedLoad x + need) * d.capacity c then some c else some x) none

/-! ## Enable and disable (R89) -/

/-- RID of a core's stored grid in area 10. -/
def gridRid (k : Nat) : Nat := 0x0A0000 + k

/-- The stored grid of a core read at enable (R362), unless a newer one waits: a damaged record is invalid and REG_STATE
becomes 0 (R364). -/
def Dev.loadGrid (d : Dev) (k : Nat) : Dev :=
  if (d.fus.newGrid.get? k).isSome || d.nv.bulkQ.any fun j => decide (j.why = .grid k) then d
  else
    let d := d.bulkRead (gridRid k)
    match d.nv.bulkRec (gridRid k) with
    | none => d
    | some g =>
      if g.damaged then d.wr P.REG_STATE [k] 0
      else
        let d := d.tblWrite (0x2300 + k) 0 g.data
        let d := if d.rd P.REG_STATE [k] = 0 then d.wr P.REG_STATE [k] 1 else d
        d.wr P.NODES_VALID [k] (d.validNodes k)

/-- The checks of CORE_ENABLE for a core that is off, in the order the chapters name them (log 33). Profile 0 is written as
generation 1, so the limits are checked against the higher of the present rates and its own (R95). -/
def Dev.enableCheck (d : Dev) (k : Nat) : Option Answer :=
  let p := d.tblRead 0x2010 0 8
  let e := (d.put P.CORE_EN [k] true).withRates k (leAt p 2 2) (leAt p 4 2)
  let shared (r : Row) : Bool :=
    d.rd r [k] ≠ 0x7F && d.enabledCores.any fun j => decide (d.rd r [j] = d.rd r [k])
  if !d.bulkUp then some (refuse .denied 0x3305)
  else if (d.nv.bulkRec (factoryRid k)).isNone then some (refuse .denied 0x3306)
  else
    match e.admission k with
    | some a => some a
    | none =>
      if shared P.SHUT_CH || shared P.FLAG_CH then some (refuse .denied 0x2206)
      else if !e.dramHolds then some (refuse .denied 0x3008)
      else if ((d.loadGrid k).chooseCluster k).isNone then some (refuse .denied 0x240B)
      else none

/-- The bus writes of the configuring state (R89, R91): addresses and DISEC in I3C mode, then profile 0. DEDUCED (log 53): each
target is assigned its address before any is sent DISEC. -/
def Dev.enableOps (d : Dev) (k : Nat) : List BusOp :=
  let comp := d.is P.COMP_EN [k]
  let start := if d.is P.BUS_MODE [k / 8] then
      [.setdasa false] ++ (if comp then [.setdasa true] else []) ++ [.disec false] ++ (if comp then [.disec true] else [])
    else []
  start ++ profileOps (d.tblRead 0x2010 0 264)

/-- The core's tables are rebuilt whole: no block of them waits for repair or has failed it (R115). -/
def Dev.dropRepairs (d : Dev) (k : Nat) : Dev :=
  { d with pipe := { d.pipe with bad := d.pipe.bad.filter (fun q => decide (q.block.core ≠ k)), dead := d.pipe.dead.filter fun b => decide (b.core ≠ k) } }

/-- A core enabled: bound, its tables written, and generation 1 begun (R89, R93, R171, R246). -/
def Dev.enableCore (d : Dev) (k : Nat) : Dev :=
  let d := d.loadGrid k
  let cluster := (d.chooseCluster k).getD 0
  let p := d.tblRead 0x2010 0 8
  let clear (s : Strm) : Strm := { s with stamps := [], excess := false, calm := 0, temps := [], fpa := 0, hous := 0 }
  let d := d.put P.CORE_EN [k] true
  let d : Dev := { d with pipe := { d.pipe with rebind := d.pipe.rebind.put k cluster } }
  let d := ((d.frameBoundary k).loadCore k).dropRepairs k
  let d := d.setStrm k (clear (d.strm k))
  let d := d.setStrm (64 + k) (clear (d.strm (64 + k)))
  let d := d.wrs [(P.RATE_EXC, [k], 0), (P.MEAS_RATE, [k], 0), (P.SET_GEN_ISSUED, [k], 1), (P.SET_GEN_APPLIED, [k], 0),
    (P.SET_PROFILE, [k], 0), (P.DRIFT_RATE, [k], 0)]
  let d := d.setSetting k ⟨[⟨1, d.enableOps k, leAt p 2 2, leAt p 4 2, true, d.clk, none⟩], 0, [], false, false⟩
  let d := d.coreState k 1
  let ch := d.rd P.SHUT_CH [k]
  let d := if ch < 64 then d.releaseCh ch else d
  completeEmpty 8 k d.refreshLoads

/-- The changes that are pending are lost with a disable: those that were deferred end in a fault. -/
def Dev.dropChanges (d : Dev) (k : Nat) : Dev :=
  let x := d.setting k
  let d := d.setSetting k ⟨[], 0, [], false, false⟩
  d.each x.queue fun c d => d.changeDone c .fault

/-- A disable takes effect (R89, R172): later packets of the core's streams are discarded and counted. DESIGN CHOICE (log 54):
an open companion frame, whose packets are discarded from now on, is closed at once and tagged NO_FE. The core's views leave the slots held here: it is a view no longer, and joins anew when it is enabled (R189, R193). -/
def Dev.takeDisable (d : Dev) (k : Nat) : Dev :=
  let d := d.put P.CORE_EN [k] false
  let d := (d.dropChanges k).coreState k 0
  let d := d.closeFrame (64 + k) true
  let d := d.each ((d.strm (64 + k)).frames.filter fun f => decide (d.height (64 + k) ≤ f.left)) fun f d => d.frameDone (64 + k) f
  ((d.keepViews fun _ v => !decide (v.dev = d.addr ∧ v.core = k)).calDisable k).refreshLoads.frameBoundary k

/-- CORE_ENABLE (R89). -/
def coreEnableReq (r : Req) (d : Dev) : Dev :=
  serve { code := 0x0202, cls := .operator }
    (fun d r =>
      let k := byteAt r.params 0
      let en := byteAt r.params 1
      match lengthIs 2 r with
      | some a => some a
      | none =>
        if 64 ≤ k || 2 ≤ en then some badValue
        else if en = 0 then none
        else if (d.setting k).disabling then some (refuse .busy 0x2009)
        else if d.is P.CORE_EN [k] then none
        else d.enableCheck k)
    (fun d r =>
      let k := byteAt r.params 0
      if byteAt r.params 1 = 1 then
        if d.is P.CORE_EN [k] then (d, some okay)
        else if (d.nv.bulkRec (factoryRid k)).any (·.damaged) then
          (d.bulkRead (factoryRid k), some (refuse .fault 0x3307))
        else ((d.enableCore k).wrote 0x20, some okay)
      else if !d.is P.CORE_EN [k] then (d, some okay)
      else if (d.strm k).openFrame.isSome then
        ((d.setSetting k { d.setting k with disabling := true }).wrote 0x20, some okay)
      else ((d.takeDisable k).wrote 0x20, some okay)) r d

/-- CORE_ENABLE with enable = 1. -/
def coreEnable (r : Req) (d : Dev) : Dev := coreEnableReq (withByte 1 1 r) d

/-- CORE_DISABLE: CORE_ENABLE with enable = 0. -/
def coreDisable (r : Req) (d : Dev) : Dev := coreEnableReq (withByte 1 0 r) d

/-! ## Setting changes (R93 to R99) -/

/-- The refusals of a setting change of a core to new rates; R87 limits a change that raises a rate. -/
def Dev.changeCheck (d : Dev) (k rate comp : Nat) : Option Answer :=
  if !d.is P.CORE_EN [k] then some (refuse .denied 0x2008)
  else if 8 ≤ (d.setting k).queue.length then some (refuse .overrun 0x2006)
  else if rate ≤ d.rd P.FRAME_RATE [k] ∧ comp ≤ d.rd P.COMP_RATE [k] then none
  else (d.withRates k rate comp).admission k

/-- A setting change requested (R93, R97): its generation, and whether the gather in hand defers it. -/
def Dev.requestChange (d : Dev) (k : Nat) (ops : List BusOp) (rate comp profile : Nat) (t : Ticket) : Dev × Nat × Bool :=
  if d.gathering k then
    let (g, d) := d.addChange k ops rate comp profile (some t)
    (d.gatherAbort k, g, true)
  else
    let (g, d) := d.addChange k ops rate comp profile none
    (d, g, false)

/-- CORE_SETTING (R93, R98). -/
def coreSetting (r : Req) (d : Dev) : Dev :=
  let op : Op := { code := 0x0201, cls := .operator }
  serve op
    (fun d r =>
      let k := byteAt r.params 0
      let p := byteAt r.params 1
      match lengthIs 2 r with
      | some a => some a
      | none =>
        if 64 ≤ k || 16 ≤ p then some badValue
        else
          let t := d.tblRead (0x2010 + p) 0 8
          if byteAt t 0 = 0 && leAt t 2 2 = 0 && leAt t 4 2 = 0 then some badValue
          else d.changeCheck k (leAt t 2 2) (leAt t 4 2))
    (fun d r =>
      let k := byteAt r.params 0
      let p := byteAt r.params 1
      let t := d.tblRead (0x2010 + p) 0 264
      let (d, g, late) := d.requestChange k (profileOps t) (leAt t 2 2) (leAt t 4 2) p (ticket op r)
      let d := d.wrote 0x20
      (d, some (if late then ⟨.deferred, 0x2007, leBytes 2 g⟩ else okWith (leBytes 2 g)))) r d

/-- The write that DIRECT_ADDR and DIRECT_DATA describe (R99). -/
def Dev.directOp (d : Dev) : BusOp :=
  let n := d.rd P.D_LEN + 1
  let data := (leBytes 4 (d.rd P.DIRECT_DATA)).take n
  .write (d.is P.D_TARGET) (d.is P.D_VERIFY) (d.is P.D_REG16) (d.rd P.D_REG) (if d.is P.D_MSB then data.reverse else data)

/-! ## Status (Table 2-10; layouts: log 34) -/

/-- Words of consecutive parameters. -/
def Dev.wordsAt (d : Dev) (a n : Nat) : List Byte := (List.range n).flatMap fun i => leBytes 4 (d.word (a + i))

/-- An occurrence word as a host reads it: the counter, and in bit 16 the flag as it stands (R31). -/
def Dev.occWord (d : Dev) (f : Flag) : Nat := d.occOf f + (if d.flag f then 65536 else 0)

/-- FABRIC_STATUS: LANE_RATE of each region, CL_LOAD of each cluster, the fabric flags, their occurrence words, and
RATE_PROFILE. -/
def fabricStatus (r : Req) (d : Dev) : Dev :=
  serve { code := 0x0100, cls := .open_ } (fun _ => lengthIs 0)
    (report fun d _ => okWith (
      ((List.range 4).flatMap fun n => leBytes 2 (d.rd P.LANE_RATE [n])) ++
      ((List.range 16).flatMap fun c => leBytes 2 (d.rd P.CL_LOAD [c])) ++
      d.wordsAt 0x10001B 1 ++
      (([.rateLow 0, .rateLow 1, .rateLow 2, .rateLow 3, .bridgeErr 0, .bridgeErr 1] : List Flag).flatMap fun f => leBytes 4 (d.occWord f)) ++ leBytes 1 (d.rd P.RATE_PROFILE) ++ [0, 0, 0])) r d

/-- RATE_MARGIN and RATE_WINDOW of a profile (Table 1-6). -/
def rateProfile (p : Nat) : Nat × Nat := ([(16, 250), (8, 100), (32, 500)] : List (Nat × Nat)).getD p (16, 250)

/-- FABRIC_PROFILE (R40). -/
def fabricProfile (r : Req) (d : Dev) : Dev :=
  serve { code := 0x0101, cls := .operator, bcast := true } (fun _ => oneByte 3)
    (fun d r =>
      let p := byteAt r.params 0
      let (m, w) := rateProfile p
      let d := (d.wrs [(P.RATE_MARGIN, [], m), (P.RATE_WINDOW, [], w), (P.RATE_PROFILE, [], p)]).refreshLoads
      (d.wrote 0x10, some okay)) r d

/-- CORE_STATUS: the core's link and bus words and their counters, then the core's parameter block. -/
def coreStatus (r : Req) (d : Dev) : Dev :=
  serve { code := 0x0200, cls := .open_ } (fun _ => oneByte 64)
    (report fun d r =>
      let k := byteAt r.params 0
      let l := k / 2
      let b := k / 8
      okWith (d.wordsAt (0x200010 + l) 1 ++ d.wordsAt (0x200030 + b) 1 ++ d.wordsAt (0x200038 + b) 1 ++
        d.wordsAt (0x200040 + l) 1 ++ d.wordsAt (0x200060 + l) 1 ++ d.wordsAt (0x200080 + l) 1 ++
        d.wordsAt (0x200100 + 16 * k) 16)) r d

/-- FRAME_STATS (R100): the stream's latest whole statistics record; zeros before the first. -/
def frameStats (r : Req) (d : Dev) : Dev :=
  serve { code := 0x0203, cls := .open_ } (fun _ => oneByte 128)
    (report fun d r => okWith (fitTo 304 0 (d.strm (byteAt r.params 0)).stats)) r d

/-- A word of a core's pipeline block, with CLASS_PEND as it stands (Table 4-10). -/
def Dev.pipeWord (d : Dev) (k i : Nat) : Nat :=
  if i = 13 then d.rd P.REC_ERR_CNT [k] + 65536 * (d.pipe.classQ.get k []).length else d.word (0x210400 + 16 * k + i)

/-- PIPE_STATUS (R138): the 16 values of the core's pipeline block. -/
def pipeStatus (r : Req) (d : Dev) : Dev :=
  serve { code := 0x0300, cls := .open_ } (fun _ => oneByte 64)
    (report fun d r => okWith ((List.range 16).flatMap fun i => leBytes 4 (d.pipeWord (byteAt r.params 0) i))) r d

/-- PIPE_PROFILE (R138): the six fields of a profile, for a core or for every core. -/
def pipeProfile (r : Req) (d : Dev) : Dev :=
  serve { code := 0x0301, cls := .operator }
    (fun _ r =>
      match lengthIs 2 r with
      | some a => some a
      | none => if (64 ≤ byteAt r.params 0 && byteAt r.params 0 ≠ 0xFF) || 8 ≤ byteAt r.params 1 then some badValue else none)
    (fun d r =>
      let k := byteAt r.params 0
      let p := byteAt r.params 1
      let t := d.tblRead (0x21C0 + p) 0 16
      let d := d.each (if k = 0xFF then List.range 64 else [k]) fun k d =>
        d.wrs [(P.TNR_K, [k], byteAt t 0), (P.ALARM_RUN, [k], byteAt t 1), (P.LIVE_EN, [k], byteAt t 2 % 2),
          (P.ALARM_DMG, [k], byteAt t 2 / 2 % 2), (P.TNR_GUARD, [k], leAt t 4 2), (P.SNR_SIGMA, [k], leAt t 6 2),
          (P.NOISE_LIM, [k], leAt t 8 2), (P.PIPE_PROF, [k], p)]
      (d.wrote 0x21, some okay)) r d

end Sys2Proof.Machine
end

