-- ==== Sys2Proof/Machine/Taps.lean ====
section
/-!
DEFINITION. Sys2Proof/Machine/Taps.lean: raw taps as requests set them and the uplink streamer drains them (R132 to R137).
-/
namespace Sys2Proof.Machine

/-! ## Rates and rings (R135) -/

/-- A tap's state with nothing recorded. -/
def Tap.fresh : Tap := ⟨KMap.empty, 0, 0, [], 0⟩

/-- The stream a tap takes. -/
def Dev.tapStreamOf (d : Dev) (t : Nat) : Nat := d.rd P.CORE [t] + (if d.is P.COMP [t] then 64 else 0)

/-- Words of a line record of a stream at a boundary (R133). -/
def Dev.lineWords (d : Dev) (s b : Nat) : Nat := (8 + d.width s * (if b = 0 then 2 else 4) + 7) / 8

/-- Words of the records of a frame of a stream at a boundary, pad records and telemetry apart. -/
def Dev.frameWords (d : Dev) (s b : Nat) (shut : Bool) : List Nat :=
  6 :: (if b = 15 || (shut && 1 < b) then [] else List.replicate (d.height s) (d.lineWords s b))

/-- A tap's rate, in bytes per 100 s. -/
def Dev.tapLoad (d : Dev) (t : Nat) : Nat :=
  let s := d.tapStreamOf t
  8 * (d.frameWords s (d.rd P.BOUNDARY [t]) false).sum * d.rate s / (d.rd P.DECIM [t] + 1)

/-- The enabled taps. -/
def Dev.tapsOn (d : Dev) : List Nat := (List.range 16).filter fun t => d.is P.TAP_EN [t]

/-- TAP_RATE and TAP_TOTAL follow the taps and the rates. -/
def Dev.refreshTaps (d : Dev) : Dev :=
  let e := d.each (List.range 16) fun t d =>
    d.wr P.TAP_RATE [t] (if d.is P.TAP_EN [t] then min 65535 (d.tapLoad t / 100000000) else 0)
  e.wr P.TAP_TOTAL [] (min 65535 ((d.tapsOn.map d.tapLoad).sum / 100000000))

/-- Why a tap, with its fields as they would stand, cannot be enabled (R132, R135). -/
def Dev.tapEnableCheck (d : Dev) (t : Nat) : Option Answer :=
  let e := d.put P.TAP_EN [t] true
  if 100000000000 < (e.tapsOn.map e.tapLoad).sum then some (refuse .denied 0x2104)
  else if !e.dramHolds then some (refuse .denied 0x2106)
  else none

/-- A tap enabled: both indices at 0 (R135). -/
def Dev.enableTap (d : Dev) (t : Nat) : Dev :=
  let d := d.wrs [(P.TAP_EN, [t], 1), (P.TAP_PROD, [t], 0), (P.TAP_CONS, [t], 0)]
  { d with pipe := { d.pipe with taps := d.pipe.taps.put t { Tap.fresh with since := d.clk } } }.refreshTaps

/-- A tap takes none of the frames in hand: it takes no frame whose FS came before it is enabled again (R132), and a ring
never holds part of a frame (R134). -/
def Dev.dropTap (d : Dev) (t : Nat) : Dev :=
  d.each d.ing.strms.keys fun s d =>
    let x := d.strm s
    d.setStrm s { x with frames := x.frames.map fun f => { f with taps := f.taps.filter (· ≠ t) } }

/-- A tap disabled, which stops any stream of it (R137). -/
def Dev.disableTap (d : Dev) (t : Nat) : Dev :=
  (((d.dropTap t).put P.TAP_EN [t] false).put P.STREAMING [t] false).refreshTaps

/-- The boundary a field names exists, and a companion stream takes it (R132). -/
def boundaryOk (b : Nat) (comp : Bool) : Bool := decide (b ≤ 8 ∨ b = 15) && (!comp || decide (b = 0 ∨ b = 15))

/-! ## TAP_SET and TAP_STREAM (R137) -/

/-- The fields of a TAP_SET but for EN. -/
def Dev.tapFields (d : Dev) (p : List Byte) : Dev :=
  let t := byteAt p 0
  d.wrs [(P.BOUNDARY, [t], byteAt p 1), (P.CORE, [t], byteAt p 2 % 64), (P.COMP, [t], byteAt p 2 / 64 % 2),
    (P.DECIM, [t], byteAt p 3), (P.TAP_SIZE, [t], byteAt p 4), (P.NOSHUT, [t], byteAt p 5 / 2 % 2)]

/-- TAP_SET. -/
def tapSet (r : Req) (d : Dev) : Dev :=
  serve { code := 0x4100, cls := .operator }
    (fun d r =>
      let p := r.params
      let t := byteAt p 0
      let en := bitOf (byteAt p 5) 0
      match lengthIs 8 r with
      | some a => some a
      | none =>
        if 16 ≤ t || !boundaryOk (byteAt p 1) (bitOf (byteAt p 2) 6) || byteAt p 4 < 16 || 30 < byteAt p 4 then some badValue
        else if en && d.is P.TAP_EN [t] then some (refuse .denied 0x2105)
        else if en then (d.tapFields p).tapEnableCheck t
        else none)
    (fun d r =>
      let t := byteAt r.params 0
      let d := if d.is P.TAP_EN [t] then d.disableTap t else d
      let d := d.tapFields r.params
      let d := if bitOf (byteAt r.params 5) 0 then d.enableTap t else d
      (d.wrote 0x21, some okay)) r d

/-- TAP_STREAM (R136, R137): uplink 0xFF stops the stream. -/
def tapStreamReq (r : Req) (d : Dev) : Dev :=
  serve { code := 0x4101, cls := .operator }
    (fun d r =>
      let t := byteAt r.params 0
      let u := byteAt r.params 1
      match lengthIs 24 r with
      | some a => some a
      | none =>
        if 16 ≤ t || (4 ≤ u && u ≠ 0xFF) then some badValue
        else if !d.is P.TAP_EN [t] || (u ≠ 0xFF && !d.is P.UL_EN [u]) then some (refuse .denied 0x210A)
        else none)
    (fun d r =>
      let p := r.params
      let t := byteAt p 0
      let u := byteAt p 1
      if u = 0xFF then ((d.put P.STREAMING [t] false).wrote 0x21, some okay)
      else
        let v6 := bitOf (byteAt p 2) 0
        let addr := if v6 then beNat ((p.drop 8).take 16) else beNat ((p.drop 8).take 4)
        let d := if d.is P.STREAMING [t] then d
          else { d with pipe := { d.pipe with taps := d.pipe.taps.upd t Tap.fresh fun x => { x with seq := 0 } } }
        let d := d.wrs [(P.ST_UPLINK, [t], u), (P.ST_V6, [t], if v6 then 1 else 0), (P.ST_PORT, [t], leAt p 4 2),
          (P.STREAMING, [t], 1)]
        let d := d.each (List.range 4) fun w d => d.wr P.ST_ADDR [t, w] (addr / 2 ^ (32 * w))
        (d.wrote 0x21, some okay)) r d

/-- TAP_STREAM to an uplink. -/
def tapStream (r : Req) (d : Dev) : Dev := tapStreamReq r d

/-- TAP_STREAM with uplink 0xFF. -/
def tapStreamStop (r : Req) (d : Dev) : Dev := tapStreamReq (withByte 1 0xFF r) d

/-! ## TAP_DATAGRAM (R136) -/

/-- The UDP port that the streamer's datagrams leave from. -/
def tapPort : Nat := 47641

/-- `n` words of a ring from an index. -/
def Dev.ringRead (d : Dev) (t at_ n : Nat) : List Byte :=
  let x := d.pipe.taps.get t Tap.fresh
  let size := d.ringWords t
  (List.range n).flatMap fun i => fitTo 8 0 (x.ring.get ((at_ + i) % size) [])

/-- TAP_DATAGRAM: the streamer sends the next ring data of a tap, whole words up to the end of the ring. -/
def tapDatagram (t : Nat) (d : Dev) : Dev :=
  let u := d.rd P.ST_UPLINK [t]
  let size := d.ringWords t
  let prod := d.rd P.TAP_PROD [t]
  let cons := d.rd P.TAP_CONS [t]
  if !d.is P.STREAMING [t] || 16 ≤ t || prod = cons || !d.uplinkOn u || d.kcp.paused.get u 0 ≠ 0 then d
  else
    let n := min 178 (if cons < prod then prod - cons else size - cons)
    let x := d.pipe.taps.get t Tap.fresh
    let body := d.ringRead t cons n
    let head := leBytes 1 1 ++ leBytes 1 t ++ [0, 0] ++ leBytes 4 x.seq ++ leBytes 4 cons ++ leBytes 2 body.length ++ [0, 0]
    let addr := ((List.range 4).map fun w => d.rd P.ST_ADDR [t, w] * 2 ^ (32 * w)).sum
    let d := d.emit (.datagram u (d.is P.ST_V6 [t]) addr (d.rd P.ST_PORT [t]) tapPort (head ++ body))
    let d := d.wr P.TAP_CONS [t] ((cons + n) % size)
    { d with pipe := { d.pipe with taps := d.pipe.taps.put t { x with seq := (x.seq + 1) % 2 ^ 32 } } }

end Sys2Proof.Machine
end

