-- ==== Sys2Proof/Machine/Array.lean ====
section
/-!
DEFINITION. Sys2Proof/Machine/Array.lean: what a device knows and does as one of an array: link-state advertisements and
the time root (R226, R259), loss (R230), candidates and directories (R231 to R233), commits and handover (R234 to R244).
-/
namespace Sys2Proof.Machine

/-- DATA of a placement event (Table 13-3). -/
def plcData (patch epoch addr reason uid : Nat) : List Byte :=
  leBytes 4 patch ++ leBytes 4 epoch ++ leBytes 2 addr ++ leBytes 1 reason ++ leBytes 1 0 ++ leBytes 8 uid

/-- A flag of the placement group set. -/
def Dev.setPlc (d : Dev) (n : Nat) (data : List Byte := []) (u : Unit' := noUnit) : Dev := d.set (.plc n) u data

/-! ## The time root (R259) -/

/-- Rank of a dataset in the dataset comparison of IEEE 1588-2019, lowest best; the same for one grandmaster. -/
def offerRank (o : Offer) : Nat :=
  ((((o.prio1 * 2 ^ 8 + o.cls) * 2 ^ 8 + o.acc) * 2 ^ 16 + o.var) * 2 ^ 8 + o.prio2) * 2 ^ 64 + o.gm

/-- One offer is better than another: the dataset, then stepsRemoved, then the lower chain address. -/
def betterOffer (a b : Nat × Offer) : Bool :=
  if offerRank a.2 = offerRank b.2 then decide (a.2.steps < b.2.steps ∨ (a.2.steps = b.2.steps ∧ a.1 < b.1))
  else decide (offerRank a.2 < offerRank b.2)

/-- The best of a list of offers. -/
def bestOffer (l : List (Nat × Offer)) : Option (Nat × Offer) :=
  l.foldl (fun (b : Option (Nat × Offer)) a => match b with
    | none => some a
    | some x => if betterOffer a x then some a else some x) none

/-- PTP of an uplink. -/
def Dev.ptp (d : Dev) (u : Nat) : Ptp := d.plc.ptp.get u ⟨none, none, none, none, (false, 0), 0⟩

/-- PTP of an uplink changed. -/
def Dev.setPtp (d : Dev) (u : Nat) (x : Ptp) : Dev := { d with plc := { d.plc with ptp := d.plc.ptp.put u x } }

/-- An uplink takes time: PTP_UL_EN is set and the uplink is locked. -/
def Dev.ptpOn (d : Dev) (u : Nat) : Bool := bitOf (d.rd P.PTP_UL_EN) u && d.uplinkOn u

/-- The uplink whose grandmaster the device selects, with its dataset. -/
def Dev.ownOffer (d : Dev) : Option (Nat × Offer) :=
  bestOffer ((List.range 4).filterMap fun u => if d.ptpOn u then ((d.ptp u).gm).map fun o => (u, o) else none)

/-- A device as a candidate for the time root: 2 ^ 64 × address + UID. -/
def rootKey (addr uid : Nat) : Nat := 2 ^ 64 * addr + uid % 2 ^ 64

/-- The offers of the array, by device. An unaddressed device, whose address reads 0x3FF, offers too. -/
def Dev.offers (d : Dev) : List (Nat × Offer) :=
  (match d.ownOffer with | some o => [(rootKey d.addr d.uid, o.2)] | none => []) ++
  d.plc.topo.vals.filterMap fun l => l.offer.map fun o => (rootKey l.addr l.uid, o)

/-- The time root: the best offer, or the lowest-addressed running device. -/
def Dev.timeRoot (d : Dev) : Option Nat :=
  match bestOffer d.offers with
  | some o => some o.1
  | none =>
    ((if d.addressed && decide (d.meshState ∈ [1, 2]) then [rootKey d.addr d.uid] else []) ++
      (d.plc.topo.vals.filter fun l => decide (l.state ∈ [1, 2] ∧ l.addr ≠ 0x3FF)).map fun l => rootKey l.addr l.uid).min?

/-- The neighbour on a link has a path to an address that does not lead through this device (R260). -/
def Dev.leadsTo (d : Dev) (a m : Nat) : Bool :=
  (d.spread 1024 [a] [(a, 0), (d.addr, 0)]).any fun p => decide (p.1 = d.rd P.NEIGH [m] ∧ p.1 ≠ d.addr)

/-- The link whose neighbour gives the time: of those with time and a path to the root, the fewest hops to the root, then the lowest link
number. The path to an unaddressed root is not looked for, since an advertisement names neighbours by their addresses (log 13). -/
def Dev.timeParent (d : Dev) : Option Nat :=
  let path (m : Nat) : Bool := match d.timeRoot with
    | some r => decide (r / 2 ^ 64 = 0x3FF) || d.leadsTo (r / 2 ^ 64) m
    | none => true
  let l := d.upLinks.filter fun m => decide ((d.link m).hops ≠ 0xFF) && path m
  let best := (l.map fun m => (d.link m).hops).foldl min 0xFF
  l.find? fun m => decide ((d.link m).hops = best)

/-- TIME_SRC, TIME_HOPS and ROOT_ADDR. -/
def Dev.setTime (d : Dev) (src hops root : Nat) : Dev :=
  let d := d.wrs [(P.TIME_SRC, [], src), (P.TIME_HOPS, [], hops), (P.ROOT_ADDR, [], root)]
  if src = 0 then d else { d with plc := { d.plc with timed := true } }

/-- TIME_SRC, TIME_HOPS and ROOT_ADDR follow the root and the parent; a lost path sets TIME_LOST (R260). -/
def Dev.refreshTime (d : Dev) : Dev :=
  let root := d.timeRoot
  let addr := match root with
    | some r => r / 2 ^ 64
    | none => 0x3FF
  if root.any fun r => decide (r % 2 ^ 64 = d.uid % 2 ^ 64) then d.setTime (if d.ownOffer.isSome then 1 else 3) 0 addr
  else match d.timeParent with
    | some m => d.setTime 2 (min 63 ((d.link m).hops + 1)) addr
    | none =>
      let lost := decide (d.rd P.TIME_SRC = 2)
      let d := d.setTime 0 0 0x3FF
      if lost then d.setPlc 12 else d

/-- System time stepped forward by `n` ns. -/
def Dev.stepTime (d : Dev) (n : Nat) : Dev := { d with ofs := d.ofs + n, slew := 0 }

/-- A correction to be slewed; it replaces what was still to be slewed (R261). -/
def Dev.slewTime (d : Dev) (n : Int) : Dev := { d with slew := n }

/-! ## Link-state advertisements (R226) -/

/-- The bytes of an advertisement: the model's own layout, where the spec names its contents alone (log 38). -/
def lsaBytes (l : Lsa) : List Byte :=
  leBytes 8 l.uid ++ leBytes 2 l.addr ++ leBytes 1 l.state ++ leBytes 1 0 ++ leBytes 4 l.seq ++
  (List.range 8).flatMap (fun i => leBytes 2 (l.links.getD i 0x3FF)) ++ leBytes 4 l.since ++
  (match l.offer with
   | none => leBytes 1 0
   | some o => leBytes 1 1 ++ leBytes 1 o.prio1 ++ leBytes 1 o.cls ++ leBytes 1 o.acc ++ leBytes 2 o.var ++ leBytes 1 o.prio2 ++
       leBytes 8 o.gm ++ leBytes 2 o.steps)

/-- The device's own advertisement. -/
def Dev.ownLsa (d : Dev) : Lsa :=
  { uid := d.uid, addr := d.addr, state := d.meshState, seq := d.plc.lsaSeq,
    links := (List.range 8).map fun m => if d.is P.SL_LINK_UP [m] then d.rd P.NEIGH [m] else 0x3FF,
    offer := d.ownOffer.map (·.2), since := d.rd P.ADDR_SINCE }

/-- A new advertisement flooded. -/
def Dev.sendLsa (d : Dev) : Dev :=
  let d : Dev := { d with plc := { d.plc with lsaSeq := (d.plc.lsaSeq + 1) % 2 ^ 32 } }
  d.flood 1 (lsaBytes d.ownLsa)

/-- A link is no longer up: its fields and its flag (R222, R230). -/
def Dev.dropLink (d : Dev) (m : Nat) (locked : Bool) : Dev :=
  let was := d.is P.SL_LINK_UP [m]
  let l := d.link m
  let neigh := d.rd P.NEIGH [m]
  let d := d.setLink m { l with locked := locked, heard := false, hops := 0xFF, delays := [], block := [], mism := 0 }
  let d := d.wrs [(P.SL_LINK_UP, [m], 0), (P.NEIGH, [m], 0x3FF)]
  if was then d.setPlc 4 (plcData 0 0 neigh 0 l.uid) (1, 40 + m) else d

/-! ## Candidates (R231, R232) -/

/-- The patches that a core's grid maps into. -/
def Dev.seenPatches (d : Dev) : List Nat := ((List.range 64).flatMap d.sees).eraseDups

/-- The patches owned here. -/
def Dev.ownedPatches (d : Dev) : List Nat := d.plc.places.keys.filter d.owns

/-- A neighbour holds a higher active generation (R255). -/
def Dev.behind (d : Dev) : Bool :=
  d.upLinks.any fun m => decide (d.rd P.CFG_GEN < leAt (d.link m).block 0 4)

/-- The device is a candidate of a patch: addressed, running, caught up, with a core that maps a pixel into it. -/
def Dev.candidate (d : Dev) (p : Nat) : Bool :=
  d.addressed && decide (d.rd P.DEV_STATE ∈ [1, 2]) && decide (d.rd P.CFG_GEN ≠ 0) && !d.behind && d.seenPatches.contains p

/-- Configured cells of a patch seen by the device's cores. -/
def Dev.cellsSeen (d : Dev) (p : Nat) : Nat :=
  (((List.range 64).flatMap fun k => ((d.mapped k).filter fun m => decide (m.1 = p)).map (·.2.1)).eraseDups).length

/-- The least spacing of two published lead frames of a patch, ns (R192). -/
def Dev.pubGap (d : Dev) : Nat := 1000000000 / d.rd P.OUT_RATE_MAX - 2000000

/-- The spacing of a patch's publications under a lead view's frame period: the lead frames inside the least spacing are skipped
(R192). -/
def Dev.pubPeriod (d : Dev) (period : Nat) : Nat := period * max 1 ((d.pubGap + period - 1) / period)

/-- F_d: cell-views per second of the owned patches. -/
def Dev.cellViews (d : Dev) : Nat :=
  (d.ownedPatches.map fun p =>
    match d.slot? p with
    | none => 0
    | some s =>
      let period := match s.lead.bind fun i => s.views[i]? with | some v => v.period | none => 0
      if period = 0 then 0 else d.patchCells p * s.views.length * 1000000000 / d.pubPeriod period).sum

/-- F_cap: 96 × 10⁶ cell-views per second for each region at 14.0 Mpx/s, scaled by its measured lane rate (log 39). -/
def Dev.fuseCap (d : Dev) : Nat :=
  let rate (r : Nat) : Nat := if d.rd P.LANE_RATE [r] = 0 then 1400 else d.rd P.LANE_RATE [r]
  96000000 * ((List.range 4).map rate).sum / 1400

/-- L_d. -/
def Dev.loadTerm (d : Dev) : Nat := max (1024 * d.cellViews / max 1 d.fuseCap) (1024 * d.fus.slots.keys.length / 4096)

/-- H_d. -/
def Dev.healthPen (d : Dev) : Nat := if d.rd P.DEV_STATE = 2 || d.rd P.RATE_LOW ≠ 0 then 1024 else 0

/-- L_d + H_d. -/
def Dev.score (d : Dev) : Nat := min 65535 (d.loadTerm + d.healthPen)

/-- The device as a candidate of a patch. One without a free context slot reports STATE 0 (log 40). -/
def Dev.ownCand (d : Dev) (p : Nat) : Cand :=
  let full := decide (4096 ≤ d.fus.slots.keys.length) && (d.slot? p).isNone
  ⟨d.addr, d.score, d.cellsSeen p, (d.place p).epoch, if full then 0 else d.meshState⟩

/-! ## Directories (R233) -/

/-- The device is the directory of a patch. -/
def Dev.isDirectory (d : Dev) (p : Nat) : Bool := d.addressed && d.directory p == some d.addr

/-- What the device holds of a patch as its directory. -/
def Dev.dir (d : Dev) (p : Nat) : Directed :=
  let pl := d.place p
  d.plc.dirs.get p ⟨[], pl.epoch, pl.owner, 0, 0x3FF, pl.tc, [], 0, none, false⟩

/-- A directed patch changed. -/
def Dev.setDir (d : Dev) (p : Nat) (x : Directed) : Dev := { d with plc := { d.plc with dirs := d.plc.dirs.put p x } }

/-- A VIEW taken by the directory. -/
def Dev.takeView (d : Dev) (p : Nat) (c : Cand) : Dev :=
  let x := d.dir p
  d.setDir p { x with cands := (x.cands.filter fun y => decide (y.addr ≠ c.addr)) ++ [c], epoch := max x.epoch c.epoch }

/-- A WITHDRAW taken by the directory. -/
def Dev.takeWithdraw (d : Dev) (p a : Nat) : Dev :=
  let x := d.dir p
  let pl := d.place p
  let d := d.setDir p { x with cands := x.cands.filter fun y => decide (y.addr ≠ a) }
  if pl.owner = a then d.setPlace p { pl with withdrawn := true } else d

/-- VIEW for one patch, sent where the device is a candidate. -/
def Dev.sendView (d : Dev) (p : Nat) : Dev :=
  if !d.candidate p then d
  else
    let c := d.ownCand p
    match d.directory p with
    | none => d
    | some a =>
      if a = d.addr then d.takeView p c
      else d.ask 0x4400 a (placeBody p 1 0 0x3FF 0x3FF c.score c.epoch 0 c.cells c.state)

/-- VIEW for every patch seen, while Workroom runs (Table 12-1). -/
def Dev.sendViews (d : Dev) : Dev :=
  if !d.serving then d
  else
    let s := d.score
    let d := d.wrs [(P.SCORE, [], s), (P.H_PEN, [], d.healthPen)]
    { d with plc := { d.plc with viewScore := s } }.each d.seenPatches fun p d => d.sendView p

/-- WITHDRAW for a patch, with REASON 3. -/
def Dev.withdrawFrom (d : Dev) (p : Nat) : Dev :=
  let mine := d.owns p
  let d := match d.directory p with
    | none => d
    | some a => if a = d.addr then d.takeWithdraw p a else d.ask 0x4400 a (placeBody p 2 3 0x3FF 0x3FF 0 0 0 0 0)
  if mine then d.setPlace p { d.place p with withdrawn := true } else d

/-- WITHDRAW for every patch owned or seen (R245). -/
def Dev.withdrawAll (d : Dev) : Dev :=
  d.each (d.ownedPatches ++ d.seenPatches).eraseDups fun p d => d.withdrawFrom p

/-- WITHDRAW for the patches of which the device has ceased to be a candidate since `old` (R231). -/
def Dev.withdrawLost (old d : Dev) : Dev :=
  d.each (old.seenPatches.filter fun p => old.candidate p && !d.candidate p) fun p d => d.withdrawFrom p

/-- VIEWs where a directory has changed since `old` (R231). -/
def Dev.viewsMoved (old d : Dev) : Dev :=
  if d.seenPatches.any fun p => decide (old.directory p ≠ d.directory p) then d.sendViews else d

/-- The region of an owned patch that its slot belongs in (R249): that whose bound cores map the most pixels into it;
without a view here, that of the fewest occupied slots. -/
def Dev.preferredRegion (d : Dev) (p : Nat) : Nat :=
  let px (r : Nat) : Nat := (((d.enabledCores.filter fun k => d.pipe.bind.get? k |>.any fun c => decide (c / 4 = r)).map fun k =>
    ((d.mapped k).filter fun m => decide (m.1 = p)).length)).sum
  let used (r : Nat) : Nat := (d.fus.slots.vals.filter fun s => decide (d.slotRegion s.num = r)).length
  let top := ((List.range 4).map px).foldl max 0
  if top = 0 then
    let low := ((List.range 4).map used).foldl min 4096
    ((List.range 4).find? fun r => decide (used r = low)).getD 0
  else ((List.range 4).find? fun r => decide (px r = top)).getD 0

/-- A view of a slot is RAMPING. -/
def View.ramping (v : View) : Bool := v.cells.vals.any (·.ramping)

/-- A hit came to the patch within ALARM_HOLD. -/
def Dev.alarmed (d : Dev) (s : Slot) : Bool :=
  match s.hitAt with
  | some t => decide (d.clk < t + ms (d.rd P.ALARM_HOLD))
  | none => false

/-- The context slot header (Table 6-8). -/
def Dev.slotHeader (d : Dev) (p : Nat) : List Byte :=
  let s := (d.slot? p).getD (Slot.fresh 0)
  let row := (d.patch? p).getD ⟨p, 0, 0, 0⟩
  let fresh := s.views.any fun v => v.recent d.now
  let state := if !d.owns p then 3 else if s.views.isEmpty then 0 else if d.patchHeld p s || !fresh then 2 else 1
  let b (x : Bool) (n : Nat) : Nat := if x then 2 ^ n else 0
  let ramping := s.views.any View.ramping || s.cells.vals.any fun c => decide (c.join ≠ 0)
  let hold := d.cal.given.any fun g => g.hold && decide (g.patch = p)
  let view (v : View) : Nat :=
    v.dev % 1024 + v.core % 64 * 1024 + b (v.recent d.now) 16 + b (d.holdsGrant p v.dev v.core) 17 + b v.ramping 18 +
      b v.join.isSome 19
  let tail : List Byte :=
    (List.range 8).flatMap fun i : Nat => leBytes 4 (match s.views[i]? with | some v => view v | none => 0)
  leBytes 4 (p + state * 2 ^ 22) ++ leBytes 4 (d.place p).epoch ++ leBytes 1 (d.patchTiles p).length ++
  leBytes 1 s.views.length ++ leBytes 1 (s.lead.getD 0xFF) ++ leBytes 1 (b hold 0 + b ramping 1 + b (d.alarmed s) 2) ++
  leBytes 2 row.emis ++ leBytes 1 row.tab ++ leBytes 1 0 ++ leBytes 2 s.bg ++ leBytes 2 s.uMax ++ leBytes 8 s.lastPub ++
  leBytes 4 s.pubs ++ tail

/-! ## Handover (R237) -/

/-- A patch's snapshot: the slot header, ten bytes for each cell, eight for each cell of each view behind a head of 24,
and the grants; the model's own order of what R237 lists. A cell view's CAPTURE stands as its age in ms against the view's latest frame
(log 41). -/
def Dev.snapshot (d : Dev) (p : Nat) : List Byte :=
  let s := (d.slot? p).getD (Slot.fresh 0)
  let cells := List.range (d.patchCells p)
  let given := d.cal.given.filter fun g => decide (g.patch = p)
  let cell (c : Nat) : List Byte :=
    let x := s.cells.get c ⟨0, 0, 3, 0, F32.zero, 0, []⟩
    leBytes 2 x.t ++ leBytes 2 x.u ++ leBytes 2 (wrapInt 16 (clampInt (-32768) 32767 (F32.scaled x.rate 1 0 1))) ++
    leBytes 2 (wrapInt 16 x.join) ++ leBytes 1 x.state ++
    leBytes 1 (match (d.patchTiles p)[c / max 1 d.tileCells]? with | some t => (d.attach t.tile).mapSeq | none => 0)
  let viewCell (v : View) (c : Nat) : List Byte :=
    match v.cells.get? c with
    | some x => leBytes 2 x.n ++ leBytes 2 x.t ++ leBytes 1 x.ang ++
        leBytes 1 ((if x.ramping then 1 else 0) + (if x.range then 2 else 0) + (if x.clean then 4 else 0)) ++
        leBytes 2 ((if v.mapped.contains c then 3 else 1) + 4 * min 16383 ((v.capture.getD x.capture - x.capture) / 1000000))
    | none => leBytes 6 0 ++ leBytes 2 (if v.mapped.contains c then 2 else 0)
  let view (v : View) : List Byte :=
    leBytes 2 v.dev ++ leBytes 1 v.core ++ leBytes 1 (v.join.getD 0xFF) ++ leBytes 8 (v.capture.getD 0) ++ leBytes 8 v.period ++
    leBytes 4 0 ++ cells.flatMap (viewCell v)
  d.slotHeader p ++ cells.flatMap cell ++ s.views.flatMap view ++ leBytes 1 given.length ++
  given.flatMap (fun g => leBytes 2 g.dev ++ leBytes 1 g.core ++ leBytes 1 (if g.hold then 1 else 0) ++ leBytes 4 g.lease) ++
  leBytes 1 (if d.alarmed s then 1 else 0)

/-- A view read from a snapshot of `n` cells. -/
def snapshotView (n : Nat) (b : List Byte) : View :=
  let l := (List.range n).map fun c => (c, (b.drop (24 + 8 * c)).take 8)
  let fl (e : List Byte) (i : Nat) : Bool := bitOf (byteAt e 5) i
  { dev := leAt b 0 2, core := byteAt b 2,
    cells := KMap.ofList ((l.filter fun e => bitOf (leAt e.2 6 2) 0).map fun e =>
      (e.1, ⟨leAt b 4 8 - leAt e.2 6 2 / 4 * 1000000, leAt e.2 0 2, leAt e.2 2 2, byteAt e.2 4, fl e.2 0, fl e.2 1, fl e.2 2⟩)),
    capture := if leAt b 4 8 = 0 then none else some (leAt b 4 8), origin := 0, done := true, period := leAt b 12 8,
    coming := KMap.empty, comingAt := leAt b 4 8, join := if byteAt b 3 = 0xFF then none else some (byteAt b 3),
    mapped := (l.filter fun e => bitOf (leAt e.2 6 2) 1).map (·.1) }

/-- The snapshot of a patch taken over by its new owner. -/
def Dev.takeSnapshot (d : Dev) (p : Nat) (b : List Byte) : Dev :=
  let n := d.patchCells p
  let nv := byteAt b 9
  let c := b.drop 64
  let cells := (List.range n).map fun i =>
    let e := (c.drop (10 * i)).take 10
    (i, (⟨leAt e 0 2, leAt e 2 2, byteAt e 8 % 4, 0, F32.ofInt (signedOf 16 (leAt e 4 2)), signedOf 16 (leAt e 6 2), []⟩ : Cell))
  let v := c.drop (10 * n)
  let views := (List.range nv).map fun i => snapshotView n ((v.drop (i * (24 + 8 * n))).take (24 + 8 * n))
  let g := v.drop (nv * (24 + 8 * n))
  let given := (List.range (byteAt g 0)).map fun i =>
    let e := (g.drop (1 + 8 * i)).take 8
    (⟨p, leAt e 0 2, byteAt e 2, d.clk, leAt e 4 4, byteAt e 3 = 1⟩ : Given)
  let alarm := byteAt g (1 + 8 * byteAt g 0) = 1
  let used (i : Nat) : List Nat := (views.filter fun w => (w.cells.get? i).isSome).map fun w => 64 * w.dev + w.core
  let s := (d.slot? p).getD (Slot.fresh 0)
  let s : Slot := { s with
    views := views, lead := if byteAt b 10 = 0xFF then none else some (byteAt b 10),
    lastPub := leAt b 20 8, pubs := leAt b 28 4, uMax := leAt b 18 2, bg := leAt b 16 2,
    cells := KMap.ofList (cells.map fun e => (e.1, { e.2 with used := used e.1 })),
    hitAt := if alarm then some d.clk else none, held := given.any (·.hold) }
  let d : Dev := { d with cal := { d.cal with given := (d.cal.given.filter fun x => decide (x.patch ≠ p)) ++ given } }
  d.setSlot p s

/-- STATE and the snapshot sent by the former owner, once its last publication is past. -/
def Dev.sendState (d : Dev) (p : Nat) : Dev :=
  match d.slot? p with
  | none => d
  | some s =>
    let pl := d.place p
    let b := d.snapshot p
    let d : Dev := { d with plc := { d.plc with ready := d.plc.ready.filter (· ≠ p) } }
    let d := d.ask 0x4401 pl.owner (placeBody p 2 0 pl.owner d.addr 0 pl.epoch s.lastPub ((b.length + 1023) / 1024) 0)
    d.each ((runs 2036 2048 b).mapIdx fun i c => (2036 * i, c)) fun e d =>
      d.sendTo 7 pl.owner (leBytes 4 p ++ leBytes 4 e.1 ++ leBytes 4 b.length ++ e.2)

/-- The former owner has made its last publication: no frame of its lead view up to T_c is still to come. -/
def Dev.lastDone (d : Dev) (s : Slot) : Bool :=
  match s.leaving with
  | none => false
  | some tc =>
    match s.lead.bind fun i => s.views[i]? with
    | none => true
    | some v => match v.capture with
      | some c => v.done && decide (tc < c + v.period) || decide (tc + 2 * v.period < d.now)
      | none => true

/-- STATE follows READY as soon as the last publication is past. -/
def Dev.tryState (d : Dev) (p : Nat) : Dev :=
  match d.slot? p with
  | some s => if d.plc.ready.contains p && d.lastDone s then d.sendState p else d
  | none => d

/-- The slot of a patch freed. -/
def Dev.freeSlot (d : Dev) (p : Nat) : Dev := { d with fus := { d.fus with slots := d.fus.slots.del p } }

/-! ## Commits (R235, R236) -/

/-- What has waited up to 5 ms for a QUERY's answer goes to the owner; what has waited longer is discarded (R241, log 68). -/
def Dev.flushQueried (d : Dev) (p : Nat) : Dev :=
  let mine := d.plc.queried.filter fun q => decide (q.1 = p ∧ d.clk ≤ q.2.2 + ms 5)
  let d : Dev := { d with plc := { d.plc with queried := d.plc.queried.filter fun q => !decide (q.1 = p) } }
  d.each mine fun q d =>
    let c := contribOf q.2.1 d.clk
    if d.ownerFor p c.capture = d.addr then (if d.verdict p c.capture = .use then d.contribute p c else d.stale (2, c.core))
    else d.sendContribution p c.capture q.2.1

/-- A forwarding entry made; where 8,192 are in use the oldest is displaced (R242). An entry whose time has ended is in use no
longer. -/
def Dev.addForward (d : Dev) (p : Nat) : Dev :=
  let l := (d.plc.fwdOrder.filter fun q => decide (q ≠ p) && (d.place q).forwards) ++ [p]
  let gone := l.take (l.length - 8192)
  let d : Dev := { d with plc := { d.plc with fwdOrder := l.drop (l.length - 8192) } }
  d.each gone fun q d => d.setPlace q { d.place q with lost := none }

/-- The slot of a gained patch: one that the device holds of the patch goes on only where a commit has kept it as owner (R237); any other
starts with J and R_c at 0 (R238). -/
def Dev.gainSlot (d : Dev) (p tc reason : Nat) : Dev :=
  let start (n : Nat) : Slot := { Slot.fresh n with pubAt := d.clk + (tc - d.now) }
  match d.slot? p with
  | some s => d.setSlot p (if reason = 5 then { s with leaving := none, first := true } else start s.num)
  | none => match d.allot (d.preferredRegion p) with
    | some n => d.setSlot p (start n)
    | none => d

/-- Reservations are refused until 2,100 ms after T_c (R151, R238). -/
def Dev.barFrom (d : Dev) (p tc : Nat) : Dev :=
  { d with cal := { d.cal with barred := d.cal.barred.put p (((d.clk : Int) + tc - d.now).toNat + ms 2100) } }

/-- The device gains a patch: a slot, the handover or the failover's bar on reservations (R237, R238). -/
def Dev.gain (d : Dev) (p former epoch tc reason : Nat) : Dev :=
  let d := d.gainSlot p tc reason
  let d :=
    if (reason = 1 || reason = 3) && decide (former ≠ 0x3FF ∧ former ≠ d.addr) && d.liveAt former then
      let h : Handover := ⟨p, former, 0, KMap.empty, 0⟩
      ({ d with plc := { d.plc with handovers := d.plc.handovers.put p h } } : Dev).ask 0x4401 former
        (placeBody p 1 reason d.addr former 0 epoch tc 0 0)
    else d
  if reason = 2 then d.barFrom p tc else d

/-- The next publication of an owned patch announces its state maps, which a device that attaches its tiles anew does not
have yet (R199). -/
def Dev.announceMaps (d : Dev) (p : Nat) : Dev :=
  match d.slot? p with
  | some s => d.setSlot p { s with first := true }
  | none => d

/-- A new epoch adopted (R235). -/
def Dev.adopt (d : Dev) (p owner former epoch tc reason : Nat) : Dev :=
  let old := d.place p
  let mine := decide (old.owner = d.addr) && d.addressed
  let loses := mine && decide (owner ≠ d.addr)
  let gains := !mine && decide (owner = d.addr) && d.addressed
  let kept := match old.lost with
    | some l => if epoch < l.2.1 + 2 then some l else none
    | none => none
  let same := decide (reason = 5 ∨ former = owner ∨ old.owner = owner)
  let d := d.setPlace p ⟨owner, epoch, tc, former, if loses then some (owner, epoch, tc, old.epoch) else kept, false, none,
    if same then some old.epoch else none⟩
  let d := if loses then d.addForward p else d
  let d := if loses then
      (match d.slot? p with | some s => d.setSlot p { s with leaving := some tc } | none => d) else d
  let d := if gains then d.gain p former epoch tc reason
    else if mine && !loses then d.announceMaps p else d
  let d := if loses || gains then d.report 209 noUnit (plcData p epoch owner reason 0) else d
  d.flushQueried p

/-- Whom a COMMIT goes to: the new and the former owner, the candidates and the attaching devices that are live. -/
def Dev.commitTo (d : Dev) (p owner former : Nat) : List Nat :=
  ((([owner, former] ++ (d.dir p).cands.map (·.addr) ++ (d.patchTiles p).map (·.dev)).eraseDups).filter fun a =>
    decide (a ≠ 0x3FF ∧ a ≠ d.addr)).filter d.liveAt

/-- The COMMIT of a directed patch's last epoch sent to its receivers that have not answered. -/
def Dev.sendCommits (d : Dev) (p : Nat) : Dev :=
  let x := d.dir p
  d.each x.waiting fun a d => d.ask 0x4400 a (placeBody p 3 x.reason x.owner x.former 0 x.epoch x.tc 0 0)

/-- A directory commits the next epoch of a patch. At 0xFFFFFFFF commits stop, and the owner holds the patch (R235,
`Dev.patchHeld`). First owners of an activation take
its T_A as T_c (R252). -/
def Dev.commitEpoch (d : Dev) (p owner reason : Nat) : Dev :=
  let x := d.dir p
  let pl := d.place p
  let e := max x.epoch pl.epoch
  if 0xFFFFFFFF ≤ e then d
  else
    let lead := ms (d.rd (if reason = 1 then P.MOVE_LEAD else P.FAIL_LEAD))
    let tc := if reason = 0 && decide (d.now < d.plc.actAt + sec 1) then d.plc.actAt else d.now + lead
    let d := d.setDir p { x with
      epoch := e + 1, owner := owner, reason := reason, former := pl.owner, tc := tc, waiting := d.commitTo p owner pl.owner,
      sent := d.clk, moved := if reason = 1 then some d.clk else x.moved, taking := false }
    let d := d.bump P.PLC_COMMITS
    let d := if reason = 2 then d.bump P.FAILOVERS else d
    (d.sendCommits p).adopt p owner pl.owner (e + 1) tc reason

/-! ## Decisions (R233, R240, R244) -/

/-- The score of a candidate as the directory ranks it (R232). -/
def Dev.scoreOf (d : Dev) (p : Nat) (c : Cand) : Nat :=
  let far := ((d.patchTiles p).map (·.dev)).eraseDups.map fun a => (d.hops c.addr a).getD 1024
  c.score + d.rd P.HOP_W * far.foldl max 0

/-- The directory's own candidacy brought up to date. -/
def Dev.refreshOwn (d : Dev) (p : Nat) : Dev :=
  if d.candidate p then d.takeView p (d.ownCand p)
  else
    let x := d.dir p
    d.setDir p { x with cands := x.cands.filter fun y => decide (y.addr ≠ d.addr) }

/-- The eligible candidates of a patch. -/
def Dev.eligible (d : Dev) (p : Nat) : List Cand :=
  (d.dir p).cands.filter fun c => decide (c.state ∈ [1, 2]) && d.liveAt c.addr

/-- The eligible candidate of the lowest score, the lower address on equal scores. -/
def Dev.bestCand (d : Dev) (p : Nat) : Option Cand :=
  (d.eligible p).foldl (fun (b : Option Cand) c => match b with
    | none => some c
    | some x =>
      let rc := d.scoreOf p c
      let rx := d.scoreOf p x
      if decide (rc < rx ∨ (rc = rx ∧ c.addr < x.addr)) then some c else some x) none

/-- The patch has an owner that serves it. -/
def Dev.ownerServes (d : Dev) (p : Nat) : Bool :=
  let pl := d.place p
  decide (pl.owner ≠ 0x3FF) && !pl.withdrawn && d.liveAt pl.owner

/-- REASON of the commit that gives an ownerless patch its owner. -/
def Dev.lossReason (d : Dev) (p : Nat) : Nat :=
  let pl := d.place p
  if pl.epoch = 0 then 0 else if pl.withdrawn then 3 else if pl.owner ≠ 0x3FF then 2
  else if (d.dir p).reason = 3 then 3 else 2

/-- A directory finds no eligible candidate: the patch has no owner (R244). -/
def Dev.noOwner (d : Dev) (p : Nat) : Dev :=
  let pl := d.place p
  let x := d.dir p
  let d := d.setDir p { x with owner := 0x3FF, reason := d.lossReason p, taking := false }
  (d.setPlace p { pl with owner := 0x3FF }).setPlc 6 (plcData p pl.epoch 0x3FF 0 0)

/-- An owner chosen for a patch that has none. -/
def Dev.direct (d : Dev) (p : Nat) : Dev :=
  let d := d.refreshOwn p
  if d.ownerServes p then d
  else match d.bestCand p with
    | some c => d.commitEpoch p c.addr (d.lossReason p)
    | none => d.noOwner p

/-- The owner that a running owner yields to: another candidate whose score plus MOVE_HYST is below its own. -/
def Dev.betterOwner (d : Dev) (p : Nat) : Option Nat :=
  let own := (d.dir p).cands.find? fun c => decide (c.addr = (d.place p).owner)
  match own, d.bestCand p with
  | some o, some b => if b.addr ≠ o.addr && d.scoreOf p b + d.rd P.MOVE_HYST < d.scoreOf p o then some b.addr else none
  | _, _ => none

/-- Balance of one patch at REBAL_PERIOD: at most one move in 60 s. -/
def Dev.balance (d : Dev) (p : Nat) : Dev :=
  if !d.isDirectory p then d
  else
    let d := d.refreshOwn p
    if !d.ownerServes p then d.direct p
    else
      let free := match (d.dir p).moved with
        | some t => decide (t + sec 60 ≤ d.clk)
        | none => true
      match d.betterOwner p with
      | some a => if free then d.commitEpoch p a 1 else d
      | none => d

/-- A new directory commits epoch M + 1 with REASON 6 (R240). -/
def Dev.takeOver (d : Dev) (p : Nat) : Dev :=
  let d := d.refreshOwn p
  if d.ownerServes p then d.commitEpoch p ((d.betterOwner p).getD (d.place p).owner) 6
  else match d.bestCand p with
    | some c => d.commitEpoch p c.addr 6
    | none => d.noOwner p

/-! ## Loss and return of devices (R230, R243) -/

/-- A device declared down (R230). Its views leave the slots held here (log 210). -/
def Dev.declareDown (d : Dev) (l : Lsa) : Dev :=
  let ps := (patchesOf d.plc.image).map (·.patch)
  let before := ps.filter d.isDirectory
  let d : Dev := { d with plc := { d.plc with
    topo := d.plc.topo.del l.uid, topoAt := d.plc.topoAt.del l.uid, down := l.uid :: d.plc.down.filter (· ≠ l.uid),
    losses := d.plc.losses.filter fun x => decide (x.uid ≠ l.uid) } }
  let links := (List.range 8).filter fun m => decide ((d.link m).uid = l.uid) && (d.link m).met
  let mine := links.filter fun m => (d.link m).heard
  let d := d.each links fun m d => d.setLink m { d.link m with met := false }
  let d := d.each mine fun m d => d.dropLink m (d.link m).locked
  let d := d.keepViews fun _ v => decide (v.dev ≠ l.addr)
  let d := d.setPlc 5 (plcData 0 0 l.addr 0 l.uid)
  let d := d.each ((ps.filter d.isDirectory).filter fun p => !before.contains p) fun p d =>
    d.setDir p { d.dir p with taking := true, sent := d.clk }
  let d := d.refreshTime
  let d := if mine.isEmpty then d else d.sendLsa
  d.sendViews

/-- Every neighbour of a device that is not itself down has reported it. -/
def Dev.lossComplete (d : Dev) (l : Lsa) : Bool :=
  let reports := d.plc.losses.filter fun x => decide (x.uid = l.uid)
  !reports.isEmpty && ((l.links.filter (· ≠ 0x3FF)).filter d.liveAt).all fun a => reports.any fun x => decide (x.by_ = a)

/-- Declarations that the loss reports held complete, one after another. -/
def declareAll : Nat → Dev → Dev
  | 0, d => d
  | n + 1, d =>
    match d.plc.topo.vals.find? d.lossComplete with
    | some l => declareAll n (d.declareDown l)
    | none => d

/-- A loss report recorded. -/
def Dev.takeLoss (d : Dev) (uid addr by_ : Nat) : Dev :=
  let l := (d.plc.losses.filter fun x => !decide (x.uid = uid ∧ x.by_ = by_)) ++ [⟨uid, addr, by_⟩]
  declareAll 1024 { d with plc := { d.plc with losses := l } }

/-- A device declared down is heard again: MESH_REJOIN, and the directed placement is sent anew. -/
def Dev.rejoin (d : Dev) (uid addr : Nat) : Dev :=
  if !d.plc.down.contains uid then d
  else
    let d : Dev := { d with plc := { d.plc with down := d.plc.down.filter (· ≠ uid) } }
    let d := d.setPlc 7 (plcData 0 0 addr 0 uid)
    d.each (d.plc.dirs.keys.filter d.isDirectory) fun p d =>
      let x := d.dir p
      if x.epoch = 0 || x.owner = 0x3FF then d
      else (d.setDir p { x with waiting := d.commitTo p x.owner x.former, sent := d.clk }).sendCommits p

/-! ## Addresses (R217 to R219) -/

/-- The addresses of the topology database under another UID. -/
def Dev.knownAddr (d : Dev) (a : Nat) : Bool := d.plc.topo.vals.any fun l => decide (l.addr = a ∧ l.uid ≠ d.uid)

/-- The epochs of the patches of an owner whose address changed, committed anew with REASON 5 (R218). -/
def Dev.readdress (d : Dev) (old new : Nat) : Dev :=
  d.each (d.plc.places.keys.filter fun p => decide ((d.place p).owner = old) && d.isDirectory p) fun p d =>
    d.commitEpoch p new 5

end Sys2Proof.Machine
end

