-- ==== Sys2Proof/Machine/Frames.lean ====
section
/-!
DEFINITION. Sys2Proof/Machine/Frames.lean: frame starts and frame ends (R78, R81, R82, R86, R94, R95, R119, R126, R132,
R146, R165) and the Cutter's moves (R247 to R249).
-/
namespace Sys2Proof.Machine

/-! ## Closing a frame (R78) -/

/-- The FPA history with one more frame: frames less than 10 s older than the newest, and one that is older (R119). -/
def keepTemps (l : List (Nat × Nat)) (e : Nat × Nat) : List (Nat × Nat) :=
  let young := l.takeWhile fun p => decide (e.1 < p.1 + sec 10)
  e :: (young ++ (l.drop young.length).take 1)

/-- What follows a frame's close: its temperature joins the history, it is done if its lines have all left, the
calibration engine sees its end, and a disable that waited takes effect. DESIGN CHOICE (log 27): a waiting disable takes
effect also where the frame is closed by a new FS or by the timeout, which end the frame as an FE would. -/
def Dev.afterClose (d : Dev) (s : Nat) (f : Frame) : Dev :=
  let k := coreOf s
  match (d.strm s).frame? f.tag.cnt with
  | none => d
  | some g =>
    let x := d.strm s
    let d := if isComp s then d else d.setStrm s { x with temps := keepTemps x.temps (g.tag.capture, g.tag.fpa) }
    let d := if d.height s ≤ g.left then d.frameDone s g else d
    if isComp s then d
    else
      let d := d.cycleFrameEnd k g.tag.cnt
      if (d.setting k).disabling then d.takeDisable k else d

/-- The open frame of a stream closed. -/
def Dev.endFrame (d : Dev) (s : Nat) (noFe : Bool) : Dev :=
  match (d.strm s).openFrame with
  | none => d
  | some f => (d.closeFrame s noFe).afterClose s f

/-- The writes pending at a core's FE begin (R94). -/
def Dev.beginWrites (d : Dev) (k : Nat) : Dev :=
  let x := d.setting k
  if x.queue.isEmpty then d
  else
    completeEmpty 8 k (d.setSetting k { x with
      queue := x.queue.map fun c => if c.begun then c else { c with begun := true, stamp := d.clk } })

/-- FRAME_END. -/
def frameEnd (l vc _n : Nat) (h : Hdr) (d : Dev) : Dev :=
  d.packet l vc h fun s d =>
    if (d.strm s).openFrame.isNone then d.discard l
    else
      let d := d.endFrame s false
      if isComp s then d else d.beginWrites (coreOf s)

/-- FRAME_TIMEOUT: no packet of the open frame for four configured frame periods; a streaming core stalls. A core in bus
fault stays in it until it is disabled or a write completes (R89). -/
def frameTimeout (s : Nat) (d : Dev) : Dev :=
  if (d.strm s).openFrame.isNone || !d.awake then d
  else
    let d := d.reach ((d.strm s).heard + 4 * d.period s)
    let d := d.endFrame s true
    if d.rd P.CORE_STATE [coreOf s] = 3 then d.coreState (coreOf s) 4 else d

/-! ## The rate of a stream (R86) -/

/-- The rate measured over the last eight intervals, 0.01 Hz; none before nine frame starts. -/
def measured (stamps : List Nat) : Option Nat :=
  match stamps, stamps[8]? with
  | a :: _, some b => if b < a then some (800000000000 / (a - b)) else none
  | _, _ => none

/-- The comparison of R86 at a frame start. -/
def Dev.checkRate (d : Dev) (s : Nat) : Dev :=
  let k := coreOf s
  let x := d.strm s
  let x := { x with stamps := (d.clk :: x.stamps).take 9 }
  let d := d.setStrm s x
  match measured x.stamps, x.stamps[8]? with
  | some m, some b =>
    let d := if isComp s then d else d.wr P.MEAS_RATE [k] (min 65535 m)
    let isOver (pct : Nat) : Bool := decide (pct * d.rate s * (d.clk - b) < 80000000000000)
    let mark (e : Bool) (d : Dev) : Dev :=
      if isComp s then d.setStrm s { d.strm s with excess := e, calm := 0 }
      else (d.setStrm s { d.strm s with calm := 0 }).put P.RATE_EXC [k] e
    if !d.excess s then (if isOver 102 then (mark true d).setIng 8 s else d)
    else if isOver 101 then d.setStrm s { x with calm := 0 }
    else if 7 ≤ x.calm then mark false d
    else d.setStrm s { x with calm := x.calm + 1 }
  | _, _ => d

/-! ## Settings at a frame start (R95, R96) -/

/-- The completed changes of a core that come into force at this frame start, with their rates (R95). -/
def Dev.applyGens (d : Dev) (k : Nat) : Dev :=
  let x := d.setting k
  let l := x.applied.map fun a => { a with frames := a.frames - 1 }
  let due := l.filter fun a => decide (a.frames = 0)
  let d := d.setSetting k { x with applied := l.filter fun a => decide (a.frames ≠ 0) }
  let d := d.each due fun a d =>
    let d := d.wr P.SET_GEN_APPLIED [k] a.gen
    let d := if a.rate = 0 then d else d.wr P.FRAME_RATE [k] a.rate
    if a.compRate = 0 then d else d.wr P.COMP_RATE [k] a.compRate
  if due.any fun a => decide (a.rate ≠ 0 ∨ a.compRate ≠ 0) then d.refreshLoads.refreshTaps else d

/-- A write of the core is in progress. -/
def Dev.writing (d : Dev) (k : Nat) : Bool := (d.setting k).queue.any (·.begun)

/-! ## Drift inputs (R119) -/

/-- ΔF, ΔH and ΔR of a frame. -/
def Dev.driftInputs (d : Dev) (k : Nat) (t : Tag) : Int × Int × Int :=
  let f : Int := if d.rd P.FPA_SRC [k] = 15 then 0 else (t.fpa : Int) - d.rd P.FPA_REF [k]
  let h : Int := if d.rd P.HOUS_SRC [k] % 16 = 15 then 0 else (t.hous : Int) - d.rd P.HOUS_REF [k]
  let r : Int := if d.rd P.FPA_SRC [k] = 15 then 0
    else match (d.strm k).temps.find? fun p => decide (p.1 + sec 10 ≤ t.capture) with
      | some p => ((t.fpa : Int) - p.2) * 6
      | none => 0
  (f, h, r)

/-! ## Taps at a frame start (R132, R134) -/

/-- The words of the frames of a stream that a tap has taken and not yet written. -/
def Dev.tapPending (d : Dev) (t s : Nat) : List Nat :=
  ((d.strm s).frames.filter fun f => f.taps.contains t).flatMap fun f => d.frameWords s (d.rd P.BOUNDARY [t]) (f.tag.has 11)

/-- The taps that take a frame; those without space skip it. Boundary 15 is decided when its telemetry is known. -/
def Dev.chooseTaps (d : Dev) (s : Nat) (t : Tag) : Dev × List Nat :=
  let wanted := d.tapsOn.filter fun n => decide (d.tapStreamOf n = s) && decide (t.cnt % (d.rd P.DECIM [n] + 1) = 0) &&
    !(t.has 11 && d.is P.NOSHUT [n])
  wanted.foldl (fun (a : Dev × List Nat) n =>
    let (d, l) := a
    let words := d.tapPending n s ++ d.frameWords s (d.rd P.BOUNDARY [n]) (t.has 11)
    if d.rd P.BOUNDARY [n] = 15 || (ringPlan (d.ringWords n) (d.rd P.TAP_PROD [n]) words).1 ≤ d.ringFree n then (d, l ++ [n])
    else
      let x := d.pipe.taps.get n Tap.fresh
      let d := { d with pipe := { d.pipe with taps := d.pipe.taps.put n { x with skipped := x.skipped + 1 } } }
      ((d.bump P.TAP_SKIP [n]).setPipe 4 (coreOf s), l)) (d, [])

/-! ## FRAME_START -/

/-- The settings a frame is processed under (R126, R138). -/
def Dev.laneCfg (d : Dev) (k : Nat) : LaneCfg :=
  { tnrK := d.rd P.TNR_K [k], guard := d.rd P.TNR_GUARD [k], sigma := d.rd P.SNR_SIGMA [k], noise := d.rd P.NOISE_LIM [k],
    live := d.is P.LIVE_EN [k], run := d.rd P.ALARM_RUN [k], dmg := d.is P.ALARM_DMG [k],
    absThr := d.rd P.ABS_THR [k], rateThr := d.rd P.RATE_THR [k], histLo := d.rd P.HIST_LO [k],
    histShift := d.rd P.HIST_SHIFT [k] }

/-- A frame just opened. -/
def Frame.opened (t : Tag) (now : Nat) (cfg : LaneCfg) : Frame :=
  { tag := t, isOpen := true, fs := now, top := 0, ls := none, lines := KMap.empty, tails := KMap.empty, begun := 0,
    left := 0, waiting := KMap.empty, bad := [], sums := Sums.zero, tel := [], telBad := [], drift := (0, 0, 0), cfg := cfg, bank := 0,
    blend := none, first := false, updates := [], taps := [], hits := 0, hitCnt := 0, lived := false, dmax := 0,
    rows := KMap.empty }

/-- A core's views in the slots held here after it took a new grid: those of the patches it still sees rejoin, the others are views no
longer (R185, R193). -/
def Dev.regridViews (d : Dev) (k : Nat) : Dev :=
  let sees := d.sees k
  let mine (v : View) : Bool := decide (v.dev = d.addr ∧ v.core = k)
  d.each d.fus.slots.keys fun p d =>
    match d.slot? p with
    | none => d
    | some s =>
      if !s.views.any mine then d
      else
        let s := s.keepViews fun v => !mine v || sees.contains p
        d.setSlot p { s with
          views := s.views.map fun v => if mine v then { v with join := some 0, mapped := [] } else v, regrid := true }

/-- A grid that waits takes effect, and the core's views of every patch rejoin (R185); the cells seen change, and the device may cease
to be a candidate (R231). -/
def Dev.takeGrid (d : Dev) (k : Nat) : Dev :=
  match d.fus.newGrid.get? k with
  | none => d
  | some g =>
    let old := d
    let d := d.tblWrite (0x2300 + k) 0 g.1
    let d := d.wr P.NODES_VALID [k] (d.validNodes k)
    let d : Dev := { d with fus := { d.fus with newGrid := d.fus.newGrid.del k } }
    let d := ((Dev.withdrawLost old d).regridViews k).sendViews
    d.each g.2 fun t d => d.complete t .ok

/-- The thresholds of the active configuration, taken at a frame start (R126); without one the values stand. -/
def Dev.takeThresholds (d : Dev) (k : Nat) : Dev :=
  if d.plc.image.isEmpty then d else
  let (a, r) := thresholdsOf d.plc.image d.uid k
  d.wrs [(P.ABS_THR, [k], a), (P.RATE_THR, [k], r)]

/-- The class-update entries accepted before a frame start, taken by the frame (R112). -/
def Dev.takeUpdates (d : Dev) (k : Nat) : Dev × List (Nat × Nat × Bool) :=
  let q := d.pipe.classQ.get k []
  ({ d with pipe := { d.pipe with classQ := d.pipe.classQ.del k } },
    q.map fun e => (bitsOf e 11 11 * 2048 + bitsOf e 0 11, bitsOf e 22 4, bitOf e 26))

/-- The tag of a frame that opens now: the flags of a frame start but for SHUTTER (Table 3-3). -/
def Dev.openTag (d : Dev) (s fn : Nat) (h : Hdr) : Tag :=
  let k := coreOf s
  let x := d.strm s
  let none (src : Nat) : Bool := decide (src % 16 = 15)
  let inflight := d.writing k || (d.setting k).failed || decide (d.rd P.CORE_STATE [k] = 1)
  let t : Tag :=
    { core := k, comp := isComp s, flags := 0, cnt := d.frameCnt s, fn := fn, gen := d.rd P.SET_GEN_APPLIED [k],
      capture := d.now - 1000 * d.rd P.CAP_OFFSET [k], fpa := if none (d.rd P.FPA_SRC [k]) then 0 else x.fpa,
      hous := if none (d.rd P.HOUS_SRC [k]) then 0 else x.hous, pad := 0, cut := 0, crc := 0,
      hdr := if h = .fixed then 1 else 0 }
  let t := if h = .fixed then t.mark 6 else t
  let t := if inflight then t.mark 7 else t
  if d.excess s then t.mark 10 else t

/-- A core's frame opens: calibration's share of the frame start, then what the frame is processed under. -/
def Dev.openCore (d : Dev) (k : Nat) (t : Tag) (sameGen : Bool) : Dev :=
  let d := d.tryOpen k
  let t := if d.shuttering k then t.mark 11 else t
  let drift := d.driftInputs k t
  let d := d.wrInt P.DRIFT_RATE [k] drift.2.2
  let first := (d.strm k).temps.isEmpty
  let d := if t.has 11 then d.gatherStart k t drift
    else (d.wr P.UNC [k] (d.uncertainty k drift)).rampStep k
  let d := d.stableFrame k t sameGen
  let (d, ups) := if t.has 11 then (d, []) else d.takeUpdates k
  let (d, taps) := d.chooseTaps k t
  let f := Frame.opened t d.clk (d.laneCfg k)
  let blend := if d.is P.ARMED [k] then some (d.rd P.BLEND [k]) else none
  let x := d.strm k
  d.setStrm k { x with frames := x.frames ++ [{ f with
    drift := drift, bank := d.rd P.APPLIED_BANK [k], blend := blend, first := first, updates := ups, taps := taps,
    bad := (d.pipe.bad.map (·.block) ++ d.pipe.dead).filter fun b => decide (b.core = k) }] }

/-- A companion camera's frame opens. -/
def Dev.openComp (d : Dev) (s : Nat) (t : Tag) : Dev :=
  let (d, taps) := d.chooseTaps s t
  let x := d.strm s
  d.setStrm s { x with frames := x.frames ++ [{ Frame.opened t d.clk (d.laneCfg (coreOf s)) with taps := taps }] }

/-- FRAME_START of a stream: the open frame is closed without its FE, the counter advances, and the frame opens. -/
def Dev.startFrame (d : Dev) (l s fn : Nat) (h : Hdr) : Dev :=
  let k := coreOf s
  let d := d.endFrame s true
  if !d.streamOn s then d.discard l
  else
    let gen := d.rd P.SET_GEN_APPLIED [k]
    let d := if isComp s then d.setStrm s { d.strm s with cnt := ((d.strm s).cnt + 1) % 2 ^ 32 }
      else ((((d.applyGens k).bump P.FRAME_CNT [k]).takeGrid k).takeThresholds k)
    let d := d.checkRate s
    let st := d.rd P.CORE_STATE [k]
    let d := if !isComp s && decide (st ∈ [2, 4]) then d.coreState k 3 else d
    let d := if !isComp s && d.rd P.CORE_STATE [k] = 3 then d.streamOnward k else d
    let t := d.openTag s fn h
    let d := if d.writing k then d.setIng 6 s else d
    if isComp s then d.openComp s t else d.openCore k t (gen = t.gen)

/-- FRAME_START: an FS packet (R78, R81). -/
def frameStart (l vc fn : Nat) (h : Hdr) (d : Dev) : Dev :=
  if d.linkOn l then
    match d.header l vc h with
    | (none, d) => d
    | (some s, d) => (d.setStrm s { d.strm s with heard := d.clk }).startFrame l s fn h
  else d

/-! ## The Cutter (R247 to R249) -/

/-- A core given a new cluster, from its next frame boundary (R13). -/
def Dev.moveCore (d : Dev) (k c : Nat) : Dev :=
  let d : Dev := { d with pipe := { d.pipe with rebind := d.pipe.rebind.put k c } }
  d.frameBoundary k

/-- Cores of a cluster once the moves that wait have taken effect. -/
def Dev.planned (d : Dev) (c : Nat) : List Nat := (d.claimed c).filter fun k => decide (d.pipe.rebind.get k c = c)

/-- Load of a cluster with the moves that wait counted. -/
def Dev.plannedLoad (d : Dev) (c : Nat) : Nat := ((d.planned c).map d.pixelRate).sum

/-- The cluster with room for a core, by a bound on its load after the move: the lowest resulting share of that bound,
then the lowest number (log 35). Cores that wait to come and cores that wait to leave both count against R13 and R17. -/
def Dev.targetFor (d : Dev) (k : Nat) (bound : Nat → Nat) (l : List Nat) : Option Nat :=
  let need := d.pixelRate k
  (l.filter fun c => d.hasRoom c need && decide (d.plannedLoad c + need ≤ bound c)).foldl
    (fun (b : Option Nat) c => match b with
      | none => some c
      | some x => if (d.plannedLoad c + need) * bound x < (d.plannedLoad x + need) * bound c then some c else some x) none

/-- The cores of a cluster by rising load. -/
def Dev.byLoad (d : Dev) (c : Nat) : List Nat :=
  ((d.planned c).map fun k => 64 * d.pixelRate k + k).foldl (fun l a => insertSorted a l) [] |>.map (· % 64)

/-- One cluster examined at REBAL_PERIOD (R247): the core of the smallest load whose move leaves both clusters at or
below REBAL_LIMIT. -/
def Dev.rebalance (d : Dev) (c : Nat) : Dev :=
  let lim (c : Nat) : Nat := d.rd P.REBAL_LIMIT * d.capacity c / 100
  if d.plannedLoad c ≤ lim c then d
  else
    let others := (List.range 16).filter (· ≠ c)
    let good := (d.byLoad c).filterMap fun k =>
      if d.plannedLoad c - d.pixelRate k ≤ lim c then (d.targetFor k lim others).map fun t => (k, t) else none
    match good with
    | (k, t) :: _ => d.moveCore k t
    | [] => d

/-- A frame of a view that has arrived in part and whose rest has not come within 2P is given up, and a slot that waits for it to end
moves (R12). -/
def Dev.dropStalled (d : Dev) (p : Nat) : Dev :=
  match d.slot? p with
  | some s =>
    let views := s.views.map fun v =>
      if v.midFrame && decide (v.comingAt + 2 * v.period < d.now) then { v with coming := KMap.empty } else v
    (d.setSlot p { s with views := views }).settleMove p
  | none => d

/-- Slots set to move to their preferred regions, at most once per patch in 10 s; a move takes effect at the next frame boundary of
every contributing core (R12, R249). -/
def Dev.moveSlots (d : Dev) : Dev :=
  d.each d.fus.slots.keys fun p d =>
    match d.slot? p with
    | none => d
    | some s =>
      let want := d.preferredRegion p
      let free := match d.plc.slotMoved.get? p with
        | some t => decide (t + sec 10 ≤ d.clk)
        | none => true
      let seen := d.enabledCores.any fun k => (d.sees k).contains p
      if s.moving.isSome then d.dropStalled p else
      if decide (d.slotRegion s.num = want) || (d.freeIn want).isNone || !free || !seen then d
      else
        let d : Dev := { d with plc := { d.plc with slotMoved := d.plc.slotMoved.put p d.clk } }
        (d.setSlot p { s with moving := some want }).settleMove p

/-- A region's clusters that are short (R248): load above 8 × the measured lane rate with the margin. -/
def Dev.measuredCap (d : Dev) (c : Nat) : Nat := 8 * d.rd P.LANE_RATE [c / 4] * 1000000 * 256 / (256 + d.rd P.RATE_MARGIN)

/-- Moves off the short clusters of a region, at most `n` (R248). -/
def moveShort : Nat → Nat → Dev → Dev
  | 0, _, d => d
  | n + 1, r, d =>
    let short := ((List.range 4).map (· + 4 * r)).filter fun c => decide (d.measuredCap c < d.plannedLoad c)
    let all := (List.range 16).filter fun c => !short.contains c
    match short.flatMap fun c => (d.byLoad c).filterMap fun k => (d.targetFor k d.measuredCap all).map fun t => (k, t) with
    | (k, t) :: _ => moveShort n r ((d.moveCore k t).set (.plc 14) (2, k))
    | [] => d

/-- RATE_MOVE: after a rate-margin event of a region. -/
def rateMove (r : Nat) (d : Dev) : Dev :=
  if d.awake && d.boot.running && d.pipe.raised.contains r then moveShort 64 r d else d

end Sys2Proof.Machine
end

