-- ==== Sys2Proof/Machine/Register.lean ====
section
/-!
DEFINITION. Sys2Proof/Machine/Register.lean: what a registration session makes of its companion frames (R184): the symbols, the
blobs, the tiles they decode, the triangulation and the nodes of the warp grid. Log 23 names what R184 leaves to the model.
-/
namespace Sys2Proof.Machine

/-! ## Symbols -/

/-- What the decoding of a session reads: the core, S₀, a symbol's length in ns, the repetitions, and the NIR planes by CAPTURE. -/
structure Blinks where
  /-- Core. -/
  core : Nat
  /-- S₀. -/
  start : Nat
  /-- BLINK_SYM. -/
  sym : Nat
  /-- BLINK_REP. -/
  reps : Nat
  /-- NIR planes, with CAPTURE. -/
  planes : List (Nat × List Nat)
deriving DecidableEq, Repr

/-- The planes of the frames whose exposure lies wholly within symbol `n` of the session. -/
def Blinks.frames (b : Blinks) (n : Nat) : List (List Nat) :=
  (b.planes.filter fun p => decide (b.start + n * b.sym + halfExposure b.core ≤ p.1 ∧
    p.1 + halfExposure b.core ≤ b.start + (n + 1) * b.sym)).map (·.2)

/-- The mean of a pixel over a set of planes; 0 over none. -/
def meanAt (ps : List (List Nat)) (i : Nat) : Nat := (ps.map fun p => p.getD i 0).sum / ps.length

/-- The planes of symbols at the given places of every repetition. -/
def Blinks.framesAt (b : Blinks) (places : List Nat) : List (List Nat) :=
  (List.range b.reps).flatMap fun r => places.flatMap fun i => b.frames (72 * r + i)

/-! ## Blobs -/

/-- Two pixels share an edge. -/
def touch (p q : Nat × Nat) : Bool :=
  decide (p.1 = q.1 ∧ (p.2 + 1 = q.2 ∨ q.2 + 1 = p.2) ∨ p.2 = q.2 ∧ (p.1 + 1 = q.1 ∨ q.1 + 1 = p.1))

/-- A blob grown by the pixels of a list that touch it, and the pixels left over. -/
def growBlob : Nat → List (Nat × Nat) → List (Nat × Nat) → List (Nat × Nat) × List (Nat × Nat)
  | 0, b, r => (b, r)
  | n + 1, b, r =>
    let near := r.filter fun p => b.any (touch p)
    if near.isEmpty then (b, r) else growBlob n (b ++ near) (r.filter fun p => !b.any (touch p))

/-- The connected sets of a list of pixels. -/
def blobsOf : Nat → List (Nat × Nat) → List (List (Nat × Nat))
  | 0, _ => []
  | _, [] => []
  | n + 1, p :: r =>
    let (b, far) := growBlob r.length [p] r
    b :: blobsOf n far

/-- The blobs of a session in a plane `w` pixels wide: pixels whose mean over the on symbols of the preambles exceeds that over their
off symbols by more than 8 % of full scale. -/
def Blinks.blobs (b : Blinks) (w h : Nat) : List (List (Nat × Nat)) :=
  let on := b.framesAt [0, 1, 2]
  let off := b.framesAt [3, 68, 69, 70, 71]
  let bright := (List.range (w * h)).filter fun i => decide (8 * 65535 < 100 * (meanAt on i - meanAt off i))
  blobsOf bright.length (bright.map fun i => (i % w, i / w))

/-! ## Codes (R182) -/

/-- The brightness of a blob in a symbol; none where no frame samples it. -/
def Blinks.level (b : Blinks) (w : Nat) (blob : List (Nat × Nat)) (n : Nat) : Option Nat :=
  let ps := b.frames n
  if ps.isEmpty then none else some (blob.map fun p => meanAt ps (p.2 * w + p.1)).sum

/-- Bit `i` of repetition `r`: on-then-off is 1, off-then-on 0. -/
def Blinks.bit (b : Blinks) (w : Nat) (blob : List (Nat × Nat)) (r i : Nat) : Option Bool :=
  match b.level w blob (72 * r + 4 + 2 * i), b.level w blob (72 * r + 5 + 2 * i) with
  | some p, some q => if p = q then none else some (decide (q < p))
  | _, _ => none

/-- The code of a repetition, where every bit is sampled. -/
def Blinks.code (b : Blinks) (w : Nat) (blob : List (Nat × Nat)) (r : Nat) : Option Nat :=
  (List.range 32).foldl (fun c i => match c, b.bit w blob r i with
    | some c, some v => some (c + (if v then 2 ^ i else 0))
    | _, _ => none) (some 0)

/-- The blink code of a tile. -/
def blinkCode (t : Nat) : Nat := t + 2 ^ 18 * (crc16 (leBytes 3 t) % 2 ^ 14)

/-- The tile a blob decodes: two repetitions yield the same code with a valid check. -/
def Blinks.tile (b : Blinks) (w : Nat) (blob : List (Nat × Nat)) : Option Nat :=
  let codes := ((List.range b.reps).filterMap (b.code w blob)).filter fun c => decide (c = blinkCode (c % 2 ^ 18))
  (codes.find? fun c => decide (2 ≤ codes.count c)).map (· % 2 ^ 18)

/-! ## LEDs and their triangulation -/

/-- A tile's LED in the companion image. -/
structure Led where
  /-- The tile. -/
  tile : TileRow
  /-- Centroid, column, 1/256 pixel. -/
  x : Int
  /-- Centroid, row, 1/256 pixel. -/
  y : Int
deriving DecidableEq, Repr

/-- The LEDs a session decodes, one for each tile of the active configuration, in ascending order of tile. -/
def Dev.leds (d : Dev) (b : Blinks) : List Led :=
  let w := d.rd P.C_WIDTH [b.core]
  let found := (b.blobs w (d.rd P.C_HEIGHT [b.core])).filterMap fun blob => (b.tile w blob).map fun t =>
    (t, 256 * (blob.map (·.1)).sum / blob.length, 256 * (blob.map (·.2)).sum / blob.length)
  if found.isEmpty then []
  else (tilesOf d.plc.image).filterMap fun t => (found.find? fun f => decide (f.1 = t.tile)).map fun f => ⟨t, f.2.1, f.2.2⟩

/-- Twice the signed area of a triangle. -/
def area2 (a b c : Int × Int) : Int := (b.1 - a.1) * (c.2 - a.2) - (b.2 - a.2) * (c.1 - a.1)

/-- The place of an LED. -/
def Led.at (l : Led) : Int × Int := (l.x, l.y)

/-- A point lies inside the circle through a triangle of positive area. -/
def inCircle (a b c p : Int × Int) : Bool :=
  let row (q : Int × Int) : Int × Int × Int :=
    (q.1 - p.1, q.2 - p.2, (q.1 - p.1) * (q.1 - p.1) + (q.2 - p.2) * (q.2 - p.2))
  let (ax, ay, az) := row a
  let (bx, by_, bz) := row b
  let (cx, cy, cz) := row c
  decide (0 < az * (bx * cy - by_ * cx) - bz * (ax * cy - ay * cx) + cz * (ax * by_ - ay * bx))

/-- The triangles of the Delaunay triangulation: those whose circle holds no LED. -/
def delaunay (l : List Led) : List (Led × Led × Led) :=
  let after (a : Led) : List Led := l.filter fun b => decide (a.tile.tile < b.tile.tile)
  l.flatMap fun a => (after a).flatMap fun b => (after b).filterMap fun c =>
    let s := area2 a.at b.at c.at
    let t := if 0 < s then (a, b, c) else (a, c, b)
    if s = 0 || l.any (fun q => inCircle t.1.at t.2.1.at t.2.2.at q.at) then none else some t

/-- The barycentric weights of a point in a triangle, scaled by twice its area. -/
def weights (t : Led × Led × Led) (p : Int × Int) : List (Led × Int) :=
  [(t.1, area2 t.2.1.at t.2.2.at p), (t.2.1, area2 t.2.2.at t.1.at p), (t.2.2, area2 t.1.at t.2.1.at p)]

/-! ## Nodes -/

/-- A word of a core's mount record: four distortion coefficients, then the nine of the homography, row by row. -/
def Dev.mountWord (d : Dev) (k n : Nat) : F32 :=
  BitVec.ofNat 32 (leAt (d.factory k) (16 * d.pixels k + 140 + 4 * n) 4)

/-- A point under the radial distortion c₀ r² + c₁ r⁴. -/
def distort (c0 c1 : F32) (p : F32 × F32) : F32 × F32 :=
  let r2 := F32.add (F32.mul p.1 p.1) (F32.mul p.2 p.2)
  let s := F32.add F32.one (F32.mul r2 (F32.add c0 (F32.mul c1 r2)))
  (F32.mul p.1 s, F32.mul p.2 s)

/-- A coordinate about the centre, in half sizes, as one in 1/256 pixel; none where it is not finite. -/
def pixelAt (f : F32) (size : Nat) : Option Int :=
  match F32.val f with
  | .fin _ _ _ => some (F32.scaled f (128 * size) 1 1 - 128)
  | _ => none

/-- A pixel of a core in its companion image, 1/256 pixel, by the factory mount record. -/
def Dev.inCompanion (d : Dev) (k x y : Nat) : Option (Int × Int) :=
  let m := d.mountWord k
  let centred (v size : Nat) : F32 := F32.ofIntRat (2 * (v : Int) + 1 - size) size
  let p := distort (m 0) (m 1) (centred x (d.rd P.WIDTH [k]), centred y (d.rd P.HEIGHT [k]))
  let row (i : Nat) : F32 := F32.add (F32.add (F32.mul (m i) p.1) (F32.mul (m (i + 1)) p.2)) (m (i + 2))
  let q := distort (m 2) (m 3) (F32.div (row 4) (row 10), F32.div (row 7) (row 10))
  (pixelAt q.1 (d.rd P.C_WIDTH [k])).bind fun u => (pixelAt q.2 (d.rd P.C_HEIGHT [k])).map fun v => (u, v)

/-- A vector turned by a unit quaternion (w, x, y, z): v + 2 q × (q × v + w v). -/
def rotate (q : Nat → F32) (v : Nat → F32) (i : Nat) : F32 :=
  let cross (a b : Nat → F32) (i : Nat) : F32 :=
    F32.sub (F32.mul (a ((i + 1) % 3)) (b ((i + 2) % 3))) (F32.mul (a ((i + 2) % 3)) (b ((i + 1) % 3)))
  let axis (i : Nat) : F32 := q (i + 1)
  let t (i : Nat) : F32 := F32.add (cross axis v i) (F32.mul (q 0) (v i))
  let c := cross axis t i
  F32.add (v i) (F32.add c c)

/-- The scalar product of two vectors. -/
def dot (a b : Nat → F32) : F32 := F32.add (F32.add (F32.mul (a 0) (b 0)) (F32.mul (a 1) (b 1))) (F32.mul (a 2) (b 2))

/-- The tile-back normal in the screen frame. -/
def TileRow.normal (t : TileRow) (i : Nat) : F32 :=
  if i = 0 then F32.mul (F32.cosCenti t.el) (F32.cosCenti t.az)
  else if i = 1 then F32.mul (F32.cosCenti t.el) (F32.sinCenti t.az)
  else F32.sinCenti t.el

/-- ANGLE of a node of a core that falls on a tile (R180): the steps of 0.5° up to 90° that the view angle fills. -/
def Dev.viewAngle (d : Dev) (k x y : Nat) (t : TileRow) : Nat :=
  let orient := (d.mount? k).getD []
  let ray := rotate (fun n => BitVec.ofNat 32 (leAt orient (24 + 4 * n) 4)) (opticalRay k x y)
  let c := F32.div (dot ray t.normal) (F32.sqrt (dot ray ray))
  ((List.range 180).filter fun h => F32.le c (F32.cosHalf (h + 1))).length

/-- The tile point of a pixel of the companion image: its triangle's LEDs in the frame of the vertex of the largest weight,
interpolated by weight and reduced to a tile. -/
def Dev.tilePoint (d : Dev) (ts : List (Led × Led × Led)) (p : Int × Int) : Option (Nat × Int × Int) :=
  (ts.find? fun t => (weights t p).all fun w => decide (0 ≤ w.2)).bind fun t =>
    let ws := weights t p
    let top := ws.foldl (fun a b => if a.2 < b.2 then b else a) (t.1, 0)
    let pts := ws.map fun w => (d.inFrame top.1.tile w.1.tile.tile w.1.tile.ledU w.1.tile.ledV).map fun q => (q, w.2)
    if pts.any (·.isNone) then none
    else
      let pts := pts.filterMap id
      let sum (f : (Int × Int) × Int → Int) : Int := (pts.map f).sum
      let n := sum (·.2)
      d.onTile top.1.tile (sum (fun q => q.1.1 * q.2) / n) (sum (fun q => q.1.2 * q.2) / n)

/-- The word of a node (Table 6-4); 0, not VALID, where the node maps to no tile. -/
def Dev.solveNode (d : Dev) (k : Nat) (ts : List (Led × Led × Led)) (i j : Nat) : Nat :=
  let x := min (16 * i) (d.rd P.WIDTH [k] - 1)
  let y := min (16 * j) (d.rd P.HEIGHT [k] - 1)
  match (if ts.isEmpty then none else (d.inCompanion k x y).bind (d.tilePoint ts)) with
  | none => 0
  | some (t, u, v) => match d.tile? t with
    | none => 0
    | some row => t + 2 ^ 18 * (u.toNat % 2 ^ 12) + 2 ^ 32 * (v.toNat % 2 ^ 12) + 2 ^ 44 * d.viewAngle k x y row + 2 ^ 52

/-- What a session that began at S₀ makes of a core's NIR planes: the tiles decoded and the nodes of the grid, row-major. -/
def Dev.solveGrid (d : Dev) (k start : Nat) (planes : List (Nat × List Nat)) : Nat × List Nat :=
  let leds := d.leds ⟨k, start, ms (d.rd P.BLINK_SYM), d.rd P.BLINK_REP, planes⟩
  let ts := delaunay leds
  let (nx, ny) := d.gridSize k
  (leds.length, (List.range ny).flatMap fun j => (List.range nx).map fun i => d.solveNode k ts i j)

end Sys2Proof.Machine
end

