-- ==== Sys2Proof/Machine/Output.lean ====
section
/-!
DEFINITION. Sys2Proof/Machine/Output.lean: patch-addressed requests (R64) and the output commands: TILE_STATUS,
PATCH_STATUS, OUTPUT_PROFILE, BLINK_REGISTER (R183, R208, R209), the tile buses (R194 to R203), publication (R192),
alarm records (R200) and contributions (R241).
-/
namespace Sys2Proof.Machine

/-! ## Patch-addressed requests (R64) -/

/-- PATCH of the patch prefix. -/
def patchOf (r : Req) : Nat := leAt r.params 0 4 % 2 ^ 22

/-- EPOCH of the patch prefix. -/
def epochOf (r : Req) : Nat := leAt r.params 4 4

/-- ST_MOVED, NOT_FORWARDED (Table 2-9). -/
def notForwarded (owner epoch : Nat) : Answer :=
  ⟨.moved, 0x0012, leBytes 2 owner ++ leBytes 4 epoch ++ [0xFF, 0, 0, 0]⟩

/-- ST_MOVED, FORWARDED, with the new owner's answer. -/
def forwarded (owner epoch : Nat) (a : Answer) : Answer :=
  ⟨.moved, 0x0011, leBytes 2 owner ++ leBytes 4 epoch ++ leBytes 1 a.status.code ++ [0] ++ leBytes 2 a.detail ++
    a.data.take 1368⟩

/-- What Table 2-7 has a device do with a patch-prefixed request. -/
inductive PatchStep where
  /-- Executed. -/
  | run
  /-- Answered. -/
  | say (a : Answer)
  /-- Forwarded to the new owner of the epoch given. -/
  | pass (owner epoch : Nat)
deriving DecidableEq, Repr

/-- Table 2-7, rows in order. -/
def Dev.patchStep (d : Dev) (r : Req) : PatchStep :=
  let p := patchOf r
  let pl := d.place p
  let es := epochOf r
  if (d.patch? p).isNone then .say badValue
  else if d.owns p then
    if es = 0 || es = pl.epoch then .run
    else if es < pl.epoch then .say ⟨.staleEpoch, 0, leBytes 4 pl.epoch⟩
    else .say (refuse .busy 0x000F)
  else if pl.forwards && pl.owner ≠ 0x3FF then .pass pl.owner pl.epoch
  else if pl.owner = 0x3FF || pl.withdrawn then .say (notForwarded 0x3FF pl.epoch)
  else .say (notForwarded pl.owner pl.epoch)

/-- A request with the patch prefix and `n` further parameter bytes: `chk` and `act` are the owner's. -/
def servePatch (op : Op) (n : Nat) (chk : Dev → Req → Option Answer) (act : Dev → Req → Dev × Option Answer) (r : Req)
    (d : Dev) : Dev :=
  serve op
    (fun d r =>
      match lengthIs (8 + n) r with
      | some a => some a
      | none => match d.patchStep r with
        | .run => chk d r
        | .say a => some a
        | .pass .. => none)
    (fun d r =>
      match d.patchStep r with
      | .pass owner epoch =>
        if (d.route owner).isNone then (d, some (forwarded owner epoch (refuse .fault 0x0005)))
        else ((d.ask op.code owner r.params).hold op.code r (.owner owner epoch), none)
      | _ => act d r) r d

/-! ## TILE_STATUS and PATCH_STATUS (R209) -/

/-- A cell entry of TILE_STATUS and of table 0x23F0. -/
def Dev.cellEntry (d : Dev) (p : Nat) (s : Slot) (c : Nat) : List Byte :=
  let x := s.cells.get c ⟨0, 0, 3, 0, F32.zero, 0, []⟩
  let conf := d.configured p s c
  leBytes 2 (if x.state = 3 then 0 else x.t) ++ leBytes 1 (min 255 x.u) ++
  leBytes 1 (x.state % 4 + 4 * min 7 x.fresh + 32 * min 7 conf) ++
  leBytes 2 (wrapInt 16 (clampInt (-32768) 32767 (F32.scaled x.rate 1 0 1))) ++
  leBytes 2 (wrapInt 16 (clampInt (-32768) 32767 x.join))

/-- A patch tile's place in its patch. -/
def Dev.tileIndex (d : Dev) (p t : Nat) : Option Nat := (d.patchTiles p).findIdx? fun q => decide (q.tile = t)

/-- TILE_STATUS. -/
def tileStatus (r : Req) (d : Dev) : Dev :=
  servePatch { code := 0x0500, cls := .open_ } 4
    (fun d r => if (d.tileIndex (patchOf r) (leAt r.params 8 4)).isNone then some (refuse .badParam 0x2304) else none)
    (report fun d r =>
      let p := patchOf r
      let t := leAt r.params 8 4
      let a := d.attach t
      let n := d.tileCells
      let i := (d.tileIndex p t).getD 0
      let s := (d.slot? p).getD (Slot.fresh 0)
      okWith (leBytes 4 t ++ leBytes 1 (a.seq + 255) ++ leBytes 1 a.mapSeq ++ leBytes 2 n ++ leBytes 8 a.sent ++
        (List.range (min 160 n)).flatMap fun c : Nat => d.cellEntry p s (i * n + c))) r d

/-- PATCH_STATUS. -/
def patchStatus (r : Req) (d : Dev) : Dev :=
  servePatch { code := 0x0501, cls := .open_ } 0 (fun _ _ => none) (report fun d r => okWith (d.slotHeader (patchOf r))) r d

/-! ## OUTPUT_PROFILE (R208) -/

/-- OUTPUT_PROFILE. -/
def outputProfile (r : Req) (d : Dev) : Dev :=
  serve { code := 0x0503, cls := .operator, bcast := true } (fun _ => oneByte 7)
    (fun d r =>
      let p := byteAt r.params 0
      let t := d.tblRead (0x23C0 + p) 0 16
      let d := d.wrs [(P.OUT_RATE_MAX, [], byteAt t 0), (P.HOLD_PERIOD, [], leAt t 1 2), (P.SILENCE_MIN, [], leAt t 3 2),
        (P.HEALTH_PERIOD, [], leAt t 5 2), (P.ANGLE_MAX, [], byteAt t 7), (P.RATE_TAU, [], byteAt t 8),
        (P.JOIN_SLEW, [], byteAt t 9), (P.JOIN_MAX, [], byteAt t 10), (P.OUT_PROF, [], p)]
      (d.spaceAll.wrote 0x23, some okay)) r d

/-! ## Registration (R183 to R185) -/

/-- The enabled tile buses. -/
def Dev.busesOn (d : Dev) : List Nat := (List.range 200).filter fun b => d.is P.BUS_EN [b]

/-- The cores of a mask. -/
def maskCores (m : Nat) : List Nat := (List.range 64).filter (bitOf m)

/-- BLINK_REGISTER. -/
def blinkRegister (r : Req) (d : Dev) : Dev :=
  let op : Op := { code := 0x0502, cls := .operator }
  serve op
    (fun d r =>
      let cores := maskCores (leAt r.params 0 8)
      match lengthIs 8 r with
      | some a => some a
      | none =>
        if d.rd P.TIME_SRC = 0 then some (refuse .denied 0x2307)
        else if cores.any fun k => !d.is P.COMP_EN [k] then some (refuse .denied 0x2302)
        else if cores.any fun k => d.fus.regs.any fun g => g.cores.contains k then some (refuse .busy 0x2303)
        else none)
    (fun d r =>
      let start := (d.now + 1500000000 + sec 4 - 1) / sec 4 * sec 4
      let s : Session6 := ⟨start, maskCores (leAt r.params 0 8), ticket op r, false⟩
      let d : Dev := { d with fus := { d.fus with regs := snoc d.fus.regs s } }
      let rec_ : TRec := ⟨0, 4, true, [0, 0, BitVec.ofNat 8 (d.rd P.BLINK_SYM), BitVec.ofNat 8 (d.rd P.BLINK_REP), 0], [], d.clk,
        start⟩
      (d.each d.busesOn fun b d => d.pushOther (allQueue b) rec_, some okay)) r d

/-- The clock moved on to an instant of system time. -/
def Dev.reachTime (d : Dev) (t : Nat) : Dev := d.reach (d.clk + (t - d.now))

/-- REGISTRATION_SESSION: S₀ of the oldest session that does not blink yet. -/
def registrationSession (d : Dev) : Dev :=
  match d.fus.regs.find? fun s => !s.blinking with
  | none => d
  | some s =>
    if !d.awake then d
    else
      let d := d.reachTime s.start
      let regs := d.fus.regs.map fun q => if q = s then { q with blinking := true } else q
      let d := { d with fus := { d.fus with regs := regs, planes := d.fus.planes.keep fun k _ => !s.cores.contains k } }
      d.each s.cores fun k d => d.wr P.REG_STATE [k] 2

/-- A warp grid stored in the bulk store (R185); where the bulk store is lost the store fails at once (R348). -/
def Dev.storeGrid (d : Dev) (k : Nat) (bytes : List Byte) : Dev :=
  if d.bulkUp then d.bulkWrite (gridRid k) 10 bytes (.grid k) else d.set (.nv 4) noUnit (nvData (gridRid k) 0 10)

/-- The outcome of a session for one core (R185). -/
def Dev.registerCore (d : Dev) (k : Nat) (s : Session6) : Dev :=
  let t := s.ticket
  let (leds, nodes) := d.solveGrid k s.start (d.fus.planes.get k [])
  let d := d.wr P.LEDS [k] (min 511 leds)
  let d := { d with fus := { d.fus with planes := d.fus.planes.del k } }
  if leds < 4 || !(nodes.any fun n => bitOf n 52) then
    ((d.wr P.REG_STATE [k] 5).setOut 8 (2, k)).complete t .fault 0 (leBytes 1 k ++ leBytes 1 5)
  else
    let bytes := nodes.flatMap (leBytes 8)
    let d := { d with fus := { d.fus with newGrid := d.fus.newGrid.upd k ([], []) fun g => (bytes, g.2) } }
    let d := d.wrs [(P.REG_STATE, [k], 4), (P.REG_TIME, [k], d.now / 1000000000)]
    let d := d.storeParams [0x230500 + 4 * k, 0x230502 + 4 * k]
    ((d.storeGrid k bytes).complete t .ok 0 (leBytes 1 k ++ leBytes 1 4))

/-- When a session has sent its repetitions (R183). -/
def Dev.blinkEnd (d : Dev) (s : Session6) : Nat := s.start + ms (72 * d.rd P.BLINK_SYM * d.rd P.BLINK_REP)

/-- REGISTRATION_END: the oldest blinking session has sent its repetitions, and its cores are solved. -/
def registrationEnd (d : Dev) : Dev :=
  match d.fus.regs.find? (·.blinking) with
  | none => d
  | some s =>
    if !d.awake then d
    else
      let d := d.reachTime (d.blinkEnd s)
      let d : Dev := { d with fus := { d.fus with regs := d.fus.regs.filter (· ≠ s) } }
      if s.cores.isEmpty then d.complete s.ticket .ok else d.each s.cores fun k d => d.registerCore k s

/-! ## Publication (R192) -/

/-- The lead frames of a patch fall to this device: as its owner after T_c of its epoch, or up to T_c too where a commit kept it, and up to
T_c while it leaves (R236, R237). A device that sends no record publishes none (R245). -/
def Dev.publishes (d : Dev) (p capture : Nat) : Bool :=
  let pl := d.place p
  if d.mute then false
  else if d.owns p then pl.kept.isSome || decide (pl.tc < capture)
  else match (d.slot? p).bind (·.leaving) with
    | some tc => decide (capture ≤ tc)
    | none => false

/-- A parameter word's fields given the bits of a word. -/
def Dev.setWord (d : Dev) (a w : Nat) : Dev := d.each (rowsAt a) fun p d => d.wr p.1 p.2 (bitsOf w p.1.lo p.1.width)

/-- The device under the surface of an image: its tables and, from section 1, its cell grid and EMIS_N (log 20). -/
def Dev.underSurface (d : Dev) (img : List Byte) : Dev :=
  { d with plc := { d.plc with image := img } }.setWord 0x230010 (leAt (imageSection img 1) 0 4)

/-- A publication under the surface of its lead frame, that before T_A for a CAPTURE up to T_A (R252), and, without a
snapshot that has not fully arrived, as after a failover (R237, R238). -/
def Dev.publishLead (d : Dev) (p c origin : Nat) : Dev :=
  let d := match d.plc.handovers.get? p with
    | some h =>
      let pl := d.place p
      (({ d with plc := { d.plc with handovers := d.plc.handovers.del p } } : Dev).barFrom p pl.tc).setPlc 15
        (plcData p pl.epoch h.former 0 0)
    | none => d
  if c ≤ d.plc.actAt && !d.plc.former.isEmpty then
    let img := d.plc.image
    ((d.underSurface d.plc.former).publish p (some c) origin).underSurface img
  else d.publish p (some c) origin

/-- PUBLICATION: LAST of a lead-view frame of a patch has arrived. -/
def publication (p : Nat) (d : Dev) : Dev :=
  match d.slot? p with
  | none => d
  | some s =>
    if !d.awake then d
    else
      let lead := match s.lead.bind fun i => s.views[i]? with
        | some v => if v.recent d.now then s.lead else d.leadAt p s d.now
        | none => d.leadAt p s d.now
      match lead.bind fun i => s.views[i]? with
      | none => d
      | some v =>
        match v.capture with
        | none => d
        | some c =>
          if v.done || !d.publishes p c then d
          else
            let d := d.setSlot p { s with lead := lead }
            if s.pubs ≠ 0 && c < s.lastPub + d.pubGap then
              d.setSlot p { s with lead := lead, views := s.views.map fun w => if w = v then { w with done := true } else w }
            else
              let d := d.publishLead p c v.origin
              match d.slot? p with
              | some s => (d.setSlot p { s with lead := d.leadAt p s d.now }).tryState p
              | none => d

/-- HOLD_PERIOD: a patch without a fresh view is published held. -/
def holdPeriod (p : Nat) (d : Dev) : Dev :=
  match d.slot? p with
  | none => d
  | some s =>
    if !d.awake || d.mute || !d.owns p then d
    else
      let e := d.reach (s.pubAt + ms (d.rd P.HOLD_PERIOD))
      if (e.leadAt p s e.now).isSome then d
      else
        let e := e.publish p none e.clk
        match e.slot? p with
        | some s => e.setSlot p { s with lead := none }
        | none => e

/-! ## Alarm records (R200) -/

/-- A hit mapped onto a tile. -/
structure Hit where
  /-- Device of the core. -/
  dev : Nat
  /-- Core. -/
  core : Nat
  /-- 1 absolute, 2 rate, 3 both. -/
  kind : Nat
  /-- T, 0.01 K. -/
  t : Nat
  /-- ΔT, 0.01 K, 16 bits. -/
  dt : Nat
  /-- FRAME_CNT. -/
  cnt : Nat
  /-- Deadline origin, ns since RESET_N release. -/
  origin : Nat
  /-- CAPTURE. -/
  capture : Nat
  /-- Tile. -/
  tile : Nat
  /-- Cell index. -/
  cell : Nat
deriving DecidableEq, Repr

/-- A frame that a hit is of: 2 ^ 32 × (64 × device + core) + FRAME_CNT. -/
def hitFrame (dev core cnt : Nat) : Nat := (64 * dev + core) * 2 ^ 32 + cnt

/-- An alarm record (Table 6-11) for the `n`-th hit of a frame on a tile; ALARM_SEQ is set where it is sent. -/
def Hit.record (h : Hit) (n : Nat) (all : Bool) : TRec :=
  ⟨h.tile, 2, all, [0, BitVec.ofNat 8 h.kind] ++ leBytes 2 h.cell ++ [0],
    leBytes 2 h.t ++ leBytes 2 h.dt ++ leBytes 2 h.dev ++ leBytes 1 h.core ++ [0] ++ leBytes 4 h.cnt ++
      leBytes 2 (min 65535 n) ++ [0, 0], h.origin, hitFrame h.dev h.core h.cnt⟩

/-- The alarm records of a hit: one to the tile, and one copy to ALL on every other bus that carries a tile of its patch. Behind the
first hit of a frame on the tile, they carry the raised count (R200). -/
def Dev.raiseAlarm (d : Dev) (h : Hit) (n : Nat) : Dev :=
  match d.tile? h.tile with
  | none => d
  | some row =>
    let epoch := (d.place row.patch).epoch
    let d := d.toTile h.tile epoch h.capture (h.record n false)
    let others := (d.patchTiles row.patch).filter fun q => !decide (q.dev = row.dev ∧ q.bus = row.bus)
    let firsts := others.filter fun q => (others.find? fun x => decide (x.dev = q.dev ∧ x.bus = q.bus)) |>.any fun x => x.tile = q.tile
    d.each firsts fun q d => d.toTile q.tile epoch h.capture (h.record n true)

/-- A hit taken where its alarm records are raised: the patch's alarm flag, and the count of the frame's hits on the tile. -/
def Dev.takeHit (d : Dev) (p : Nat) (h : Hit) : Dev :=
  let d := match d.slot? p with
    | some s => d.setSlot p { s with hitAt := some h.origin }
    | none => d
  let k := 65536 * h.tile + 64 * h.dev + h.core
  let n := match d.fus.alarmed.get? k with
    | some a => if a.1 = h.cnt then a.2 + 1 else 1
    | none => 1
  ({ d with fus := { d.fus with alarmed := d.fus.alarmed.put k (h.cnt, n) } } : Dev).raiseAlarm h n

/-- A hit record on its way to the owner of its patch: the head of a contribution message with COUNT 0 and the hit behind it, the
model's own layout (log 67). -/
def hitMessage (p epoch : Nat) (h : Hit) : List Byte :=
  leBytes 4 p ++ leBytes 4 epoch ++ leBytes 8 h.capture ++ leBytes 2 h.dev ++ leBytes 1 h.core ++ leBytes 5 0 ++
  leBytes 4 h.tile ++ leBytes 2 h.cell ++ leBytes 1 h.kind ++ [0] ++ leBytes 2 h.t ++ leBytes 2 h.dt ++ leBytes 4 h.cnt

/-- The hit of such a message. -/
def hitOf (m : List Byte) (now : Nat) : Hit :=
  ⟨leAt m 16 2 % 1024, byteAt m 18, byteAt m 30 % 4, leAt m 32 2, leAt m 34 2, leAt m 36 4, now, leAt m 8 8, leAt m 24 4 % 2 ^ 18,
    leAt m 28 2⟩

/-- A hit of this device's cores goes to the owner of its patch, or is taken here: by the owner, and where the owner has no route
(R200, R241). -/
def Dev.routeHit (d : Dev) (p : Nat) (h : Hit) : Dev :=
  let o := d.ownerFor p h.capture
  if o = d.addr then (if d.verdict p h.capture = .use then d.takeHit p h else d.stale (2, h.core))
  else if (d.route o).isNone then d.takeHit p h
  else d.sendTo 5 o (hitMessage p (d.place p).epoch h)

/-- HIT_RECORD: the oldest hit record is mapped by its core's grid (log 36). A device that sends no record drops it (R245). -/
def hitRecord (d : Dev) : Dev :=
  match d.fus.hits with
  | [] => d
  | h :: rest =>
    if !d.awake then d
    else
      let d : Dev := { d with fus := { d.fus with hits := rest } }
      let a (i : Nat) : Nat := h.getD i 0
      match d.mapPixel (a 0) (a 1) (a 2) with
      | none => d.setOut 7 (2, a 0)
      | some (t, cell, _) =>
        match d.tile? t with
        | none => d
        | some row => if d.mute then d else d.routeHit row.patch ⟨d.addr, a 0, a 3, a 4, a 5, a 6, a 7, a 8, t, cell⟩

/-! ## Tile buses (R195 to R199) -/

/-- A tile bus. -/
def Dev.bus (d : Dev) (b : Nat) : Bus := d.fus.buses.get b ⟨none, false, 0, 0, 0, false⟩

/-- A tile bus changed. -/
def Dev.setBus (d : Dev) (b : Nat) (x : Bus) : Dev := { d with fus := { d.fus with buses := d.fus.buses.put b x } }

/-- Rank of a record on its bus (R199). -/
def TRec.rank (r : TRec) : Nat := if r.kind = 2 then 0 else if r.kind = 1 then 2 else 1

/-- The record a bus sends next: of the heads of its queues the best rank, then the earliest deadline origin, then the
lowest tile (R199). Records of one tile keep their order of acceptance (log 37). -/
def Dev.nextRecord (d : Dev) (b : Nat) : Option (Nat × TRec) :=
  let keys := (d.busTiles b).map (·.tile) ++ [allQueue b]
  let heads := keys.filterMap fun q => (d.queue q).head?.map fun r => (q, r)
  heads.foldl (fun (best : Option (Nat × TRec)) e =>
    match best with
    | none => some e
    | some x =>
      let key (p : Nat × TRec) : Nat := (p.2.rank * 2 ^ 64 + p.2.origin) * 2 ^ 24 + p.1
      if key e < key x then some e else some x) none

/-- The record as it goes on the wire: SEQ, ALARM_SEQ, START. -/
def Dev.finishRecord (d : Dev) (q : Nat) (r : TRec) : Dev × TRec :=
  let a := d.attach q
  let t := fitTo 5 0 r.tspec
  if r.kind = 1 then
    (d.setAttach q { a with seq := (a.seq + 1) % 256 }, { r with tspec := t.set 0 (BitVec.ofNat 8 a.seq) })
  else if r.kind = 2 then
    (d.setAttach q { a with alarmSeq := (a.alarmSeq + 1) % 256 }, { r with tspec := t.set 0 (BitVec.ofNat 8 a.alarmSeq) })
  else if r.kind = 4 then (d, { r with tspec := leBytes 2 ((r.frame - (d.now + 5600)) / 1000000) ++ t.drop 2 })
  else (d, r)

/-- The occupancy of a bus brought to the running second (Table 6-15). -/
def Bus.at (x : Bus) (s : Nat) : Bus :=
  if x.second = s then x else { x with second := s, chars := 0, prev := if x.second + 1 = s then x.chars else 0 }

/-- Characters counted on a bus: those of its records, the idle between them, and its reply windows. -/
def Dev.useBus (d : Dev) (b n : Nat) : Dev :=
  let x := (d.bus b).at (d.clk / sec 1)
  d.setBus b { x with chars := x.chars + n }

/-- The characters of a record in the burst of a bus: one idle behind the record before it, or the guard of `n` idle characters
that begins a burst (R437), then SOF and its bytes (R195). -/
def Bus.record (x : Bus) (n : Nat) (bytes : List Byte) : List Chr :=
  List.replicate (if x.burst then 1 else n) k28_0 ++ k28_5 :: bytes.map fun b => ⟨false, b⟩

/-- A record's characters sent on a bus, in its burst or as a new one, whose running disparity starts negative (R195). -/
def Dev.sendChars (d : Dev) (b : Nat) (bytes : List Byte) : Dev :=
  let x := d.bus b
  let (codes, rd) := encodeChrs (x.burst && x.rd) (x.record (d.rd P.TB_GUARD) bytes)
  ((d.emit (.chars (56 + b) codes)).setBus b { x with burst := true, rd := rd }).useBus b codes.length

/-- A record on the wire of a bus: counted, and late beyond 3 ms of its deadline origin (R204). -/
def Dev.sendRecord (d : Dev) (b q : Nat) (r : TRec) : Dev :=
  let d := (d.sendChars b (tileRecord r)).bump P.REC_CNT [b]
  let d := if r.kind = 2 then d.bump P.ALARM_REC_CNT else d
  let d := if r.kind = 1 && r.origin + ms 3 < d.clk then (d.bump P.LATE_CNT).setOut 2 (d.tileUnit q) else d
  if q < 2 ^ 18 then d.setAttach q { d.attach q with sent := d.now } else d

/-- TILE_RECORD_SEND: a bus sends its next record, or its burst ends with none left. -/
def tileRecordSend (b : Nat) (d : Dev) : Dev :=
  if !d.awake || 200 ≤ b || !d.is P.BUS_EN [b] || (d.bus b).window.isSome then d
  else
    match d.nextRecord b with
    | none => d.setBus b { d.bus b with burst := false }
    | some (q, r) =>
      let d := d.popRec q
      let (d, r) := d.finishRecord q r
      let d := d.sendRecord b q r
      d.setBus b { d.bus b with burst := (d.nextRecord b).isSome }

/-- HELD_NOTICE_REPEAT: 10 s after a tile's last held-notice, with an unchanged MAP_SEQ. -/
def heldNoticeRepeat (t : Nat) (d : Dev) : Dev :=
  match d.tile? t with
  | none => d
  | some row =>
    if !d.awake || row.dev ≠ d.addr then d
    else
      let a := d.attach t
      let d := d.reach (a.noticed + sec 10)
      d.notice t a.inForce a.reason false

/-- The map of a tile that has none yet: every cell unseen. -/
def Dev.mapOfTile (d : Dev) (t : Nat) : List Nat :=
  let m := (d.attach t).map
  if m.isEmpty then List.replicate d.tileCells 3 else m

/-- The last record of a tile whose service ends: a held-notice that marks every seen cell held (R199, R203). Nothing else
of its queue is sent. -/
def Dev.lastNotice (d : Dev) (t : TileRow) (reason : Nat) : Dev :=
  let m := heldMap (d.mapOfTile t.tile)
  let d := (d.setQueue t.tile []).notice t.tile m reason (decide (m ≠ (d.attach t.tile).inForce))
  ((d.queue t.tile).foldl (fun d r => d.sendRecord t.bus t.tile r) d).setQueue t.tile []

/-- The service of tiles ends: those on an enabled bus get their last record, and what the device keeps for them goes. -/
def Dev.endService (d : Dev) (l : List TileRow) : Dev :=
  d.each l fun t d =>
    let d := if d.is P.BUS_EN [t.bus] then d.lastNotice t 5 else d
    { d with fus := { d.fus with tiles := d.fus.tiles.del t.tile, queues := d.fus.queues.del t.tile } }

/-- TILE_SILENT (R203). -/
def tileSilent (t : Nat) (d : Dev) : Dev :=
  match d.tile? t with
  | none => d
  | some row =>
    let a := d.attach t
    if !d.awake || row.dev ≠ d.addr || a.silent then d
    else
      let d := d.reach (a.at_ + max (ms (d.rd P.SILENCE_MIN)) (5 * a.interval / 2))
      let m := d.mapOfTile t
      let d := d.setAttach t { a with silent := true, map := m, repeated := d.clk }
      ((d.notice t (heldMap m) 3 true).bump P.SILENT_CNT).setOut 1 (d.tileUnit t)

/-- SILENT_RECORD_REPEAT: the record last accepted is repeated, marked held. -/
def silentRecordRepeat (t : Nat) (d : Dev) : Dev :=
  let a := d.attach t
  match (d.tile? t).bind fun row => if row.dev = d.addr ∧ a.silent then a.last else none with
  | none => d
  | some (tspec, payload) =>
    if !d.awake then d
    else
      let d := d.reach (a.repeated + ms (d.rd P.HOLD_PERIOD))
      let flags := setBit (byteAt tspec 2) 1
      let d := d.setAttach t { a with repeated := d.clk }
      d.pushTemp t ⟨t, 1, false, (fitTo 5 0 tspec).set 2 (BitVec.ofNat 8 flags), payload, d.clk, 0⟩

/-! ## Health queries (R198) -/

/-- The tile a bus queries next: in drop order, the one whose last query lies furthest back. -/
def Dev.nextQuery (d : Dev) (b : Nat) : Option Nat :=
  let l := (d.busTiles b).map (·.tile)
  let last (t : Nat) : Nat := match (d.attach t).queried with | some x => x + 1 | none => 0
  let low := (l.map last).foldl min (2 ^ 64)
  l.find? fun t => decide (last t = low)

/-- HEALTH_QUERY: a bus queries its next tile, while no temperature record has waited longer than 1 ms and no other record waits at
all (R199). Its reply window takes 30 µs of the bus, 75 characters. -/
def healthQuery (b : Nat) (d : Dev) : Dev :=
  if !d.awake || 200 ≤ b || !d.is P.BUS_EN [b] || (d.bus b).window.isSome then d
  else
    match d.nextQuery b with
    | none => d
    | some t =>
      let a := d.attach t
      let e := match a.queried with
        | some q => d.reach (q + sec (d.rd P.HEALTH_PERIOD))
        | none => d
      let keys := (e.busTiles b).map (·.tile) ++ [allQueue b]
      let waits := keys.any fun q => (e.queue q).any fun r => decide (r.kind ≠ 1 ∨ r.origin + ms 1 < e.clk)
      if waits then d
      else
        let e := e.setAttach t { a with queried := some e.clk }
        let e := e.sendRecord b t ⟨t, 5, false, [], [], e.clk, 0⟩
        (e.setBus b { e.bus b with window := some t, burst := false }).useBus b 75

/-- The record that characters of a tile controller carry, from offset 1 on; none where one of them has a code or disparity error.
Their running disparity starts negative (R195). -/
def recordIn (codes : List Nat) : Option (List Byte) := (decodeChrs false codes).bind behindSof

/-- A record's CRC-16 is right (R196). -/
def recordCrcOk (b : List Byte) : Bool := decide (leAt b (b.length - 2) 2 = crc16 (b.take (b.length - 2)))

/-- A record is tile `t`'s own health reply: its length agrees with LEN, 44, and it is of type 6, version 1, with ALL 0 (R196,
R197). -/
def isReplyOf (t : Nat) (b : List Byte) : Bool :=
  decide (b.length = 43 ∧ leAt b 0 2 % 1024 = 44 ∧ leAt b 2 3 % 2 ^ 18 = t ∧ byteAt b 5 % 64 = 22) && !bitOf (leAt b 2 3) 23

/-- Characters in the open window of a bus: a health reply is kept in table 0x23F1; one that fails its CRC is counted; anything else
is no reply. The tile it came from, where it is valid. -/
def Dev.takeReply (d : Dev) (b : Nat) (codes : List Nat) : Dev × Option (Nat × List Byte) :=
  match (d.bus b).window, recordIn codes with
  | some t, some r =>
    if !recordCrcOk r then ((d.bump P.REPLY_ERR [b]).setOut 5 (d.tileUnit t), none)
    else if !isReplyOf t r then (d, none)
    else
      let pay := (r.drop 11).take 30
      let d := d.tblWrite 0x23F1 (32 * t) (pay ++ [0, 0])
      let d := d.setAttach t { d.attach t with missed := 0 }
      (d.setBus b { d.bus b with window := none }, some (t, pay))
  | _, _ => (d, none)

/-- REPLY_WINDOW_CLOSE: the window of a bus closes without a valid reply. -/
def replyWindowClose (b : Nat) (d : Dev) : Dev :=
  match (d.bus b).window with
  | none => d
  | some t =>
    let a := d.attach t
    let d := (d.setBus b { d.bus b with window := none }).bump P.NO_REPLY [b]
    let d := d.setAttach t { a with missed := a.missed + 1 }
    if 3 ≤ a.missed + 1 then d.setOut 6 (d.tileUnit t) else d

/-! ## Carried records and contributions (R202, R241) -/

/-- A record that a carriage brings, with its SOF, whose length and CRC are right (R196). -/
def carried (b : List Byte) (now : Nat) : Option TRec :=
  let c := b.drop 1
  let len := leAt c 0 2 % 1024
  if byteAt b 0 ≠ 0xBC || b.length ≠ len || len < 14 || !recordCrcOk c then none
  else
    some ⟨leAt c 2 3 % 2 ^ 18, byteAt c 5 % 16, bitOf (leAt c 2 3) 23, (c.drop 6).take 5, (c.drop 11).take (len - 14), now,
      hitFrame (leAt c 15 2 % 1024) (byteAt c 17) (leAt c 19 4)⟩

/-- TILE_RECORD_CARRIAGE: a carried tile record on a link, for this device or on its way. -/
def tileRecordCarriage (h : SeamHdr) (m : List Byte) (d : Dev) : Dev :=
  match d.arriving 6 h m (byteAt m 22 % 16 = 2) with
  | (d, false) => d
  | (d, true) =>
    let t := leAt m 0 4 % 2 ^ 18
    match d.tile? t, carried (m.drop 16) d.clk with
    | some row, some r => if !d.awake || row.dev ≠ d.addr then d else d.acceptRecord t row.bus (leAt m 4 4) (leAt m 8 8) r
    | _, _ => d

/-- CONTRIBUTION: a contribution message or a hit record on a link, for this device or on its way (Table 7-9). A message under an epoch
newer than this device knows has it ask the directory (R241, log 68). -/
def contributionMsg (h : SeamHdr) (m : List Byte) (d : Dev) : Dev :=
  match d.arriving 5 h m with
  | (d, false) => d
  | (d, true) =>
    let p := leAt m 0 4 % 2 ^ 22
    if !d.awake then d
    else
      let d := if !d.owns p && decide ((d.place p).epoch < leAt m 4 4) then d.query p else d
      match d.verdict p (leAt m 8 8) with
      | .use => if byteAt m 19 = 0 then d.takeHit p (hitOf m d.clk) else d.contribute p (contribOf m d.clk)
      | .pass o => d.sendTo 5 o m
      | .stale => d.stale (d.coreUnit (leAt m 16 2 % 1024) (byteAt m 18))

end Sys2Proof.Machine
end

