-- ==== Sys2Proof/Machine/Chain.lean ====
section
/-!
DEFINITION. Sys2Proof/Machine/Chain.lean: the chain: enumeration and addresses (R214 to R217), loss of signal (R220) and
frame-sync events (R221).
-/
namespace Sys2Proof.Machine

/-! ## A change of address (R217 to R219) -/

/-- What a slot holds under this device's former address is held under its new one. -/
def Slot.renamed (s : Slot) (old new : Nat) : Slot :=
  { s with
    views := s.views.map fun v => if v.dev = old then { v with dev := new } else v
    cells := KMap.ofList (s.cells.cells.map fun c => (c.1, { c.2 with
      used := c.2.used.map fun u => if u / 64 = old then 64 * new + u % 64 else u })) }

/-- The views and grants of this device's own cores under its new address. -/
def Dev.renameViews (d : Dev) (old new : Nat) : Dev :=
  let d := d.each d.fus.slots.keys fun p d => match d.slot? p with
    | some s => d.setSlot p (s.renamed old new)
    | none => d
  { d with cal := { d.cal with given := d.cal.given.map fun g => if g.dev = old then { g with dev := new } else g } }

/-- The device takes an address. Patches it owns are its own under the new one; tiles attached to the old one are served no
more (R218). -/
def Dev.takeAddress (d : Dev) (a : Nat) : Dev :=
  let old := d.addr
  if a = old then d
  else
    let d := if old = 0x3FF then d else (d.endService d.attached).renameViews old a
    let d := d.wrs [(P.ADDR, [], a), (P.ADDR_SINCE, [], d.now / 1000000000)]
    let own := d.plc.places.keys.filter fun p => decide (old ≠ 0x3FF ∧ (d.place p).owner = old)
    let d := d.each own fun p d => d.setPlace p { d.place p with owner := a }
    let d := (d.sendLsa).refreshTime
    (d.each (own.filter d.isDirectory) fun p d => d.commitEpoch p a 5).sendViews

/-- The loser of an address conflict becomes unaddressed and withdraws (R219, R245). -/
def Dev.dropAddress (d : Dev) : Dev :=
  let d := d.withdrawAll.endService d.attached
  ((d.wr P.ADDR [] 0x3FF).sendLsa).refreshTime

/-! ## Enumeration (R214 to R217) -/

/-- The enumeration step (Table 7-3): the device afterwards, and NEXT and TAKEN as passed on. A token of a reserved MODE is
passed on unchanged (log 42). -/
def Dev.enumStep (d : Dev) (next mode taken : Nat) : Dev × Nat × Nat :=
  if mode = 1 then
    if next < 0x3FF then (d.takeAddress next, next + 1, taken + (if d.addr = next then 0 else 1)) else (d, next, taken)
  else if mode ≠ 0 then (d, next, taken)
  else if d.addressed then (d, max next (d.addr + 1), taken)
  else
    match (List.range 0x3FF).find? fun a => next ≤ a && !d.knownAddr a with
    | some a => (d.takeAddress a, a + 1, taken + 1)
    | none => (d, next, taken)

/-- The enumeration token (Table 7-2). -/
def tokenBytes (next mode taken : Nat) : List Byte :=
  leBytes 2 next ++ leBytes 1 mode ++ leBytes 1 0 ++ leBytes 2 taken ++ leBytes 10 0

/-- The token sent on, or the walk's end reported by the chain end (R216, log 43). -/
def Dev.sendToken (d : Dev) (next mode taken : Nat) : Dev :=
  if d.is P.DOWN_SIG then d.chainSend 53 2 (tokenBytes next mode taken)
  else d.report 208 (1, 53) (plcData taken 0 next 0 0)

/-- ENUMERATE. -/
def enumerate (r : Req) (d : Dev) : Dev :=
  let op : Op := { code := 0x0600, cls := .operator }
  serve op
    (fun _ r =>
      match lengthIs 2 r with
      | some a => some a
      | none =>
        if leAt r.params 0 2 % 1024 = 0x3FF then some badValue
        else if r.host.via ≠ .chain || r.dest ≠ 0x3FF then some (refuse .denied 0x2401)
        else none)
    (fun d r =>
      let w := leAt r.params 0 2
      let mode := bitsOf w 10 1
      let back := d.backOf r
      let (d, next, taken) := d.enumStep (w % 1024) mode 0
      let d := d.answer op.code r (okWith (leBytes 2 d.addr ++ leBytes 8 d.uid)) back
      (d.sendToken next mode taken, none)) r d

/-- A chain frame is whole: LEN is one of its TYPE and agrees with its length, and its CRC is right (Table 7-1). -/
def chainOk (frame : List Byte) : Bool :=
  let n := leAt frame 1 2
  framedOk frame && (if byteAt frame 0 = 2 then decide (n = 16) else decide (28 ≤ n ∧ n ≤ 1444))

/-- A chain frame this device takes is damaged or aborted: it is discarded and counted (Table 7-16, log 64). -/
def Dev.chainBad (d : Dev) : Dev := (d.bump P.CHAIN_CRC_CNT).setPlc 2

/-- ENUMERATION_TOKEN: the token's frame behind its SOF arrives on the chain up port. One that is aborted or fails its
CRC is discarded. -/
def enumerationToken (frame : List Byte) (aborted : Bool) (d : Dev) : Dev :=
  if !d.alive then d
  else if aborted || byteAt frame 0 ≠ 2 || !chainOk frame then d.chainBad
  else
    let token := framedPayload frame
    let mode := byteAt token 2
    let (d, next, taken) := d.enumStep (leAt token 0 2 % 1024) mode (leAt token 4 2)
    d.sendToken next mode taken

/-- ADDRESS_SET. -/
def addressSet (r : Req) (d : Dev) : Dev :=
  serve { code := 0x0601, cls := .operator }
    (fun d r =>
      match lengthIs 2 r with
      | some a => some a
      | none =>
        let a := leAt r.params 0 2 % 1024
        if a = 0x3FF then some badValue else if d.knownAddr a then some (refuse .denied 0x2402) else none)
    (fun d r => (d.takeAddress (leAt r.params 0 2 % 1024), some okay)) r d

/-- NO_SIGNAL: a chain port, up or down, has received no valid character for 10 µs. -/
def noSignal (up : Bool) (d : Dev) : Dev :=
  if !d.alive then d
  else (d.wr (if up then P.UP_SIG else P.DOWN_SIG) [] 0).setPlc (if up then 0 else 1) [] (1, if up then 52 else 53)

/-- SIGNAL_RETURN: a chain port receives valid characters again; the flag stays set. -/
def signalReturn (up : Bool) (d : Dev) : Dev :=
  if !d.alive then d else d.wr (if up then P.UP_SIG else P.DOWN_SIG) [] 1

/-! ## Frame-sync events (R221) -/

/-- A sync event: K28.1 on the down port 300 ns later, the frame-sync line of each compute die, and FSYNC where it is an
output. -/
def Dev.syncEvent (d : Dev) : Dev :=
  let d := d.emits [.pulse 2 0 300, .pulse 1 0 0, .pulse 1 1 0]
  if d.is P.FSYNC_OUT then d.emit (.pulse 0 0 (d.rd P.SYNC_COMP)) else d

/-- SYNC_CHARACTER: K28.1 on the chain up port. -/
def syncCharacter (d : Dev) : Dev := if d.alive && decide (d.rd P.SYNC_SRC = 2) then d.syncEvent else d

/-- FSYNC: the pin's level. -/
def fsync (level : Bool) (d : Dev) : Dev :=
  let rise := level && !d.pins.fsync
  let d : Dev := { d with pins := { d.pins with fsync := level } }
  if rise && d.alive && decide (d.rd P.SYNC_SRC = 1) then d.syncEvent else d

/-- SYNC_PERIOD: the next multiple of SYNC_PERIOD of system time. -/
def syncPeriod (d : Dev) : Dev :=
  let p := 1000 * d.rd P.SYNC_PERIOD
  if !d.alive || d.rd P.SYNC_SRC ≠ 3 || p = 0 then d else (d.reachTime ((d.now / p + 1) * p)).syncEvent

end Sys2Proof.Machine
end

