-- ==== Sys2Proof/Machine/Links.lean ====
section
/-!
DEFINITION. Sys2Proof/Machine/Links.lean: Seamlink links and heartbeats (R222, R229), advertisements (R226), loss reports
(R230), address conflicts (R219) and system time (R258 to R261).
-/
namespace Sys2Proof.Machine

/-! ## Conflicts (R219) -/

/-- One address seen with two UIDs. A device that learns from the other's advertisement that it holds the address longer,
or as long under the lower UID, keeps it. -/
def Dev.checkConflict (d : Dev) (uid addr : Nat) (since : Option Nat) : Dev :=
  let own := d.addressed && decide (addr = d.addr ∧ uid ≠ d.uid)
  let other := d.plc.topo.vals.any fun l => decide (l.addr = addr ∧ l.uid ≠ uid)
  if addr = 0x3FF || !(own || other) then d
  else
    let d := d.setPlc 3 (plcData 0 0 addr 0 uid)
    match since with
    | some s =>
      let mine := d.rd P.ADDR_SINCE
      if own && decide (s < mine ∨ (s = mine ∧ uid < d.uid)) then d.dropAddress else d
    | none => d

/-! ## Mesh time (R259, R261) -/

/-- The median of the link delays; the lower middle of an even number. -/
def medianInt (l : List Int) : Int :=
  let s := l.foldl (fun (r : List Int) a => (r.takeWhile fun b => decide (b < a)) ++ [a] ++ r.dropWhile fun b => decide (b < a)) []
  s.getD ((s.length - 1) / 2) 0

/-- Time taken from a neighbour at its heartbeat: a device that has had no system time yet steps forward to it (log 197), every other
correction is slewed, on regaining a lost path too. TIME_OFS is own time less the source's (log 44). -/
def Dev.meshTime (d : Dev) (m : Nat) (had : Bool) : Dev :=
  if d.rd P.TIME_SRC = 2 && d.timeParent == some m then
    let l := d.link m
    let diff : Int := (l.tTx : Int) + medianInt l.delays - d.now
    let d := d.wrInt P.TIME_OFS [] (clampInt (-2147483648) 2147483647 (-diff))
    if !had && decide (0 < diff) then d.stepTime diff.toNat else d.slewTime diff
  else d

/-! ## Links and heartbeats (R222, R229) -/

/-- LINK_UP: both lanes of a link become block-locked and deskewed, or lose it. -/
def linkUp (m : Nat) (locked : Bool) (d : Dev) : Dev :=
  if !d.alive || 8 ≤ m then d
  else if locked then (if d.is P.SL_LINK_EN [m] then d.setLink m { d.link m with locked := true } else d)
  else
    let was := d.is P.SL_LINK_UP [m]
    let d := d.dropLink m false
    if was then (d.refreshTime).sendLsa else d

/-- HEARTBEAT: a heartbeat (Table 7-7) on a link. -/
def heartbeat (m : Nat) (b : List Byte) (d : Dev) : Dev :=
  let l := d.link m
  if !d.alive || 8 ≤ m || !d.is P.SL_LINK_EN [m] || !l.locked || b.length ≠ 48 then d
  else
    let uid := leAt b 0 8
    let addr := leAt b 8 2 % 1024
    let now := d.now
    let echo := leAt b 28 8
    let sample : Int := ((now : Int) - echo - leAt b 36 4) / 2
    let delays := if echo = 0 then l.delays else (sample :: l.delays).take 16
    let hb := ms (d.rd P.HB_PERIOD)
    let periods := (d.clk - l.at_ + hb / 2) / hb
    let missed := if l.heard then periods - 1 - (if l.reported then 3 else 0) else 0
    let fresh := !d.is P.SL_LINK_UP [m] || decide (d.rd P.NEIGH [m] ≠ addr)
    let had := d.plc.timed
    let old := d
    let d := d.setLink m { l with
      heard := true, met := true, uid := uid, state := byteAt b 10, hops := byteAt b 11, score := leAt b 12 2, tTx := leAt b 20 8, tRx := now,
      at_ := d.clk, delays := delays, reported := false }
    let d := d.wrs [(P.SL_LINK_UP, [m], 1), (P.NEIGH, [m], addr),
      (P.LINK_DELAY, [m], (clampInt 0 65535 (medianInt delays)).toNat), (P.HB_MISS, [m], d.rd P.HB_MISS [m] + missed)]
    let d := d.rejoin uid addr
    let d := d.checkConflict uid addr none
    let d := Dev.viewsMoved old ((d.refreshTime).meshTime m had)
    if fresh then d.sendLsa else d

/-- The heartbeat payload for a link. -/
def Dev.heartbeatBytes (d : Dev) (m : Nat) : List Byte :=
  let l := d.link m
  leBytes 8 d.uid ++ leBytes 2 d.addr ++ leBytes 1 d.meshState ++
  leBytes 1 (if d.rd P.TIME_SRC = 0 then 0xFF else d.rd P.TIME_HOPS) ++ leBytes 2 d.score ++ leBytes 2 0 ++
  leBytes 4 d.plc.lsaSeq ++ leBytes 8 d.now ++ leBytes 8 (if l.heard then l.tTx else 0) ++
  leBytes 4 (if l.heard then d.clk - l.at_ else 0) ++ leBytes 8 0

/-- HEARTBEAT_SEND: every HB_PERIOD, on each link whose lanes are locked: a link is up only once a heartbeat has come, so
the first is sent before (log 45). -/
def heartbeatSend (d : Dev) : Dev :=
  if !d.alive then d
  else
    let d := d.wrs [(P.SCORE, [], d.score), (P.H_PEN, [], d.healthPen)]
    d.each ((List.range 8).filter fun m => d.is P.SL_LINK_EN [m] && (d.link m).locked) fun m d =>
      let (n, d) := d.nextFseq 0
      d.emit (.frame (40 + m) 0 (seamFrame 0 0 1 0x3FF d.addr n (d.heartbeatBytes m)))

/-! ## Advertisements (R226) -/

/-- LINK_STATE_ADVERTISEMENT: an advertisement is flooded to this device. -/
def linkStateAdvertisement (h : SeamHdr) (l : Lsa) (d : Dev) : Dev :=
  if !d.alive || !d.is P.SL_LINK_UP [h.link] || l.uid = d.uid then d
  else
    match d.floodNew 1 h (lsaBytes l) with
    | (d, false) => d
    | (d, true) =>
      let old := d.plc.topo.get? l.uid
      let newer := match old with
        | none => true
        | some o => decide ((l.seq + 2 ^ 32 - o.seq) % 2 ^ 32 < 2 ^ 31)
      if !newer then d
      else
        let before := d
        let d : Dev := { d with plc := { d.plc with topo := d.plc.topo.put l.uid l, topoAt := d.plc.topoAt.put l.uid d.clk } }
        let d := d.rejoin l.uid l.addr
        let d := d.checkConflict l.uid l.addr (some l.since)
        let d := Dev.viewsMoved before d.refreshTime
        match old with
        | some o => if o.addr ≠ l.addr ∧ o.addr ≠ 0x3FF ∧ l.addr ≠ 0x3FF then d.readdress o.addr l.addr else d
        | none => d

/-- LSA_REFRESH. -/
def lsaRefresh (d : Dev) : Dev := if d.alive then d.sendLsa else d

/-- TOPOLOGY_EXPIRY: 30 s after an entry's last refresh. -/
def topologyExpiry (uid : Nat) (d : Dev) : Dev :=
  match d.plc.topoAt.get? uid with
  | none => d
  | some t =>
    let d := d.reach (t + sec 30)
    Dev.viewsMoved d
      ({ d with plc := { d.plc with topo := d.plc.topo.del uid, topoAt := d.plc.topoAt.del uid } } : Dev).refreshTime

/-! ## Loss (R230) -/

/-- THIRD_MISSED_HEARTBEAT: the neighbour last met on a link has been silent on every link for 3 × HB_PERIOD + 1 ms, whether or not
its links are still up. -/
def thirdMissedHeartbeat (m : Nat) (d : Dev) : Dev :=
  let l := d.link m
  if !d.alive || !l.met || l.reported then d
  else
    let mine := (List.range 8).filter fun n => (d.link n).met && decide ((d.link n).uid = l.uid)
    let last := (mine.map fun n => (d.link n).at_).foldl max 0
    let addr := match d.plc.topo.get? l.uid with
      | some x => x.addr
      | none => d.rd P.NEIGH [m]
    let d := d.reach (last + 3 * ms (d.rd P.HB_PERIOD) + ms 1)
    let d := d.each mine fun n d =>
      (d.setLink n { d.link n with reported := true }).wr P.HB_MISS [n] (d.rd P.HB_MISS [n] + 3)
    (d.flood 2 (leBytes 8 l.uid ++ leBytes 2 addr)).takeLoss l.uid addr d.addr

/-- LOSS_REPORT: a loss report is flooded to this device by the neighbour SRC. -/
def lossReport (h : SeamHdr) (uid addr : Nat) (d : Dev) : Dev :=
  if !d.alive || !d.is P.SL_LINK_UP [h.link] then d
  else
    match d.floodNew 2 h (leBytes 8 uid ++ leBytes 2 addr) with
    | (d, false) => d
    | (d, true) => if uid = d.uid then d else d.takeLoss uid addr h.src

/-! ## PTP (R258, R261) -/

/-- A PTP message in the domain of PTP_DOMAIN reaches an uplink that takes time. -/
def Dev.ptpHere (d : Dev) (u domain : Nat) : Bool := d.ptpOn u && decide (domain = d.rd P.PTP_DOMAIN)

/-- SYNC: a Sync message, stamped at the PCS; one-step transmission is discarded and counted. -/
def ptpSync (u : Nat) (v6 : Bool) (addr domain seq : Nat) (twoStep : Bool) (d : Dev) : Dev :=
  if d.ptpHere u domain && twoStep then
    d.setPtp u { d.ptp u with sync := some (seq, d.now), origin := none, addr := (v6, addr) }
  else if d.uplinkOn u && !twoStep then d.bump P.UL_RX_DROP [u]
  else d

/-- FOLLOW_UP: the origin stamp of the Sync of the same sequence. -/
def followUp (u domain seq origin : Nat) (d : Dev) : Dev :=
  match (d.ptp u).sync with
  | some (s, _) => if d.ptpHere u domain && decide (s = seq) then d.setPtp u { d.ptp u with origin := some origin } else d
  | none => d

/-- DELAY_REQ: sent to the address on which the Sync arrived. -/
def delayReq (u : Nat) (d : Dev) : Dev :=
  let x := d.ptp u
  if d.ptpOn u && x.sync.isSome then
    (d.setPtp u { x with delayReq := some (x.seq, d.now), seq := (x.seq + 1) % 65536 }).emit
      (.delayReq u x.addr.1 x.addr.2 x.seq)
  else d

/-- A correction toward the grandmaster at the root: a step forward where no other device is seen to have system time, which a
device says in its heartbeats alone and so of a neighbour only (log 198), or beyond 1 ms with STEP_EN; else slewed. -/
def Dev.rootTime (d : Dev) (ahead : Int) : Dev :=
  let d := d.wrInt P.TIME_OFS [] (clampInt (-2147483648) 2147483647 (-ahead))
  let alone := d.upLinks.all fun m => decide ((d.link m).hops = 0xFF)
  if decide (0 < ahead) && (alone || (decide (1000000 < ahead) && d.is P.STEP_EN)) then (d.stepTime ahead.toNat).setPlc 13
  else d.slewTime ahead

/-- DELAY_RESP: completes the delay measurement; the root on this uplink's grandmaster is corrected. -/
def delayResp (u domain seq received : Nat) (d : Dev) : Dev :=
  let x := d.ptp u
  match x.sync, x.origin, x.delayReq with
  | some (_, t2), some t1, some (s, t3) =>
    if d.ptpHere u domain && decide (s = seq) then
      let d := (d.setPtp u { x with delayReq := none }).refreshTime
      let offset : Int := (((t2 : Int) - t1) - ((received : Int) - t3)) / 2
      if d.rd P.TIME_SRC = 1 && (d.ownOffer.map (·.1)) == some u then d.rootTime (-offset) else d
    else d
  | _, _, _ => d

/-- ANNOUNCE: a grandmaster heard on an uplink. -/
def announce (u domain : Nat) (o : Offer) (d : Dev) : Dev :=
  if d.ptpHere u domain then
    let x := d.ptp u
    let take := match x.gm with
      | none => true
      | some g => decide (g.gm = o.gm) || betterOffer (0, o) (0, g)
    if take then (d.setPtp u { x with gm := some o }).refreshTime else d
  else d

/-- TIME_STATUS. -/
def timeStatus (r : Req) (d : Dev) : Dev :=
  serve { code := 0x0608, cls := .open_ } (fun _ => lengthIs 0)
    (report fun d _ => okWith (leBytes 8 d.now ++ leBytes 1 (d.rd P.TIME_SRC) ++ leBytes 1 (d.rd P.TIME_HOPS) ++
      leBytes 2 (d.rd P.ROOT_ADDR) ++ leBytes 4 (d.rd P.TIME_OFS))) r d

end Sys2Proof.Machine
end

