-- ==== Sys2Proof/Machine/Placement.lean ====
section
/-!
DEFINITION. Sys2Proof/Machine/Placement.lean: the placement messages (R234, Table 7-8), the directory's and the
candidate's own acts (R231, R233, R235, R240) and PLACEMENT_STATUS (R262).
-/
namespace Sys2Proof.Machine

/-- A placement message: the 24-byte body behind the patch prefix, for a device that holds the role its kind addresses. -/
def placeMsg (code kind : Nat) (role : Dev → Nat → Bool) (act : Dev → Req → Nat → Dev × Answer) (r : Req) (d : Dev) : Dev :=
  serve { code := code, cls := .device }
    (fun d r =>
      match lengthIs 32 r with
      | some a => some a
      | none =>
        let p := patchOf r
        let pl := d.place p
        if (d.patch? p).isNone then some badValue
        else if !role d p then some (notForwarded (if pl.withdrawn then 0x3FF else pl.owner) pl.epoch)
        else none)
    (fun d r => let (d, a) := act d r (patchOf r); (d, some a)) (withByte 8 kind r) d

/-- The body with OWNER, EPOCH and T_C of a patch's current epoch. -/
def Dev.placeAnswer (d : Dev) (p kind : Nat) : Answer :=
  let pl := d.place p
  okWith ((placeBody p kind 0 pl.owner pl.former 0 pl.epoch pl.tc 0 0).drop 8)

/-- A candidate as its VIEW states it. -/
def candOf (r : Req) : Cand := ⟨r.source, leAt r.params 14 2, leAt r.params 28 2, leAt r.params 16 4, byteAt r.params 30⟩

/-- VIEW. -/
def view (r : Req) (d : Dev) : Dev :=
  placeMsg 0x4400 1 Dev.isDirectory
    (fun d r p => let d := d.takeView p (candOf r); (d, d.placeAnswer p 1)) r d

/-- WITHDRAW. -/
def withdraw (r : Req) (d : Dev) : Dev :=
  placeMsg 0x4400 2 Dev.isDirectory (fun d r p => (d.takeWithdraw p r.source, okay)) r d

/-- QUERY. -/
def query (r : Req) (d : Dev) : Dev :=
  placeMsg 0x4400 4 Dev.isDirectory (fun d _ p => (d, d.placeAnswer p 4)) r d

/-- A COMMIT of the receiver's own epoch under another owner: EPOCH_CONFLICT; the commit of the directory that attaches the
lowest tile stands, and another owner stops publishing at once (R243). -/
def Dev.epochClash (d : Dev) (p owner from_ : Nat) : Dev :=
  let pl := d.place p
  let d := d.setPlc 8 (plcData p pl.epoch owner 0 0)
  if d.directory p == some from_ && d.owns p then (d.freeSlot p).setPlace p { pl with owner := owner } else d

/-- COMMIT. -/
def commit (r : Req) (d : Dev) : Dev :=
  placeMsg 0x4400 3 (fun _ _ => true)
    (fun d r p =>
      let pl := d.place p
      let owner := leAt r.params 10 2 % 1024
      let e := leAt r.params 16 4
      if pl.epoch < e then
        (d.adopt p owner (leAt r.params 12 2 % 1024) e (leAt r.params 20 8) (byteAt r.params 9), okay)
      else if pl.epoch = e ∧ pl.owner = owner then (d, okay)
      else
        let d := if pl.epoch = e then d.epochClash p owner r.source else d
        (d, ⟨.staleEpoch, 0, leBytes 4 pl.epoch⟩)) r d

/-- The device is, or was, the owner that hands a patch over. -/
def Dev.handsOver (d : Dev) (p : Nat) : Bool :=
  let pl := d.place p
  d.addressed && decide (pl.owner = d.addr ∨ pl.former = d.addr)

/-- A body of a lower epoch than the receiver's is stale (R234, R235). -/
def Dev.staleBody (d : Dev) (r : Req) (p : Nat) : Option Answer :=
  if leAt r.params 16 4 < (d.place p).epoch then some ⟨.staleEpoch, 0, leBytes 4 (d.place p).epoch⟩ else none

/-- READY. A body of a higher epoch than the receiver's tells it of the commit (R235). -/
def ready (r : Req) (d : Dev) : Dev :=
  placeMsg 0x4401 1 Dev.handsOver
    (fun d r p =>
      let e := leAt r.params 16 4
      let d := if (d.place p).epoch < e then d.adopt p r.source d.addr e (leAt r.params 20 8) (byteAt r.params 9) else d
      match d.staleBody r p with
      | some a => (d, a)
      | none =>
        let d : Dev := { d with plc := { d.plc with ready := p :: d.plc.ready.filter (· ≠ p) } }
        (d.tryState p, okay)) r d

/-- STATE: the snapshot's size and the CAPTURE of the former owner's last publication. -/
def stateMsg (r : Req) (d : Dev) : Dev :=
  placeMsg 0x4401 2 Dev.owns
    (fun d r p =>
      match d.staleBody r p, d.plc.handovers.get? p with
      | some a, _ => (d, a)
      | none, none => (d, okay)
      | none, some h =>
        let h := { h with size := leAt r.params 28 2, last := leAt r.params 20 8 }
        ({ d with plc := { d.plc with handovers := d.plc.handovers.put p h } }, okay)) r d

/-- DONE: the former owner frees the slot. -/
def done (r : Req) (d : Dev) : Dev :=
  placeMsg 0x4401 3 Dev.handsOver
    (fun d r p =>
      match d.staleBody r p with
      | some a => (d, a)
      | none =>
        let d : Dev := { d with plc := { d.plc with ready := d.plc.ready.filter (· ≠ p) } }
        let d : Dev := if d.owns p then d else
          { d.freeSlot p with cal := { d.cal with given := d.cal.given.filter fun g => decide (g.patch ≠ p) } }
        (d, okay)) r d

/-- A frame of a snapshot reaches the new owner, who takes the snapshot over once it has fully arrived, and answers
DONE. -/
def Dev.takeHandover (d : Dev) (m : List Byte) : Dev :=
  let p := leAt m 0 4 % 2 ^ 22
  match d.plc.handovers.get? p with
  | none => d
  | some h =>
    if !d.awake then d
    else
      let h := { h with got := h.got.put (leAt m 4 4) (m.drop 12) }
      if (h.got.vals.map List.length).sum < leAt m 8 4 then
        { d with plc := { d.plc with handovers := d.plc.handovers.put p h } }
      else
        let d : Dev := { d with plc := { d.plc with handovers := d.plc.handovers.del p } }
        let d := d.takeSnapshot p h.got.vals.flatten
        d.ask 0x4401 h.former (placeBody p 3 0 d.addr h.former 0 (d.place p).epoch 0 0 0)

/-- HANDOVER_DATA: a handover-data frame on a link, for this device or on its way. -/
def handoverData (h : SeamHdr) (m : List Byte) (d : Dev) : Dev :=
  match d.arriving 7 h m with
  | (d, false) => d
  | (d, true) => d.takeHandover m

/-! ## The directory and the candidate -/

/-- DIRECTORY_DECISION: the directory of a patch that has no owner chooses one. -/
def directoryDecision (p : Nat) (d : Dev) : Dev :=
  if d.awake && d.isDirectory p && (d.patch? p).isSome then d.direct p else d

/-- DIRECTORY_TAKEOVER: 10 ms after the device became the directory of a patch by a loss. -/
def directoryTakeover (p : Nat) (d : Dev) : Dev :=
  let x := d.dir p
  if d.awake && x.taking && d.isDirectory p then (d.reach (x.sent + ms 10)).takeOver p else d

/-- COMMIT_REPEAT: every 10 ms, for up to 1 s. -/
def commitRepeat (p : Nat) (d : Dev) : Dev :=
  let x := d.dir p
  if !d.awake || x.waiting.isEmpty then d
  else
    let d := d.reach (x.sent + ms 10)
    if d.clk ≤ x.sent + sec 1 then d.sendCommits p else d.setDir p { x with waiting := [] }

/-- VIEW_REFRESH. -/
def viewRefresh (d : Dev) : Dev := if d.awake then d.sendViews else d

/-- REBAL_PERIOD: the directory balances ownership and the Cutter rebalances clusters and places slots. -/
def rebalPeriod (d : Dev) : Dev :=
  if !d.awake || !d.boot.running then d
  else
    let d := d.each ((patchesOf d.plc.image).map (·.patch)) fun p d => d.balance p
    (d.each (List.range 16) fun c d => d.rebalance c).moveSlots

/-- The 8-byte entries of owned patches, ascending (PLACEMENT_STATUS and table 0x2400). -/
def Dev.ownedEntries (d : Dev) : List (List Byte) :=
  d.ownedPatches.map fun p => leBytes 4 p ++ leBytes 4 (d.place p).epoch

/-- The patches directed. -/
def Dev.directedPatches (d : Dev) : List Nat := ((patchesOf d.plc.image).map (·.patch)).filter d.isDirectory

/-- PLACEMENT_STATUS. -/
def placementStatus (r : Req) (d : Dev) : Dev :=
  serve { code := 0x0607, cls := .open_ } (fun _ => lengthIs 0)
    (report fun d _ =>
      let neigh (m : Nat) : List Byte :=
        leBytes 2 (d.rd P.NEIGH [m]) ++ leBytes 1 (d.link m).state ++ leBytes 1 0 ++ leBytes 2 (d.rd P.LINK_DELAY [m]) ++
          leBytes 2 (d.link m).score
      okWith (leBytes 2 d.ownedPatches.length ++ leBytes 2 d.directedPatches.length ++ leBytes 4 0 ++
        (List.range 8).flatMap neigh ++ (d.ownedEntries.take 160).flatten)) r d

end Sys2Proof.Machine
end

