-- ==== Sys2Proof/Machine/Configs.lean ====
section
/-!
DEFINITION. Sys2Proof/Machine/Configs.lean: configuration generations: staging, activation and exchange (R250 to R256), and
the census (R257).
-/
namespace Sys2Proof.Machine

/-! ## Staging (R251) -/

/-- STG_GEN, STG_DIG, STG_STATE, STG_MISSING and ACT follow the staging area. Before block 0, whose header counts the
blocks, those up to the highest index seen are counted (log 46). -/
def Dev.refreshStage (d : Dev) : Dev :=
  match d.plc.stage with
  | none =>
    d.wrs [(P.STG_GEN, [], 0), (P.STG_DIG_LO, [], 0), (P.STG_DIG_HI, [], 0), (P.STG_STATE, [], 0), (P.STG_MISSING, [], 0),
      (P.ACT_LO, [], 0), (P.ACT_HI, [], 0)]
  | some s =>
    let n := match s.blocks.get? 0 with
      | some b => leAt b 4 2
      | none => (s.blocks.keys.foldl max 0) + 1
    let t := s.act.getD 0
    d.wrs [(P.STG_GEN, [], s.gen), (P.STG_DIG_LO, [], leAt s.digest 0 4), (P.STG_DIG_HI, [], leAt s.digest 4 4),
      (P.STG_STATE, [], if s.act.isSome then 3 else if s.complete then 2 else 1),
      (P.STG_MISSING, [], if s.complete then 0 else n - s.blocks.keys.length), (P.ACT_LO, [], t % 2 ^ 32),
      (P.ACT_HI, [], t / 2 ^ 32)]

/-- The staging area changed. -/
def Dev.setStage (d : Dev) (s : Option Stage) : Dev := { d with plc := { d.plc with stage := s } }.refreshStage

/-- RID of the bulk record that the staged image goes to: the one of the two that the active image does not hold. -/
def Dev.stagedRid (d : Dev) : Nat :=
  if ((d.nv.bulkRec 0x0B0000).map (·.data)) == some d.plc.image && !d.plc.image.isEmpty then 0x0B0001 else 0x0B0000

/-- The staging in progress discarded with what the bulk store holds or is to hold of it. -/
def Dev.dropStaged (d : Dev) : Dev :=
  match d.plc.stage with
  | none => d
  | some s =>
    let rid := d.stagedRid
    let d : Dev := { d with nv := { d.nv with bulkQ := d.nv.bulkQ.filter fun j => decide (j.why ≠ BulkWhy.config) } }
    let d : Dev := if s.complete then { d with nv := { d.nv with bulk := d.nv.bulk.filter fun b => decide (b.rid ≠ rid) } } else d
    d.setStage none

/-- A block put into a staging: block 0 gives the generation and the count, and blocks beyond it fall away. -/
def Stage.put (s : Stage) (i : Nat) (b : List Byte) : Stage :=
  let s := { s with blocks := s.blocks.put i b }
  match s.blocks.get? 0 with
  | none => s
  | some h => { s with gen := leAt h 0 4, blocks := s.blocks.keep fun j _ => decide (j < leAt h 4 2) }

/-- Every block of the staging is present. -/
def Stage.full (s : Stage) : Bool :=
  match s.blocks.get? 0 with
  | some h => decide (s.blocks.keys.length = leAt h 4 2)
  | none => false

/-- The image of a staging. -/
def Stage.image (s : Stage) : List Byte := s.blocks.vals.flatten

/-- Bytes of a bulk area from the layout record (table 0x3302): first erase block (4) and size in bytes (4) of each of the
areas 8 to 12, the model's own layout (log 47). -/
def Dev.bulkSize (d : Dev) (area : Nat) : Nat := d.tblNat 0x3302 (8 * (area - 8) + 4) 4

/-- CONFIG_STAGE. A block that repeats what is staged changes nothing; one that overwrites it, of a complete staging too, has the image
checked and stored anew (R251). -/
def configStage (r : Req) (d : Dev) : Dev :=
  let op : Op := { code := 0x0604, cls := .operator, bcast := true }
  let dig (r : Req) : List Byte := r.params.take 8
  let block (r : Req) : List Byte := r.params.drop 10
  let same (d : Dev) (r : Req) : Option Stage := d.plc.stage.filter fun s => s.digest == dig r
  serve op
    (fun d r =>
      let i := leAt r.params 8 2
      let b := block r
      let n := ((same d r).bind fun s => s.blocks.get? 0).map fun h => leAt h 4 2
      if r.params.length < 11 || 1034 < r.params.length then some badLength
      else if n.any (fun n => decide (n ≤ i)) || (i = 0 && leAt b 4 2 = 0) then some badValue
      else if (same d r).isNone && d.plc.stage.any (·.act.isSome) then some (refuse .busy 0x2404)
      else if i = 0 && decide (leAt b 0 4 % 65536 ≠ r.gen ∨ leAt b 0 4 ≤ d.rd P.CFG_GEN) then some (refuse .denied 0x2403)
      else if i = 0 && decide (d.bulkSize 11 ≠ 0 ∧ d.bulkSize 11 < 2 * 1024 * leAt b 4 2) then some (refuse .denied 0x3304)
      else none)
    (fun d r =>
      let i := leAt r.params 8 2
      let t := ticket op r
      let old := same d r
      let s := old.getD ⟨dig r, r.gen, KMap.empty, false, none, [], false⟩
      let new := s.put i (block r)
      let more : Option Stage := some { new with complete := false, tickets := snoc s.tickets t }
      (if old.isNone || decide (new ≠ s) then d.dropStaged.setStage more
       else if s.complete then d.complete t .ok
       else d.setStage more, some okay)) r d

/-- A staging that failed: STAGE_BAD, its requests' completions, and nothing staged. -/
def Dev.failStage (d : Dev) (s : Stage) (st : Status) (det : Nat) (bad : Bool) : Dev :=
  let d := d.setStage none
  let d := if bad then d.setPlc 11 else d
  d.each s.tickets fun t d => d.complete t st det

/-- STAGING_COMPLETE: every block is present; the digest and the image are checked and the image goes to the bulk
store. -/
def stagingComplete (d : Dev) : Dev :=
  match d.plc.stage with
  | none => d
  | some s =>
    if !d.alive || s.complete || !s.full || (d.nv.bulkQ.any fun j => decide (j.why = .config)) then d
    else
      let img := s.image
      if digestOf img ≠ s.digest then d.failStage s .badParam 0x2408 true
      else if !surfaceValid img then d.failStage s .badParam 0x2306 true
      else if !d.bulkUp then d.failStage s .fault 0x3305 false
      else d.bulkWrite d.stagedRid 11 img .config

/-! ## Activation (R252) -/

/-- RID of the activation record in area 2. -/
def activationRid : Nat := 0x000B00

/-- The patches of an image with their tiles. -/
def tileSets (img : List Byte) : List (Nat × List Nat) :=
  let ts := tilesOf img
  (patchesOf img).map fun p => (p.patch, (ts.filter fun t => decide (t.patch = p.patch)).map (·.tile))

/-- The patches of an image whose tile set is another in a second image. -/
def changedPatches (old new : List Byte) : List Nat :=
  let n := tileSets new
  ((tileSets old).filter fun p => !(n.any fun q => decide (q.1 = p.1) && q.2 == p.2)).map (·.1)

/-- A patch ends: its slot, its placement and its grants. -/
def Dev.endPatch (d : Dev) (p : Nat) : Dev :=
  let d := d.freeSlot p
  { d with
    plc := { d.plc with places := d.plc.places.del p, dirs := d.plc.dirs.del p, handovers := d.plc.handovers.del p }
    cal := { d.cal with given := d.cal.given.filter fun g => decide (g.patch ≠ p) } }

/-- An image comes into force with T_A: the surface, the thresholds' source, the generation, the patches that end, and the
tiles that changed their patch or whose patch ended, whose stored epoch is cleared. A held-notice of REASON 5 precedes every changed
map. -/
def Dev.activate (d : Dev) (img : List Byte) (ta : Nat) : Dev :=
  let old := d.plc.image
  let was := tilesOf old
  let ended := changedPatches old img
  let d := d.each ended fun p d => d.endPatch p
  let now := tilesOf img
  let d := d.endService (d.attached.filter fun t => !now.any fun q => decide (q.tile = t.tile ∧ q.dev = t.dev ∧ q.bus = t.bus))
  let d : Dev := { d with plc := { d.plc with former := old, actAt := ta, image := img } }
  let d := d.underSurface img
  let dg := digestOf img
  let gen := leAt img 0 4
  let d := d.wrs [(P.CFG_GEN, [], gen), (P.CFG_DIG_LO, [], leAt dg 0 4), (P.CFG_DIG_HI, [], leAt dg 4 4)]
  let d := d.each d.attached fun t d =>
    if !ended.contains t.patch && was.any fun w => decide (w.tile = t.tile ∧ w.patch = t.patch ∧ w.dev = t.dev ∧ w.bus = t.bus) then d
    else
      let a := d.attach t.tile
      let map := List.replicate d.tileCells 3
      (d.setAttach t.tile { a with epoch := 0, map := map }).notice t.tile map 5 true
  let d := d.each d.fus.slots.keys fun p d => match d.slot? p with
    | some s => d.setSlot p { s with recast := true }
    | none => d
  let d := d.immediate ⟨activationRid, 2, leBytes 4 gen ++ dg⟩ .activation
  (d.setStage none).sendViews

/-- CONFIG_ACTIVATE. -/
def configActivate (r : Req) (d : Dev) : Dev :=
  serve { code := 0x0605, cls := .operator, bcast := true }
    (fun d r =>
      match lengthIs 8 r with
      | some a => some a
      | none =>
        let t := leAt r.params 0 8
        if !d.plc.stage.any fun s => s.complete && decide (s.gen % 65536 = r.gen) then some (refuse .denied 0x2405)
        else if t < d.now + ms 100 || d.now + sec 60 < t then some (refuse .badParam 0x2406)
        else if d.rd P.TIME_SRC = 0 then some (refuse .denied 0x2407)
        else none)
    (fun d r => (d.setStage (d.plc.stage.map fun s => { s with act := some (leAt r.params 0 8) }), some okay)) r d

/-- What a wake brings into force before its first frame start: an activation whose T_A has passed, or a configuration
pulled from a neighbour or shown active by one (R255). -/
def Dev.activateAtWake (d : Dev) : Dev :=
  match d.plc.stage with
  | some s =>
    let due : Option Nat := if s.pulled then some d.now else s.act
    match due with
    | some t => if s.complete && t ≤ d.now then d.activate s.image t else d
    | none => d
  | none => d

/-- ACTIVATION: T_A of a scheduled activation. In Doze it waits for the wake (R255). -/
def activation (d : Dev) : Dev :=
  match d.plc.stage with
  | some s =>
    match s.act with
    | some t => if d.awake && s.complete then (d.reachTime t).activate s.image t else d
    | none => d
  | none => d

/-- CONFIG_DISCARD. -/
def configDiscard (r : Req) (d : Dev) : Dev :=
  serve { code := 0x0606, cls := .operator, bcast := true }
    (fun d r =>
      match lengthIs 0 r with
      | some a => some a
      | none => if d.plc.stage.isNone then some (refuse .denied 0x2405) else none)
    (fun d _ => (d.dropStaged, some okay)) r d

/-! ## The exchange (R254, R255) -/

/-- The first run of missing blocks of an incomplete staging: first index and count. -/
def Stage.missing (s : Stage) : Nat × Nat :=
  let n := match s.blocks.get? 0 with
    | some h => leAt h 4 2
    | none => 1
  match (List.range n).find? fun i => (s.blocks.get? i).isNone with
  | none => (0xFFFF, 0)
  | some i => (i, (((List.range n).drop i).takeWhile fun j => (s.blocks.get? j).isNone).length)

/-- A neighbour's block shows a complete staging of a digest, or that digest active. -/
def blockHolds (b dig : List Byte) : Bool :=
  (b.drop 4).take 8 == dig || (bitOf (byteAt b 33) 0 && (b.drop 16).take 8 == dig)

/-- The 40-byte configuration state block for the neighbour on a link. -/
def Dev.configBlock (d : Dev) (m : Nat) : List Byte :=
  let want := match d.plc.stage with
    | some s => if !s.complete && blockHolds (d.link m).block s.digest then s.missing else (0xFFFF, 0)
    | none => (0xFFFF, 0)
  leBytes 4 (d.rd P.CFG_GEN) ++ leBytes 4 (d.rd P.CFG_DIG_LO) ++ leBytes 4 (d.rd P.CFG_DIG_HI) ++ leBytes 4 (d.rd P.STG_GEN) ++
  leBytes 4 (d.rd P.STG_DIG_LO) ++ leBytes 4 (d.rd P.STG_DIG_HI) ++ leBytes 4 (d.rd P.ACT_LO) ++ leBytes 4 (d.rd P.ACT_HI) ++
  leBytes 1 (d.rd P.SPLIT_DIST) ++ leBytes 1 (if d.plc.stage.any (·.complete) then 1 else 0) ++ leBytes 2 want.1 ++
  leBytes 2 want.2 ++ leBytes 2 0

/-- A moment lies from T_A to T_A + 200 ms of a scheduled activation; T_A 0 is none. -/
def inActivation (now t : Nat) : Bool := decide (t ≠ 0 ∧ t ≤ now ∧ now ≤ t + ms 200)

/-- The blocks of an image that a neighbour asks for, sent as configuration-block frames (Table 7-6). -/
def Dev.sendBlocks (d : Dev) (m : Nat) (img b : List Byte) : Dev :=
  let first := leAt b 34 2
  if first = 0xFFFF then d
  else
    let l := (runs 1024 65535 img).mapIdx fun i x => (i, x)
    d.each ((l.drop first).take (leAt b 36 2)) fun e d =>
      d.sendTo 8 (d.rd P.NEIGH [m]) (leBytes 2 e.1 ++ leBytes 2 e.2.length ++ e.2)

/-- SPLIT_DIST follows the neighbours' blocks. -/
def Dev.refreshSplit (d : Dev) : Dev :=
  let near := d.upLinks.map fun m =>
    let l := d.link m
    let far := if l.block.isEmpty then 0xFF else byteAt l.block 32
    if 2 ≤ l.mism then 0 else if far < 0xFF then min 0xFF (far + 1) else 0xFF
  d.wr P.SPLIT_DIST [] (near.foldl min 0xFF)

/-- A staging that the neighbours are asked to fill, in place of any other (log 201). -/
def Dev.pull (d : Dev) (dig : List Byte) (gen : Nat) : Dev :=
  d.dropStaged.setStage (some ⟨dig, gen, KMap.empty, false, none, [], true⟩)

/-- A staging of another digest is left standing while it catches up no less far, with a neighbour that holds it (log 201). -/
def Dev.pullStands (d : Dev) (s : Stage) (gen : Nat) : Bool :=
  s.pulled && decide (gen ≤ s.gen) && d.upLinks.any fun m => blockHolds (d.link m).block s.digest

/-- Catching up with a neighbour of a higher generation (R255). With CFG_AUTOPULL a complete staging of its digest is activated at once,
in Doze at the wake; else its blocks are asked for, and they are activated on completion. -/
def Dev.catchUp (d : Dev) (b : List Byte) : Dev :=
  let gen := leAt b 0 4
  let dig := (b.drop 4).take 8
  if gen ≤ d.rd P.CFG_GEN then d
  else match d.plc.stage with
    | none => d.pull dig gen
    | some s =>
      if s.digest == dig then
        if s.complete && d.is P.CFG_AUTOPULL && d.awake then d.activate s.image d.now
        else if s.complete && !d.is P.CFG_AUTOPULL && !s.pulled then d.pull dig gen
        else d.setStage (some { s with pulled := true })
      else if d.pullStands s gen then d
      else d.pull dig gen

/-- A configuration state block of the neighbour on a link. `counts` marks the answer to the device's own exchange, by which
consecutive mismatches are counted (log 48). -/
def Dev.takeExchange (d : Dev) (m : Nat) (b : List Byte) (counts : Bool) : Dev :=
  let old := d
  let l := d.link m
  let differ := decide (leAt b 0 4 ≠ d.rd P.CFG_GEN) ||
    decide (leAt b 4 8 ≠ d.rd P.CFG_DIG_LO + 2 ^ 32 * d.rd P.CFG_DIG_HI)
  let excused := inActivation d.now d.plc.actAt || inActivation d.now (leAt l.block 24 8) || inActivation d.now (leAt b 24 8)
  let bad := differ && !excused
  let mism := if !bad then 0 else if counts then l.mism + 1 else l.mism
  let keep := if leAt b 24 8 = 0 && inActivation d.now (leAt l.block 24 8) then b.take 24 ++ (l.block.drop 24).take 8 ++ b.drop 32 else b
  let d := d.setLink m { l with block := keep, mism := mism }
  let d := if mism = 2 && l.mism < 2 then d.setPlc 9 (plcData 0 0 (d.rd P.NEIGH [m]) 0 l.uid) (1, 40 + m) else d
  let d := if byteAt b 32 < 0xFF && !d.flag (.plc 10) then d.setPlc 10 else d
  let d := (Dev.withdrawLost old d.refreshSplit).catchUp b
  let img := if (b.drop 16).take 8 == digestOf d.plc.image then d.plc.image
    else match d.plc.stage with
      | some s => if s.complete && (b.drop 16).take 8 == s.digest then s.image else []
      | none => []
  d.sendBlocks m img b

/-- The link on which a neighbour stands. -/
def Dev.linkTo (d : Dev) (a : Nat) : Option Nat := d.upLinks.find? fun m => decide (d.rd P.NEIGH [m] = a)

/-- CONFIG_EXCHANGE. -/
def configExchange (r : Req) (d : Dev) : Dev :=
  serve { code := 0x4404, cls := .device }
    (fun _ => lengthIs 40)
    (fun d r =>
      match d.linkTo r.source with
      | none => (d, some (okWith (d.configBlock 0)))
      | some m => let d := d.takeExchange m r.params false; (d, some (okWith (d.configBlock m)))) r d

/-- CONFIG_EXCHANGE_SEND: every 100 ms, to each neighbour. -/
def configExchangeSend (d : Dev) : Dev :=
  if !d.alive then d else d.each d.upLinks fun m d => d.ask 0x4404 (d.rd P.NEIGH [m]) (d.configBlock m)

/-- A block from a neighbour fills a missing one of the staging. -/
def Dev.fillBlock (d : Dev) (m : List Byte) : Dev :=
  match d.plc.stage with
  | none => d
  | some s =>
    if s.complete || m.length < 5 || (s.blocks.get? (leAt m 0 2)).isSome then d
    else d.setStage (some (s.put (leAt m 0 2) ((m.drop 4).take (leAt m 2 2))))

/-- CONFIGURATION_BLOCK: a configuration-block frame on a link, for this device or on its way. -/
def configurationBlock (h : SeamHdr) (m : List Byte) (d : Dev) : Dev :=
  match d.arriving 8 h m with
  | (d, false) => d
  | (d, true) => d.fillBlock m

/-! ## The census (R257) -/

/-- The device's 32-byte census entry. -/
def Dev.censusEntry (d : Dev) : List Byte :=
  let b (x : Bool) (n : Nat) : Nat := if x then 2 ^ n else 0
  leBytes 8 d.uid ++ leBytes 2 d.addr ++ leBytes 1 d.meshState ++
  leBytes 1 (b (d.flag (.plc 9)) 0 + b (d.plc.stage.any (·.complete)) 1 + b (d.rd P.TIME_SRC ≠ 0) 2 + b (d.flag (.plc 3)) 3) ++
  leBytes 4 (d.rd P.CFG_GEN) ++ leBytes 4 (d.rd P.CFG_DIG_LO) ++ leBytes 4 (d.rd P.CFG_DIG_HI) ++ leBytes 4 (d.rd P.STG_GEN) ++
  leBytes 4 0

/-- The entry of a device that did not answer. -/
def silentEntry (addr uid : Nat) : List Byte := leBytes 8 uid ++ leBytes 2 addr ++ leBytes 1 0xFE ++ leBytes 21 0

/-- The gathers that are outstanding: sent within RELAY_TIMEOUT and not answered (R54). -/
def Dev.gathersOut (d : Dev) : List Asked :=
  d.plc.asked.filter fun a => decide (a.opcode = 0x4403 ∧ d.clk < a.since + ms (d.rd P.RELAY_TIMEOUT))

/-- CENSUS_GATHER sent until eight are outstanding. One that RELAY_TIMEOUT has passed is outstanding no longer; its answer is still taken
before CENSUS_WAIT. -/
def Dev.gatherMore (d : Dev) : Dev :=
  match d.plc.census with
  | none => d
  | some c =>
    let next := c.todo.take (8 - d.gathersOut.length)
    let d : Dev := { d with plc := { d.plc with census := some { c with asked := c.asked ++ next, todo := c.todo.drop next.length } } }
    d.each next fun e d => d.ask 0x4403 e.1 (leBytes 2 c.num)

/-- A census ends: it is kept with the three before it, and reported. -/
def Dev.endCensus (d : Dev) (c : CensusRun) (entries : List (List Byte)) : Dev :=
  let l := (⟨c.num, entries⟩ :: d.plc.censuses).take 4
  ({ d with plc := { d.plc with census := none, censuses := l } } : Dev).complete c.ticket .ok 0 (leBytes 2 c.num)

/-- An answer to a CENSUS_GATHER. -/
def Dev.censusAnswer (d : Dev) (addr : Nat) (entry : List Byte) : Dev :=
  match d.plc.census with
  | none => d
  | some c =>
    if !(c.asked.any fun e => decide (e.1 = addr)) then d
    else
      let c := { c with asked := c.asked.filter (fun e => decide (e.1 ≠ addr)), entries := snoc c.entries (fitTo 32 0 entry) }
      if c.asked.isEmpty && c.todo.isEmpty then d.endCensus c c.entries
      else ({ d with plc := { d.plc with census := some c } } : Dev).gatherMore

/-- CENSUS. -/
def census (r : Req) (d : Dev) : Dev :=
  let op : Op := { code := 0x0602, cls := .open_ }
  serve op
    (fun d r =>
      match lengthIs 0 r with
      | some a => some a
      | none => if d.plc.census.isSome then some (refuse .busy 0x2409) else none)
    (fun d r =>
      let n := d.plc.censusNo
      let todo := d.plc.topo.vals.map fun l => (l.addr, l.uid)
      let c : CensusRun := ⟨n, ticket op r, [], todo, [d.censusEntry], d.clk⟩
      let d : Dev := { d with plc := { d.plc with census := some c, censusNo := (n + 1) % 65536 } }
      (if todo.isEmpty then d.endCensus c c.entries else d.gatherMore, some (okWith (leBytes 2 n)))) r d

/-- CENSUS_WAIT: the devices that have not answered are entered with state 0xFE. -/
def censusWait (d : Dev) : Dev :=
  match d.plc.census with
  | none => d
  | some c =>
    let d := d.reach (c.since + ms (d.rd P.CENSUS_WAIT))
    d.endCensus c (c.entries ++ (c.asked ++ c.todo).map fun e => silentEntry e.1 e.2)

/-- CENSUS_READ. -/
def censusRead (r : Req) (d : Dev) : Dev :=
  let find (d : Dev) (r : Req) : Option Census := d.plc.censuses.find? fun c => decide (c.num = leAt r.params 0 2)
  serve { code := 0x0603, cls := .open_ }
    (fun d r =>
      match lengthIs 4 r with
      | some a => some a
      | none => if (find d r).isNone then some (refuse .badParam 0x240A) else none)
    (report fun d r =>
      let l := ((find d r).map (·.entries)).getD []
      let page := leAt r.params 2 2
      let e := (l.drop (40 * page)).take 40
      okWith (leBytes 2 (leAt r.params 0 2) ++ leBytes 2 page ++ leBytes 2 e.length ++ leBytes 2 l.length ++ e.flatten)) r d

/-- CENSUS_GATHER. -/
def censusGather (r : Req) (d : Dev) : Dev :=
  serve { code := 0x4403, cls := .device }
    (fun _ r => if r.params.length < 2 then some badLength else none) (report fun d _ => okWith d.censusEntry) r d

end Sys2Proof.Machine
end

