-- ==== Sys2Proof/Machine/Store.lean ====
section
/-!
DEFINITION. Sys2Proof/Machine/Store.lean: the commands of the record layer: NV_COMMIT and NV_STATUS, commits, immediate records,
compaction, refresh scans, recall and the bulk store (R347 to R369).
-/
namespace Sys2Proof.Machine

/-- A flag of the store group set for a record. -/
def Dev.setNv (d : Dev) (n rid seq area : Nat) : Dev := d.set (.nv n) noUnit (nvData rid seq area)

/-! ## Space and wear (R357, R358) -/

/-- AREA_FREE of an area: KiB for areas 0 to 7, MiB for 8 to 12 (Table 11-7). -/
def Dev.areaFree (d : Dev) (a : Nat) : Nat :=
  if a < 8 then
    let (first, n) := areaSectors a
    (((List.range n).map fun i => if (d.nv.sector (first + i)).retired then 0 else 16384 - d.nv.used (first + i)).sum) / 1024
  else if a < 13 && d.bulkUp then
    (d.bulkSize a - ((d.nv.bulk.filter fun r => decide (r.area = a)).map fun r => r.data.length).sum) / 1048576
  else 0

/-- ERASE_MAX of an area. -/
def Dev.eraseMax (d : Dev) (a : Nat) : Nat :=
  if a < 8 then
    let (first, n) := areaSectors a
    ((List.range n).map fun i => (d.nv.sector (first + i)).erases).foldl max 0
  else d.rd P.ERASE_MAX [a]

/-- LIFE_WARN for a cause, once (R413): 0 hours, 1 erases. -/
def Dev.lifeWarn (d : Dev) (cause : Nat) (now : Bool) : Dev :=
  if now && !d.evt.life.contains cause then
    { d with evt := { d.evt with life := cause :: d.evt.life } }.set (.evt 9)
  else d

/-- A sector erased: its records gone, its count one more. -/
def Dev.eraseSector (d : Dev) (s : Nat) : Dev :=
  let x := d.nv.sector s
  let d := { d with nv := { d.nv with
    recs := d.nv.recs.filter fun r => decide (r.sector ≠ s)
    sectors := d.nv.sectors.put s { x with erases := x.erases + 1 } } }
  d.lifeWarn 1 (decide (8000 ≤ x.erases + 1))

/-- The sector a record would go to fails its verify and is retired: PROG_ERR (R358). -/
def Dev.retireFor (d : Dev) (b : BufRec) : Dev :=
  match d.nv.place b.area 0 b.data.length with
  | none => d
  | some s =>
    let x := d.nv.sector s
    { d with nv := { d.nv with sectors := d.nv.sectors.put s { x with retired := true } } }.setNv 3 b.rid
      (d.nv.topSeq b.area b.rid + 1) b.area

/-! ## Commits (R353 to R355) -/

/-- NV_COMMITs ended, with ST_FAULT where a record accepted before them is not stored (R355, R357). -/
def Dev.endCommits (d : Dev) (l : List Ticket) (bad : Bool) : Dev :=
  if l.isEmpty then d
  else
    let d := { d with nv := { d.nv with lostRec := false } }
    d.each l fun t d => if bad then d.complete t .fault 0x3304 else d.complete t .ok

/-- NV_COMMIT. -/
def nvCommit (r : Req) (d : Dev) : Dev :=
  let op : Op := { code := 0x0A00, cls := .operator }
  serve op (fun _ => lengthIs 0)
    (fun d r =>
      let t := ticket op r
      if d.nv.commit.isSome then ({ d with nv := { d.nv with waiting := snoc d.nv.waiting t } }, some okay)
      else if d.nv.buf.isEmpty then (d.endCommits [t] d.nv.lostRec, some okay)
      else (({ d with nv := { d.nv with waiting := snoc d.nv.waiting t } } : Dev).beginCommit, some okay)) r d

/-- NV_STATUS (R367). -/
def nvStatus (r : Req) (d : Dev) : Dev :=
  serve { code := 0x0A01, cls := .open_ } (fun _ => lengthIs 0)
    (report fun d _ => okWith (
      leBytes 1 (d.rd P.NV_STATE) ++ leBytes 1 (d.rd P.BULK_PRESENT + 2 * d.rd P.BULK_KIND) ++ leBytes 2 d.nv.fill ++
      leBytes 2 (d.rd P.NV_COMMITS) ++ leBytes 2 0 ++ leBytes 4 (d.rd P.COUNTER [64]) ++
      (List.range 16).flatMap fun a => leBytes 2 (d.areaFree a) ++ leBytes 2 (d.eraseMax a))) r d

/-- IDLE_COMMIT: a commit begins when no record has entered the buffer for IDLE_COMMIT ms, or its oldest is 1 s old (R354). -/
def idleCommit (d : Dev) : Dev :=
  if !d.alive || d.recalling || d.nv.commit.isSome || d.nv.buf.isEmpty then d
  else (d.reach (min (d.nv.bufLast + ms (d.rd P.IDLE_COMMIT)) (d.nv.bufFirst + sec 1))).beginCommit

/-- The records of a batch programmed in order; the first that finds no space ends it. -/
def Nv.writeBatch (nv : Nv) (batch : Nat) : List BufRec → Option Nv
  | [] => some nv
  | b :: t => (nv.write b batch false).bind fun nv => nv.writeBatch batch t

/-- The closing record of a batch of `n` records (R353). -/
def closingRecord (batch n : Nat) : BufRec := ⟨1, 1, leBytes 4 batch ++ leBytes 4 n⟩

/-- COMMIT_END: the batch's records and its closing record are programmed (R353), or a failure left it without one; a second
commit follows for NV_COMMITs accepted meanwhile (R355). -/
def commitEnd (p : Prog) (d : Dev) : Dev :=
  match d.nv.commit with
  | none => d
  | some c =>
    if !d.alive then d
    else
      let first := c.recs.headD (closingRecord c.batch 0)
      let d := if p = .retired then d.retireFor first else d
      let done := if p = .failed then none
        else (d.nv.writeBatch c.batch c.recs).bind fun nv => nv.write (closingRecord c.batch c.recs.length) 0 false
      let d := match done with
        | some nv => ({ d with nv := { nv with commit := none } } : Dev).bump P.NV_COMMITS
        | none => ({ d with nv := { d.nv with commit := none, lostRec := true } } : Dev).setNv 4 first.rid
            (d.nv.topSeq first.area first.rid + 1) first.area
      let d := (d.wr P.NV_STATE [] 1).endCommits c.tickets d.nv.lostRec
      if d.nv.waiting.isEmpty then d
      else if d.nv.buf.isEmpty then
        ({ d with nv := { d.nv with waiting := [] } } : Dev).endCommits d.nv.waiting d.nv.lostRec
      else d.beginCommit

/-! ## Immediate records and counters (R356, R359) -/

/-- A spread counter's increment programmed: the strip's next bit, after a new counter record where the strip is full. -/
def Nv.countBit (nv : Nv) (i : Nat) : Option Nv :=
  let v := nv.counters.get i 0
  let rid := 0xF80000 + i
  let up (nv : Nv) : Nv := { nv with counters := nv.counters.put i (v + 1) }
  if v % 256 = 0 then (nv.write ⟨rid, 3, leBytes 4 v ++ List.replicate 36 0⟩ 0 true).map up else some (up nv)

/-- What follows once an immediate record is durable. -/
def Dev.afterRecord (d : Dev) (r : ImmRec) : Dev :=
  match r.after with
  | .none => d
  | .ceiling _ => d
  | .activation => d
  | .key slot key =>
    let nv := (d.nv.write ⟨0x10 + slot, 0, leBytes 6 0⟩ 0 true).getD d.nv
    ((({ d with nv := nv } : Dev).putKey slot key).set (.trust 7)).release (.durable r.num) okay
  | .authRelax => ((d.wr P.AUTH_RELAX [] (byteAt r.body.data 0)).wrote 0x11).release (.durable r.num) okay
  | .confirmed b => (d.confirmTrial b).release (.durable r.num) okay
  | .counter i => if i < 64 then d.setSh i { d.sh i with reserve := true } else d
  | .patch t =>
    let f := d.boot.fuses
    let d := { d with boot := { d.boot with fuses := { f with thSvn := max f.thSvn (byteAt r.body.data 12) } } }
    d.closeSession.complete t .ok

/-- What follows where an immediate record finds no space or cannot be programmed: STORE_FAIL, and ST_FAULT, AREA_FULL for the
request that waits (R357). -/
def Dev.recordLost (d : Dev) (r : ImmRec) : Dev :=
  let d := (d.setNv 4 r.body.rid (d.nv.topSeq r.body.area r.body.rid + 1) r.body.area).release (.durable r.num)
    (refuse .fault 0x3304)
  match r.after with
  | .patch t => d.closeSession.complete t .fault 0x3304
  | _ => d

/-- IMMEDIATE_RECORD: the oldest immediate record is programmed (R356). -/
def immediateRecord (p : Prog) (d : Dev) : Dev :=
  match d.nv.imm with
  | [] => d
  | r :: rest =>
    if !d.alive then d
    else
      let d := { d with nv := { d.nv with imm := rest } }
      let d := if p = .retired then d.retireFor r.body else d
      let done := if p = .failed then none
        else match r.after with
          | .counter i => d.nv.countBit i
          | _ => d.nv.write r.body 0 true
      match done with
      | some nv => ({ d with nv := nv } : Dev).afterRecord r
      | none => d.recordLost r

/-! ## Compaction (R357) -/

/-- The record wins at recall: of a twin RID its bank's copy, else one of the highest SEQ. -/
def Nv.wins (nv : Nv) (r : NvRec) : Bool :=
  if twinArea r.area then decide (nv.copy r.area r.rid r.bank = some r) && r.whole else (nv.tops r.area r.rid).contains r

/-- A closing record that a winning record of its batch still rests on (log 61). -/
def Nv.closes (nv : Nv) (r : NvRec) : Bool :=
  decide (r.area = 1 ∧ r.rid = 1) && r.whole &&
    nv.recs.any fun x => !x.imm && decide (x.rid ≠ 1 ∧ x.batch = leAt r.data 0 4) && nv.wins x

/-- The records of a sector that compaction copies. -/
def Nv.keeps (nv : Nv) (s : Nat) : List NvRec :=
  nv.recs.filter fun r => decide (r.sector = s) && (nv.wins r || nv.closes r)

/-- One record copied into erased space away from a sector: a batch record with IMMEDIATE set and BATCH 0. -/
def Nv.copyOut (nv : Nv) (victim : Nat) (r : NvRec) : Option Nv :=
  let near := (nv.recs.filter fun x =>
    decide (x.area = r.area ∧ (!twinArea r.area ∨ x.bank = r.bank) ∧ x.sector ≠ victim)).getLast?.map (·.sector)
  let room (s : Nat) : Bool := decide (nv.used s + recSize r.data.length ≤ 16384) && !(nv.sector s).retired
  let s := match near with
    | some s => if room s then some s else (nv.erased r.area r.bank).head?
    | none => (nv.erased r.area r.bank).head?
  let c := if r.rid = 1 ∧ r.area = 1 then r else { r with imm := true, batch := 0 }
  s.map fun s => { nv with recs := snoc nv.recs { c with sector := s } }

/-- Every record of a list copied; none where one finds no space. -/
def Nv.copyAll (nv : Nv) (victim : Nat) : List NvRec → Option Nv
  | [] => some nv
  | r :: t => (nv.copyOut victim r).bind fun nv => nv.copyAll victim t

/-- The sector that compaction chooses: the one with the fewest bytes of winning records; in the log area the oldest. -/
def Nv.victim (nv : Nv) (a bank : Nat) : Option Nat :=
  if a = 4 then (nv.recs.find? fun r => decide (r.area = 4)).map (·.sector)
  else
    let l := (nv.areaList a bank).filter fun s => decide (nv.used s ≠ 0)
    let live (s : Nat) : Nat := ((nv.keeps s).map fun r => recSize r.data.length).sum
    let low : Nat := (l.map live).foldl min (2 ^ 32)
    l.find? fun s => decide (live s = low)

/-- One compaction of an area, or of one bank of a twin area, that holds fewer than `need` erased sectors. -/
def Dev.compactBank (d : Dev) (a bank need : Nat) : Dev :=
  if need ≤ (d.nv.erased a bank).length then d
  else
    let d := match d.nv.victim a bank with
      | none => d
      | some s =>
        if a = 4 then d.eraseSector s
        else match d.nv.copyAll s (d.nv.keeps s) with
          | some nv => ({ d with nv := nv } : Dev).eraseSector s
          | none => d
    if (d.nv.erased a bank).isEmpty then d.setNv 5 0 0 a else d

/-- COMPACTION of an area; of a bulk area, whose superseded records' blocks are reclaimed. -/
def compaction (a : Nat) (d : Dev) : Dev :=
  if !d.alive || d.recalling then d
  else if a < 8 then (if twinArea a then (d.compactBank a 0 1).compactBank a 1 1 else d.compactBank a 0 2)
  else
    let stale (r : BulkRec) : Bool :=
      decide (r.area = a) && !(decide ((d.nv.bulkRec r.rid).map (·.seq) = some r.seq) ||
        decide ((d.nv.bulkGood r.rid).map (·.seq) = some r.seq))
    { d with nv := { d.nv with bulk := d.nv.bulk.filter fun r => !stale r } }

/-! ## The refresh scan (R361) -/

/-- A refresh scan is running or due. -/
def Dev.scanDue (d : Dev) : Bool :=
  d.nv.scan.isSome || decide (d.rd P.LAST_SCAN + 24 * d.rd P.REFRESH_DAYS ≤ d.rd P.COUNTER [64])

/-- A weak internal record written again: the winner of its RID in a sequence area with the next SEQ, a twin copy from the
other copy with the same SEQ (log 62). -/
def Dev.rewrite (d : Dev) (r : NvRec) : Dev :=
  let done (nv : Nv) (d : Dev) : Dev := (({ d with nv := nv } : Dev).bump P.WEAK_CNT).setNv 6 r.rid r.seq r.area
  if twinArea r.area then
    match (d.nv.copy r.area r.rid (1 - r.bank)).filter fun x => x.whole && decide (x.seq = r.seq) with
    | some x =>
      match d.nv.program ⟨r.rid, r.area, x.data⟩ r.seq r.bank 0 true with
      | some nv => done nv d
      | none => d
    | none => d
  else if decide (r.area ∈ [1, 5, 6]) && d.nv.wins r then
    match d.nv.write ⟨r.rid, r.area, r.data⟩ 0 true with
    | some nv => done nv d
    | none => d
  else d

/-- A weak bulk record written again with the next SEQ. -/
def Dev.rewriteBulk (d : Dev) (r : BulkRec) : Dev :=
  if d.nv.bulkRec r.rid = some r then ((d.bulkCommit r.rid r.area r.data).bump P.WEAK_CNT).setNv 6 r.rid r.seq r.area else d

/-- REFRESH_SCAN: the scan goes on to `prog` percent, 100 being its end; `weak` and `bulk` are the places, among the records
held, of those found weak on the way. -/
def refreshScan (weak bulk : List Nat) (prog : Nat) (d : Dev) : Dev :=
  if !d.awake || d.recalling || !d.scanDue then d
  else
    let recs := weak.filterMap fun i => d.nv.recs[i]?
    let bulks := if d.bulkUp then bulk.filterMap fun i => d.nv.bulk[i]? else []
    let d := (d.each recs fun r d => d.rewrite r).each bulks fun r d => d.rewriteBulk r
    if prog < 100 then
      ({ d with nv := { d.nv with scan := some prog } } : Dev).wr P.SCAN_PROG [] prog
    else
      let d := ({ d with nv := { d.nv with scan := none } } : Dev).wrs [(P.SCAN_PROG, [], 0), (P.LAST_SCAN, [], d.rd P.COUNTER [64])]
      ((d.storeParams [P.LAST_SCAN.base]).count 133).setNv 9 0 0 0

/-! ## Recall (R362) -/

/-- The field is loaded from its record at recall: persistent, or hardware's own record. -/
def recalledRow (r : Row) : Bool :=
  r.persist || [P.LAST_SCAN, P.TJ_MAX, P.REG_STATE, P.REG_TIME].any fun q => decide (q.base = r.base ∧ q.lo = r.lo)

/-- A parameter's word loaded. -/
def Dev.loadWord (d : Dev) (a w : Nat) : Dev :=
  d.each ((rowsAt a).filter fun p => recalledRow p.1) fun p d => d.wr p.1 p.2 (bitsOf w p.1.lo p.1.width)

/-- Torn records and ties: TORN_CNT, TIE_CNT and their flags; a twin copy that lost is rewritten from the winner (R351,
Table 11-5). -/
def Dev.recallAreas (d : Dev) : Dev :=
  let torn (d : Dev) (r : Nat × Nat × Nat) : Dev := (d.bump P.TORN_CNT).setNv 2 r.1 r.2.1 r.2.2
  let tie (bit : Nat) (d : Dev) (r : Nat × Nat × Nat) : Dev := (d.bump P.TIE_CNT).setNv bit r.1 r.2.1 r.2.2
  let nv := d.nv
  d.each [0, 1, 2, 3, 4, 5, 6, 7] fun a d =>
    if twinArea a then
      d.each (nv.rids a) fun rid d =>
        let (win, e) := nv.twinChoice a rid
        let seq := (win.map (·.seq)).getD 0
        let d := match e with
          | .none => d
          | .torn => torn d (rid, seq, a)
          | .tie => tie 0 d (rid, seq, a)
        match win, e with
        | none, _ => d
        | _, .none => d
        | some w, _ => match d.nv.program ⟨rid, a, w.data⟩ w.seq (1 - w.bank) 0 true with
          | some nv => { d with nv := nv }
          | none => d
    else
      let bad := nv.recs.filter fun r => decide (r.area = a) && !nv.valid r
      let d := d.each bad fun r d => torn d (r.rid, r.seq, a)
      d.each (nv.rids a) fun rid d =>
        match nv.tops a rid with
        | w :: t => if t.any (·.data ≠ w.data) then tie 1 d (rid, w.seq, a) else d
        | [] => d

/-- Key slots, ceilings and AUTH_RELAX of area 0 (R61, R379, R381): a slot without a record is as at manufacture. -/
def Dev.recallKeys (d : Dev) : Dev :=
  let key (s : Nat) : Option (List Byte) := match d.nv.stored 0 (0x20 + s) with
    | some k => if k.isEmpty then none else some k
    | none => if s = 8 then some d.boot.fuses.factoryKey else none
  let fresh := KMap.ofList ((List.range 16).filterMap fun s => match d.nv.stored 0 (0x10 + s) with
    | some c => if leNat c = 0 then none else some (s, (⟨leNat c, 2 ^ 64 - 1, leNat c⟩ : Fresh))
    | none => none)
  let d := { d with boot := { d.boot with keys := (List.range 16).map key, fresh := fresh } }
  match d.nv.stored 0 1 with
  | some b => d.wr P.AUTH_RELAX [] (byteAt b 0)
  | none => d.wr P.AUTH_RELAX [] 2

/-- The boot selection record and the patch of area 7 (R375, R384, R385): a trial that a reset cut off reverts. -/
def Dev.recallBoot (d : Dev) : Dev :=
  let sel := (d.nv.stored 7 2).getD [0, 0xFF]
  let d := { d with boot := { d.boot with selected := byteAt sel 0 % 2 } }
  let d := if byteAt sel 1 = 0xFF then d else (d.select (byteAt sel 1 % 2) none).set (.trust 5)
  let d := d.wr P.BOOT_BANK [] d.boot.selected
  match d.nv.stored 7 3 with
  | none => d
  | some img =>
    if (d.imageFailure img 1).isNone then d.wrs [(P.PATCH_VER, [], leAt img 8 2), (P.PATCH_SVN, [], byteAt img 12)]
    else d.set (.trust 0)

/-- The burns of a confirmed bank that a power loss cut off are completed (Table 12-6). -/
def Dev.finishBurns (d : Dev) : Dev :=
  if byteAt ((d.nv.stored 7 2).getD []) 2 = 1 && (d.bankImage d.boot.selected).isSome then d.confirmTrial d.boot.selected else d

/-- RID of the layout record in area 6 (R347). -/
def layoutRid : Nat := 0x600

/-- Persistent parameters, tables and scratch pages (R349); a channel without a record of its drive fields takes drive
profile 0 (R344). -/
def Dev.recallParams (d : Dev) : Dev :=
  let nv := d.nv
  let d := d.each (nv.rids 1) fun rid d =>
    match nv.stored 1 rid with
    | none => d
    | some b =>
      if 0xE00000 ≤ rid then d.tblWrite (rid - 0xE00000) 0 b
      else if rid = 1 then d
      else d.loadWord rid (leNat b)
  let d := d.each (nv.rids 5) fun rid d =>
    match nv.stored 5 rid with
    | some b => d.tblWrite 0x3300 (256 * (rid - 0xF00000)) b
    | none => d
  let d := match nv.stored 6 layoutRid with
    | some b => d.tblWrite 0x3302 0 (fitTo 40 0 b)
    | none => d
  let t := d.tblRead 0x32C0 0 16
  d.each (List.range 64) fun n d =>
    if [1, 2, 3].any fun i => (nv.stored 1 (0x320100 + 8 * n + i)).isSome then d
    else d.wrs [(P.PULL_I, [n], leAt t 0 2), (P.PULL_T, [n], byteAt t 2), (P.HOLD_I, [n], leAt t 4 2),
      (P.MAX_ON, [n], leAt t 6 2), (P.DUTY_PCT, [n], byteAt t 8), (P.DUTY_WIN, [n], leAt t 9 2)]

/-- Converter coefficients of area 2 (R305). -/
def Dev.recallConv (d : Dev) : Dev :=
  d.each (List.range 4) fun m d => d.each (List.range 8) fun g d =>
    match d.nv.stored 2 (0x100 + 8 * m + g) with
    | some b => d.tblWrite (0x3114 + m) (8 * g) (fitTo 8 0 b)
    | none =>
      let (o, c) := d.factoryCoef m g
      let d := d.tblWrite (0x3114 + m) (8 * g) (leBytes 4 (wrapInt 32 o) ++ leBytes 4 c)
      if (d.nv.stored 2 (0x200 + 8 * m + g)).isSome then d else d.setConv 7 (32 * m)

/-- Spread counters; the actuation counts with their reserves, and the start counted (R339, R359). -/
def Dev.recallCounters (d : Dev) : Dev :=
  let d := d.each (List.range 134) fun i d => d.wr P.COUNTER [i] (d.nv.counters.get i 0)
  let d := d.each (List.range 64) fun n d => ((d.wr P.ACT_CNT [n] (d.rd P.COUNTER [n])).refreshWear n).reserveNext n
  d.count 130

/-- Stored supply baselines (R409): 2 bytes for each drop of each bus, in 0.0001 K/W. -/
def Dev.recallBaselines (d : Dev) : Dev :=
  let l := (d.nv.stored 1 (0xE00000 + 0x4103)).getD []
  let one (i : Nat) : Option (Nat × Supply) :=
    let v := leAt l (2 * i) 2
    if v = 0 then none
    else some (i, ⟨0, 4, [], none, some (F32.div (F32.ofNat v) (F32.ofNat 10000)), [], 0, 0, 0, 0⟩)
  { d with evt := { d.evt with supply := KMap.ofList ((List.range (l.length / 2)).filterMap one) } }

/-- Discovery of the bulk store (R363): a pulse on BS_RST_N, then what the part answers; none where discovery fails or the
part disagrees with the layout record. -/
def Dev.discover (d : Dev) (part : Option (Nat × Nat × Bool)) : Dev :=
  let d := d.emit (.pulse 4 0 0)
  match part with
  | some (size, erase, nand) =>
    d.wrs [(P.BULK_PRESENT, [], 1), (P.BULK_SIZE, [], size), (P.BULK_ERASE, [], erase), (P.BULK_KIND, [], if nand then 1 else 0)]
  | none => (d.wr P.BULK_PRESENT [] 0).setNv 7 0 0 6

/-- The records ringed before recall ended are routed once the routes have been recalled (R401). -/
def Dev.routeEarly (d : Dev) : Dev := d.each d.evt.ring fun e d => d.routeRec (Machine.deliver 3) e

/-- RECALL_END: everything the store holds is in force; NV_STATE becomes 1. `part` is what discovery of the bulk store found:
size in MiB, erase-block exponent, NAND. -/
def recallEnd (part : Option (Nat × Nat × Bool)) (d : Dev) : Dev :=
  if !d.alive || !d.recalling then d
  else
    let d := ((((d.recallAreas.recallKeys).recallBoot).recallParams).recallConv).recallCounters
    let d := d.recallBaselines.wr P.LOG_HEAD [] (if (d.nv.rids 4).isEmpty then 0 else d.nv.topSeq 4 0xFF0000 + 1)
    let d := ((d.discover part).finishBurns.refreshBanks).wr P.NV_STATE [] 1
    (d.each (List.range 64) fun k d => d.recallLearned k).routeEarly

/-! ## The bulk store (R348, R364) -/

/-- A bulk write that cannot end: what it was to complete fails (R348). -/
def Dev.bulkFailed (d : Dev) (j : BulkJob) (det : Nat) : Dev :=
  match j.why with
  | .learned k => (d.setCalF 8 k).setNv 4 j.rid 0 j.area
  | .grid k =>
    let d := (d.setNv 4 j.rid 0 j.area).each ((d.fus.newGrid.get k ([], [])).2) fun t d => d.complete t .fault det
    if (d.fus.newGrid.get? k).isSome then { d with fus := { d.fus with newGrid := d.fus.newGrid.upd k ([], []) fun g => (g.1, []) } }
    else d
  | .image _ t => d.closeSession.complete t .fault det
  | .config => match d.plc.stage with
    | some s => d.failStage s .fault det false
    | none => d

/-- BULK_LOST: the bulk store stops answering (R348). -/
def bulkLost (d : Dev) : Dev :=
  if !d.alive || !d.bulkUp then d
  else
    let d := ((d.wr P.BULK_PRESENT [] 0).setNv 7 0 0 6).setNv 8 0 0 6
    let jobs := d.nv.bulkQ
    ({ d with nv := { d.nv with bulkQ := [] } } : Dev).each jobs fun j d => d.bulkFailed j 0x3305

/-- What a committed bulk record completes. -/
def Dev.bulkDone (d : Dev) (j : BulkJob) : Dev :=
  match j.why with
  | .learned _ => d
  | .grid _ => d
  | .image _ t => (d.closeSession.refreshBanks).complete t .ok
  | .config =>
    match d.plc.stage with
    | none => d
    | some s =>
      let d := d.setStage (some { s with complete := true, tickets := [] })
      let d := d.each s.tickets fun t d => d.complete t .ok
      if s.pulled && d.awake then d.activate s.image d.now else d

/-- BULK_RECORD_WRITE: the oldest bulk write other than a learned set is programmed, verified and committed by its index record
(R364); LEARNED_SET_STORE commits learned sets. -/
def bulkRecordWrite (p : Prog) (d : Dev) : Dev :=
  let mine (j : BulkJob) : Bool := match j.why with
    | .learned _ => false
    | _ => true
  match d.nv.bulkQ.find? mine with
  | none => d
  | some j =>
    if !d.alive || !d.bulkUp then d
    else
      let d := { d with nv := { d.nv with bulkQ := d.nv.bulkQ.erase j } }
      let d := if p = .retired then d.bump P.BLOCKS_BAD else d
      if p = .failed then d.bulkFailed j 0 else (d.bulkCommit j.rid j.area j.data).bulkDone j

end Sys2Proof.Machine
end

