-- ==== Sys2Proof/Machine/Health.lean ====
section
/-!
DEFINITION. Sys2Proof/Machine/Health.lean: events and health (R398 to R418): reading and routing of events, their delivery, the log,
supply prediction, link and core health, the lifetime figures.
-/
namespace Sys2Proof.Machine

/-! ## Event opcodes (R414) -/

/-- The records EVENT_READ returns from an index, with the INDEX it names first. -/
def Dev.eventsFrom (d : Dev) (index count : Nat) : Nat × List EvRec :=
  let head := d.rd P.RING_HEAD
  let back := (head + 2 ^ 32 - index) % 2 ^ 32
  let n := d.evt.ring.length
  if back = 0 ∨ 2 ^ 31 < back then (head, [])
  else
    let l := (if back ≤ n then d.evt.ring.drop (n - back) else d.evt.ring).take count
    ((l.head?.map (·.index)).getD head, l)

/-- EVENT_READ. -/
def eventRead (r : Req) (d : Dev) : Dev :=
  serve { code := 0x0C00, cls := .open_ }
    (fun _ r =>
      match lengthIs 6 r with
      | some a => some a
      | none => if 1 ≤ leAt r.params 4 2 ∧ leAt r.params 4 2 ≤ 21 then none else some badValue)
    (report fun d r =>
      let (first, l) := d.eventsFrom (leAt r.params 0 4) (leAt r.params 4 2)
      okWith (leBytes 4 first ++ leBytes 4 (d.rd P.RING_HEAD) ++ l.flatMap fun e => e.bytes false)) r d

/-- ROUTE, and SEVERITY where it is given, written to a source (R402). -/
def Dev.routeSource (d : Dev) (s route : Nat) (sev : Option Nat) : Dev :=
  let d := d.wr P.ROUTE [s] route
  match sev with
  | none => d
  | some v =>
    let d := d.wr P.SEVERITY [s] v
    if s = 112 then { d with evt := { d.evt with sev112 := true } } else d

/-- EVENT_ROUTE. -/
def eventRoute (r : Req) (d : Dev) : Dev :=
  serve { code := 0x0C01, cls := .operator }
    (fun d r =>
      let s := leAt r.params 0 2
      match lengthIs 4 r with
      | some a => some a
      | none =>
        if s ≠ 0xFFFF && !(decide (s < 512) && sourceKnown s) then some badValue
        else if s ≠ 0xFFFF && (flagOfSource s).isNone && decide (bitsOf (leAt r.params 2 2) 5 2 ≠ 0) then
          some (refuse .badParam 0x4101)
        else d.storeBusy)
    (fun d r =>
      let s := leAt r.params 0 2
      let w := leAt r.params 2 2
      let sev := if bitOf w 7 then none else some (bitsOf w 8 2)
      let route (s : Nat) : Nat := if (flagOfSource s).isSome then w % 128 else w % 32
      let l := if s = 0xFFFF then (List.range 512).filter sourceKnown else [s]
      let d := d.each l fun s d => d.routeSource s (route s) sev
      ((d.storeParams (l.map (0x410200 + ·))).wrote 0x41, some okay)) r d

/-- The log records held, oldest first: log index and the 72 bytes (R407). -/
def Dev.logRecords (d : Dev) : List (Nat × List Byte) :=
  (d.nv.recs.filter fun x => x.whole && decide (x.area = 4)).map fun x => (x.seq, x.data)

/-- LOG_READ. -/
def logRead (r : Req) (d : Dev) : Dev :=
  serve { code := 0x0C02, cls := .open_ }
    (fun _ r =>
      match lengthIs 6 r with
      | some a => some a
      | none => if 1 ≤ leAt r.params 4 2 ∧ leAt r.params 4 2 ≤ 19 then none else some badValue)
    (report fun d r =>
      let l := (d.logRecords.filter fun p => decide (leAt r.params 0 4 ≤ p.1)).take (leAt r.params 4 2)
      okWith (leBytes 4 ((l.head?.map (·.1)).getD (d.rd P.LOG_HEAD)) ++ leBytes 4 (d.rd P.LOG_HEAD) ++ l.flatMap (·.2))) r d

/-! ## Delivery (R399, R403, R404) -/

/-- EVT_HOLDOFF: the holdoff of a source ends, and a KIND 1 record held back is ringed. -/
def evtHoldoff (s : Nat) (d : Dev) : Dev :=
  match d.evt.hold.get? s with
  | some ⟨last, some e⟩ =>
    let d := d.reach (last + ms (d.rd P.EVT_HOLDOFF))
    ({ d with evt := { d.evt with hold := d.evt.hold.put s ⟨d.clk, none⟩ } } : Dev).deliver e
  | _ => d

/-- An event record as a KCP packet with EVT set (R403). -/
def Dev.eventPacket (d : Dev) (e : EvRec) (gap : Bool) : List Byte :=
  let b := kcpHeader (1 + 128) 0x0C00 0x3FF d.addr (e.index % 65536) 64 (d.rd P.CFG_GEN % 65536) ++ e.bytes gap
  b ++ leBytes 4 (crc32 b)

/-- The IP address of a destination, DIP. -/
def Dev.destIp (d : Dev) (dst : Nat) : Nat := ((List.range 4).map fun w => d.rd P.DIP [dst, w] * 2 ^ (32 * w)).sum

/-- The transport of a destination is free and live. -/
def Dev.destFree (d : Dev) (dst : Nat) : Bool :=
  let k := d.rd P.DKIND [dst]
  let u := d.rd P.UPLINK [dst]
  if k = 1 ∨ k = 2 then d.uplinkOn u && decide (d.kcp.paused.get u 0 = 0)
  else if k = 4 then decide (d.boot.svcOut.length < 4)
  else decide (k = 3 ∨ k = 5)

/-- A packet sent to a destination over its transport (R403). -/
def Dev.sendEvent (d : Dev) (dst : Nat) (p : List Byte) : Dev :=
  let k := d.rd P.DKIND [dst]
  if k = 1 then d.emit (.datagram (d.rd P.UPLINK [dst]) false (d.destIp dst % 2 ^ 32) (d.rd P.DPORT [dst]) (d.rd P.UDP_PORT) p)
  else if k = 2 then d.emit (.datagram (d.rd P.UPLINK [dst]) true (d.destIp dst) (d.rd P.DPORT [dst]) (d.rd P.UDP_PORT) p)
  else if k = 3 then d.chainSend 52 1 p
  else if k = 4 then { d with boot := { d.boot with svcOut := snoc d.boot.svcOut (1, p) } }
  else d.sendTo 3 (d.rd P.DADDR [dst]) (envelope d.addr 0xFFFF 0 true ++ p)

/-- EVENT_DELIVERY: a destination sends its next record; the queues of uplink destinations wait in Doze. -/
def eventDelivery (dst : Nat) (d : Dev) : Dev :=
  match d.evt.dq.get dst [] with
  | [] => d
  | e :: t =>
    if !d.alive || !d.destFree dst then d
    else
      let gap := d.evt.gap.contains dst
      let d := { d with evt := { d.evt with
        dq := if t.isEmpty then d.evt.dq.del dst else d.evt.dq.put dst t, gap := d.evt.gap.filter (· ≠ dst) } }
      (d.sendEvent dst (d.eventPacket e gap)).bump P.DSENT [dst]

/-! ## The log writer (R407, R408) -/

/-- A log record programmed under the next log index; the oldest sector of area 4 is erased where there is no space. -/
def Dev.programLog (d : Dev) (e : EvRec) : Dev :=
  let n := d.rd P.LOG_HEAD
  let b : BufRec := ⟨0xFF0000, 4, leBytes 4 n ++ leBytes 4 (d.rd P.COUNTER [130]) ++ e.bytes false⟩
  let d := if d.areaFull 4 72 then (match d.nv.victim 4 0 with | some s => d.eraseSector s | none => d) else d
  match d.nv.program b n 0 0 true with
  | some nv => ({ d with nv := nv } : Dev).bump P.LOG_HEAD
  | none => d.setNv 4 b.rid n 4

/-- The log writer takes its next record: at most LOG_RATE of them in any second (R408). -/
def Dev.logTurn (d : Dev) (rest : List (EvRec × Bool)) : Dev :=
  let d := match d.evt.logAt[d.rd P.LOG_RATE - 1]? with
    | some t => d.reach (t + sec 1)
    | none => d
  { d with evt := { d.evt with logQ := rest, logAt := (d.clk :: d.evt.logAt).take 64 } }

/-- LOG_WRITE: the log writer programs the next queued record, behind the immediate records. -/
def logWrite (p : Prog) (d : Dev) : Dev :=
  match d.evt.logQ with
  | [] => d
  | (e, _) :: t =>
    if !d.alive || d.recalling || !d.nv.imm.isEmpty then d
    else
      let d := d.logTurn t
      let b : BufRec := ⟨0xFF0000, 4, List.replicate 72 0⟩
      if p = .failed then d.setNv 4 b.rid (d.rd P.LOG_HEAD) 4
      else (if p = .retired then d.retireFor b else d).programLog e

/-! ## Supply prediction (R409, R410) -/

/-- The place of a tile in the supply tables: 32 × bus + drop. -/
def supplyKey (t : TileRow) : Nat := 32 * t.bus + t.drop

/-- Supply health at a place. -/
def Dev.supplyAt (d : Dev) (n : Nat) : Supply := d.evt.supply.get n ⟨0, 4, [], none, none, [], 0, 0, 0, 0⟩

/-- Supply health at a place changed. -/
def Dev.setSupply (d : Dev) (n : Nat) (x : Supply) : Dev := { d with evt := { d.evt with supply := d.evt.supply.put n x } }

/-- The mean of the valid and selvedge cells of the last record accepted for a tile, where they cover at least half of its
cells: their sum and their number. -/
def Attach.back (a : Attach) : Option (Nat × Nat) :=
  match a.last with
  | none => none
  | some (_, pay) =>
    let l := (a.map.mapIdx fun i s => (s, leAt pay (2 * i) 2)).filter fun p => decide (p.1 = 0 ∨ p.1 = 2)
    if a.map.length ≤ 2 * l.length ∧ l ≠ [] then some ((l.map (·.2)).sum, l.length) else none

/-- The sample of a health reply (R409): F, and the last figures. -/
def Dev.supplySample (d : Dev) (t : TileRow) (pay : List Byte) : Dev :=
  let uw := leAt pay 4 2 * leAt pay 6 2
  let p := F32.div (F32.ofNat uw) (F32.ofNat 1000000)
  let tPsu := leAt pay 10 2
  match (d.attach t.tile).back with
  | none => d
  | some (sum, n) =>
    if F32.lt p (F32.ofNat (d.rd P.PMIN)) then d
    else
      let back := F32.div (F32.ofNat sum) (F32.ofNat (100 * n))
      let k := F32.div (F32.sub (F32.div (F32.ofNat tPsu) (F32.ofNat 100)) back) p
      let x := d.supplyAt (supplyKey t)
      let f := match x.fast with
        | none => k
        | some f =>
          let w := F32.min F32.one (F32.ofRat false (d.clk - x.at_) (sec 3600))
          F32.add f (F32.mul (F32.sub k f) w)
      d.setSupply (supplyKey t) { x with
        tile := t.tile, fast := some f, at_ := d.clk, tPsu := tPsu, power := (rndDiv uw 1000000).toNat,
        tBack := (rndDiv sum n).toNat }

/-- HEALTH_REPLY: what a tile controller sends in the window of a bus, its characters of ten bits; a reply is taken into table 0x23F1
and gives a sample. -/
def healthReply (b : Nat) (codes : List Nat) (d : Dev) : Dev :=
  match d.takeReply b codes with
  | (d, none) => d
  | (d, some (t, pay)) =>
    match d.attached.find? fun r => decide (r.tile = t) with
    | none => d
    | some r => d.supplySample r pay

/-- S: the least-squares slope of hourly entries, in K/W per day, where there are 24 or more (log 70). -/
def slope (l : List F32) : Option F32 :=
  let n := l.length
  if n < 24 then none
  else
    let sx := n * (n - 1) / 2
    let sxx := n * (n - 1) * (2 * n - 1) / 6
    let sy := F32.sum l
    let sxy := F32.sum (l.mapIdx fun i y => F32.mul (F32.ofNat i) y)
    let num := F32.sub (F32.mul (F32.ofNat n) sxy) (F32.mul (F32.ofNat sx) sy)
    some (F32.div (F32.mul (F32.ofNat 24) num) (F32.ofNat (n * sxx - sx * sx)))

/-- D: days until F reaches L at the slope S, where S is above 0. -/
def Dev.daysLeft (d : Dev) (x : Supply) : Option F32 :=
  match x.base, x.fast, slope x.hist with
  | some b, some f, some s =>
    let l := F32.mul b (F32.add F32.one (F32.div (F32.ofNat (d.rd P.RISE_LIM)) (F32.ofNat 100)))
    if F32.lt F32.zero s then some (F32.div (F32.sub l f) s) else none
  | _, _, _ => none

/-- The grade of a supply (R410). -/
def Dev.supplyGrade (d : Dev) (x : Supply) : Nat :=
  match x.base, x.fast with
  | some b, some f =>
    let pct (n : Nat) : F32 := F32.mul b (F32.add F32.one (F32.div (F32.ofNat n) (F32.ofNat 100)))
    if x.hist.length < 24 then 4
    else if F32.le (pct (d.rd P.RISE_LIM)) f then 3
    else if (d.daysLeft x).any fun n => F32.le n (F32.ofNat (d.rd P.PRED_DAYS)) then 2
    else if F32.le (pct (d.rd P.WATCH_PCT)) f then 1
    else 0
  | _, _ => 4

/-- The 32-byte entry of table 0x4101 (Table 13-4). -/
def Dev.supplyEntry (d : Dev) (n : Nat) : List Byte :=
  let x := d.supplyAt n
  let f := fun o : Option F32 => leBytes 4 ((o.getD F32.zero).toNat)
  let days := match d.daysLeft x with
    | some v => min 0xFFFE (F32.toInt (F32.mul v (F32.ofNat 10))).toNat
    | none => 0xFFFF
  leBytes 4 x.tile ++ leBytes 1 x.grade ++ leBytes 1 x.hist.length ++ leBytes 2 0 ++ f x.fast ++ f x.base ++ f (slope x.hist) ++
    leBytes 2 days ++ leBytes 2 x.tPsu ++ leBytes 2 x.power ++ leBytes 2 x.tBack ++ leBytes 4 0

/-- The hour's entry of a supply (R409): the history, and the baseline. -/
def Supply.hour (x : Supply) : Supply :=
  match x.fast with
  | none => x
  | some f =>
    let h := x.hist ++ [f]
    let x := { x with hist := h.drop (h.length - 72) }
    match x.base with
    | some b =>
      if x.grade = 0 then { x with base := some (F32.add b (F32.div (F32.sub f b) (F32.ofNat 336))) } else x
    | none =>
      let l := x.first ++ [f]
      if 24 ≤ l.length then { x with first := [], base := some (F32.div (F32.sum l) (F32.ofNat l.length)) }
      else { x with first := l }

/-- The supply at a place graded: a change raises source 400, entry into grades 1 to 3 a flag (R410). -/
def Dev.gradeSupply (d : Dev) (n : Nat) : Dev :=
  let x := (d.supplyAt n).hour
  let g := d.supplyGrade x
  let d := d.setSupply n { x with grade := g }
  if g = x.grade then d
  else
    let data := d.supplyEntry n ++ leBytes 1 x.grade
    let d := d.report 400 (9, n) data
    if 1 ≤ g ∧ g ≤ 3 then d.set (.evt (1 + g)) (9, n) data else d

/-- SUPPLY_GRADE: every hour. -/
def supplyHour (d : Dev) : Dev :=
  if !d.awake then d else d.each (d.attached.map supplyKey) fun n d => d.gradeSupply n

/-- BASELINE_STORE: every day, the baselines of the attached tiles go to table 0x4103. -/
def baselineStore (d : Dev) : Dev :=
  if !d.awake || d.recalling then d
  else
    let ns := d.attached.map supplyKey
    let d := d.each ns fun n d =>
      let v := match (d.supplyAt n).base with
        | some b => min 65535 (F32.toInt (F32.mul b (F32.ofNat 10000))).toNat
        | none => 0
      d.tblWrite 0x4103 (2 * n) (leBytes 2 v)
    if ns.isEmpty then d else d.buffer [tableRecord 0x4103 (d.tblRead 0x4103 0 (2 * (ns.foldl max 0 + 1)))]

/-! ## Link and core health (R411, R412) -/

/-- A port is enabled (R1, R411). -/
def Dev.portOn (d : Dev) (p : Nat) : Bool :=
  if p < 32 then d.is P.CSI_LINK_EN [p]
  else if p < 40 then (List.range 64).any fun k => decide (k / 8 = p - 32) && d.is P.CORE_EN [k]
  else if p < 48 then d.is P.SL_LINK_EN [p - 40]
  else if p < 52 then d.is P.UL_EN [p - 48]
  else if p < 56 then true
  else d.is P.BUS_EN [p - 56]

/-- An enabled port is up, or has signal. -/
def Dev.portUp (d : Dev) (p : Nat) : Bool :=
  if p < 32 then d.is P.CSI_LINK_UP [p]
  else if p < 40 then true
  else if p < 48 then d.is P.SL_LINK_UP [p - 40]
  else if p < 52 then d.is P.UL_LINK_UP [p - 48]
  else if p = 52 then d.is P.UP_SIG
  else if p = 53 then d.is P.DOWN_SIG
  else if p = 54 then d.is P.BULK_PRESENT
  else true

/-- The error counters of a port (R411), as one sum. -/
def Dev.portErrors (d : Dev) (p : Nat) : Nat :=
  if p < 32 then d.rd P.ECC_UNCORR [p] + d.rd P.CRC_ERR [p]
  else if p < 40 then d.rd P.NACK_CNT [p - 32] + d.rd P.BUS_RESET_CNT [p - 32]
  else if p < 48 then d.rd P.SL_CRC [p - 40] + d.rd P.HB_MISS [p - 40]
  else if p < 52 then d.rd P.UL_RX_ERR [p - 48]
  else if p < 54 then d.rd P.CHAIN_CRC_CNT
  else if p = 54 then d.rd P.BULK_RD_ERR
  else if p = 55 then d.rd P.SVC_DROP
  else d.rd P.REPLY_ERR [p - 56] + d.rd P.NO_REPLY [p - 56]

/-- A port or core before its first minute. -/
def Grade.none : Grade := ⟨0xFF, [], 0, 0, 0⟩

/-- A minute's reading of a counter. -/
def Grade.minute (g : Grade) (reading : Nat) : Grade :=
  let r := reading % 65536
  let n := (r + 65536 - g.last) % 65536
  { g with minutes := (n :: g.minutes).take 60, last := r, total := (g.total + n) % 2 ^ 32 }

/-- Errors of the last hour, saturating. -/
def Grade.hour (g : Grade) : Nat := min 65535 g.minutes.sum

/-- Health of a port. -/
def Dev.portHealth (d : Dev) (p : Nat) : Grade := d.evt.ports.get p Grade.none

/-- The 8-byte entry of table 0x4102. -/
def Dev.portEntry (d : Dev) (p : Nat) : List Byte :=
  let g := d.portHealth p
  leBytes 1 (if d.portOn p then g.grade else 0xFF) ++ [0] ++ leBytes 2 g.hour ++ leBytes 4 g.total

/-- One port graded; its first grade is a change where it is not 0. -/
def Dev.gradePort (d : Dev) (p : Nat) : Dev :=
  let old := d.portHealth p
  if !d.portOn p then
    if old = Grade.none then d
    else { d with evt := { d.evt with ports := d.evt.ports.put p { old with grade := 0xFF } } }
  else
    let g := old.minute (d.portErrors p)
    let v := if !d.portUp p then 3 else if d.rd P.LINK_POOR ≤ g.hour then 2 else if d.rd P.LINK_WARN ≤ g.hour then 1 else 0
    let d := { d with evt := { d.evt with ports := d.evt.ports.put p { g with grade := v } } }
    if v = old.grade ∨ (v = 0 ∧ old.grade = 0xFF) then d
    else
      let data := d.portEntry p ++ leBytes 1 old.grade
      let d := d.report 401 (1, p) data
      if v = 0 then d else d.set (.evt (4 + v)) (1, p) data

/-- LINK_HEALTH: every minute; health grading pauses in Doze. -/
def linkHealth (d : Dev) : Dev := if !d.awake then d else d.each (List.range 256) fun p d => d.gradePort p

/-- Health of a core. -/
def Dev.coreHealthOf (d : Dev) (k : Nat) : Grade := d.evt.cores.get k Grade.none

/-- The conditions of Table 13-5 that hold of a core: grade and cause bit. -/
def Dev.coreCauses (d : Dev) (k : Nat) : List (Nat × Nat) :=
  let st := d.rd P.CORE_STATE [k]
  let long := (d.evt.stalled.get? k).any fun t => decide (t + sec 10 ≤ d.clk)
  let px := d.rd P.WIDTH [k] * d.rd P.HEIGHT [k]
  let bad := d.rd P.BAD_TOTAL [k]
  ([(3, 0, decide (st = 5) || (decide (st = 4) && long)),
    (3, 1, d.is P.SUSP [k]),
    (2, 2, decide (1 ≤ d.rd P.CONSEC_FAIL [k])),
    (2, 3, decide (px < 100 * bad)),
    (2, 4, decide (d.rd P.UNC_THR ≠ 0 ∧ 2 * d.rd P.UNC_THR < d.rd P.UNC [k])),
    (2, 5, decide (0 < (d.evt.overruns.get k Grade.none).hour)),
    (1, 6, decide (d.rd P.SEAM_THR ≠ 0 ∧ d.rd P.SEAM_THR < d.rd P.SEAM_RES [k])),
    (1, 3, decide (px < 1000 * bad)),
    (1, 7, decide (100 < (d.coreHealthOf k).hour))] : List (Nat × Nat × Bool)).filterMap
      fun c => if c.2.2 then some (c.1, c.2.1) else none

/-- The 16 bytes HEALTH_STATUS gives of a core (R415). -/
def Dev.coreEntry (d : Dev) (k : Nat) : List Byte :=
  let g := d.coreHealthOf k
  leBytes 1 (if d.is P.CORE_EN [k] then g.grade else 0xFF) ++ leBytes 1 g.cause ++ leBytes 1 (d.rd P.CORE_STATE [k]) ++ [0] ++
    leBytes 2 (d.rd P.UNC [k]) ++ leBytes 2 (d.rd P.SEAM_RES [k]) ++ leBytes 4 (d.rd P.BAD_TOTAL [k]) ++
    leBytes 2 (d.evt.overruns.get k Grade.none).hour ++ leBytes 2 g.hour

/-- One core graded. -/
def Dev.gradeCore (d : Dev) (k : Nat) : Dev :=
  let old := d.coreHealthOf k
  let g := old.minute (d.rd P.CRC_LINES [k])
  let o := (d.evt.overruns.get k Grade.none).minute (d.rd P.OVR_FRAMES [k])
  let keep (d : Dev) (g : Grade) : Dev :=
    { d with evt := { d.evt with cores := d.evt.cores.put k g, overruns := d.evt.overruns.put k o } }
  if !d.is P.CORE_EN [k] then keep d { g with grade := 0xFF, cause := 0 }
  else
    let d := keep d g
    let cs := d.coreCauses k
    let v := (cs.map (·.1)).foldl max 0
    let d := keep d { g with grade := v, cause := (cs.map (·.2)).foldl setBit 0 }
    if v = old.grade ∨ (v = 0 ∧ old.grade = 0xFF) then d
    else
      let data := d.coreEntry k ++ leBytes 1 old.grade
      let d := d.report 402 (2, k) data
      if 2 ≤ v then d.set (.evt 8) (2, k) data else d

/-- CORE_HEALTH: every minute. -/
def coreHealth (d : Dev) : Dev := if !d.awake then d else d.each (List.range 64) fun k d => d.gradeCore k

/-! ## Lifetime figures (R413) -/

/-- TJ_HISTOGRAM: an hour of power-on time goes to the bin of its highest junction temperature, `tj` in 0.01 K. -/
def tjHistogram (tj : Nat) (d : Dev) : Dev :=
  if !d.alive || d.recalling then d
  else
    let bin := min 15 ((tj - 23315) / 1000)
    let d := (d.tblPut 0x4110 (4 * bin) 4 (d.tblNat 0x4110 (4 * bin) 4 + 1)).raiseTo P.TJ_MAX [] tj
    (d.buffer [tableRecord 0x4110 (d.tblRead 0x4110 0 64)]).storeParams [P.TJ_MAX.base]

/-- POWER_ON_HOURS: a full hour from RESET_N release. -/
def powerOnHours (d : Dev) : Dev :=
  if !d.alive then d
  else
    let d := d.count 64
    d.lifeWarn 0 (decide (d.rd P.LIFE_HOURS ≤ d.rd P.COUNTER [64]))

/-! ## HEALTH_STATUS (R415) -/

/-- Numbers of grades 0 to `n` − 1 in a list, `w` bytes each. -/
def tally (w n : Nat) (l : List Nat) : List Byte :=
  (List.range n).flatMap fun g => leBytes w (l.filter fun x => decide (x = g)).length

/-- The worst of the grades, those of 0xFF left out. -/
def worst (l : List Nat) : Nat := (l.filter fun x => decide (x ≠ 0xFF)).foldl max 0

/-- The device's own health summary: 42 bytes. -/
def Dev.healthSummary (d : Dev) : List Byte :=
  let ts := d.attached.map fun t => (d.supplyAt (supplyKey t)).grade
  let ps := (List.range 256).map fun p => if d.portOn p then (d.portHealth p).grade else 0xFF
  let cs := (List.range 64).map fun k => if d.is P.CORE_EN [k] then (d.coreHealthOf k).grade else 0xFF
  leBytes 1 (d.rd P.DEV_STATE) ++ leBytes 1 (worst ts) ++ leBytes 1 (worst ps) ++ leBytes 1 (worst cs) ++ tally 2 5 ts ++
    tally 2 4 ps ++ tally 1 4 cs ++ ([64, 130, 131].flatMap fun i => leBytes 4 (d.rd P.COUNTER [i])) ++ leBytes 2 (d.rd P.TJ_MAX) ++
    leBytes 2 0

/-- HEALTH_STATUS. -/
def healthStatus (r : Req) (d : Dev) : Dev :=
  let ok (s : Nat) : Bool :=
    decide (s = 0 ∨ (0x1000 ≤ s ∧ s < 0x1040) ∨ (0x2000 ≤ s ∧ s < 0x2008) ∨ (0x3000 ≤ s ∧ s < 0x3000 + 200))
  serve { code := 0x0C03, cls := .open_ }
    (fun _ r =>
      match lengthIs 2 r with
      | some a => some a
      | none => if ok (leAt r.params 0 2) then none else some (refuse .badParam 0x4102))
    (report fun d r =>
      let s := leAt r.params 0 2
      okWith (
        if s = 0 then d.healthSummary
        else if s < 0x2000 then d.coreEntry (s - 0x1000)
        else if s < 0x3000 then (List.range 32).flatMap fun i => d.portEntry (32 * (s - 0x2000) + i)
        else (List.range 32).flatMap fun i => d.supplyEntry (32 * (s - 0x3000) + i))) r d

end Sys2Proof.Machine
end

