-- ==== Sys2Proof/Machine/Power.lean ====
section
/-!
DEFINITION. Sys2Proof/Machine/Power.lean: resets (R372), start-up and recovery (R373 to R376), device status (R377), Doze
and wake (R392 to R395), and what follows the sideband pins and links of the uplinks (R71, R440).
-/
namespace Sys2Proof.Machine

/-! ## What a reset cuts off in the stores (R353, R356, Table 11-6) -/

/-- The record programmed last is torn. -/
def Nv.tear (nv : Nv) : Nv := { nv with recs := nv.recs.dropLast ++ nv.recs.getLast?.toList.map fun r => { r with whole := false } }

/-- The whole records of the running batch that were programmed; its closing record was not. -/
def Nv.cutBatch (nv : Nv) (n : Nat) : Nv :=
  match nv.commit with
  | some c => (nv.writeBatch c.batch (c.recs.take n)).getD nv
  | none => nv

/-- One copy of a twin record programmed. -/
def Nv.copyTo (nv : Nv) (b : BufRec) (seq bank : Nat) : Nv := (nv.program b seq bank 0 true).getD nv

/-- The immediate record in hand, as far as it was programmed. -/
def Nv.cutImm (nv : Nv) (k : Nat) : Nv :=
  match nv.imm with
  | [] => nv
  | r :: _ =>
    let b := r.body
    let seq := nv.topSeq b.area b.rid + 1
    match r.after with
    | .counter i => if 2 ≤ k then (nv.countBit i).getD nv else nv
    | a =>
      let nv := if k = 0 then nv
        else if k = 1 then (nv.copyTo b seq 0).tear
        else if twinArea b.area then
          let one := nv.copyTo b seq 0
          if k = 2 then one else if k = 3 then (one.copyTo b seq 1).tear else one.copyTo b seq 1
        else nv.copyTo b seq 0
      match a with
      | .key slot _ => if 2 ≤ k then (nv.write ⟨0x10 + slot, 0, leBytes 6 0⟩ 0 true).getD nv else nv
      | _ => nv

/-- The stores after a reset: the write buffer, the requests and the bulk writes not committed are lost. -/
def Nv.cut (nv : Nv) (c : Cut) : Nv :=
  let nv := (nv.cutBatch c.batch).cutImm c.imm
  { Nv.blank with recs := nv.recs, batch := nv.batch, bulk := nv.bulk, sectors := nv.sectors, counters := nv.counters }

/-- The device taken into reset (R372): everything outside the stores, the fuses, the supervisor's cell and the pins that
others drive goes to its reset value. -/
def Dev.intoReset (d : Dev) (cause : Nat) (c : Cut) : Dev :=
  let new := Dev.bare (d.nv.cut c) d.boot.fuses true d.pins.wake d.pins.fsync d.free
  let new := new.wrs [(P.RESET_CAUSE, [], cause), (P.SUP_RAIL, [], d.rd P.SUP_RAIL), (P.SUP_OVER, [], d.rd P.SUP_OVER)]
  new.each [0, 1, 2, 3] fun u e => e.wr P.UL_MODABS [u] (d.rd P.UL_MODABS [u])

/-- POWER_ON: the supplies come up; reset is held until RESET_RELEASE. The supervisor's cell reads no trip (R447). -/
def powerOn (c : Cut) (d : Dev) : Dev := (d.intoReset 0 c).wrs [(P.SUP_RAIL, [], 15), (P.SUP_OVER, [], 0)]

/-- RESET_N: a low of `low` ns. One of 1.0 µs or longer resets, one below 0.96 µs does not, and between them either may
happen (R372). -/
def resetN (low : Nat) (c : Cut) (d : Dev) : Dev :=
  if d.boot.inReset then d
  else if 1000 ≤ low then d.intoReset 1 c
  else if low < 960 then d
  else
    let (taken, d) := d.draw 2
    if taken = 1 then d.intoReset 1 c else d

/-- The supervisor watches a rail: VTILE is not watched from Doze entry until 1.0 ms after the wake event (R446). -/
def Dev.watches (d : Dev) (rail : Nat) : Bool :=
  decide (rail ≤ 9) &&
  (decide (rail ≠ 8) || !(d.dozing || (decide (d.rd P.DEV_STATE = 6) && decide (d.clk < d.boot.wakeAt + ms 1))))

/-- SUPERVISOR_TRIP: a rail, or 9 for the junction temperature, has left its limits, `over` for an over-trip (R427). -/
def supervisorTrip (rail : Nat) (isOver : Bool) (c : Cut) (d : Dev) : Dev :=
  if d.watches rail then (d.intoReset 2 c).wrs [(P.SUP_RAIL, [], rail), (P.SUP_OVER, [], if isOver then 1 else 0)] else d

/-- THIMBLE_FATAL. Thimble does not run in reset. -/
def thimbleFatal (c : Cut) (d : Dev) : Dev := if d.boot.inReset then d else d.intoReset 3 c

/-! ## Start-up and recovery (R373 to R376) -/

/-- Recovery is entered (R376): Workroom does not run. -/
def Dev.recover (d : Dev) : Dev :=
  let d := { d with boot := { d.boot with running := false } }
  let d := (d.wr P.DEV_STATE [] 7).wr P.WR_VER [] 0
  (if d.boot.memTested then d.wr P.MEM_MODE [] 3 else d).set (.trust 2)

/-- RESET_RELEASE: reset ends and start-up begins (R429, R373); `fuseOk` is the outcome of the fuse-array check. -/
def resetRelease (fuseOk : Bool) (d : Dev) : Dev :=
  if !d.boot.inReset then d
  else
    let d := { d with boot := { d.boot with inReset := false } }
    if fuseOk then d else (d.set (.trust 8)).recover

/-- RID of the factory delay record in area 8, behind those of the cores. -/
def delayRid : Nat := 0x080040

/-- Delay parameters: area 1 where a record exists, otherwise the factory record (Table 12-2): five words for each channel and
set point in order. -/
def Dev.loadDelays (d : Dev) : Dev :=
  let fac := ((d.nv.bulkGood delayRid).map (·.data)).getD []
  d.each (List.range 16) fun x d => d.each (List.range 5) fun w d =>
    let a := 0x300400 + 16 * x + w
    if (d.nv.stored 1 a).isSome then d else d.loadWord a (leAt fac (20 * x + 4 * w) 4)

/-- A rank's state at start-up, which no event reports. -/
def Dev.placeRank (d : Dev) (n st : Nat) : Dev :=
  if n < 8 then d.wr P.RANK_STATE_LO [] (putBits (d.rd P.RANK_STATE_LO) (3 * n) 3 st)
  else d.wr P.RANK_STATE_HI [] (putBits (d.rd P.RANK_STATE_HI) (3 * (n - 8)) 3 st)

/-- The rank map at start-up (R272): retired ranks excluded, the spares that the retirements leave held, the others in service
in ascending order. -/
def Dev.buildMap (d : Dev) (retired : List Nat) : Dev :=
  let free := ([15, 11, 14, 10, 13, 9, 12, 8] : List Nat).filter fun n => !retired.contains n
  let spares := free.take (d.rd P.SPARES - retired.length)
  let d := d.each (List.range 16) fun n d => d.placeRank n (if retired.contains n then 4 else if spares.contains n then 1 else 0)
  let serve := (List.range 16).filter fun n => !retired.contains n && !spares.contains n
  let d := (d.wr P.RANK_MAP_LO [] 0).wr P.RANK_MAP_HI [] 0
  let d := d.each (List.range serve.length) fun s d => d.setSlotRank s (serve.getD s 0)
  let d := d.wrs [(P.N_SVC, [], serve.length), (P.SPARES_LEFT, [], spares.length), (P.MAP_CUR, [], d.rd P.MAP)]
  match retired with
  | n :: _ => if spares.isEmpty then d.setMem 6 n else d
  | [] => d

/-- MEMORY_TEST_END: the delay parameters were loaded and the test has ended; ranks that failed are retired before service
begins (R291). It comes after recall. -/
def memoryTestEnd (failed : List Nat) (d : Dev) : Dev :=
  if !d.alive || d.recalling || d.boot.memTested then d
  else
    let d := d.loadDelays
    let stored := leNat ((d.nv.stored 2 retirementRid).getD [])
    let bad := (List.range 16).filter fun n => failed.contains n && !bitOf stored n
    let retired := (List.range 16).filter fun n => failed.contains n || bitOf stored n
    let d := d.each bad fun n d => d.setRank n 4
    let d := if bad.isEmpty then d else d.immediate ⟨retirementRid, 2, leBytes 2 ((retired.map fun n => 2 ^ n).sum)⟩
    let d := { d.buildMap retired with boot := { d.boot with memTested := true } }
    d.wr P.MEM_MODE [] (if d.inRecovery then 3 else 1)

/-- IMAGE_VERIFIED: Thimble verifies the selected image, else the other (R375), else the device enters recovery. -/
def imageVerified (d : Dev) : Dev :=
  if !d.alive || !d.boot.memTested || d.boot.verified || d.rd P.DEV_STATE ≠ 0 then d
  else
    let ok (d : Dev) : Dev := { d with boot := { d.boot with verified := true } }.wr P.BOOT_BANK [] d.boot.selected
    if d.bankVerifies d.boot.selected then ok d
    else if d.bankVerifies d.spare then ok ((d.select d.spare none).set (.trust 1))
    else d.recover

/-- HOLD: a HOLD frame on the service port within 20 ms of RESET_N release puts the device in recovery. -/
def holdFrame (d : Dev) : Dev := if d.alive && decide (d.clk ≤ ms 20 ∧ d.rd P.DEV_STATE = 0) then d.recover else d

/-- STARTED: Workroom runs (Table 12-2): DEV_STATE leaves 0, START_TIME, source 369, and a diagnosis of each enabled shutter
channel (R337). -/
def started (d : Dev) : Dev :=
  if !d.alive || !d.boot.verified || d.boot.started || d.rd P.DEV_STATE ≠ 0 then d
  else
    let d := { d with boot := { d.boot with running := true, started := true } }
    let d := d.wrs [(P.WR_VER, [], d.rd P.BANK_VER [d.rd P.BOOT_BANK]), (P.DEV_STATE, [], d.runState),
      (P.START_TIME, [], min 65535 (d.clk / 1000000))]
    let d := d.each ((List.range 64).filter fun n => d.is P.CH_EN [n]) fun n d => d.diagnose n .plain
    d.report 369

/-- A staging recalled complete: its blocks are those of its image. -/
def stageOf (img : List Byte) : Stage :=
  let bs := runs 1024 img.length img
  { digest := digestOf img, gen := leAt img 0 4, blocks := KMap.ofList ((List.range bs.length).zip bs), complete := true,
    act := none, tickets := [], pulled := false }

/-- CONFIG_RECALLED: the configuration of the activation record is in force, and a newer complete image is a staging without
an activation (Table 7-10); VIEWs follow. -/
def configRecalled (d : Dev) : Dev :=
  if !d.serving || d.boot.confRecalled then d
  else
    let d := { d with boot := { d.boot with confRecalled := true } }
    let d := (d.bulkRead 0x0B0000).bulkRead 0x0B0001
    let imgs := if d.bulkUp then ([0x0B0000, 0x0B0001] : List Nat).filterMap fun r => (d.nv.bulkGood r).map (·.data) else []
    let d := match (d.nv.stored 2 activationRid).bind fun a => imgs.find? fun i => digestOf i == a.drop 4 with
      | some img =>
        let dg := digestOf img
        (d.underSurface img).wrs [(P.CFG_GEN, [], leAt img 0 4), (P.CFG_DIG_LO, [], leAt dg 0 4), (P.CFG_DIG_HI, [], leAt dg 4 4)]
      | none => d
    let d := match imgs.find? fun i => decide (d.rd P.CFG_GEN < leAt i 0 4) && surfaceValid i with
      | some img => if d.plc.stage.isNone then d.setStage (some (stageOf img)) else d
      | none => d
    d.sendViews

/-! ## PING and DEVICE_STATUS (R377) -/

/-- PING: UID, address, WR_VER and DEV_STATE. -/
def ping (r : Req) (d : Dev) : Dev :=
  serve { code := 0x0000, cls := .open_, bcast := true } (fun _ => lengthIs 0)
    (report fun d _ => okWith (leBytes 8 d.uid ++ leBytes 2 d.addr ++ leBytes 4 (d.rd P.WR_VER) ++ leBytes 1 (d.rd P.DEV_STATE)))
    r d

/-- The 24 bytes of DEVICE_STATUS. -/
def Dev.statusBytes (d : Dev) : List Byte :=
  let b (x : Bool) (v : Nat) : Nat := if x then v else 0
  leBytes 1 (d.rd P.DEV_STATE) ++ leBytes 1 (d.rd P.RESET_CAUSE) ++ leBytes 1 (d.rd P.DEBUG_LEVEL) ++
  leBytes 1 (b d.pins.fault 1 + b d.pins.alarm 2 + b (d.is P.TRIAL) 4 + b d.inRecovery 8 + b d.halted 16) ++
  leBytes 4 (d.rd P.CFG_GEN) ++ leBytes 4 (d.rd P.CFG_DIG_LO) ++ leBytes 4 (d.rd P.CFG_DIG_HI) ++ leBytes 4 (d.rd P.WR_VER) ++
  leBytes 4 (d.clk / 1000000000)

/-- DEVICE_STATUS. -/
def deviceStatus (r : Req) (d : Dev) : Dev :=
  serve { code := 0x0001, cls := .open_ } (fun _ => lengthIs 0) (report fun d _ => okWith d.statusBytes) r d

/-! ## Doze (R392, R393) -/

/-- Why DOZE is refused past R65 (R392). -/
def Dev.dozeCheck (d : Dev) : Option Answer :=
  if d.pins.wake then some (refuse .denied 0x4010)
  else if d.boot.session.isSome then some (refuse .busy 0x4007)
  else if d.boot.trial.isSome then some (refuse .busy 0x4008)
  else none

/-- Entry begins (Table 12-11, time 0). -/
def Dev.beginDoze (d : Dev) : Dev :=
  let d := ((d.withdrawAll.wr P.DEV_STATE [] 5).calDoze).releaseAll true
  (d.each d.mem.scans.keys fun c d => d.abortScan c).convDoze

/-- DOZE. -/
def doze (r : Req) (d : Dev) : Dev :=
  serve { code := 0x0B00, cls := .operator, bcast := true }
    (fun d r => match lengthIs 0 r with
      | some a => some a
      | none => d.dozeCheck)
    (fun d _ => (d.beginDoze, some okay)) r d

/-- The held-notice of REASON 4 of each attached tile, sent on its bus; nothing else of its queue is sent (R203). -/
def Dev.dozeNotices (d : Dev) : Dev :=
  let d := d.each (d.attached.filter fun t => d.is P.BUS_EN [t.bus]) fun t d => d.lastNotice t 4
  { d with fus := { d.fus with queues := KMap.empty, buses := KMap.empty, hits := [], acc := KMap.empty } }

/-- The lanes complete every pixel they have accepted (R11); the frames in hand are then gone with the receivers and the
windows (Table 12-12), and no stream has the nine frame starts of R86. -/
def Dev.dropFrames (d : Dev) : Dev :=
  let d := d.drainLanes
  let d := { d with pipe := { d.pipe with lanes := KMap.empty, win := KMap.empty } }
  let d := d.each d.ing.strms.keys fun s d => (d.setStrm s { d.strm s with frames := [], stamps := [], excess := false, calm := 0 }).wrs
    (if isComp s then [] else [(P.RATE_EXC, [s], 0)])
  let d := d.each d.pipe.taps.keys fun t d =>
    { d with pipe := { d.pipe with taps := d.pipe.taps.upd t Tap.fresh fun x => { x with frame := [] } } }
  d.each (List.range 32) fun l d => d.put P.CSI_LINK_UP [l] false

/-- DOZE_ENTRY: entry completes (Table 12-11): notices sent, the write buffer committed (`p` is how its programming ends),
refreshes paid, receivers, buses and uplinks off. A latched wake begins at once (R395). -/
def dozeEntry (p : Prog) (d : Dev) : Dev :=
  if !d.alive || d.rd P.DEV_STATE ≠ 5 then d
  else
    let d := d.dozeNotices.dropFrames
    let d := if d.nv.commit.isSome then commitEnd p d else d
    let d := if d.nv.buf.isEmpty || d.nv.commit.isSome then d else d.beginCommit
    let d := if d.nv.commit.isSome then commitEnd p d else d
    let d := d.memDoze.each [0, 1, 2, 3] fun u d => d.put P.UL_LINK_UP [u] false
    let d := { d with kcp := { d.kcp with replyQ := KMap.empty, paused := KMap.empty } }
    let d := (d.wr P.DEV_STATE [] 3).count 132
    match d.boot.wakeLatched with
    | some src => d.beginWake src
    | none => d

/-! ## Wake (R394, R395) -/

/-- WAKE: ST_OK; a wake event in Doze and during entry. -/
def wake (r : Req) (d : Dev) : Dev :=
  serve { code := 0x0B01, cls := .operator, bcast := true } (fun _ => lengthIs 0)
    (fun d _ => (d.wakeEvent 2, some okay)) r d

/-- WAKE_PIN: the WAKE pin takes a level; a rising edge is a wake event. -/
def wakePin (level : Bool) (d : Dev) : Dev :=
  let rise := level && !d.pins.wake
  let d := { d with pins := { d.pins with wake := level } }
  if rise && d.alive then d.wakeEvent 1 else d

/-- WAKE_COMPLETE: the end of Table 12-13: ranks out of self-refresh and their mode register 4 read, receivers and buses on, continuous sequences begun, a
pending activation applied, VIEWs sent. Stall and silence times count anew. -/
def wakeComplete (d : Dev) : Dev :=
  if !d.alive || d.rd P.DEV_STATE ≠ 6 then d
  else
    let d := d.wrs [(P.DEV_STATE, [], d.runState), (P.WAKE_TIME, [], min 65535 ((d.clk - d.boot.wakeAt) / 1000))]
    let d := (d.memWake.calWake).convWake
    let ends := KMap.ofList ((List.range 4).map fun r => (r, d.clk + 1000 * d.rd P.RATE_WINDOW))
    let d := { d with pipe := { d.pipe with winEnd := ends, easing := [] } }
    let d := d.each d.ing.strms.keys fun s d => d.setStrm s { d.strm s with heard := d.clk }
    d.activateAtWake.sendViews

/-! ## Uplink sideband pins and links (R71, R440) -/

/-- UL_MODABS: the module of an uplink is taken out (high) or put in; without one the uplink is not up. -/
def ulModabs (u : Nat) (high : Bool) (d : Dev) : Dev :=
  if 4 ≤ u then d
  else
    let d := d.put P.UL_MODABS [u] high
    if high then d.put P.UL_LINK_UP [u] false else d

/-- UPLINK_LINK_UP: the PCS of an uplink gains or loses lock and link; it is brought up after start-up, outside Doze and
recovery, enabled and with a module. -/
def uplinkLinkUp (u : Nat) (up : Bool) (d : Dev) : Dev :=
  if 4 ≤ u then d
  else
    let on := d.awake && d.boot.started && !d.inRecovery && d.is P.UL_EN [u] && !d.is P.UL_MODABS [u]
    d.put P.UL_LINK_UP [u] (up && on)

end Sys2Proof.Machine
end

