-- ==== Sys2Proof/Machine/ParamAccess.lean ====
section
/-!
DEFINITION. Sys2Proof/Machine/ParamAccess.lean: the parameter opcodes (R3, R4, R63, R66, R67): what a parameter reads,
which writes are refused, and what a write sets in motion.
-/
namespace Sys2Proof.Machine

/-! ## Reading -/

/-- The flag an occurrence word belongs to (R31). -/
def occFlag (r : Row) (i : Nat) : Option Flag :=
  let is (s : Row) : Bool := decide (r.base = s.base)
  if is P.OCC_RATE_LOW then some (.rateLow i)
  else if is P.OCC_BRIDGE_ERR then some (.bridgeErr i)
  else if is P.OCC_KCP then some (.kcp i)
  else if is P.OCC_ING then some (.ing i)
  else if is P.OCC_PIPE then some (.pipe i)
  else if is P.OCC_ALARM then some (.alarmHit i)
  else if is P.OCC_CAL then some (.cal i)
  else if is P.OCC_OUT then some (.out i)
  else if is P.OCC_PLC then some (.plc i)
  else if is P.OCC_MEM then some (.mem i)
  else if is P.OCC_CONV then some (.conv i)
  else if is P.OCC_SHD then some (.shd i)
  else if is P.OCC_NV then some (.nv i)
  else if is P.OCC_TRUST then some (.trust i)
  else if is P.OCC_EVT then some (.evt i)
  else none

/-- Devices in the mesh, this one counted (Table 7-11). -/
def Dev.meshDevices (d : Dev) : Nat := d.plc.topo.keys.length + 1

/-- Mesh diameter: the longest shortest path from any device of the topology (Table 7-11). -/
def Dev.meshDiameter (d : Dev) : Nat :=
  let far (a : Nat) : Nat := ((d.hopsFrom a).map (·.2)).foldl max 0
  ((d.addr :: d.plc.topo.vals.map (·.addr)).map far).foldl max 0

/-- Tile queues allocated: those of the tiles of owned patches and of the tiles attached here (R201). -/
def Dev.queuesHeld (d : Dev) : Nat :=
  ((tilesOf d.plc.image).filter fun t => decide (t.dev = d.addr ∧ d.addressed) || d.owns t.patch).length

/-- Frames into the view ramp of a core's views in the slots held here, the furthest; 0 for none (Table 6-15). -/
def Dev.rampOf (d : Dev) (k : Nat) : Nat :=
  ((d.fus.slots.vals.flatMap (·.views)).map fun v =>
    if v.dev = d.addr ∧ v.core = k then min 255 (v.join.getD 0) else 0).foldl max 0

/-- REG_STATE: a core whose session has sent its repetitions is solving until its outcome (Table 6-15). -/
def Dev.regState (d : Dev) (k : Nat) : Nat :=
  let v := d.rd P.REG_STATE [k]
  let ended (s : Session6) : Bool := s.blinking && s.cores.contains k && decide (d.blinkEnd s ≤ d.now)
  if v = 2 && d.fus.regs.any ended then 3 else v

/-- What a field reads, where it follows other state of the device; every other field reads what is held. -/
def Dev.field (d : Dev) (r : Row) (ix : List Nat) : Nat :=
  let n := ix.headD 0
  let is (s : Row) : Bool := decide (r.base = s.base ∧ r.lo = s.lo)
  if r.acc = .occ then
    d.rd r ix % 65536 + (match occFlag r n with | some f => if d.flag f then 65536 else 0 | none => 0)
  else if is P.UID_LO then d.uid % 2 ^ 32
  else if is P.UID_HI then d.uid / 2 ^ 32
  else if is P.Q_USED then d.inHand.length
  else if is P.CLASS_PEND then (d.pipe.classQ.get n []).length
  else if is P.NEXT_MIN then d.nextCycle n P.MIN_INT
  else if is P.NEXT_MAX then d.nextCycle n P.MAX_INT
  else if is P.Q_ACTIVE then d.queuesHeld
  else if is P.REG_RAMP_I then d.rampOf n
  else if is P.REG_STATE then d.regState n
  else if is P.UTIL then min 100 (((d.bus n).at (d.clk / sec 1)).prev * 4 / 100000)
  else if is P.TILES then (d.busTiles n).length
  else if is P.OWNED then d.ownedPatches.length
  else if is P.DIRECTED then d.directedPatches.length
  else if is P.MESH_DEV then d.meshDevices
  else if is P.MESH_DIAM then d.meshDiameter
  else if is P.SCORE then d.score
  else if is P.H_PEN then d.healthPen
  else if is P.TIME_HI then d.plc.timeHi
  else if is P.OWED then (if d.paidOff n then 0 else d.rd r ix)
  else if is P.CE_HOUR then (if d.mem.hours.get n 0 = d.clk / sec 3600 then d.rd r ix else 0)
  else if is P.DUTY_USED then d.dutyWord n / 65536
  else if is P.BUF_FILL then d.nv.fill
  else if is P.AREA_FREE then d.areaFree n
  else if is P.ERASE_MAX then d.eraseMax n
  else if is P.FUSE_WR_SVN then bitsOf d.fuseWord 0 7
  else if is P.FUSE_TH_SVN then bitsOf d.fuseWord 7 6
  else if is P.SIGN_REVOKE then bitsOf d.fuseWord 13 4
  else if is P.OWNER_SET then bitsOf d.fuseWord 17 1
  else if is P.DBG2_OFF then bitsOf d.fuseWord 18 1
  else if is P.SEVERITY then d.severity n
  else if is P.DQ_USED then (d.evt.dq.get n []).length
  else if is P.DQ_FULL then (if (d.evt.dq.get n []).length = 256 then 1 else 0)
  else if is P.UL_TXDIS then (if d.awake && d.is P.UL_EN [n] then 0 else 1)
  else d.rd r ix

/-- The word a parameter reads (R29). -/
def Dev.view (d : Dev) (a : Nat) : Nat := ((rowsAt a).map fun p => d.field p.1 p.2 * 2 ^ p.1.lo).sum

/-- Blocks whose further indices the tables list as reserved (Tables 5-10 and 8-10). -/
def spareIndex (a : Nat) : Bool :=
  (decide (0x220100 ≤ a ∧ a < 0x220500) && decide (12 ≤ (a - 0x220100) % 16)) ||
  (decide (0x300400 ≤ a ∧ a < 0x300500) && decide (5 ≤ (a - 0x300400) % 16))

/-- The parameter exists for reading: listed, or of a group whose unlisted indices read 0 (R3, R5, R41). -/
def readable (a : Nat) : Bool := !(rowsAt a).isEmpty || decide (a / 65536 = 0x10) || spareIndex a

/-- The measured fields of a parameter brought up to date, with the extremes kept of them. -/
def Dev.measure (d : Dev) (a : Nat) : Dev :=
  let die (n : Nat) (d : Dev) : Dev :=
    let d := d.sense P.TJ_DIE [n]
    d.raiseTo P.TJ_DIE_MAX [n] (d.rd P.TJ_DIE [n])
  if 0x500000 ≤ a ∧ a < 0x500009 then
    let n := a - 0x500000
    let d := d.sense P.RAIL_MV [n]
    d.lowerTo P.RAIL_MIN [n] (d.rd P.RAIL_MV [n])
  else if 0x500010 ≤ a ∧ a < 0x500017 then die (a - 0x500010) d
  else if a = 0x410043 then
    let d := d.each (List.range 7) die
    d.wr P.TJ_NOW [] (((List.range 7).map fun n => d.rd P.TJ_DIE [n]).foldl max 0)
  else if a = 0x500018 then
    let d := d.sense P.P_EST []
    d.raiseTo P.P_PEAK [] (d.rd P.P_EST)
  else if a = 0x300017 then d.senseMigration
  else if a = 0x300018 then d.senseDemand
  else if 0x300200 ≤ a ∧ a < 0x300234 then
    let n := (a - 0x300200) / 2
    if a % 2 = 0 then let (v, d) := d.draw 65536; d.raiseTo P.LAT_MAX [n] v
    else let (v, d) := d.draw 65536; d.wr P.MISSED [n] (d.rd P.MISSED [n] + v)
  else if 0x500028 ≤ a ∧ a < 0x50002C then d.sense P.UL_LOS [a - 0x500028]
  else if 0x320100 ≤ a ∧ a < 0x320300 ∧ a % 8 = 4 then d.senseCoil ((a - 0x320100) / 8)
  else if 0x320500 ≤ a ∧ a < 0x320520 then (d.senseCoil (2 * (a - 0x320500))).senseCoil (2 * (a - 0x320500) + 1)
  else d

/-- One parameter read: DATA is taken (R311) and TIME_LO latches TIME_HI. -/
def Dev.readWord (d : Dev) (a : Nat) : Nat × Dev :=
  if 0x310018 ≤ a ∧ a < 0x31001C then d.takeData (a - 0x310018)
  else if a = 0x240063 then (d.now % 2 ^ 32, { d with plc := { d.plc with timeHi := d.now / 2 ^ 32 } })
  else
    let d := d.measure a
    (d.view a, d)

/-- Parameters read in order. -/
def Dev.readWords (d : Dev) : List Nat → List Byte × Dev
  | [] => ([], d)
  | a :: t =>
    let (v, d) := d.readWord a
    let (l, d) := d.readWords t
    (leBytes 4 v ++ l, d)

/-! ## Which writes are refused -/

/-- A refusal caused by one entry carries its index (R66). -/
def Answer.ofEntry (a : Answer) (i : Nat) : Answer :=
  if a.status ∈ [.badParam, .denied, .auth] then { a with data := leBytes 2 i } else a

/-- PRM_ID. -/
def badId : Answer := refuse .badParam 0x0015

/-- The detail with which a write to a read-only parameter is refused (R3): PRIVILEGED for AUTH_RELAX (R71), the
SYSTEM_SCOPE details of R126 and R179, else NONE. -/
def readOnlyDetail (a : Nat) : Nat :=
  if a = 0x110002 then 0x0010
  else if 0x210400 ≤ a ∧ a < 0x210800 ∧ a % 16 = 3 then 0x2103
  else if a = 0x230010 then 0x2301
  else 0

/-- A field a host writes. -/
def Row.writable (r : Row) : Bool := decide (r.acc ≠ .ro)

/-- The fields of a parameter after a host's write (R3, R4, R31). -/
def Dev.writeFields (d : Dev) (a v : Nat) : Dev :=
  d.each (rowsAt a) fun p d =>
    let x := bitsOf v p.1.lo p.1.width
    let cur := d.rd p.1 p.2
    match p.1.acc with
    | .ro => d
    | .rw => d.wr p.1 p.2 x
    | .w1c => d.wr p.1 p.2 (cur - Nat.land cur x)
    | .rws => d.wr p.1 p.2 (cur - Nat.land cur x)
    | .occ => d.wr p.1 p.2 (x % 65536)

/-- Every writable field is given a value inside its stated range. -/
def inRanges (a v : Nat) : Bool :=
  (rowsAt a).all fun p => decide (p.1.acc ≠ .rw) || p.1.inRange (bitsOf v p.1.lo p.1.width)

/-- The watched channels of some modulator take longer than WATCH_PERIOD (R322). -/
def Dev.watchTooLong (d : Dev) : Bool := [0, 1, 2, 3].any fun m => decide (10 * d.rd P.WATCH_PERIOD < d.watchTime m)

/-- A field differs between two devices. -/
def changed (d e : Dev) (r : Row) (ix : List Nat := []) : Bool := decide (d.rd r ix ≠ e.rd r ix)

/-- Refusals of the ingest group: `d` as it stands, `e` with the entry's fields written (R87, R88, R99, R103, R107). -/
def refuseIngest (d e : Dev) (a v : Nat) : Option Answer :=
  if 0x200100 ≤ a ∧ a < 0x200500 then
    let k := (a - 0x200100) / 16
    let i := a % 16
    if i ∈ [0, 1, 2, 5] then (if d.is P.CORE_EN [k] then some (refuse .denied 0x2005) else none)
    else if i = 7 ∧ 9 ≤ v % 16 ∧ v % 16 ≤ 14 then some badValue
    else if i = 3 then
      let up := (d.is P.CORE_EN [k] && decide (d.rd P.FRAME_RATE [k] < e.rd P.FRAME_RATE [k])) ||
        (d.streamOn (64 + k) && decide (d.rd P.COMP_RATE [k] < e.rd P.COMP_RATE [k]))
      if up then e.admission k else none
    else none
  else if a = 0x2000A1 then e.changeCheck (d.rd P.D_CORE) 0 0
  else if 0x200030 ≤ a ∧ a < 0x200038 then
    (if !e.is P.BUS_MODE [a - 0x200030] && decide (e.rd P.SCL [a - 0x200030] = 3) then some badValue else none)
  else none

/-- Refusals of the pipeline group (R129, R132 to R136). -/
def refusePipe (d e : Dev) (a : Nat) : Option Answer :=
  if a = 0x210013 then (if d.is P.TEST_GO then some (refuse .busy 0x2109) else none)
  else if 0x210200 ≤ a ∧ a < 0x210280 then
    let t := (a - 0x210200) / 8
    let i := a % 8
    let other := [P.CORE, P.COMP, P.BOUNDARY, P.DECIM, P.NOSHUT].any fun r => changed d e r [t]
    if i = 0 then
      if !boundaryOk (e.rd P.BOUNDARY [t]) (e.is P.COMP [t]) then some badValue
      else if d.is P.TAP_EN [t] then (if other then some (refuse .denied 0x2105) else none)
      else if e.is P.TAP_EN [t] then e.tapEnableCheck t
      else none
    else if i = 1 then (if d.is P.TAP_EN [t] && changed d e P.TAP_SIZE [t] then some (refuse .denied 0x2105) else none)
    else if i = 3 then (if d.is P.STREAMING [t] then some (refuse .denied 0x2107) else none)
    else none
  else none

/-- Refusals of the calibration and output groups (R147, R175, R210). -/
def refuseCal (d e : Dev) (a v : Nat) : Option Answer :=
  if a = 0x220010 then (if e.rd P.MAX_INT < e.rd P.MIN_INT then some badValue else none)
  else if a = 0x220015 then (if e.rd P.TRIM_MAX < e.rd P.TRIM_MIN then some badValue else none)
  else if 0x220100 ≤ a ∧ a < 0x220500 then
    let k := (a - 0x220100) / 16
    if a % 16 = 0 && bitOf v 7 then some (refuse .badParam 0x2205)
    else if a % 16 = 10 && d.is P.CORE_EN [k] then some (refuse .denied 0x2005)
    else none
  else if 0x230500 ≤ a ∧ a < 0x230600 then
    (if a % 4 = 1 && d.is P.CORE_EN [(a - 0x230500) / 4] then some (refuse .denied 0x2005) else none)
  else none

/-- Refusals of the memory group (R286, R287). -/
def refuseMem (d e : Dev) (a : Nat) : Option Answer :=
  if a = 0x300010 then
    (if e.rd P.FSP_SEL ≠ d.rd P.FSP_CUR || d.is P.FSP_BUSY then d.pointCheck (e.rd P.FSP_SEL) else none)
  else if 0x300400 ≤ a ∧ a < 0x300500 then
    (if (a - 0x300400) / 16 % 2 = d.rd P.FSP_CUR && decide (d.rd P.MEM_MODE = 1) then some (refuse .denied 0x3001) else none)
  else none

/-- Refusals of the converter group (R302, R307, R313, R322). -/
def refuseConv (d e : Dev) (a v : Nat) : Option Answer :=
  let watch (d : Dev) : Option Answer := if d.watchTooLong then some (refuse .badParam 0x310A) else none
  if 0x310010 ≤ a ∧ a < 0x310014 then
    let m := a - 0x310010
    if (d.is P.RUN [m] || d.is P.PEND [m]) && (changed d e P.SEQ_LEN [m] || changed d e P.CONT [m]) then
      some (refuse .denied 0x3102)
    else if bitOf v 0 then e.startCheck m
    else none
  else if (0x310014 ≤ a ∧ a < 0x310018) ∨ a = 0x31002C then watch e
  else if 0x310024 ≤ a ∧ a < 0x310028 then
    let ch := v % 128
    if !bitOf v 7 then none
    else if ch / 32 ≠ a - 0x310024 then some (refuse .badParam 0x3103)
    else if d.pairHalf ch then some (refuse .badParam 0x3104)
    else none
  else if 0x310100 ≤ a ∧ a < 0x310300 ∧ a % 4 = 0 then
    let n := (a - 0x310100) / 4
    if n % 2 = 1 && e.is P.DIFF [n] then some (refuse .badParam 0x3104)
    else if isReference n && e.is P.OW_EN [n] then some (refuse .badParam 0x3105)
    else watch e
  else none

/-- Refusals of the shutter and events groups (R343, R402). -/
def refuseRest (d e : Dev) (a v : Nat) : Option Answer :=
  if 0x320100 ≤ a ∧ a < 0x320300 then
    (if a % 8 ∈ [1, 2, 3] && decide (d.drv ((a - 0x320100) / 8) ∈ [1, 2, 3]) then some (refuse .denied 0x3206) else none)
  else if a = 0x410041 then (if e.rd P.LINK_POOR < e.rd P.LINK_WARN then some badValue else none)
  else if 0x410200 ≤ a ∧ a < 0x410400 then
    let s := a - 0x410200
    if !sourceKnown s then some badValue
    else if (flagOfSource s).isNone && decide (bitsOf v 5 2 ≠ 0) then some (refuse .badParam 0x4101)
    else none
  else none

/-- A parameter with a persistent field (R349). -/
def persistentWord (a : Nat) : Bool := (rowsAt a).any fun p => p.1.persist

/-- The refusal of one entry, on the device with the entry's fields written in `e` (R66). -/
def refuseEntry (d e : Dev) (a v : Nat) : Option Answer :=
  if (rowsAt a).isEmpty then some (if spareIndex a then refuse .denied 0 else badId)
  else if !(rowsAt a).any fun p => p.1.writable then some (refuse .denied (readOnlyDetail a))
  else if !inRanges a v then some badValue
  else
    let g := a / 65536
    let own := if g = 0x20 then refuseIngest d e a v else if g = 0x21 then refusePipe d e a
      else if g = 0x22 ∨ g = 0x23 then refuseCal d e a v else if g = 0x30 then refuseMem d e a
      else if g = 0x31 then refuseConv d e a v else refuseRest d e a v
    match own with
    | some x => some x
    | none => if persistentWord a then d.storeBusy else none

/-! ## What a write sets in motion -/

/-- A counter that health reads was written by a host: the minute in hand counts errors alone (R411, R412). -/
def Grade.written (g : Grade) (old new : Nat) : Grade := { g with last := (g.last + new + 65536 * 2 - old % 65536) % 65536 }

/-- The ports whose error counters stand in a parameter. -/
def portsOf (a : Nat) : List Nat :=
  if 0x200040 ≤ a ∧ a < 0x200080 then [a % 32]
  else if 0x200038 ≤ a ∧ a < 0x200040 then [a - 0x200038 + 32]
  else if 0x240038 ≤ a ∧ a < 0x240040 then [a - 0x240038 + 40]
  else if a = 0x240023 then [52, 53]
  else if a = 0x330017 then [54]
  else if a = 0x40001B then [55]
  else if 0x230100 ≤ a ∧ a < 0x230420 ∧ a % 4 = 2 then [(a - 0x230100) / 4 + 56]
  else []

/-- Health follows a host's write of the counters it reads. -/
def healthWritten (d e : Dev) (a : Nat) : Dev :=
  let e := e.each (portsOf a) fun p x =>
    match x.evt.ports.get? p with
    | some g => { x with evt := { x.evt with ports := x.evt.ports.put p (g.written (d.portErrors p) (e.portErrors p)) } }
    | none => x
  if 0x200100 ≤ a ∧ a < 0x200500 ∧ a % 16 = 12 then
    let k := (a - 0x200100) / 16
    let cores := match e.evt.cores.get? k with
      | some g => e.evt.cores.put k (g.written (d.rd P.CRC_LINES [k]) (e.rd P.CRC_LINES [k]))
      | none => e.evt.cores
    let isOver := match e.evt.overruns.get? k with
      | some g => e.evt.overruns.put k (g.written (d.rd P.OVR_FRAMES [k]) (e.rd P.OVR_FRAMES [k]))
      | none => e.evt.overruns
    { e with evt := { e.evt with cores := cores, overruns := isOver } }
  else e

/-- A field of a profile's set changed: the profile field takes its custom value (R67). -/
def customIf (d e : Dev) (rs : List Row) (ix : List Nat) (prof : Row) (pix : List Nat) (custom : Nat) : Dev :=
  if rs.any fun r => changed d e r ix then e.wr prof pix custom else e

/-- Profile fields after a direct write (R40, R138, R173, R208, R297, R344). -/
def customised (d e : Dev) (a : Nat) : Dev :=
  if a = 0x100018 ∨ a = 0x100019 then customIf d e [P.RATE_MARGIN, P.RATE_WINDOW] [] P.RATE_PROFILE [] 3
  else if 0x210400 ≤ a ∧ a < 0x210800 then
    let k := (a - 0x210400) / 16
    customIf d e [P.TNR_K, P.LIVE_EN, P.ALARM_RUN, P.ALARM_DMG, P.TNR_GUARD, P.NOISE_LIM, P.SNR_SIGMA] [k] P.PIPE_PROF [k] 31
  else if 0x220010 ≤ a ∧ a < 0x220015 then
    customIf d e [P.MIN_INT, P.MAX_INT, P.UNC_THR, P.MAX_DEFER, P.SLEW, P.RAMP_LEN, P.SEAM_THR] [] P.CAL_PROF [] 7
  else if 0x230011 ≤ a ∧ a < 0x230014 then
    customIf d e [P.OUT_RATE_MAX, P.HOLD_PERIOD, P.SILENCE_MIN, P.HEALTH_PERIOD, P.ANGLE_MAX, P.RATE_TAU, P.JOIN_SLEW,
      P.JOIN_MAX] [] P.OUT_PROF [] 7
  else if 0x300010 ≤ a ∧ a < 0x300013 then
    customIf d e [P.FSP_SEL, P.REF_POSTPONE, P.PD_IDLE, P.MIG_RATE, P.ARM_LIMIT] [] P.MEM_PROF [] 7
  else if 0x320100 ≤ a ∧ a < 0x320300 then
    let n := (a - 0x320100) / 8
    customIf d e [P.PULL_I, P.PULL_T, P.HOLD_I, P.MAX_ON, P.DUTY_PCT, P.DUTY_WIN] [n] P.DRV_PROF [n] 7
  else e

/-- A link, uplink or Seamlink link that a write has just disabled goes down. -/
def disabledLinks (d e : Dev) (a : Nat) : Dev :=
  if 0x110010 ≤ a ∧ a < 0x110014 then
    let u := a - 0x110010
    if d.is P.UL_EN [u] && !e.is P.UL_EN [u] then (e.wr P.UL_LINK_UP [u] 0).refreshTime else e
  else if 0x200010 ≤ a ∧ a < 0x200030 then
    let l := a - 0x200010
    if d.is P.CSI_LINK_EN [l] && !e.is P.CSI_LINK_EN [l] then e.wr P.CSI_LINK_UP [l] 0 else e
  else if 0x240030 ≤ a ∧ a < 0x240038 then
    let m := a - 0x240030
    if d.is P.SL_LINK_EN [m] && !e.is P.SL_LINK_EN [m] then ((e.dropLink m false).refreshTime).sendLsa else e
  else e

/-- What follows the write of a tap's word (R135, R137). -/
def tapWritten (d e : Dev) (t : Nat) : Dev :=
  match d.is P.TAP_EN [t], e.is P.TAP_EN [t] with
  | false, true => e.enableTap t
  | true, false => e.disableTap t
  | _, _ => e

/-- A channel disabled by a write is released, and its waiting request ends (R329). -/
def channelWritten (d e : Dev) (n : Nat) : Dev :=
  if d.is P.CH_EN [n] && !e.is P.CH_EN [n] then
    let e := (e.abandonDiag n).refreshRest n
    (if e.drv n = 1 then e.endWait n (refuse .denied 0x3209) else e.releaseCh n)
  else e

/-- What a write of one entry sets in motion; `d` before, `e` with its fields written. -/
def follow (t : Ticket) (d e : Dev) (a v : Nat) : Dev × Bool :=
  let e := disabledLinks d (customised d (healthWritten d e a) a) a
  if a = 0x100018 ∨ a = 0x240048 then (e.refreshLoads, false)
  else if a = 0x2000A1 then
    let k := e.rd P.D_CORE
    let (e, _, late) := e.requestChange k [e.directOp] 0 0 31 t
    (e, late)
  else if 0x200100 ≤ a ∧ a < 0x200500 ∧ a % 16 = 3 then (e.refreshLoads.refreshTaps, false)
  else if 0x210200 ≤ a ∧ a < 0x210280 ∧ a % 8 = 0 then (tapWritten d e ((a - 0x210200) / 8), false)
  else if a = 0x230011 ∨ a = 0x230012 then (e.spaceAll, false)
  else if 0x230018 ≤ a ∧ a < 0x23001C then (e.refreshCavity, false)
  else if a = 0x240061 then (e.refreshTime, false)
  else if a = 0x300010 then
    (if e.rd P.FSP_SEL ≠ d.rd P.FSP_CUR then e.beginPoint (e.rd P.FSP_SEL) else e, false)
  else if 0x310010 ≤ a ∧ a < 0x310014 then
    let m := a - 0x310010
    (if bitOf v 0 then (e.seqGo m).startSeq m else e.seqGo m, false)
  else if 0x310024 ≤ a ∧ a < 0x310028 then
    let m := a - 0x310024
    (if bitOf v 7 then e.inject ⟨v % 128, true, []⟩ else e.put P.INJ_GO [m] (d.is P.INJ_GO [m]), false)
  else if a = 0x320012 then (e.each (List.range 64) fun n e => e.refreshWear n, false)
  else if 0x320100 ≤ a ∧ a < 0x320300 ∧ a % 8 = 0 then (channelWritten d e ((a - 0x320100) / 8), false)
  else if a = 0x410200 + 112 then ({ e with evt := { e.evt with sev112 := true } }, false)
  else (e, false)

/-! ## Requests of entries -/

/-- What the entries of a request come to. -/
structure Writes where
  /-- The device with every entry applied. -/
  dev : Dev
  /-- The first refusal. -/
  bad : Option Answer
  /-- A setting change of them is deferred by a gather (R97). -/
  late : Bool

/-- The entries of a request applied in order, the first that is refused stopping them (R66). -/
def writeEntries (t : Ticket) : Nat → List (Nat × Nat) → Dev → Writes
  | _, [], d => ⟨d, none, false⟩
  | i, (a, v) :: rest, d =>
    let e := d.writeFields a v
    match refuseEntry d e a v with
    | some x => ⟨d, some (x.ofEntry i), false⟩
    | none =>
      let (e, late) := follow t d e a v
      let w := writeEntries t (i + 1) rest e
      { w with late := late || w.late }

/-- The condition of GEN (R63). -/
def Dev.genCheck (d : Dev) (r : Req) (as : List Nat) : Option Answer :=
  let g := as.headD 0 / 65536
  if r.gen = 0 then none
  else if as.any fun a => decide (a / 65536 ≠ g) then some badId
  else if r.gen ≠ d.wgen g then some (refuse .denied 0x0004)
  else none

/-- The checks of a request of entries. -/
def entriesCheck (op : Op) (d : Dev) (r : Req) (es : List (Nat × Nat)) : Option Answer :=
  match d.genCheck r (es.map (·.1)) with
  | some a => some a
  | none => (writeEntries (ticket op r) 0 es d).bad

/-- The entries of a request in force: persistent parameters go to the store in one batch, and each group's generation
rises once (R63, R349). A set-point change holds the reply (R285). -/
def applyEntries (op : Op) (d : Dev) (r : Req) (es : List (Nat × Nat)) (ans : Dev → List Byte) : Dev × Option Answer :=
  let w := writeEntries (ticket op r) 0 es d
  let as := es.map (·.1)
  let e := w.dev.storeParams ((as.filter persistentWord).eraseDups)
  let e := e.each ((as.map (· / 65536)).eraseDups) fun g e => e.wrote g
  if !d.is P.FSP_BUSY && e.is P.FSP_BUSY then (e.holdAs op.code r .setPoint (d.backOf r), none)
  else if w.late then (e, some (refuse .deferred 0x2007))
  else (e, some (okWith (ans e)))

/-- The 24-bit ID of an ID word. -/
def idAt (r : Req) (o : Nat) : Nat := leAt r.params o 4 % 2 ^ 24

/-- The entries of a PRM_WRITE. -/
def pairEntries (r : Req) : List (Nat × Nat) :=
  (List.range (r.params.length / 8)).map fun i => (idAt r (8 * i), leAt r.params (8 * i + 4) 4)

/-- The entries of a PRM_BULK_WRITE. -/
def bulkEntries (r : Req) : List (Nat × Nat) :=
  (List.range (leAt r.params 4 2)).map fun i => (idAt r 0 + i, leAt r.params (8 + 4 * i) 4)

/-- The entries of a bulk request lie in one group: the first that does not is refused. -/
def bulkSpan (r : Req) : Option Answer :=
  let a := idAt r 0
  if a / 65536 ≠ (a + leAt r.params 4 2 - 1) / 65536 then some (badId.ofEntry (65536 - a % 65536)) else none

/-- PRM_READ. -/
def prmRead (r : Req) (d : Dev) : Dev :=
  let ids (r : Req) : List Nat := (List.range (r.params.length / 4)).map fun i => idAt r (4 * i)
  serve { code := 0x4000, cls := .open_ }
    (fun _ r =>
      if r.params.length % 4 ≠ 0 ∨ r.params.isEmpty ∨ 1360 < r.params.length then some badLength
      else ((ids r).findIdx? fun a => !readable a).map badId.ofEntry)
    (fun d r => let (l, d) := d.readWords (ids r); (d, some (okWith l))) r d

/-- PRM_WRITE. -/
def prmWrite (r : Req) (d : Dev) : Dev :=
  let op : Op := { code := 0x4001, cls := .operator, bcast := true }
  serve op
    (fun d r =>
      if r.params.length % 8 ≠ 0 ∨ r.params.isEmpty ∨ 1360 < r.params.length then some badLength
      else entriesCheck op d r (pairEntries r))
    (fun d r => applyEntries op d r (pairEntries r) fun _ => []) r d

/-- PRM_BULK_READ. -/
def prmBulkRead (r : Req) (d : Dev) : Dev :=
  let ids (r : Req) : List Nat := (List.range (leAt r.params 4 2)).map fun i => idAt r 0 + i
  serve { code := 0x4002, cls := .open_ }
    (fun _ r =>
      match lengthIs 8 r with
      | some a => some a
      | none =>
        let n := leAt r.params 4 2
        if n = 0 ∨ 340 < n then some badValue
        else match bulkSpan r with
          | some a => some a
          | none => ((ids r).findIdx? fun a => !readable a).map badId.ofEntry)
    (fun d r => let (l, d) := d.readWords (ids r); (d, some (okWith l))) r d

/-- PRM_BULK_WRITE. -/
def prmBulkWrite (r : Req) (d : Dev) : Dev :=
  let op : Op := { code := 0x4003, cls := .operator }
  serve op
    (fun d r =>
      let n := leAt r.params 4 2
      if r.params.length < 8 then some badLength
      else if n = 0 ∨ 340 < n then some badValue
      else if r.params.length ≠ 8 + 4 * n then some badLength
      else match bulkSpan r with
        | some a => some a
        | none => entriesCheck op d r (bulkEntries r))
    (fun d r => applyEntries op d r (bulkEntries r) fun _ => []) r d

/-- The value a PRM_MODIFY writes. -/
def modified (old mask value : Nat) : Nat := Nat.lor (old - Nat.land old mask) (Nat.land value mask)

/-- The one entry of a PRM_MODIFY. -/
def Dev.modifyEntry (d : Dev) (r : Req) : List (Nat × Nat) :=
  [(idAt r 0, modified (d.view (idAt r 0)) (leAt r.params 4 4) (leAt r.params 8 4))]

/-- PRM_MODIFY. -/
def prmModify (r : Req) (d : Dev) : Dev :=
  let op : Op := { code := 0x4004, cls := .operator }
  serve op
    (fun d r =>
      let a := idAt r 0
      match lengthIs 12 r with
      | some x => some x
      | none =>
        if (rowsAt a).any fun p => decide (p.1.acc = .rws ∨ p.1.acc = .w1c) then some ((refuse .badParam 0x001C).ofEntry 0)
        else entriesCheck op d r (d.modifyEntry r))
    (fun d r =>
      let a := idAt r 0
      let old := d.view a
      applyEntries op d r (d.modifyEntry r) fun e => leBytes 4 old ++ leBytes 4 (e.view a)) r d

/-! ## Rows that name one parameter -/

/-- The request with its parameters replaced by one ID and value, or one ID. -/
def oneEntry (r : Req) (a v : Nat) : Req := { r with params := leBytes 4 a ++ leBytes 4 v }

/-- PARAMETER_WRITE: a PRM_WRITE of one entry (R34). -/
def parameterWrite (r : Req) (a v : Nat) (d : Dev) : Dev := prmWrite (oneEntry r a v) d

/-- SEQ_GO: a start of sequence `m` by parameter (R313). SEQ_LEN, CONT and ALIGN carry their present values. -/
def seqGoWrite (r : Req) (m : Nat) (d : Dev) : Dev :=
  let a := 0x310010 + m % 4
  prmWrite (oneEntry r a (setBit (d.view a) 0)) d

/-- INJ_GO: an injected conversion of a channel by parameter (R316). -/
def injGoWrite (r : Req) (ch : Nat) (d : Dev) : Dev := prmWrite (oneEntry r (0x310024 + ch / 32 % 4) (ch % 128 + 128)) d

/-- TEST_GO: the self-test of a lane by parameter (R129). -/
def testGoWrite (r : Req) (lane : Nat) (d : Dev) : Dev := prmWrite (oneEntry r 0x210013 (lane % 128 + 256)) d

/-- DIRECT_DATA: a direct write on a sensor control bus by parameter (R99). -/
def directDataWrite (r : Req) (v : Nat) (d : Dev) : Dev := prmWrite (oneEntry r 0x2000A1 v) d

/-- FSP_SEL: a set-point change by parameter (R285). -/
def fspSelWrite (r : Req) (f : Nat) (d : Dev) : Dev := prmWrite (oneEntry r 0x300010 (f % 2)) d

/-- DATA: a read of the data register of modulator `m` (R311). -/
def dataRead (r : Req) (m : Nat) (d : Dev) : Dev := prmRead { r with params := leBytes 4 (0x310018 + m % 4) } d

/-- TIME_LO: a read of TIME_LO, which latches TIME_HI (Table 7-11). -/
def timeLoRead (r : Req) (d : Dev) : Dev := prmRead { r with params := leBytes 4 0x240063 } d

end Sys2Proof.Machine
end

