-- ==== Sys2Proof/Machine/TableAccess.lean ====
section
/-!
DEFINITION. Sys2Proof/Machine/TableAccess.lean: TABLE_READ and TABLE_WRITE (R67, R68): the tables of the device, what they
read, and the checks their chapters make of a write.
-/
namespace Sys2Proof.Machine

/-! ## The tables -/

/-- Bytes of a tap's ring between TAP_CONS and TAP_PROD. -/
def Dev.ringFill (d : Dev) (t : Nat) : Nat :=
  if d.is P.TAP_EN [t] then
    8 * ((d.rd P.TAP_PROD [t] + d.ringWords t - d.rd P.TAP_CONS [t]) % max 1 (d.ringWords t))
  else 0

/-- The present size of a table in bytes; `none` where no chapter allocates its number. -/
def Dev.tableSize (d : Dev) (t : Nat) : Option Nat :=
  let from_ (a n : Nat) : Bool := decide (a ≤ t ∧ t < a + n)
  let px (k : Nat) : Nat := d.rd P.WIDTH [k] * d.rd P.HEIGHT [k]
  if from_ 0x2010 16 then some 264
  else if from_ 0x2100 64 then some (32 * px (t - 0x2100))
  else if from_ 0x2140 64 then some 272
  else if from_ 0x2180 64 then some (4 * (d.pipe.classQ.get (t - 0x2180) []).length)
  else if from_ 0x21C0 8 then some 16
  else if from_ 0x21D0 16 then some (d.ringFill (t - 0x21D0))
  else if from_ 0x2200 64 then some (32 * px (t - 0x2200))
  else if from_ 0x2240 64 then some 171
  else if from_ 0x22C0 7 then some 16
  else if from_ 0x2300 64 then (let (nx, ny) := d.gridSize (t - 0x2300); some (8 * (nx * ny)))
  else if from_ 0x2340 4 then some (imageSection d.plc.image (t - 0x2340 + 2)).length
  else if from_ 0x23C0 7 then some 16
  else if t = 0x23F0 then some (2 ^ 29)
  else if t = 0x23F1 then some (2 ^ 23)
  else if t = 0x2400 then some (8 * d.ownedPatches.length)
  else if from_ 0x3010 8 then some 2176
  else if from_ 0x30C0 7 then some 16
  else if from_ 0x3100 4 then some 64
  else if t = 0x3110 then some 2048
  else if from_ 0x3114 4 then some 64
  else if from_ 0x32C0 7 then some 16
  else if t = 0x3300 then some 65536
  else if t = 0x3302 then some 40
  else if t = 0x3310 then some 544
  else if t = 0x4000 then some 160
  else if t = 0x4101 then some (32 * 6400)
  else if t = 0x4102 then some (8 * 256)
  else if t = 0x4103 then some (2 * 6400)
  else if t = 0x4110 then some 64
  else none

/-- The tables that TABLE_WRITE reaches. -/
def tableWritable (t : Nat) : Bool :=
  let from_ (a n : Nat) : Bool := decide (a ≤ t ∧ t < a + n)
  from_ 0x2010 16 || from_ 0x2100 64 || from_ 0x2140 64 || from_ 0x2180 64 || from_ 0x21C0 8 || from_ 0x22C0 7 ||
  from_ 0x2300 64 || from_ 0x23C0 7 || from_ 0x30C0 7 || from_ 0x3100 4 || decide (t = 0x3110) || from_ 0x32C0 7 ||
  decide (t = 0x3300)

/-- `n` bytes from offset `o` of a table of `w`-byte entries. -/
def entriesAt (w : Nat) (e : Nat → List Byte) (o n : Nat) : List Byte :=
  (((List.range ((o % w + n + w - 1) / w)).flatMap fun i => fitTo w 0 (e (o / w + i))).drop (o % w)).take n

/-- A cell entry of table 0x23F0: index 256 × tile + cell; zero for a tile whose patch is not owned here. -/
def Dev.storeCell (d : Dev) (i : Nat) : List Byte :=
  match (d.patchCell (i / 256) (i % 256)) with
  | none => []
  | some (p, c) => match d.slot? p with
    | some s => if d.owns p then d.cellEntry p s c else []
    | none => []

/-- The hashes of table 0x4000: SIGN_HASH 0 to 3, then OWNER_HASH. -/
def Dev.hashes (d : Dev) : List Byte :=
  fitTo 160 0 ((d.boot.fuses.signHash.flatMap (fitTo 32 0)) ++ fitTo 32 0 d.boot.fuses.ownerHash)

/-- `n` bytes of a table from an offset. -/
def Dev.tableBytes (d : Dev) (t o n : Nat) : List Byte :=
  let from_ (a n : Nat) : Bool := decide (a ≤ t ∧ t < a + n)
  if from_ 0x2180 64 then entriesAt 4 (fun i => leBytes 4 ((d.pipe.classQ.get (t - 0x2180) []).getD i 0)) o n
  else if from_ 0x21D0 16 then entriesAt 8 (fun i => d.ringRead (t - 0x21D0) (d.rd P.TAP_CONS [t - 0x21D0] + i) 1) o n
  else if from_ 0x2340 4 then ((imageSection d.plc.image (t - 0x2340 + 2)).drop o).take n
  else if t = 0x23F0 then entriesAt 8 d.storeCell o n
  else if t = 0x2400 then entriesAt 8 (fun i => d.ownedEntries.getD i []) o n
  else if t = 0x3310 then entriesAt 4 (fun i => leBytes 4 (d.rd P.COUNTER [i])) o n
  else if t = 0x4000 then (d.hashes.drop o).take n
  else if t = 0x4101 then entriesAt 32 d.supplyEntry o n
  else if t = 0x4102 then entriesAt 8 d.portEntry o n
  else d.tblRead t o n

/-! ## What a write leaves, and the checks of R67 and of the chapters -/

/-- `bs` laid over bytes from an offset. -/
def overlayAt (old : List Byte) (o : Nat) (bs : List Byte) : List Byte := old.take o ++ bs ++ old.drop (o + bs.length)

/-- A profile's fields with their offsets and lengths, and the bytes that are reserved (R67). -/
structure ProfileForm where
  /-- Field, offset, length. -/
  fields : List (Row × Nat × Nat)
  /-- Reserved bytes. -/
  spare : List Nat

/-- The form of a profile table. -/
def profileForm (t : Nat) : Option ProfileForm :=
  let from_ (a n : Nat) : Bool := decide (a ≤ t ∧ t < a + n)
  if from_ 0x21C0 8 then
    some ⟨[(P.TNR_K, 0, 1), (P.ALARM_RUN, 1, 1), (P.TNR_GUARD, 4, 2), (P.SNR_SIGMA, 6, 2), (P.NOISE_LIM, 8, 2)],
      [3, 10, 11, 12, 13, 14, 15]⟩
  else if from_ 0x22C0 7 then
    some ⟨[(P.MIN_INT, 0, 2), (P.MAX_INT, 2, 2), (P.UNC_THR, 4, 2), (P.SEAM_THR, 6, 2), (P.MAX_DEFER, 8, 2), (P.SLEW, 10, 1),
      (P.RAMP_LEN, 11, 1)], [12, 13, 14, 15]⟩
  else if from_ 0x23C0 7 then
    some ⟨[(P.OUT_RATE_MAX, 0, 1), (P.HOLD_PERIOD, 1, 2), (P.SILENCE_MIN, 3, 2), (P.HEALTH_PERIOD, 5, 2), (P.ANGLE_MAX, 7, 1),
      (P.RATE_TAU, 8, 1), (P.JOIN_SLEW, 9, 1), (P.JOIN_MAX, 10, 1)], [11, 12, 13, 14, 15]⟩
  else if from_ 0x30C0 7 then
    some ⟨[(P.FSP_SEL, 0, 1), (P.REF_POSTPONE, 1, 1), (P.PD_IDLE, 2, 2), (P.MIG_RATE, 4, 2), (P.ARM_LIMIT, 6, 2)],
      [8, 9, 10, 11, 12, 13, 14, 15]⟩
  else if from_ 0x32C0 7 then
    some ⟨[(P.PULL_I, 0, 2), (P.PULL_T, 2, 1), (P.HOLD_I, 4, 2), (P.MAX_ON, 6, 2), (P.DUTY_PCT, 8, 1), (P.DUTY_WIN, 9, 2)],
      [3, 11, 12, 13, 14, 15]⟩
  else none

/-- A profile as it would stand is in range (R67). -/
def profileOk (t : Nat) (f : ProfileForm) (b : List Byte) : Bool :=
  (f.fields.all fun x => x.1.inRange (leAt b x.2.1 x.2.2)) && (f.spare.all fun i => decide (byteAt b i = 0)) &&
  (if 0x22C0 ≤ t ∧ t < 0x22C7 then decide (leAt b 0 2 ≤ leAt b 2 2) else true)

/-- The bits of the byte at offset `o` of a table that are fields: reserved bits read 0 and are ignored on write (R8). Those of an
entry of a setting profile (Table 3-5), of a record (Table 4-2), a curve (Table 4-5), a pipeline profile (R138) and a sequence
(R313). -/
def tableKeep (t o : Nat) : Byte :=
  let from_ (a n : Nat) : Bool := decide (a ≤ t ∧ t < a + n)
  if from_ 0x2010 16 then (if 8 ≤ o ∧ o % 8 = 0 then 0x0F else 0xFF)
  else if from_ 0x2100 64 then (if o % 16 = 11 then 0x07 else if o % 16 = 15 then 0x01 else 0xFF)
  else if from_ 0x2140 64 then (if o % 136 = 3 then 0x0F else if 134 ≤ o % 136 then 0 else 0xFF)
  else if from_ 0x21C0 8 then (if o = 2 then 0x03 else 0xFF)
  else if from_ 0x3100 4 then (if o % 2 = 1 then 0 else 0xFF)
  else 0xFF

/-- Bytes written to a table from an offset, their reserved bits clear. -/
def maskTable (t o : Nat) (bs : List Byte) : List Byte := bs.mapIdx fun i b => b &&& tableKeep t (o + i)

/-- A setting profile as it would stand (R98). -/
def settingOk (b : List Byte) : Bool :=
  let rate (o : Nat) : Bool := let v := leAt b o 2; decide (v = 0 ∨ (100 ≤ v ∧ v ≤ 24000))
  decide (byteAt b 0 ≤ 32) && rate 2 && rate 4 && decide (byteAt b 1 = 0 ∧ byteAt b 6 = 0 ∧ byteAt b 7 = 0) &&
  ((List.range (byteAt b 0)).all fun i =>
    decide (1 ≤ byteAt b (9 + 8 * i) ∧ byteAt b (9 + 8 * i) ≤ 4 ∧ byteAt b (8 + 8 * i) < 16))

/-- A bank of a curve as it would stand (R125). -/
def curveOk (b : List Byte) : Bool :=
  let shift := byteAt b 3 % 16
  let k (i : Nat) : Nat := leAt b (4 + 2 * i) 2
  decide (4 ≤ shift ∧ shift ≤ 12) && ((List.range 64).all fun i => decide (k i ≤ k (i + 1)))

/-- An entry of a class-update list (R112, Table 4-4). -/
def Dev.classOk (d : Dev) (k e : Nat) : Bool :=
  let c := bitsOf e 22 4
  decide (c ≤ 4 ∨ 14 ≤ c) && decide (bitsOf e 0 11 < d.rd P.WIDTH [k] ∧ bitsOf e 11 11 < d.rd P.HEIGHT [k])

/-- 4-byte words of a list of bytes. -/
def word32s (b : List Byte) : List Nat := (List.range (b.length / 4)).map fun i => leAt b (4 * i) 4

/-- The checks of an append to a class-update list (R112). -/
def Dev.classCheck (d : Dev) (k o : Nat) (bs : List Byte) : Option Answer :=
  if o ≠ 0 ∨ bs.length % 4 ≠ 0 then some badValue
  else if 4096 < (d.pipe.classQ.get k []).length + bs.length / 4 then some (refuse .overrun 0x2102)
  else if !(word32s bs).all (d.classOk k) then some badValue
  else none

/-- The grid that a write of core `k` starts from: the one that waits, else the one in force. -/
def Dev.gridBase (d : Dev) (k : Nat) : List Byte :=
  let (nx, ny) := d.gridSize k
  match d.fus.newGrid.get? k with
  | some g => fitTo (8 * (nx * ny)) 0 g.1
  | none => d.tblRead (0x2300 + k) 0 (8 * (nx * ny))

/-- A node has its reserved bits clear and an angle of at most 180 (R185). -/
def nodeOk (w : Nat) : Bool := decide (bitsOf w 30 2 = 0 ∧ bitsOf w 53 11 = 0 ∧ bitsOf w 44 8 ≤ 180)

/-- The checks of a write to a warp grid (R185, R348). -/
def Dev.gridCheck (d : Dev) (k o : Nat) (bs : List Byte) : Option Answer :=
  let b := overlayAt (d.gridBase k) o bs
  let first := o / 8
  let n := (o + bs.length + 7) / 8 - first
  if d.fus.regs.any fun s => s.cores.contains k then some (refuse .busy 0x2303)
  else if !(List.range n).all fun i => nodeOk (leAt b (8 * (first + i)) 8) then some (refuse .badParam 0x2305)
  else none

/-- The checks of a write to a sequence (R302, R313). -/
def Dev.seqCheck (d : Dev) (m o : Nat) (bs : List Byte) : Option Answer :=
  let b := overlayAt (d.tblRead (0x3100 + m) 0 64) o bs
  let first := o / 2
  let chs := (List.range ((o + bs.length + 1) / 2 - first)).map fun i => byteAt b (2 * (first + i)) % 128
  if chs.any fun c => decide (c / 32 ≠ m) then some (refuse .badParam 0x3103)
  else if chs.any d.pairHalf then some (refuse .badParam 0x3104)
  else if d.is P.RUN [m] || d.is P.PEND [m] then some (refuse .denied 0x3102)
  else none

/-- The checks of a write that its chapter makes (step 6 of R68). -/
def Dev.ownCheck (d : Dev) (t o : Nat) (bs : List Byte) : Option Answer :=
  let from_ (a n : Nat) : Bool := decide (a ≤ t ∧ t < a + n)
  let into (area n : Nat) (a : Option Answer) : Option Answer := match a with
    | some x => some x
    | none => d.storeRefuses area n
  let store := into 1 ((d.tableSize t).getD 0)
  if from_ 0x2010 16 then store (if settingOk (overlayAt (d.tblRead t 0 264) o bs) then none else some badValue)
  else if from_ 0x2100 64 then (if d.is P.CORE_EN [t - 0x2100] then some (refuse .denied 0x2101) else none)
  else if from_ 0x2140 64 then
    let b := overlayAt (d.tblRead t 0 272) o bs
    (if (decide (o < 136) && !curveOk (b.take 136)) || (decide (136 < o + bs.length) && !curveOk (b.drop 136)) then
       some (refuse .badParam 0x2108) else none)
  else if from_ 0x2180 64 then d.classCheck (t - 0x2180) o bs
  else if from_ 0x2300 64 then d.gridCheck (t - 0x2300) o bs
  else if from_ 0x3100 4 then store (d.seqCheck (t - 0x3100) o bs)
  else if t = 0x3300 then
    into 5 256 (if 65536 < o + bs.length ∨ 1024 < bs.length then some (refuse .badParam 0x3303) else none)
  else match profileForm t with
    | some f => store (if profileOk t f (overlayAt (d.tblRead t 0 16) o bs) then none else some badValue)
    | none => store none

/-- The refusal of a TABLE_WRITE (R68); a part of the surface configuration is refused as R179 says. -/
def Dev.tableWriteCheck (d : Dev) (r : Req) : Option Answer :=
  let n := r.params.length - 8
  let t := leAt r.params 0 2
  let o := leAt r.params 4 4
  if r.params.length ≤ 8 ∨ 1384 < n then some badLength
  else match d.tableSize t with
    | none => some (refuse .badParam 0x0019)
    | some size =>
      if 0x2340 ≤ t ∧ t < 0x2344 then some (refuse .denied 0x2301)
      else if !tableWritable t then some (refuse .denied 0x001A)
      else if t ≠ 0x3300 && !decide (0x2180 ≤ t ∧ t < 0x21C0) && decide (size < o + n) then some badValue
      else d.ownCheck t o (r.params.drop 8)

/-! ## Writing -/

/-- The scratch area written: one record for each page touched, in one batch (R360). -/
def Dev.scratchWrite (d : Dev) (o : Nat) (bs : List Byte) : Dev :=
  let d := d.tblWrite 0x3300 o bs
  let first := o / 256
  let n := (o + bs.length - 1) / 256 + 1 - first
  d.buffer ((List.range n).map fun i => pageRecord (first + i) (d.tblRead 0x3300 (256 * (first + i)) 256))

/-- A warp grid written: it takes effect at the core's next frame start, and is stored in the bulk store (R185);
where that is lost the store fails, and the write completes so (R348). -/
def Dev.gridWrite (d : Dev) (k o : Nat) (bs : List Byte) (t : Ticket) : Dev :=
  let b := overlayAt (d.gridBase k) o bs
  let d : Dev := { d with fus := { d.fus with newGrid := d.fus.newGrid.upd k ([], []) fun g => (b, snoc g.2 t) } }
  let d := d.storeGrid k b
  if d.bulkUp then d
  else
    let d := d.each ((d.fus.newGrid.get k ([], [])).2) fun t d => d.complete t .fault 0x3305
    { d with fus := { d.fus with newGrid := d.fus.newGrid.upd k ([], []) fun g => (g.1, []) } }

/-- A TABLE_WRITE whose checks passed; its completion follows when the data is in force (R68). -/
def Dev.tableWritten (d : Dev) (t o : Nat) (bs : List Byte) (tk : Ticket) : Dev :=
  let from_ (a n : Nat) : Bool := decide (a ≤ t ∧ t < a + n)
  if from_ 0x2300 64 then d.gridWrite (t - 0x2300) o bs tk
  else if from_ 0x2180 64 then
    let k := t - 0x2180
    let q := d.pipe.classQ.get k [] ++ (word32s bs).map (· % 2 ^ 27)
    ({ d with pipe := { d.pipe with classQ := d.pipe.classQ.put k q } } : Dev).complete tk .ok
  else if t = 0x3300 then (d.scratchWrite o bs).complete tk .ok
  else
    let d := d.tblWrite t o (maskTable t o bs)
    let size := (d.tableSize t).getD 0
    let d := if from_ 0x2100 64 || from_ 0x2140 64 then d else d.buffer [tableRecord t (d.tblRead t 0 size)]
    d.complete tk .ok

/-- A host's access to a pixel table or a drift history, which lie in DRAM, reaches its ranks (R272, R283). -/
def Dev.touchTable (d : Dev) (t off n : Nat) : Dev :=
  if t / 64 ∈ [0x2100 / 64, 0x2200 / 64] then d.touch t off n else d

/-- TABLE_READ. -/
def tableRead (r : Req) (d : Dev) : Dev :=
  serve { code := 0x4200, cls := .service }
    (fun d r =>
      match lengthIs 12 r with
      | some a => some a
      | none =>
        let n := leAt r.params 8 2
        match d.tableSize (leAt r.params 0 2) with
        | none => some (refuse .badParam 0x0019)
        | some size => if n = 0 ∨ 1384 < n ∨ size < leAt r.params 4 4 + n then some badValue else none)
    (fun d r =>
      let t := leAt r.params 0 2
      let o := leAt r.params 4 4
      let n := leAt r.params 8 2
      (d.touchTable t o n, some (okWith (d.tableBytes t o n)))) r d

/-- TABLE_WRITE. -/
def tableWrite (r : Req) (d : Dev) : Dev :=
  let op : Op := { code := 0x4201, cls := .service }
  serve op (fun d r => d.tableWriteCheck r)
    (fun d r =>
      let t := leAt r.params 0 2
      let o := leAt r.params 4 4
      let b := r.params.drop 8
      ((d.touchTable t o b.length).tableWritten t o b (ticket op r), some okay)) r d

end Sys2Proof.Machine
end

