-- ==== Sys2Proof/Machine/Opcodes.lean ====
section
/-!
DEFINITION. Sys2Proof/Machine/Opcodes.lean: the opcode table (R69, Table 2-10): a request is run by its opcode, and one that
is not allocated is answered ST_BADOPCODE (R2).
-/
namespace Sys2Proof.Machine

/-- UNALLOCATED_OPCODE: steps 2 to 4 of R49 for an opcode that no chapter allocates. Nothing is executed. -/
def unallocatedOpcode (op : Nat) (r : Req) (d : Dev) : Dev :=
  match d.arrives r with
  | (false, _) => d
  | (true, false) => d.bump P.UL_RX_DROP [r.host.uplink]
  | (true, true) =>
    match d.destOf r with
    | .here => d.answerOnly op r (refuse .badOpcode (if r.version ≠ 1 then 0x0001 else 0)) (d.backOf r)
    | .away => d.forward op r
    | .unaddressed => d.answerOnly op r (refuse .denied 0x001B) (d.backOf r)
    | .drop => d

/-- A request of an opcode whose selecting byte names no form: ST_BADPARAM, PRM_VALUE, or LENGTH where it is not carried. -/
def badForm (op : Op) (n : Nat) (r : Req) (d : Dev) : Dev :=
  serve op (fun _ r => if r.params.length = n then some badValue else some badLength) (fun d _ => (d, none)) r d

/-- CONV_CALIBRATE by its step. -/
def runCalibrate (r : Req) : Dev → Dev :=
  let s := byteAt r.params 1
  if s = 0 then convCalibrateZero r
  else if s = 1 then convCalibrateFullScale r
  else if s = 2 then convCalibrateFactory r
  else if s = 3 then convCalibrateAbandon r
  else badForm { code := 0x0802, cls := .service } 2 r

/-- SHUTTER_TEST by its action. -/
def runShutterTest (r : Req) : Dev → Dev :=
  let a := byteAt r.params 1 % 16
  if a = 0 then shutterTestDiagnose r
  else if a = 1 then shutterTestClose r
  else if a = 2 then shutterTestRelease r
  else if a = 3 then shutterTestClear r
  else if a = 4 then shutterTestApplyProfile r
  else badForm { code := 0x0901, cls := .service } 2 r

/-- PATCH_CLAIM by its KIND (Table 7-8). -/
def runClaim (r : Req) : Dev → Dev :=
  let k := byteAt r.params 8
  if k = 1 then view r
  else if k = 2 then withdraw r
  else if k = 3 then commit r
  else if k = 4 then query r
  else badForm { code := 0x4400, cls := .device } 32 r

/-- PATCH_HANDOVER by its KIND. -/
def runHandover (r : Req) : Dev → Dev :=
  let k := byteAt r.params 8
  if k = 1 then ready r
  else if k = 2 then stateMsg r
  else if k = 3 then done r
  else badForm { code := 0x4401, cls := .device } 32 r

/-- SEAM_EXCHANGE by its TYPE. -/
def runSeam (r : Req) : Dev → Dev :=
  let t := byteAt r.params 0
  if t = 1 then reserveMsg r
  else if t = 2 then grantMsg r
  else if t = 3 then releaseMsg r
  else if t = 4 then sumsMsg r
  else if t = 5 then nodesMsg r
  else badForm { code := 0x4402, cls := .device } r.params.length r

/-- The opcodes 0x0000 to 0x05FF. -/
def runLow (op : Nat) (r : Req) : Dev → Dev :=
  if op = 0x0000 then ping r
  else if op = 0x0001 then deviceStatus r
  else if op = 0x0100 then fabricStatus r
  else if op = 0x0101 then fabricProfile r
  else if op = 0x0200 then coreStatus r
  else if op = 0x0201 then coreSetting r
  else if op = 0x0202 then coreEnableReq r
  else if op = 0x0203 then frameStats r
  else if op = 0x0300 then pipeStatus r
  else if op = 0x0301 then pipeProfile r
  else if op = 0x0400 then shutterProfile r
  else if op = 0x0401 then shutterNow r
  else if op = 0x0402 then seamSolve r
  else if op = 0x0403 then calStatus r
  else if op = 0x0404 then calReload r
  else if op = 0x0500 then tileStatus r
  else if op = 0x0501 then patchStatus r
  else if op = 0x0502 then blinkRegister r
  else if op = 0x0503 then outputProfile r
  else unallocatedOpcode op r

/-- The opcodes 0x0600 to 0x0CFF. -/
def runMid (op : Nat) (r : Req) : Dev → Dev :=
  if op = 0x0600 then enumerate r
  else if op = 0x0601 then addressSet r
  else if op = 0x0602 then census r
  else if op = 0x0603 then censusRead r
  else if op = 0x0604 then configStage r
  else if op = 0x0605 then configActivate r
  else if op = 0x0606 then configDiscard r
  else if op = 0x0607 then placementStatus r
  else if op = 0x0608 then timeStatus r
  else if op = 0x0700 then memStatus r
  else if op = 0x0701 then memProfile r
  else if op = 0x0800 then convSeqStart r
  else if op = 0x0801 then convStatus r
  else if op = 0x0802 then runCalibrate r
  else if op = 0x0900 then shutterDriveStatus r
  else if op = 0x0901 then runShutterTest r
  else if op = 0x0A00 then nvCommit r
  else if op = 0x0A01 then nvStatus r
  else if op = 0x0B00 then doze r
  else if op = 0x0B01 then wake r
  else if op = 0x0B02 then workroomRestart r
  else if op = 0x0C00 then eventRead r
  else if op = 0x0C01 then eventRoute r
  else if op = 0x0C02 then logRead r
  else if op = 0x0C03 then healthStatus r
  else unallocatedOpcode op r

/-- The opcodes from 0x4000. -/
def runHigh (op : Nat) (r : Req) : Dev → Dev :=
  if op = 0x4000 then prmRead r
  else if op = 0x4001 then prmWrite r
  else if op = 0x4002 then prmBulkRead r
  else if op = 0x4003 then prmBulkWrite r
  else if op = 0x4004 then prmModify r
  else if op = 0x4100 then tapSet r
  else if op = 0x4101 then tapStreamReq r
  else if op = 0x4200 then tableRead r
  else if op = 0x4201 then tableWrite r
  else if op = 0x4300 then marginScan r
  else if op = 0x4301 then marginAbort r
  else if op = 0x4400 then runClaim r
  else if op = 0x4401 then runHandover r
  else if op = 0x4402 then runSeam r
  else if op = 0x4403 then censusGather r
  else if op = 0x4404 then configExchange r
  else if op = 0x8000 then keyStatus r
  else if op = 0x8001 then keyRotate r
  else if op = 0x8002 then fwBegin r
  else if op = 0x8003 then fwData r
  else if op = 0x8004 then fwCommit r
  else if op = 0x8005 then fwSelect r
  else if op = 0x8006 then debugReq r
  else if op = 0x8007 then authSet r
  else unallocatedOpcode op r

/-- A request run by its opcode. -/
def runOpcode (op : Nat) (r : Req) : Dev → Dev :=
  if op < 0x0600 then runLow op r else if op < 0x4000 then runMid op r else runHigh op r

end Sys2Proof.Machine
end

