-- ==== Sys2Proof/Machine/Transport.lean ====
section
/-!
DEFINITION. Sys2Proof/Machine/Transport.lean: packets as they arrive (R42 to R44), the relay (R54, R228), the chain (R213),
the service port (R390) and what an uplink answers below KCP (R51, R52).
-/
namespace Sys2Proof.Machine

/-! ## Packets (R42 to R44) -/

/-- A packet whose length agrees with LEN and TAG and whose CRC is right, cut into its parts. -/
structure Packet where
  /-- VER_FLAGS. -/
  flags : Nat
  /-- OPCODE. -/
  opcode : Nat
  /-- DEST. -/
  dest : Nat
  /-- SOURCE. -/
  source : Nat
  /-- SEQ. -/
  seq : Nat
  /-- GEN. -/
  gen : Nat
  /-- Prefix and tag, when TAG is set. -/
  auth : Option Auth
  /-- The payload behind the prefix. -/
  params : List Byte
deriving DecidableEq, Repr

/-- The packet in a run of bytes; none where R44 discards it. With TAG set, LEN counts the 8-byte prefix. -/
def parsePacket (b : List Byte) : Option Packet :=
  let flags := byteAt b 0
  let tag := bitOf flags 5
  let len := leAt b 10 2
  let body := 24 + len + (if tag then 16 else 0)
  if b.length < 28 || b.length ≠ body + 4 || (tag && decide (len < 8)) || leAt b body 4 ≠ crc32 (b.take body) then none
  else
    let pay := (b.drop 24).take len
    some { flags := flags, opcode := leAt b 2 2, dest := leAt b 4 2 % 1024, source := leAt b 6 2 % 1024, seq := leAt b 8 2,
           gen := leAt b 12 2,
           auth := if tag then some ⟨byteAt pay 0, leAt pay 2 6, (b.drop (24 + len)).take 16⟩ else none,
           params := if tag then pay.drop 8 else pay }

/-- RSP. -/
def Packet.isReply (p : Packet) : Bool := bitOf p.flags 4

/-- EVT. -/
def Packet.isEvent (p : Packet) : Bool := bitOf p.flags 7

/-- The request a packet is, from a host. -/
def Packet.request (p : Packet) (h : HostId) : Req :=
  ⟨h, p.flags % 16, p.dest, p.source, p.seq, p.gen, bitOf p.flags 6, p.auth, p.params, 0⟩

/-- The reply a packet is. -/
def Packet.relayAnswer (p : Packet) : RelayAnswer :=
  ⟨p.source, p.opcode, p.seq, byteAt p.params 0, leAt p.params 2 2, p.params.drop 4, p.gen, bitOf p.flags 6, p.auth⟩

/-- A packet discarded without a reply, RX_CRC_ERR set for the port it came by (R44). -/
def Dev.dropBad (d : Dev) (u : Unit') : Dev := if d.alive then d.set (.kcp 0) u else d

/-- A reply that nothing awaits, discarded, REPLY_LATE set for the port it came by (R46). -/
def Dev.dropReply (d : Dev) (u : Unit') : Dev := if d.alive then d.set (.kcp 2) u else d

/-- BAD_PACKET: discarded without a reply (R44); the row names no port. -/
def badPacket (d : Dev) : Dev := d.dropBad noUnit

/-- UNMATCHED_REPLY: discarded (R46); the row names no port. -/
def unmatchedReply (d : Dev) : Dev := d.dropReply noUnit

/-- A packet from a host's transport: a request, a reply that nothing awaits, an event record, or discarded. -/
def Dev.takePacket (d : Dev) (h : HostId) (b : List Byte) : Dev :=
  match parsePacket b with
  | none => d.dropBad (arrivalOf h)
  | some p => if p.isEvent then d else if p.isReply then d.dropReply (arrivalOf h) else runOpcode p.opcode (p.request h) d

/-- KCP_FORWARD: a request that does not address this device (R53). One that does is run. -/
def kcpForward (op : Nat) (r : Req) (d : Dev) : Dev := runOpcode op r d

/-- DUPLICATE_CACHE_EXPIRY: the oldest entry's 2 s end (R57). -/
def duplicateCacheExpiry (d : Dev) : Dev :=
  match d.kcp.dup with
  | [] => d
  | e :: t =>
    let first := (t.map (·.sent)).foldl min e.sent
    let d := d.reach (first + sec 2)
    { d with kcp := { d.kcp with dup := d.kcp.dup.filter fun x => decide (d.clk < x.sent + sec 2) } }

/-! ## Replies to this device's own requests -/

/-- Status codes as a host reads them: one that is not in Table 2-3 is ST_FAULT (R47). -/
def statusOf (c : Nat) : Status :=
  if c = 0x00 then .ok else if c = 0x01 then .busy else if c = 0x02 then .busyNv else if c = 0x03 then .deferred
  else if c = 0x10 then .moved else if c = 0x11 then .staleEpoch else if c = 0x20 then .denied else if c = 0x21 then .auth
  else if c = 0x22 then .duty else if c = 0x30 then .badParam else if c = 0x31 then .badOpcode
  else if c = 0x32 then .overrun else .fault

/-- A held request that was forwarded as `a` is answered ST_MOVED with the new owner's answer (R64). -/
def Dev.releaseForwarded (d : Dev) (a : Asked) (x : Answer) : Dev :=
  let mine (h : Held) : Bool :=
    match h.waits with
    | .owner o _ => decide (o = a.dest ∧ h.opcode = a.opcode ∧ h.req.params = a.params)
    | _ => false
  match d.kcp.held.find? mine with
  | some h =>
    let d : Dev := { d with kcp := { d.kcp with held := d.kcp.held.eraseP mine } }
    let (o, e) := match h.waits with
      | .owner o e => (o, e)
      | _ => (0x3FF, 0)
    d.answer h.opcode h.req (forwarded o e x) h.back
  | none => d

/-- The directory's answer to a VIEW or a QUERY: the current epoch adopted; what waited for it goes on (R234, R241). -/
def Dev.learnOwner (d : Dev) (p : Nat) (kind : Nat) (b : List Byte) : Dev :=
  let pl := d.place p
  let e := leAt b 8 4
  let d := if pl.epoch < e then d.adopt p (leAt b 2 2 % 1024) (leAt b 4 2 % 1024) e (leAt b 12 8) (byteAt b 1) else d
  if kind = 4 then (d.setPlace p { d.place p with asked := none }).flushQueried p else d

/-- The answer to a COMMIT: the receiver is no longer waited for. One that holds a newer epoch tells it; one that holds the
same epoch under another owner shows a breach, which the directory resolves by a further epoch with REASON 7 (R243). -/
def Dev.commitAnswered (d : Dev) (p dest : Nat) (sent : Nat) (x : RelayAnswer) : Dev :=
  let y := d.dir p
  let d := d.setDir p { y with waiting := y.waiting.filter (· ≠ dest) }
  if statusOf x.status ≠ .staleEpoch then d
  else
    let e := leAt x.data 0 4
    let y := d.dir p
    let d := d.setDir p { y with epoch := max y.epoch e }
    if e = sent ∧ y.epoch = sent then
      let d := d.setPlc 8 (plcData p e y.owner 7 0)
      if d.isDirectory p then d.commitEpoch p y.owner 7 else d
    else d

/-- The reply to a request of the device itself. -/
def Dev.ownReply (d : Dev) (a : Asked) (x : RelayAnswer) : Dev :=
  let p := leAt a.params 0 4 % 2 ^ 22
  let kind := byteAt a.params 8
  let good := decide (statusOf x.status = .ok)
  if a.opcode = 0x4400 then
    (if kind = 3 then d.commitAnswered p a.dest (leAt a.params 16 4) x
     else if good && decide (kind = 1 ∨ kind = 4) then d.learnOwner p kind x.data
     else d)
  else if a.opcode = 0x4403 then (if good then d.censusAnswer a.dest x.data else d)
  else if a.opcode = 0x4404 then
    match d.upLinks.find? fun m => decide (d.rd P.NEIGH [m] = a.dest) with
    | some m => if good then d.takeExchange m x.data true else d
    | none => d
  else if a.opcode = 0x0500 ∨ a.opcode = 0x0501 then d.releaseForwarded a ⟨statusOf x.status, x.detail, x.data⟩
  else d

/-! ## The relay (R54, R228) -/

/-- The host identity of a relayed request: an array message of the ingress device itself carries its own HID. -/
def relayHost (e : Envelope) : HostId :=
  if e.hid = ownHid then deviceHost e.ingress else ⟨.relay, 0, none, false, 0, 0, e.ingress, e.hid⟩

/-- RELAY_REPLY: a relayed reply reaches its ingress device and leaves on the transport the request arrived on, unchanged; a
reply to this device's own request is taken by it; one that nothing awaits is discarded and sets REPLY_LATE. -/
def relayReply (hid : Nat) (x : RelayAnswer) (d : Dev) : Dev :=
  if !d.alive then d
  else if hid = ownHid then
    match d.awaited.find? fun a => decide (a.dest = x.source ∧ a.rseq = x.seq ∧ a.opcode = x.opcode) with
    | some a =>
      let d : Dev := { d with plc := { d.plc with asked := d.plc.asked.filter (· ≠ a) } }
      d.ownReply a x
    | none => d.set (.kcp 2)
  else
    match d.kcp.relays.find? fun q =>
        decide (q.hid = hid ∧ q.opcode = x.opcode ∧ q.req.seq = x.seq ∧ q.req.dest = x.source) with
    | some q =>
      let d : Dev := { d with kcp := { d.kcp with relays := d.kcp.relays.filter (· ≠ q) } }
      d.send { host := q.req.host, opcode := x.opcode, seq := x.seq, rseq := 0, dest := q.req.source, source := x.source, gen := x.gen,
               rtx := x.rtx, auth := x.auth, answer := ⟨statusOf x.status, x.detail, x.data⟩, ip := q.own, port := replyPort q.req.host }
    | none => d.set (.kcp 2)

/-- RELAY_TIMEOUT: the oldest relayed request has had no reply within RELAY_TIMEOUT; it is answered RELAY_LOST, with this
device in SOURCE and without a tag. A patch request forwarded to the new owner is answered so within its ST_MOVED. A census asks the
next device in place of one that has not answered in that time (R257). -/
def relayTimeout (d : Dev) : Dev :=
  if !d.alive then d
  else
    match d.kcp.relays with
    | q :: t =>
      let d := d.reach (q.since + ms (d.rd P.RELAY_TIMEOUT))
      let d : Dev := { d with kcp := { d.kcp with relays := t } }
      d.answerOnly q.opcode q.req (refuse .fault 0x0006) ⟨none, q.own⟩
    | [] =>
      match d.plc.asked.find? fun a => decide (a.opcode = 0x0500 ∨ a.opcode = 0x0501) with
      | some a =>
        let d := d.reach (a.since + ms (d.rd P.RELAY_TIMEOUT))
        let d : Dev := { d with plc := { d.plc with asked := d.plc.asked.filter (· ≠ a) } }
        d.releaseForwarded a (refuse .fault 0x0006)
      | none =>
        let ends := d.gathersOut.map fun a => a.since + ms (d.rd P.RELAY_TIMEOUT)
        match d.plc.census, ends.min? with
        | some _, some t => (d.reach t).gatherMore
        | _, _ => d

/-- Key of the RSEQ expected from an ingress device's host identity. -/
def rseqKey (ingress hid : Nat) : Nat := 65536 * ingress + hid

/-- Requests behind a gap run as far as their RSEQ follow on. -/
def drainRelay (ingress hid : Nat) : Nat → Dev → Dev
  | 0, d => d
  | n + 1, d =>
    let k := rseqKey ingress hid
    let want := d.kcp.rseqRx.get k 0
    match d.kcp.rseqWait.find? fun w => decide (w.ingress = ingress ∧ w.hid = hid ∧ w.rseq = want) with
    | none => d
    | some w =>
      let d : Dev := { d with kcp := { d.kcp with
        rseqWait := d.kcp.rseqWait.filter (· ≠ w), rseqRx := d.kcp.rseqRx.put k ((want + 1) % 65536) } }
      drainRelay ingress hid n (runOpcode w.opcode w.req d)

/-- A relayed request at its destination, begun in RSEQ order. One whose RSEQ has been passed over is begun at once. -/
def Dev.relayed (d : Dev) (e : Envelope) (op : Nat) (r : Req) : Dev :=
  let r := { r with host := relayHost e, rseq := e.rseq }
  let k := rseqKey e.ingress e.hid
  let want := d.kcp.rseqRx.get k 0
  let ahead := (e.rseq + 65536 - want) % 65536
  if ahead = 0 then
    let d : Dev := { d with kcp := { d.kcp with rseqRx := d.kcp.rseqRx.put k ((want + 1) % 65536) } }
    drainRelay e.ingress e.hid d.kcp.rseqWait.length (runOpcode op r d)
  else if ahead < 32768 then
    { d with kcp := { d.kcp with rseqWait := snoc d.kcp.rseqWait ⟨e.ingress, e.hid, e.rseq, op, r, d.clk⟩ } }
  else runOpcode op r d

/-- An event record relayed here: a COMPLETION record returns to the host identity of its request (R405); any other goes on
unchanged to destination 0, unless that is a relay itself (R403). -/
def Dev.relayedEvent (d : Dev) (hid : Nat) (b : List Byte) : Dev :=
  if hid ≠ ownHid then
    match d.kcp.hids[hid]? with
    | some h => d.emit (.completion h ((b.drop 24).take 64))
    | none => d.set (.kcp 2)
  else if d.rd P.DKIND [0] = 0 || d.rd P.DKIND [0] = 5 || !d.destFree 0 then d else d.sendEvent 0 b

/-- The bytes a relay frame carries behind its envelope. -/
def relayedBytes : Relayed → List Byte
  | .request op r => reqPacket op r
  | .reply b => b

/-- The payload of a relay frame (R228). -/
def relayPayload (e : Envelope) (m : Relayed) : List Byte :=
  let isReply := match m with
    | .request .. => false
    | .reply _ => true
  envelope e.ingress e.hid e.rseq isReply ++ relayedBytes m

/-- RELAY: a relay frame on a link. At its destination it is begun, or it is a reply or an event record; elsewhere it goes on
over the route, its HOPS one less. -/
def relay (h : SeamHdr) (e : Envelope) (m : Relayed) (d : Dev) : Dev :=
  match d.arriving 3 h (relayPayload e m) with
  | (d, false) => d
  | (d, true) =>
    match m with
    | .request op r => d.relayed e op r
    | .reply b =>
      match parsePacket b with
      | none => badPacket d
      | some p => if p.isEvent then d.relayedEvent e.hid b else relayReply e.hid p.relayAnswer d

/-- RELAY_GAP_TIMEOUT: the requests of an ingress device's host identity have waited RELAY_TIMEOUT for a missing RSEQ, and go
on from the lowest that waits. -/
def relayGapTimeout (ingress hid : Nat) (d : Dev) : Dev :=
  let k := rseqKey ingress hid
  let want := d.kcp.rseqRx.get k 0
  let mine := d.kcp.rseqWait.filter fun w => decide (w.ingress = ingress ∧ w.hid = hid)
  match mine with
  | [] => d
  | w :: t =>
    let far (x : GapWait) : Nat := (x.rseq + 65536 - want) % 65536
    let first := (t.map (·.since)).foldl min w.since
    let near := (t.map far).foldl min (far w)
    let d := d.reach (first + ms (d.rd P.RELAY_TIMEOUT))
    let d : Dev := { d with kcp := { d.kcp with rseqRx := d.kcp.rseqRx.put k ((want + near) % 65536) } }
    drainRelay ingress hid mine.length d

/-- BROADCAST_KCP: a flooded broadcast is executed once per SRC and FSEQ, without a reply, and passed on (R50, R227). -/
def broadcastKcp (h : SeamHdr) (op : Nat) (r : Req) (d : Dev) : Dev :=
  if !d.alive || !d.is P.SL_LINK_UP [h.link] then d
  else
    match d.floodNew 4 h (reqPacket op r) with
    | (d, false) => d
    | (d, true) => runOpcode op { r with host := { deviceHost h.src with via := .flood }, dest := 0x3FF } d

/-! ## Uplinks below KCP (R51, R52) -/

/-- A frame with or without a VLAN tag is one the uplink takes (R51). -/
def Dev.vlanOk (d : Dev) (u : Nat) (vlan : Option Nat) : Bool :=
  match vlan with
  | some v => d.is P.VLAN_EN [u] && decide (v = d.rd P.VLAN_ID [u])
  | none => !d.is P.VLAN_EN [u]

/-- An address is the uplink's own. An IPv4 address of 0 disables IPv4. -/
def Dev.ownIp (d : Dev) (u : Nat) (v6 : Bool) (a : Nat) : Bool :=
  if v6 then decide (a = d.linkLocal u) || (decide (a ≠ 0) && decide (a = d.globalV6 u))
  else decide (a ≠ 0 ∧ a = d.rd P.IPV4_ADDR [u])

/-- A frame discarded and counted. -/
def Dev.dropFrame (d : Dev) (u : Nat) : Dev := d.bump P.UL_RX_DROP [u]

/-- A packet leaves on an uplink, or waits for the end of a PAUSE in its queue of 64 (R71). -/
def Dev.transmit (d : Dev) (u : Nat) (o : Out) : Dev :=
  if d.kcp.paused.get u 0 = 0 then d.emit o
  else if (d.kcp.replyQ.get u []).length < 64 then
    { d with kcp := { d.kcp with replyQ := d.kcp.replyQ.upd u [] (· ++ [o]) } }
  else d.dropFrame u

/-- A frame of an uplink that is on is answered where `mine` holds, and else discarded and counted. -/
def Dev.lowFrame (d : Dev) (u : Nat) (vlan : Option Nat) (mine : Bool) (o : Out) : Dev :=
  if !d.uplinkOn u then d else if d.vlanOk u vlan && mine then d.transmit u o else d.dropFrame u

/-- ARP_REQUEST: a request for `target` from the host at `mac` and `ip`, answered with the uplink's MAC address. -/
def arpRequest (u : Nat) (vlan : Option Nat) (mac ip target : Nat) (d : Dev) : Dev :=
  d.lowFrame u vlan (d.ownIp u false target)
    (.lowReply u 0 ip ([0, 1, 8, 0, 6, 4, 0, 2] ++ beBytes 6 (d.mac u) ++ beBytes 4 target ++ beBytes 6 mac ++ beBytes 4 ip))

/-- ICMP_ECHO: an ICMPv4 or ICMPv6 echo request from `src` to `dst`, answered with the bytes it carries behind its checksum. -/
def icmpEcho (u : Nat) (vlan : Option Nat) (v6 : Bool) (src dst : Nat) (body : List Byte) (d : Dev) : Dev :=
  d.lowFrame u vlan (d.ownIp u v6 dst) (.lowReply u 1 src body)

/-- NEIGHBOUR_SOLICITATION: answered with an advertisement of the uplink's MAC address. -/
def neighbourSolicitation (u : Nat) (vlan : Option Nat) (src target : Nat) (d : Dev) : Dev :=
  d.lowFrame u vlan (d.ownIp u true target) (.lowReply u 2 src (beBytes 16 target ++ [2, 1] ++ beBytes 6 (d.mac u)))

/-- The uplink may transmit again: its reply queue drains in order. -/
def Dev.resume (d : Dev) (u : Nat) : Dev :=
  let q := d.kcp.replyQ.get u []
  ({ d with kcp := { d.kcp with paused := d.kcp.paused.del u, replyQ := d.kcp.replyQ.del u } } : Dev).emits q

/-- PAUSE_FRAME: transmission stops for the quanta it carries, of 512 bit times each; 0 ends a PAUSE (IEEE 802.3). -/
def pauseFrame (u quanta : Nat) (d : Dev) : Dev :=
  if !d.uplinkOn u then d
  else
    let d := d.bump P.UL_PAUSE [u]
    if quanta = 0 then d.resume u
    else { d with kcp := { d.kcp with paused := d.kcp.paused.put u (d.clk + (512 * (quanta % 65536) + 9) / 10) } }

/-- PAUSE_END: the quanta in force have passed. -/
def pauseEnd (u : Nat) (d : Dev) : Dev :=
  match d.kcp.paused.get? u with
  | some t => (d.reach t).resume u
  | none => d

/-- UNSERVED_FRAME: a frame the uplink does not serve, or one received damaged, which counts in UL_RX_ERR too (Table 2-12). -/
def unservedFrame (u : Nat) (damaged : Bool) (d : Dev) : Dev :=
  if !d.uplinkOn u then d
  else
    let d := d.dropFrame u
    if damaged then d.bump P.UL_RX_ERR [u] else d

/-! ## The chain (R213) -/

/-- The host identity of the chain. A broadcast that another device of the chain received first is not answered (R50). -/
def chainHost (passed : Bool) : HostId := ⟨if passed then .passed else .chain, 0, none, false, 0, 0, 0, 0⟩

/-- A frame passed on: one whose queue of 16 is full is discarded; one found damaged behind its start is ended as aborted on the
outgoing port (R213). -/
def Dev.chainPass (d : Dev) (port : Nat) (frame : List Byte) (ok room : Bool) : Dev :=
  if !room then d.bump P.CHAIN_DROP_CNT
  else if ok then d.emit (.frame port 1 frame)
  else d.chainBad.emit (.aborted port 1 frame)

/-- CHAIN_FRAME: a frame on the up port or the down port, its bytes behind SOF as they stand in Table 7-1. `aborted`: it ended with
K30.7. `room`: the queue of the direction it goes on in has room. `passed`: it is a broadcast that another device of the chain
received first (log 65). A frame for this device is taken by it; one found damaged is discarded. -/
def chainFrame (fromUp : Bool) (frame : List Byte) (aborted room passed : Bool) (d : Dev) : Dev :=
  let type := byteAt frame 0
  let b := framedPayload frame
  let dest := leAt b 4 2 % 1024
  let isReply := bitOf (byteAt b 0) 4
  let ok := chainOk frame && !aborted
  let take (d : Dev) : Dev := if ok then d.takePacket (chainHost (passed && decide (dest = 0x3FF))) b else d.chainBad
  if !d.alive then d
  else if type = 2 then (if !fromUp then d else enumerationToken frame aborted d)
  else if type ≠ 1 then d.bump P.CHAIN_DROP_CNT
  else if fromUp then
    if dest = 0x3FF || (d.addressed && decide (dest = d.addr)) then take d
    else if d.is P.DOWN_SIG then d.chainPass 53 frame ok room
    else take d
  else if isReply && d.addressed && decide (dest = d.addr) then take d
  else d.chainPass 52 frame ok room

/-! ## The request queue (R55) -/

/-- The first queued request whose host identity has none executing is begun. The model begins one at each tick in which no command
runs (log 127). -/
def Dev.startQueued (d : Dev) : Dev :=
  match d.kcp.queue.find? fun q => !d.hostBusy q.req.host with
  | none => d
  | some q =>
    runOpcode q.opcode q.req { d with begun := some q, kcp := { d.kcp with queue := d.kcp.queue.eraseP (· == q) } }

/-! ## The service port (R390, R391) -/

/-- The host identity of the service port. -/
def serviceHost : HostId := ⟨.service, 0, none, false, 0, 0, 0, 0⟩

/-- A frame waits for the tool, or is discarded for want of space. -/
def Dev.svcQueue (d : Dev) (type : Nat) (b : List Byte) : Dev :=
  if d.boot.svcOut.length < 4 then { d with boot := { d.boot with svcOut := snoc d.boot.svcOut (type, b) } }
  else d.bump P.SVC_DROP

/-- A frame as it stands on the port: TYPE, LEN, payload and the CRC-16 of R196. -/
def svcFrame (type : Nat) (b : List Byte) : List Byte := framed type b

/-- A debug reply: STATUS and data words. -/
def Dev.debugReply (d : Dev) (status : Nat) (data : List Byte) : Dev := d.svcQueue 5 (leBytes 1 status ++ [0, 0, 0] ++ data)

/-- `n` words that the spec does not fix. -/
def Dev.freeWords (d : Dev) : Nat → List Byte × Dev
  | 0 => ([], d)
  | n + 1 =>
    let (w, d) := d.draw (2 ^ 32)
    let (l, d) := d.freeWords n
    (leBytes 4 w ++ l, d)

/-- The unlock level a debug target needs (Table 12-10); none for a target that does not exist. -/
def debugLevel (target : Nat) : Option Nat :=
  if target ≤ 3 ∨ target = 8 ∨ target = 9 then some 1 else if target = 4 then some 2 else none

/-- A parameter lies behind the firewall (R371): a privileged one, or group 0x40 where RO. -/
def firewalled (a : Nat) : Bool :=
  decide (a = 0x110002) || (decide (a / 65536 = 0x40) && (rowsAt a).any fun p => decide (p.1.acc = .ro))

/-- A debug read (log 50): parameters over the parameter bus; words of a core or of DRAM, whose places the spec does not
give, are free. -/
def Dev.debugRead (d : Dev) (target addr count : Nat) : Dev :=
  if target = 9 then
    let ids := (List.range count).map (addr + ·)
    if ids.any fun a => !readable a then d.debugReply 2 []
    else let (l, d) := d.readWords ids; d.debugReply 0 l
  else let (l, d) := d.freeWords count; d.debugReply 0 l

/-- A debug write (log 50): parameters as a host's write of them; the words of a core or of DRAM hold nothing of this model. -/
def Dev.debugWrite (d : Dev) (target addr : Nat) (data : List Byte) : Dev :=
  if target = 9 then
    let es := (List.range (data.length / 4)).map fun i => (addr + i, leAt data (4 * i) 4)
    if d.boot.access < 2 && es.any fun e => firewalled e.1 then d.debugReply 3 []
    else
      let w := writeEntries ⟨0x4001, 0, serviceHost⟩ 0 es d
      match w.bad with
      | some _ => d.debugReply 2 []
      | none =>
        let e := w.dev.storeParams (((es.map (·.1)).filter persistentWord).eraseDups)
        (e.each ((es.map (·.1 / 65536)).eraseDups) fun g e => e.wrote g).debugReply 0 []
  else d.debugReply 0 []

/-- DEBUG_REQUEST: the payload of a debug request frame (Table 12-9). -/
def debugRequest (m : List Byte) (d : Dev) : Dev :=
  let op := byteAt m 0
  let target := byteAt m 1
  let count := leAt m 2 2
  let addr := leAt m 4 8
  if !d.awake then d
  else
    match debugLevel target with
    | none => d.debugReply 2 []
    | some l =>
      if d.boot.access < l then d.debugReply 1 []
      else if op = 0 then
        (if m.length = 12 ∧ 1 ≤ count ∧ count ≤ 256 then d.debugRead target addr count else d.debugReply 2 [])
      else if op = 1 then
        (if 1 ≤ count ∧ count ≤ 256 ∧ m.length = 12 + 4 * count then d.debugWrite target addr (m.drop 12) else d.debugReply 2 [])
      else if 4 < op ∨ 4 < target then d.debugReply 2 []
      else if op = 2 then
        ({ d with boot := { d.boot with halted := target :: d.boot.halted.filter (· ≠ target) } } : Dev).debugReply 0 []
      else if op = 3 then
        ({ d with boot := { d.boot with halted := d.boot.halted.filter (· ≠ target) } } : Dev).debugReply 0 []
      else d.debugReply 0 []

/-- SVC_SEND: a frame of OP 0x01: TYPE, LEN, payload and CRC-16. `space`: the port has space for it. -/
def svcSend (frame : List Byte) (space : Bool) (d : Dev) : Dev :=
  let pay := framedPayload frame
  if !d.awake then d
  else if !space || !framedOk frame then d.bump P.SVC_DROP
  else if byteAt frame 0 = 1 then d.takePacket serviceHost pay
  else if byteAt frame 0 = 3 then holdFrame d
  else if byteAt frame 0 = 4 then debugRequest pay d
  else d

/-- SVC_RECEIVE: the oldest waiting frame, or TYPE 0 with LEN 0. -/
def svcReceive (d : Dev) : Dev :=
  if !d.awake then d
  else
    match d.boot.svcOut with
    | [] => d.emit (.serial (svcFrame 0 []))
    | (t, b) :: rest => ({ d with boot := { d.boot with svcOut := rest } } : Dev).emit (.serial (svcFrame t b))

/-- SVC_STATUS: a frame waits, there is space, and RECOVERY. `space` is as in SVC_SEND. -/
def svcStatus (space : Bool) (d : Dev) : Dev :=
  if !d.awake then d
  else
    let b (x : Bool) (v : Nat) : Nat := if x then v else 0
    d.emit (.serial (leBytes 1 (b (!d.boot.svcOut.isEmpty) 1 + b space 2 + b d.inRecovery 4)))

end Sys2Proof.Machine
end

