-- ==== Sys2Proof/Machine/Run.lean ====
section
/-!
DEFINITION. Sys2Proof/Machine/Run.lean: how a command runs on the block: its row on the device, the advertisement a change of
state or address asks for (R226), and the pins that follow (R127, R406, Table 14-8).
-/
namespace Sys2Proof.Machine

/-! ## Pins -/

/-- A cause of FAULT_N that its chapter fixes stands (R406): R21, R129, R147, R281, R292, R336, R372, R376. -/
def Dev.faultCause (d : Dev) : Bool :=
  d.is P.BRIDGE_FAIL || d.is P.LINE_DIE || (d.cal.cores.vals.any fun c => match c.cycle with
    | some y => y.closed
    | none => false) ||
  ((List.range 16).any fun n => decide (d.rd P.MR4_CODE [n] = 7)) ||
  ((List.range 16).any fun n => decide (d.rankState n = 5)) ||
  !d.shut.stuck.isEmpty || !d.boot.started || d.inRecovery

/-- FAULT_N is asserted (R406). -/
def Dev.faultN (d : Dev) : Bool := d.boot.inReset || d.faultCause || d.routed 5

/-- ALARM_N is asserted: a source stands, or ALARM_HOLD has not passed (R127); released in reset. -/
def Dev.alarmN (d : Dev) : Bool := !d.boot.inReset && (d.alarmStands || d.pipe.alarmAt.isSome)

/-- UL_TXDIS of the uplinks that drive it low: UL_EN, outside reset and Doze (R440, Table 14-8). -/
def Dev.ulTxOn (d : Dev) : Nat := ((List.range 4).map fun u => if d.awake && d.is P.UL_EN [u] then 2 ^ u else 0).sum

/-- The pins and ALARM_PIN as the device's state has them. -/
def Dev.settle (d : Dev) : Dev :=
  let alarm := d.alarmN
  { d.put P.ALARM_PIN [] alarm with
    pins := { d.pins with fault := d.faultN, alarm := alarm, svcIrq := d.awake && !d.boot.svcOut.isEmpty,
                          ulTx := d.ulTxOn, bsRst := !d.boot.inReset } }

/-! ## Running a command -/

/-- A change of the device's address or state since `old` that has not been advertised yet is (R226). -/
def Dev.advertise (old d : Dev) : Dev :=
  if d.alive && old.alive && decide ((old.addr ≠ d.addr ∨ old.meshState ≠ d.meshState) ∧ old.plc.lsaSeq = d.plc.lsaSeq) then
    d.sendLsa
  else d

/-- VIEWs are due at once (R231): a core was enabled, with whose grid the cells seen change, the health term has changed, or the
score has moved by more than MOVE_HYST / 2 since the last VIEW. -/
def Dev.viewsDue (old d : Dev) : Bool :=
  d.serving && (decide (d.healthPen ≠ d.rd P.H_PEN) || (d.enabledCores.any fun k => !old.is P.CORE_EN [k]) ||
    decide (d.rd P.MOVE_HYST < 2 * ((d.score : Int) - d.plc.viewScore).natAbs))

/-- The VIEWs that a change since `old` makes due are sent. -/
def Dev.review (old d : Dev) : Dev := if Dev.viewsDue old d then d.sendViews else d

/-- A row run on the device: its outputs are those of this command, and the pins follow. -/
def Dev.run (d : Dev) (f : Dev → Dev) : Dev := (Dev.review d (Dev.advertise d (f { d with out := [], begun := none }))).settle

/-- A row run on the block; the queue is not touched. -/
def State.run (s : State) (f : Dev → Dev) : State := { s with dev := s.dev.run f }

/-! ## Time without a command -/

/-- One tick of the 500 MHz timebase, 2 ns (R24). A correction of system time is slewed at 500 ppm: 1 ns in 1,000 ticks
(R261). In reset the timebase stands. -/
def Dev.tick (d : Dev) : Dev :=
  if d.boot.inReset then d
  else
    let d : Dev := { d with clk := d.clk + 2 }
    if d.slew = 0 then d
    else if d.slewTick + 1 < 1000 then { d with slewTick := d.slewTick + 1 }
    else
      let by_ : Int := if 0 < d.slew then 1 else -1
      { d with slewTick := 0, ofs := d.ofs + by_, slew := d.slew - by_ }

/-- The block without a command: a tick, and the beginning of a queued request whose turn has come (R55, log 4). -/
def Dev.idle (d : Dev) : Dev := d.tick.startQueued

end Sys2Proof.Machine
end

