-- ==== Sys2Proof/Machine/ArrayExec.lean ====
section
/-!
DEFINITION. Sys2Proof/Machine/ArrayExec.lean: the meanings of
the messages between devices and what the array does of itself (chapter 7).
Each runs its row on the device; the queue is not touched.
-/
namespace Sys2Proof.Machine

/-- VIEW, R231. PATCH_CLAIM of KIND 1: a candidate reports its score and cells to the directory, which answers with the
current epoch. -/
def execView (r : Req) (s : State) : Host.Outcome State Fault Refusal :=
  .next (s.run (view r))

/-- WITHDRAW, R245. PATCH_CLAIM of KIND 2: a candidate ceases to be a candidate for a patch. -/
def execWithdraw (r : Req) (s : State) : Host.Outcome State Fault Refusal :=
  .next (s.run (withdraw r))

/-- COMMIT, R235. PATCH_CLAIM of KIND 3: a receiver adopts, confirms or refuses a new epoch of a patch. -/
def execCommit (r : Req) (s : State) : Host.Outcome State Fault Refusal :=
  .next (s.run (commit r))

/-- QUERY, R241. PATCH_CLAIM of KIND 4: any device asks the directory for the current owner and epoch. -/
def execQuery (r : Req) (s : State) : Host.Outcome State Fault Refusal :=
  .next (s.run (query r))

/-- READY, R237. PATCH_HANDOVER of KIND 1: the new owner tells the former owner that its context slot is allocated. -/
def execReady (r : Req) (s : State) : Host.Outcome State Fault Refusal :=
  .next (s.run (ready r))

/-- STATE, R237. PATCH_HANDOVER of KIND 2: the former owner announces its last publication and the snapshot. -/
def execState (r : Req) (s : State) : Host.Outcome State Fault Refusal :=
  .next (s.run (stateMsg r))

/-- DONE, R237. PATCH_HANDOVER of KIND 3: the new owner confirms the snapshot and the former owner frees its slot. -/
def execDone (r : Req) (s : State) : Host.Outcome State Fault Refusal :=
  .next (s.run (done r))

/-- RESERVE, R148. SEAM_EXCHANGE entries of TYPE 1: the patch owner decides each reservation by Table 5-3. -/
def execReserve (r : Req) (s : State) : Host.Outcome State Fault Refusal :=
  .next (s.run (reserveMsg r))

/-- GRANT, R149. SEAM_EXCHANGE entries of TYPE 2: the requester receives the owner's decisions. -/
def execGrant (r : Req) (s : State) : Host.Outcome State Fault Refusal :=
  .next (s.run (grantMsg r))

/-- RELEASE, R149. SEAM_EXCHANGE entries of TYPE 3: the owner returns held patches to normal service. -/
def execRelease (r : Req) (s : State) : Host.Outcome State Fault Refusal :=
  .next (s.run (releaseMsg r))

/-- SUMS, R160. SEAM_EXCHANGE entries of TYPE 4: seam sums of cross-device pairs are delivered. -/
def execSums (r : Req) (s : State) : Host.Outcome State Fault Refusal :=
  .next (s.run (sumsMsg r))

/-- NODES, R161. SEAM_EXCHANGE entries of TYPE 5: external node values for the next seam solve are delivered. -/
def execNodes (r : Req) (s : State) : Host.Outcome State Fault Refusal :=
  .next (s.run (nodesMsg r))

/-- CENSUS_GATHER, R257. Device-only request answered with the device's 32-byte census entry. -/
def execCensusGather (r : Req) (s : State) : Host.Outcome State Fault Refusal :=
  .next (s.run (censusGather r))

/-- CONFIG_EXCHANGE, R254. Device-only request carrying and answered with the configuration state block. -/
def execConfigExchange (r : Req) (s : State) : Host.Outcome State Fault Refusal :=
  .next (s.run (configExchange r))

/-- SYNC, R258. A PTP Sync message is received and stamped at the PCS. -/
def execSync (u : Nat) (v6 : Bool) (addr : Nat) (domain : Nat) (seq : Nat) (twoStep : Bool) (s : State) :
    Host.Outcome State Fault Refusal :=
  .next (s.run (ptpSync u v6 addr domain seq twoStep))

/-- FOLLOW_UP, R258. A PTP Follow_Up message completes a two-step Sync. -/
def execFollowUp (u : Nat) (domain : Nat) (seq : Nat) (origin : Nat) (s : State) : Host.Outcome State Fault Refusal :=
  .next (s.run (followUp u domain seq origin))

/-- DELAY_RESP, R258. A PTP Delay_Resp message completes the end-to-end delay measurement. -/
def execDelayResp (u : Nat) (domain : Nat) (seq : Nat) (received : Nat) (s : State) :
    Host.Outcome State Fault Refusal :=
  .next (s.run (delayResp u domain seq received))

/-- ANNOUNCE, R258. A PTP Announce message is taken into the best-master comparison. -/
def execAnnounce (u : Nat) (domain : Nat) (o : Offer) (s : State) : Host.Outcome State Fault Refusal :=
  .next (s.run (announce u domain o))

/-- DELAY_REQ, R258. The device sends a Delay_Req to the address on which the Sync arrived. -/
def execDelayReq (u : Nat) (s : State) : Host.Outcome State Fault Refusal :=
  .next (s.run (delayReq u))

/-- ENUMERATION_TOKEN, R215. A device applies the enumeration step and sends the token on. -/
def execEnumerationToken (frame : List Byte) (aborted : Bool) (s : State) : Host.Outcome State Fault Refusal :=
  .next (s.run (enumerationToken frame aborted))

/-- NO_SIGNAL, R220. A chain port receives no valid character for 10 µs and sets CHAIN_UP_LOS or CHAIN_DOWN_LOS. -/
def execNoSignal (up : Bool) (s : State) : Host.Outcome State Fault Refusal :=
  .next (s.run (noSignal up))

/-- SIGNAL_RETURN, R220. A chain port receives valid characters again. -/
def execSignalReturn (up : Bool) (s : State) : Host.Outcome State Fault Refusal :=
  .next (s.run (signalReturn up))

/-- SYNC_CHARACTER, R221. K28.1 is received on the chain up port and, with SYNC_SRC 2, makes a sync event. -/
def execSyncCharacter (s : State) : Host.Outcome State Fault Refusal :=
  .next (s.run syncCharacter)

/-- FSYNC, R221. A rising edge on FSYNC makes a sync event when SYNC_SRC is 1. -/
def execFsync (level : Bool) (s : State) : Host.Outcome State Fault Refusal :=
  .next (s.run (fsync level))

/-- SYNC_PERIOD, R221. A multiple of SYNC_PERIOD of system time makes a sync event when SYNC_SRC is 3. -/
def execSyncPeriod (s : State) : Host.Outcome State Fault Refusal :=
  .next (s.run syncPeriod)

/-- HEARTBEAT, R229. A heartbeat received on a Seamlink link updates link delay, time and neighbour state. -/
def execHeartbeat (m : Nat) (b : List Byte) (s : State) : Host.Outcome State Fault Refusal :=
  .next (s.run (heartbeat m b))

/-- HEARTBEAT_SEND, R229. Every HB_PERIOD the device sends a heartbeat on each up link. -/
def execHeartbeatSend (s : State) : Host.Outcome State Fault Refusal :=
  .next (s.run heartbeatSend)

/-- LINK_STATE_ADVERTISEMENT, R226. A received LSA updates the topology database and routes and the time root choice. -/
def execLinkStateAdvertisement (h : SeamHdr) (l : Lsa) (s : State) : Host.Outcome State Fault Refusal :=
  .next (s.run (linkStateAdvertisement h l))

/-- LSA_REFRESH, R226. Every 10 s, and on any change, the device floods its LSA. -/
def execLsaRefresh (s : State) : Host.Outcome State Fault Refusal :=
  .next (s.run lsaRefresh)

/-- TOPOLOGY_EXPIRY, R226. A topology database entry expires 30 s after its last refresh. -/
def execTopologyExpiry (uid : Nat) (s : State) : Host.Outcome State Fault Refusal :=
  .next (s.run (topologyExpiry uid))

/-- THIRD_MISSED_HEARTBEAT, R230. A neighbour is silent for 3 × HB_PERIOD + 1 ms, and the device floods a loss report.
-/
def execThirdMissedHeartbeat (m : Nat) (s : State) : Host.Outcome State Fault Refusal :=
  .next (s.run (thirdMissedHeartbeat m))

/-- LOSS_REPORT, R230. A flooded loss report is recorded and may complete a declaration. -/
def execLossReport (h : SeamHdr) (uid : Nat) (addr : Nat) (s : State) : Host.Outcome State Fault Refusal :=
  .next (s.run (lossReport h uid addr))

/-- LINK_UP, R222. A Seamlink link becomes up or is lost. -/
def execLinkUp (m : Nat) (locked : Bool) (s : State) : Host.Outcome State Fault Refusal :=
  .next (s.run (linkUp m locked))

/-- CONTRIBUTION, R241. A contribution message reaches a device and is used, forwarded or discarded by epoch. -/
def execContribution (m : SeamMsg) (s : State) : Host.Outcome State Fault Refusal :=
  .next (s.run (contributionMsg m.hdr m.body))

/-- TILE_RECORD_CARRIAGE, R202. A carried tile record reaches the attaching device and is queued or discarded as stale.
-/
def execTileRecordCarriage (m : SeamMsg) (s : State) : Host.Outcome State Fault Refusal :=
  .next (s.run (tileRecordCarriage m.hdr m.body))

/-- HANDOVER_DATA, R237. A handover-data frame of a patch snapshot reaches the new owner. -/
def execHandoverData (m : SeamMsg) (s : State) : Host.Outcome State Fault Refusal :=
  .next (s.run (handoverData m.hdr m.body))

/-- CONFIGURATION_BLOCK, R255. A configuration-block frame fills a missing block of the staging. -/
def execConfigurationBlock (m : SeamMsg) (s : State) : Host.Outcome State Fault Refusal :=
  .next (s.run (configurationBlock m.hdr m.body))

/-- DIRECTORY_DECISION, R233. The directory chooses an owner after a declaration, a withdrawal or a new candidate, and
commits. -/
def execDirectoryDecision (p : Nat) (s : State) : Host.Outcome State Fault Refusal :=
  .next (s.run (directoryDecision p))

/-- REBAL_PERIOD, R233. Every REBAL_PERIOD the directory balances ownership and the Cutter rebalances clusters. -/
def execRebalPeriod (s : State) : Host.Outcome State Fault Refusal :=
  .next (s.run rebalPeriod)

/-- RATE_MOVE, R248. The Cutter moves cores off short clusters after a rate-margin event. -/
def execRateMove (r : Nat) (s : State) : Host.Outcome State Fault Refusal :=
  .next (s.run (rateMove r))

/-- DIRECTORY_TAKEOVER, R240. A new directory waits 10 ms and commits epoch M + 1 with REASON 6. -/
def execDirectoryTakeover (p : Nat) (s : State) : Host.Outcome State Fault Refusal :=
  .next (s.run (directoryTakeover p))

/-- COMMIT_REPEAT, R235. The directory repeats COMMIT every 10 ms to receivers that have not answered. -/
def execCommitRepeat (p : Nat) (s : State) : Host.Outcome State Fault Refusal :=
  .next (s.run (commitRepeat p))

/-- VIEW_REFRESH, R231. Every 1 s a candidate sends VIEW to the directory. -/
def execViewRefresh (s : State) : Host.Outcome State Fault Refusal :=
  .next (s.run viewRefresh)

/-- CONFIG_EXCHANGE_SEND, R254. Every 100 ms the device sends CONFIG_EXCHANGE to each neighbour. -/
def execConfigExchangeSend (s : State) : Host.Outcome State Fault Refusal :=
  .next (s.run configExchangeSend)

/-- STAGING_COMPLETE, R251. With every block present, the digest and image are checked and the image stored. -/
def execStagingComplete (s : State) : Host.Outcome State Fault Refusal :=
  .next (s.run stagingComplete)

/-- ACTIVATION, R252. At T_A the active generation and digest change and the new surface takes effect. -/
def execActivation (s : State) : Host.Outcome State Fault Refusal :=
  .next (s.run activation)

/-- CENSUS_WAIT, R257. CENSUS_WAIT passes; missing devices are entered with state 0xFE and the census completes. -/
def execCensusWait (s : State) : Host.Outcome State Fault Refusal :=
  .next (s.run censusWait)

end Sys2Proof.Machine
end

