-- ==== Sys2Proof/Machine/EngineExec.lean ====
section
/-!
DEFINITION. Sys2Proof/Machine/EngineExec.lean: the meanings of
the memory controller, the converters and the shutter drivers (chapters 8 to 10).
Each runs its row on the device; the queue is not touched.
-/
namespace Sys2Proof.Machine

/-- REFRESH_DUE, R278. A bank's refresh interval passes and a refresh is issued or owed. -/
def execRefreshDue (n : Nat) (b : Nat) (busy : Bool) (s : State) : Host.Outcome State Fault Refusal :=
  .next (s.run (refreshDue n b busy))

/-- MR4_POLL, R279. Every 16 ms mode register 4 of each rank is read and the refresh rate applied. -/
def execMr4Poll (codes : List Nat) (s : State) : Host.Outcome State Fault Refusal :=
  .next (s.run (mr4Poll codes))

/-- ZQ_CALIBRATION, R282. Every 256 ms each channel runs ZQ calibration. -/
def execZqCalibration (c : Nat) (s : State) : Host.Outcome State Fault Refusal :=
  .next (s.run (zqCalibration c))

/-- POWER_DOWN_ENTRY, R283. A rank idle for PD_IDLE enters power-down. -/
def execPowerDownEntry (n : Nat) (s : State) : Host.Outcome State Fault Refusal :=
  .next (s.run (powerDownEntry n))

/-- SET_POINT_SWITCH, R285. A set-point switch completes and held requests proceed. -/
def execSetPointSwitch (s : State) : Host.Outcome State Fault Refusal :=
  .next (s.run setPointSwitch)

/-- DRAM_READ_ERROR, R291. A DRAM read finds a correctable, uncorrectable or poisoned block. -/
def execDramReadError (n : Nat) (bank : Nat) (row : Nat) (col : Nat) (x : DramReader) (e : DramErr) (s : State) :
    Host.Outcome State Fault Refusal :=
  .next (s.run (dramReadError n bank row col x.port x.merge e))

/-- MIGRATE_DONE, R293. A migration ends; the target replaces the source in RANK_MAP. -/
def execMigrateDone (s : State) : Host.Outcome State Fault Refusal :=
  .next (s.run migrateDone)

/-- MARGIN_SCAN_STEP, R289. A margin scan completes a step, or the scan completes and writes its results. -/
def execMarginScanStep (c : Nat) (errors : Nat) (s : State) : Host.Outcome State Fault Refusal :=
  .next (s.run (marginScanStep c errors))

/-- CONVERSION_END, R309. A conversion completes; its result updates the channel store, DATA and thresholds. -/
def execConversionEnd (m : Nat) (raw : Int) (isOver : Bool) (up : Int) (down : Int) (s : State) :
    Host.Outcome State Fault Refusal :=
  .next (s.run (conversionEnd m raw isOver up down))

/-- CAL_STEP_DONE, R318. A calibration step finishes its eight conversions and reports by completion event. -/
def execCalStepDone (m : Nat) (s : State) : Host.Outcome State Fault Refusal :=
  .next (s.run (calStepDone m))

/-- WATCH_PERIOD, R322. In Doze, every WATCH_PERIOD each modulator converts its watched channels. -/
def execWatchPeriod (s : State) : Host.Outcome State Fault Refusal :=
  .next (s.run watchPeriod)

/-- PULL_IN_END, R333. A channel's pull-in ends after PULL_T and it goes to hold; a waiting partner request may begin.
-/
def execPullInEnd (n : Nat) (mA : Nat) (s : State) : Host.Outcome State Fault Refusal :=
  .next (s.run (pullInEnd n mA))

/-- MAX_ON, R333. An energisation reaches MAX_ON and is released with ON_LIMIT. -/
def execMaxOn (n : Nat) (s : State) : Host.Outcome State Fault Refusal :=
  .next (s.run (maxOn n))

/-- RELEASE_DECAY_END, R334. The coil current falls below 10 mA and the switch turns off when both channels are off. -/
def execReleaseDecayEnd (n : Nat) (s : State) : Host.Outcome State Fault Refusal :=
  .next (s.run (releaseDecayEnd n))

/-- ON_STATE_FAULT, R335. An on-state diagnosis detects a fault and switches off the part named. -/
def execOnStateFault (n : Nat) (f : ShFault) (s : State) : Host.Outcome State Fault Refusal :=
  .next (s.run (onStateFault n f))

/-- OFF_STATE_DIAGNOSIS, R336. An off-state diagnosis completes and records or latches its result. -/
def execOffStateDiagnosis (n : Nat) (mv : Nat) (hs : Nat) (lowCur : Bool) (s : State) :
    Host.Outcome State Fault Refusal :=
  .next (s.run (offStateDiagnosis n mv hs lowCur))

/-- DIAG_PERIOD, R337. Every DIAG_PERIOD an idle enabled channel is diagnosed. -/
def execDiagPeriod (n : Nat) (s : State) : Host.Outcome State Fault Refusal :=
  .next (s.run (diagPeriod n))

/-- STUCK_ON, R336. SHHS stands above 4.0 V for 100 ms with the switch off and STUCK_ON is latched. -/
def execStuckOn (j : Nat) (s : State) : Host.Outcome State Fault Refusal :=
  .next (s.run (stuckOn j))

/-- VSHUT_LOW, R340. VSHUT falls below 10.5 V, or below 8 V where every channel is released. -/
def execVshutLow (mv : Nat) (s : State) : Host.Outcome State Fault Refusal :=
  .next (s.run (vshutLow mv))

end Sys2Proof.Machine
end

