-- ==== Sys2Proof/Machine/FieldExec.lean ====
section
/-!
DEFINITION. Sys2Proof/Machine/FieldExec.lean: the meanings of
calibration, fusion and tile output (chapters 5 and 6).
Each runs its row on the device; the queue is not touched.
-/
namespace Sys2Proof.Machine

/-- CYCLE_REQUEST, R153. A trigger of Table 5-5 holds and the engine requests a shutter cycle with its reservations. -/
def execCycleRequest (k : Nat) (s : State) : Host.Outcome State Fault Refusal :=
  .next (s.run (cycleRequest k))

/-- RETRY, R149. The retry time after a refused reservation or pull-in passes and the engine reserves again. -/
def execRetry (k : Nat) (s : State) : Host.Outcome State Fault Refusal :=
  .next (s.run (retryCycle k))

/-- GRANT_START_LIMIT, R149. A grant passes its grant start limit without an opening frame start; grants are released
and retried. -/
def execGrantStartLimit (k : Nat) (s : State) : Host.Outcome State Fault Refusal :=
  .next (s.run (grantStartLimit k))

/-- MAX_DEFER, R150. A cycle refused for MAX_DEFER sets DEFER_MAX and its next attempt carries FORCE. -/
def execMaxDefer (k : Nat) (s : State) : Host.Outcome State Fault Refusal :=
  .next (s.run (maxDefer k))

/-- GRANT_VOID, R149. The owner voids a grant whose lease expires without RELEASE. -/
def execGrantVoid (p : Nat) (s : State) : Host.Outcome State Fault Refusal :=
  .next (s.run (grantVoid p))

/-- OPEN_SETTLE_END, R143. Open settle ends and the engine requests the open check. -/
def execOpenSettleEnd (k : Nat) (s : State) : Host.Outcome State Fault Refusal :=
  .next (s.run (openSettleEnd k))

/-- OPEN_CONFIRMATION, R337. The open check reports the flag open, ending the cycle and releasing grants. -/
def execOpenConfirmation (k : Nat) (s : State) : Host.Outcome State Fault Refusal :=
  .next (s.run (openConfirmation k))

/-- OPEN_CONFIRMATION_TIMEOUT, R147. No open confirmation within 10 ms of open settle fails the cycle. -/
def execOpenConfirmationTimeout (k : Nat) (s : State) : Host.Outcome State Fault Refusal :=
  .next (s.run (openConfirmationTimeout k))

/-- FLAG_CLOSED_FAULT, R147. A flag still closed one second after open settle asserts FAULT_N. -/
def execFlagClosedFault (k : Nat) (s : State) : Host.Outcome State Fault Refusal :=
  .next (s.run (flagClosedFault k))

/-- GATHER_RESULT, R157. The engine completes the gather computation and the drift update into the staged set. -/
def execGatherResult (k : Nat) (s : State) : Host.Outcome State Fault Refusal :=
  .next (s.run (gatherResult k))

/-- LEARNED_SET_STORE, R169. A store of a learned set in the bulk store commits or fails. -/
def execLearnedSetStore (ok : Bool) (s : State) : Host.Outcome State Fault Refusal :=
  .next (s.run (learnedSetStore ok))

/-- SEAM_SAMPLE, R160. Once per second the owning fusion engine samples every seam cell for each seam pair. -/
def execSeamSample (s : State) : Host.Outcome State Fault Refusal :=
  .next (s.run seamSample)

/-- SEAM_PERIOD, R161. Each SEAM_PERIOD the sums are delivered and each region starts its seam solve. -/
def execSeamPeriod (s : State) : Host.Outcome State Fault Refusal :=
  .next (s.run seamPeriod)

/-- SOLVE_END, R163. A seam solve ends; trims are staged and NODES are sent. -/
def execSolveEnd (r : Nat) (s : State) : Host.Outcome State Fault Refusal :=
  .next (s.run (solveEnd r))

/-- PUBLICATION, R192. The owner fuses and publishes a patch after LAST of a lead-view frame arrives. -/
def execPublication (p : Nat) (s : State) : Host.Outcome State Fault Refusal :=
  .next (s.run (publication p))

/-- HOLD_PERIOD, R192. A patch without a fresh view is published held every HOLD_PERIOD. -/
def execHoldPeriod (p : Nat) (s : State) : Host.Outcome State Fault Refusal :=
  .next (s.run (holdPeriod p))

/-- HIT_RECORD, R200. A hit record is mapped to a tile and raises alarm records. -/
def execHitRecord (s : State) : Host.Outcome State Fault Refusal :=
  .next (s.run hitRecord)

/-- TILE_RECORD_SEND, R199. A tile bus sends its next record by priority, starting or ending a burst. -/
def execTileRecordSend (b : Nat) (s : State) : Host.Outcome State Fault Refusal :=
  .next (s.run (tileRecordSend b))

/-- HELD_NOTICE_REPEAT, R199. Every 10 s a held-notice with an unchanged MAP_SEQ is queued for each tile. -/
def execHeldNoticeRepeat (t : Nat) (s : State) : Host.Outcome State Fault Refusal :=
  .next (s.run (heldNoticeRepeat t))

/-- TILE_SILENT, R203. An attached tile receives no temperature record for its silence time, and a held-notice of REASON
3 follows. -/
def execTileSilent (t : Nat) (s : State) : Host.Outcome State Fault Refusal :=
  .next (s.run (tileSilent t))

/-- HEALTH_QUERY, R198. Once per HEALTH_PERIOD per tile, the device sends a health query and opens the reply window. -/
def execHealthQuery (b : Nat) (s : State) : Host.Outcome State Fault Refusal :=
  .next (s.run (healthQuery b))

/-- HEALTH_REPLY, R198. A health reply from a tile controller is received, kept and sampled by the health model. -/
def execHealthReply (b : Nat) (lead : List Nat) (codes : List Nat) (rest : List Nat) (s : State) : Host.Outcome State Fault Refusal :=
  .next (s.run (healthReply b (lead ++ codes ++ rest)))

/-- REPLY_WINDOW_CLOSE, R198. The 30 µs reply window closes; a missing reply counts NO_REPLY. -/
def execReplyWindowClose (b : Nat) (s : State) : Host.Outcome State Fault Refusal :=
  .next (s.run (replyWindowClose b))

/-- REGISTRATION_SESSION, R183. At S0 the blinking starts and the registering cores begin decoding. -/
def execRegistrationSession (s : State) : Host.Outcome State Fault Refusal :=
  .next (s.run registrationSession)

/-- REGISTRATION_END, R185. A registration session ends; the new grid is computed or REG_FAIL is set. -/
def execRegistrationEnd (s : State) : Host.Outcome State Fault Refusal :=
  .next (s.run registrationEnd)

/-- RELEASE_PHASE_END, R143. 25 ms after release begins, a shutter cycle leaves the release phase and enters open
settle, and CYC_STATE changes from 5 to 6. -/
def execReleasePhaseEnd (k : Nat) (s : State) : Host.Outcome State Fault Refusal :=
  .next (s.run (releasePhaseEnd k))

/-- SILENT_RECORD_REPEAT, R203. Every HOLD_PERIOD, for a silent tile, the attaching device repeats the temperature
record last accepted, marked held, until a record arrives. -/
def execSilentRecordRepeat (t : Nat) (s : State) : Host.Outcome State Fault Refusal :=
  .next (s.run (silentRecordRepeat t))

end Sys2Proof.Machine
end

