-- ==== Sys2Proof/Machine/RequestExec.lean ====
section
/-!
DEFINITION. Sys2Proof/Machine/RequestExec.lean: the meanings of
the KCP requests of a host (Table 2-10) and the host accesses to single parameters.
Each runs its row on the device; the queue is not touched.
-/
namespace Sys2Proof.Machine

/-- PING, R377. Returns the UID, address, WR_VER and DEV_STATE of the device; the packet engine answers it itself. -/
def execPing (r : Req) (s : State) : Host.Outcome State Fault Refusal :=
  .next (s.run (ping r))

/-- DEVICE_STATUS, R377. Returns the 24-byte device status, answered by the packet engine in every state. -/
def execDeviceStatus (r : Req) (s : State) : Host.Outcome State Fault Refusal :=
  .next (s.run (deviceStatus r))

/-- FABRIC_STATUS, R41. Returns the lane rates, cluster loads, fabric flags with their occurrence words, and
RATE_PROFILE. -/
def execFabricStatus (r : Req) (s : State) : Host.Outcome State Fault Refusal :=
  .next (s.run (fabricStatus r))

/-- FABRIC_PROFILE, R40. Applies a rate-monitor profile, writing RATE_MARGIN and RATE_WINDOW together. -/
def execFabricProfile (r : Req) (s : State) : Host.Outcome State Fault Refusal :=
  .next (s.run (fabricProfile r))

/-- CORE_STATUS, R103. Returns the link, bus and core state, frame counter, setting generation and error counters of one
core. -/
def execCoreStatus (r : Req) (s : State) : Host.Outcome State Fault Refusal :=
  .next (s.run (coreStatus r))

/-- CORE_SETTING, R93. Queues a setting profile for a core as a setting change with the next setting generation. -/
def execCoreSetting (r : Req) (s : State) : Host.Outcome State Fault Refusal :=
  .next (s.run (coreSetting r))

/-- CORE_ENABLE, R89. Enables a core after the admission checks and starts its configuring state. -/
def execCoreEnable (r : Req) (s : State) : Host.Outcome State Fault Refusal :=
  .next (s.run (coreEnable r))

/-- CORE_DISABLE, R89. CORE_ENABLE with enable 0: disables the core at its next FE, or at once when no frame is open. -/
def execCoreDisable (r : Req) (s : State) : Host.Outcome State Fault Refusal :=
  .next (s.run (coreDisable r))

/-- FRAME_STATS, R100. Returns the latest whole statistics record of a core or companion stream. -/
def execFrameStats (r : Req) (s : State) : Host.Outcome State Fault Refusal :=
  .next (s.run (frameStats r))

/-- PIPE_STATUS, R139. Returns the 16-value pipeline parameter block of a core. -/
def execPipeStatus (r : Req) (s : State) : Host.Outcome State Fault Refusal :=
  .next (s.run (pipeStatus r))

/-- PIPE_PROFILE, R138. Writes a pipeline profile's six fields to one core or to all cores and sets PIPE_PROF. -/
def execPipeProfile (r : Req) (s : State) : Host.Outcome State Fault Refusal :=
  .next (s.run (pipeProfile r))

/-- SHUTTER_PROFILE, R173. Writes a calibration profile's seven fields for every core and sets CAL_PROF. -/
def execShutterProfile (r : Req) (s : State) : Host.Outcome State Fault Refusal :=
  .next (s.run (shutterProfile r))

/-- SHUTTER_NOW, R174. Requests a shutter cycle for a core that ignores MIN_INT, AUTO_EN and SUSP. -/
def execShutterNow (r : Req) (s : State) : Host.Outcome State Fault Refusal :=
  .next (s.run (shutterNow r))

/-- SEAM_SOLVE, R174. Starts a seam solve now in the regions named by the mask. -/
def execSeamSolve (r : Req) (s : State) : Host.Outcome State Fault Refusal :=
  .next (s.run (seamSolve r))

/-- CAL_STATUS, R174. Returns the 16-value calibration block of a core. -/
def execCalStatus (r : Req) (s : State) : Host.Outcome State Fault Refusal :=
  .next (s.run (calStatus r))

/-- CAL_RELOAD, R174. Stages the stored learned set of a core or of all enabled cores and resets P to its stored value.
-/
def execCalReload (r : Req) (s : State) : Host.Outcome State Fault Refusal :=
  .next (s.run (calReload r))

/-- TILE_STATUS, R209. Returns the header and cell entries of a tile of the addressed patch. -/
def execTileStatus (r : Req) (s : State) : Host.Outcome State Fault Refusal :=
  .next (s.run (tileStatus r))

/-- PATCH_STATUS, R209. Returns the context slot header of the addressed patch. -/
def execPatchStatus (r : Req) (s : State) : Host.Outcome State Fault Refusal :=
  .next (s.run (patchStatus r))

/-- BLINK_REGISTER, R183. Schedules a registration session at S0 for the cores of the mask and blink commands on every
enabled bus. -/
def execBlinkRegister (r : Req) (s : State) : Host.Outcome State Fault Refusal :=
  .next (s.run (blinkRegister r))

/-- OUTPUT_PROFILE, R208. Writes an output profile's eight fields and sets OUT_PROF. -/
def execOutputProfile (r : Req) (s : State) : Host.Outcome State Fault Refusal :=
  .next (s.run (outputProfile r))

/-- ENUMERATE, R214. Applies the enumeration step to the receiving device, replies, and sends the token down the chain.
-/
def execEnumerate (r : Req) (s : State) : Host.Outcome State Fault Refusal :=
  .next (s.run (enumerate r))

/-- ADDRESS_SET, R217. Gives the device a new chain address unless that address is known or is 0x3FF. -/
def execAddressSet (r : Req) (s : State) : Host.Outcome State Fault Refusal :=
  .next (s.run (addressSet r))

/-- CENSUS, R257. Opens a census and sends CENSUS_GATHER to every device of the topology database. -/
def execCensus (r : Req) (s : State) : Host.Outcome State Fault Refusal :=
  .next (s.run (census r))

/-- CENSUS_READ, R257. Returns a page of entries of a kept census. -/
def execCensusRead (r : Req) (s : State) : Host.Outcome State Fault Refusal :=
  .next (s.run (censusRead r))

/-- CONFIG_STAGE, R251. Accepts one block of a configuration image into the staging area. -/
def execConfigStage (r : Req) (s : State) : Host.Outcome State Fault Refusal :=
  .next (s.run (configStage r))

/-- CONFIG_ACTIVATE, R252. Schedules activation of the complete staged generation at the instant T_A. -/
def execConfigActivate (r : Req) (s : State) : Host.Outcome State Fault Refusal :=
  .next (s.run (configActivate r))

/-- CONFIG_DISCARD, R253. Clears the staging and any scheduled activation of the device. -/
def execConfigDiscard (r : Req) (s : State) : Host.Outcome State Fault Refusal :=
  .next (s.run (configDiscard r))

/-- PLACEMENT_STATUS, R262. Returns owned and directed patch counts, neighbour entries and owned patches with epochs. -/
def execPlacementStatus (r : Req) (s : State) : Host.Outcome State Fault Refusal :=
  .next (s.run (placementStatus r))

/-- TIME_STATUS, R262. Returns system time, TIME_SRC, hops and address of the root, and the offset estimate. -/
def execTimeStatus (r : Req) (s : State) : Host.Outcome State Fault Refusal :=
  .next (s.run (timeStatus r))

/-- MEM_STATUS, R298. Returns the 92-byte memory status. -/
def execMemStatus (r : Req) (s : State) : Host.Outcome State Fault Refusal :=
  .next (s.run (memStatus r))

/-- MEM_PROFILE, R297. Applies a memory profile, including any set-point change, and sets MEM_PROF. -/
def execMemProfile (r : Req) (s : State) : Host.Outcome State Fault Refusal :=
  .next (s.run (memProfile r))

/-- CONV_SEQ_START, R325. Starts a converter sequence, or latches the start while a run is in progress. -/
def execConvSeqStart (r : Req) (s : State) : Host.Outcome State Fault Refusal :=
  .next (s.run (convSeqStart r))

/-- CONV_STATUS, R325. Takes DATA of the modulator and returns its control words, data, tag, flags and channel store. -/
def execConvStatus (r : Req) (s : State) : Host.Outcome State Fault Refusal :=
  .next (s.run (convStatus r))

/-- CONV_CALIBRATE_ZERO, R318. Calibration step 0: eight conversions of CAL_CH whose mean raw value is kept as the zero.
-/
def execConvCalibrateZero (r : Req) (s : State) : Host.Outcome State Fault Refusal :=
  .next (s.run (convCalibrateZero r))

/-- CONV_CALIBRATE_FULL_SCALE, R318. Calibration step 1: eight conversions of the full-scale input and computation of
OFS and GAIN_C. -/
def execConvCalibrateFullScale (r : Req) (s : State) : Host.Outcome State Fault Refusal :=
  .next (s.run (convCalibrateFullScale r))

/-- CONV_CALIBRATE_FACTORY, R318. Calibration step 2: restores the factory coefficients of the modulator and GAIN. -/
def execConvCalibrateFactory (r : Req) (s : State) : Host.Outcome State Fault Refusal :=
  .next (s.run (convCalibrateFactory r))

/-- CONV_CALIBRATE_ABANDON, R318. Calibration step 3: discards a kept zero. -/
def execConvCalibrateAbandon (r : Req) (s : State) : Host.Outcome State Fault Refusal :=
  .next (s.run (convCalibrateAbandon r))

/-- SHUTTER_DRIVE_STATUS, R343. Returns the channel's eight parameter words, its switch word and its partner's word 0.
-/
def execShutterDriveStatus (r : Req) (s : State) : Host.Outcome State Fault Refusal :=
  .next (s.run (shutterDriveStatus r))

/-- SHUTTER_TEST_DIAGNOSE, R336. SHUTTER_TEST action 0: starts an off-state diagnosis of one channel or of every idle
enabled channel. -/
def execShutterTestDiagnose (r : Req) (s : State) : Host.Outcome State Fault Refusal :=
  .next (s.run (shutterTestDiagnose r))

/-- SHUTTER_TEST_CLOSE, R330. SHUTTER_TEST action 1: a host close request, checked by Table 10-1, which may wait for the
partner. -/
def execShutterTestClose (r : Req) (s : State) : Host.Outcome State Fault Refusal :=
  .next (s.run (shutterTestClose r))

/-- SHUTTER_TEST_RELEASE, R343. SHUTTER_TEST action 2: releases a host-owned channel or withdraws its waiting request.
-/
def execShutterTestRelease (r : Req) (s : State) : Host.Outcome State Fault Refusal :=
  .next (s.run (shutterTestRelease r))

/-- SHUTTER_TEST_CLEAR, R338. SHUTTER_TEST action 3: diagnoses and, when every check passes, clears the latched faults.
-/
def execShutterTestClear (r : Req) (s : State) : Host.Outcome State Fault Refusal :=
  .next (s.run (shutterTestClear r))

/-- SHUTTER_TEST_APPLY_PROFILE, R343. SHUTTER_TEST action 4: writes a drive profile's six fields to one or all idle
channels and sets DRV_PROF. -/
def execShutterTestApplyProfile (r : Req) (s : State) : Host.Outcome State Fault Refusal :=
  .next (s.run (shutterTestApplyProfile r))

/-- NV_COMMIT, R355. Forces a commit of the write buffer, with completion by event once the records are durable. -/
def execNvCommit (r : Req) (s : State) : Host.Outcome State Fault Refusal :=
  .next (s.run (nvCommit r))

/-- NV_STATUS, R367. Returns the 76-byte store status. -/
def execNvStatus (r : Req) (s : State) : Host.Outcome State Fault Refusal :=
  .next (s.run (nvStatus r))

/-- DOZE, R392. Starts Doze entry unless it is refused. -/
def execDoze (r : Req) (s : State) : Host.Outcome State Fault Refusal :=
  .next (s.run (doze r))

/-- WAKE, R394. Command that starts a wake from Doze. -/
def execWake (r : Req) (s : State) : Host.Outcome State Fault Refusal :=
  .next (s.run (wake r))

/-- WORKROOM_RESTART, R387. Command that restarts Workroom with cause 4. -/
def execWorkroomRestart (r : Req) (s : State) : Host.Outcome State Fault Refusal :=
  .next (s.run (workroomRestart r))

/-- EVENT_READ, R414. Returns event records from the ring, from an index. -/
def execEventRead (r : Req) (s : State) : Host.Outcome State Fault Refusal :=
  .next (s.run (eventRead r))

/-- EVENT_ROUTE, R414. Writes the route, and optionally the severity, of one source or of all sources. -/
def execEventRoute (r : Req) (s : State) : Host.Outcome State Fault Refusal :=
  .next (s.run (eventRoute r))

/-- LOG_READ, R414. Returns log records, from a log index. -/
def execLogRead (r : Req) (s : State) : Host.Outcome State Fault Refusal :=
  .next (s.run (logRead r))

/-- HEALTH_STATUS, R415. Returns the health summary of the device, a core, a group of ports or a bus. -/
def execHealthStatus (r : Req) (s : State) : Host.Outcome State Fault Refusal :=
  .next (s.run (healthStatus r))

/-- PRM_READ, R66. Returns the values of a list of parameter IDs. -/
def execPrmRead (r : Req) (s : State) : Host.Outcome State Fault Refusal :=
  .next (s.run (prmRead r))

/-- PRM_WRITE, R66. Validates every entry, then writes a list of parameter values in order. -/
def execPrmWrite (r : Req) (s : State) : Host.Outcome State Fault Refusal :=
  .next (s.run (prmWrite r))

/-- PRM_BULK_READ, R66. Returns the values of consecutive indices of one group. -/
def execPrmBulkRead (r : Req) (s : State) : Host.Outcome State Fault Refusal :=
  .next (s.run (prmBulkRead r))

/-- PRM_BULK_WRITE, R66. Writes values to consecutive indices of one group, as PRM_WRITE does. -/
def execPrmBulkWrite (r : Req) (s : State) : Host.Outcome State Fault Refusal :=
  .next (s.run (prmBulkWrite r))

/-- PRM_MODIFY, R66. Read-modify-write of one parameter under a mask as one grant of the arbiter, returning the old and
new values. -/
def execPrmModify (r : Req) (s : State) : Host.Outcome State Fault Refusal :=
  .next (s.run (prmModify r))

/-- TAP_SET, R137. Writes a tap's fields and enables or disables the tap. -/
def execTapSet (r : Req) (s : State) : Host.Outcome State Fault Refusal :=
  .next (s.run (tapSet r))

/-- TAP_STREAM, R136. Makes the uplink streamer the consumer of a tap ring, or redirects it. -/
def execTapStream (r : Req) (s : State) : Host.Outcome State Fault Refusal :=
  .next (s.run (tapStream r))

/-- TAP_STREAM_STOP, R136. TAP_STREAM with uplink 0xFF: stops the stream of a tap. -/
def execTapStreamStop (r : Req) (s : State) : Host.Outcome State Fault Refusal :=
  .next (s.run (tapStreamStop r))

/-- TABLE_READ, R68. Returns a range of bytes of a numbered table. -/
def execTableRead (r : Req) (s : State) : Host.Outcome State Fault Refusal :=
  .next (s.run (tableRead r))

/-- TABLE_WRITE, R68. Writes a range of bytes of a numbered table, with completion by event when in force. -/
def execTableWrite (r : Req) (s : State) : Host.Outcome State Fault Refusal :=
  .next (s.run (tableWrite r))

/-- MARGIN_SCAN, R288. Starts a margin scan of one type on one channel's byte lanes. -/
def execMarginScan (r : Req) (s : State) : Host.Outcome State Fault Refusal :=
  .next (s.run (marginScan r))

/-- MARGIN_ABORT, R289. Stops the scan of a channel at its next step. -/
def execMarginAbort (r : Req) (s : State) : Host.Outcome State Fault Refusal :=
  .next (s.run (marginAbort r))

/-- KEY_STATUS, R379. Returns the 16 slot entries and the fuse word. -/
def execKeyStatus (r : Req) (s : State) : Host.Outcome State Fault Refusal :=
  .next (s.run (keyStatus r))

/-- KEY_ROTATE, R380. Installs or empties a key slot from a wrapped key, as an immediate twin record. -/
def execKeyRotate (r : Req) (s : State) : Host.Outcome State Fault Refusal :=
  .next (s.run (keyRotate r))

/-- FW_BEGIN, R383. Opens an update session and allocates a staging buffer. -/
def execFwBegin (r : Req) (s : State) : Host.Outcome State Fault Refusal :=
  .next (s.run (fwBegin r))

/-- FW_DATA, R383. Writes data into the update staging buffer. -/
def execFwData (r : Req) (s : State) : Host.Outcome State Fault Refusal :=
  .next (s.run (fwData r))

/-- FW_COMMIT, R383. Checks the staged image and programs it into the spare bank, or commits a patch. -/
def execFwCommit (r : Req) (s : State) : Host.Outcome State Fault Refusal :=
  .next (s.run (fwCommit r))

/-- FW_SELECT_TRIAL, R384. FW_SELECT with CONFIRM 0: starts a trial of a bank that verifies. -/
def execFwSelectTrial (r : Req) (s : State) : Host.Outcome State Fault Refusal :=
  .next (s.run (fwSelectTrial r))

/-- FW_SELECT_CONFIRM, R384. FW_SELECT with CONFIRM 1: confirms the running trial and burns WR_SVN and REVOKE. -/
def execFwSelectConfirm (r : Req) (s : State) : Host.Outcome State Fault Refusal :=
  .next (s.run (fwSelectConfirm r))

/-- DEBUG_CHALLENGE, R391. DEBUG_UNLOCK without a response: returns a new 48-byte challenge. -/
def execDebugChallenge (r : Req) (s : State) : Host.Outcome State Fault Refusal :=
  .next (s.run (debugChallenge r))

/-- DEBUG_UNLOCK, R391. DEBUG_UNLOCK with a response: checks it against OWNER_HASH and grants the unlock level. -/
def execDebugUnlock (r : Req) (s : State) : Host.Outcome State Fault Refusal :=
  .next (s.run (debugUnlock r))

/-- AUTH_SET, R381. Writes AUTH_RELAX as an immediate twin record. -/
def execAuthSet (r : Req) (s : State) : Host.Outcome State Fault Refusal :=
  .next (s.run (authSet r))

/-- PARAMETER_WRITE, R3. Host write of a parameter that has no behaviour of its own, including clears of W1C and RWS
flags and counter writes. -/
def execParameterWrite (r : Req) (a : Nat) (v : Nat) (s : State) : Host.Outcome State Fault Refusal :=
  .next (s.run (parameterWrite r a v))

/-- SEQ_GO, R314. A write of 1 to SEQ_GO starts a sequence run, or latches the start once. -/
def execSeqGo (r : Req) (m : Nat) (s : State) : Host.Outcome State Fault Refusal :=
  .next (s.run (seqGoWrite r m))

/-- INJ_GO, R316. A write of 1 to INJ_GO queues a host injected conversion, which preempts a sequence. -/
def execInjGo (r : Req) (ch : Nat) (s : State) : Host.Outcome State Fault Refusal :=
  .next (s.run (injGoWrite r ch))

/-- TEST_GO, R129. A write of 1 to TEST_GO starts an alarm self-test through lane TEST_LANE. -/
def execTestGo (r : Req) (lane : Nat) (s : State) : Host.Outcome State Fault Refusal :=
  .next (s.run (testGoWrite r lane))

/-- DIRECT_DATA, R99. A write of DIRECT_DATA queues a one-write setting change and sets SET_PROFILE to custom. -/
def execDirectData (r : Req) (v : Nat) (s : State) : Host.Outcome State Fault Refusal :=
  .next (s.run (directDataWrite r v))

/-- DATA, R311. A read of DATAm takes the result it holds and latches TAGm. -/
def execData (r : Req) (m : Nat) (s : State) : Host.Outcome State Fault Refusal :=
  .next (s.run (dataRead r m))

/-- TIME_LO, R263. A read of TIME_LO returns system time bits [31:0] and latches TIME_HI. -/
def execTimeLo (r : Req) (s : State) : Host.Outcome State Fault Refusal :=
  .next (s.run (timeLoRead r))

/-- FSP_SEL, R285. A write of FSP_SEL requests a set-point change of all eight channels. -/
def execFspSel (r : Req) (f : Nat) (s : State) : Host.Outcome State Fault Refusal :=
  .next (s.run (fspSelWrite r f))

/-- UNALLOCATED_OPCODE, R2. A request whose opcode is not allocated in the opcode table is answered ST_BADOPCODE and has
no other effect. -/
def execUnallocatedOpcode (op : Nat) (r : Req) (s : State) : Host.Outcome State Fault Refusal :=
  .next (s.run (unallocatedOpcode op r))

end Sys2Proof.Machine
end

