-- ==== Sys2Proof/Machine/SensorExec.lean ====
section
/-!
DEFINITION. Sys2Proof/Machine/SensorExec.lean: the meanings of
sensor ingest, the fabric and the pixel lanes (chapters 1, 3 and 4).
Each runs its row on the device; the queue is not touched.
-/
namespace Sys2Proof.Machine

/-- FRAME_START, R81. An FS packet opens a frame, stamps CAPTURE and makes the frame start of every per-frame action. -/
def execFrameStart (l : Nat) (vc : Nat) (fn : Nat) (h : Hdr) (s : State) : Host.Outcome State Fault Refusal :=
  .next (s.run (frameStart l vc fn h))

/-- FRAME_END, R78. An FE packet closes the open frame, pads empty positions, and begins pending setting writes. -/
def execFrameEnd (l : Nat) (vc : Nat) (n : Nat) (h : Hdr) (s : State) : Host.Outcome State Fault Refusal :=
  .next (s.run (frameEnd l vc n h))

/-- LINE_START, R77. An LS packet gives the position of the next line when LINE_NUM is 1. -/
def execLineStart (l : Nat) (vc : Nat) (n : Nat) (h : Hdr) (s : State) : Host.Outcome State Fault Refusal :=
  .next (s.run (lineStart l vc n h))

/-- LINE_END, R74. An LE packet is received and ignored. -/
def execLineEnd (l : Nat) (vc : Nat) (h : Hdr) (s : State) : Host.Outcome State Fault Refusal :=
  .next (s.run (lineEnd l vc h))

/-- IMAGE_LINE, R77. An image line is placed, padded or trimmed, and written to a line buffer. -/
def execImageLine (l : Nat) (vc : Nat) (dt : Nat) (payload : List Byte) (crcOk : Bool) (h : Hdr) (s : State) :
    Host.Outcome State Fault Refusal :=
  .next (s.run (imageLine l vc dt payload crcOk h))

/-- TELEMETRY, R83. An embedded or user-defined packet is kept and its telemetry fields are read. -/
def execTelemetry (l : Nat) (vc : Nat) (dt : Nat) (payload : List Byte) (crcOk : Bool) (h : Hdr) (s : State) :
    Host.Outcome State Fault Refusal :=
  .next (s.run (telemetry l vc dt payload crcOk h))

/-- GENERIC_SHORT_PACKET, R74. A generic short packet or any unused data type is discarded and counted. -/
def execGenericShortPacket (l : Nat) (vc : Nat) (h : Hdr) (s : State) : Host.Outcome State Fault Refusal :=
  .next (s.run (genericPacket l vc h))

/-- FRAME_TIMEOUT, R78. No packet for four frame periods closes the frame NO_FE and stalls the core. -/
def execFrameTimeout (strm : Nat) (s : State) : Host.Outcome State Fault Refusal :=
  .next (s.run (frameTimeout strm))

/-- CORE_WRITE, R92. A write on a sensor control bus completes or fails, and the next write or retry follows. -/
def execCoreWrite (b : Nat) (e : WriteEnd) (s : State) : Host.Outcome State Fault Refusal :=
  .next (s.run (coreWrite b e))

/-- LANE_GRANT, R107. A free lane takes the oldest ready pass B, or else a pass A under R16. -/
def execLaneGrant (lane : Nat) (s : State) : Host.Outcome State Fault Refusal :=
  .next (s.run (laneGrant lane))

/-- PASS_A, R105. A lane completes stages 1 to 4 of a line into the corrected-line window. -/
def execPassA (lane : Nat) (errs : List BlockErr) (s : State) : Host.Outcome State Fault Refusal :=
  .next (s.run (passA lane errs))

/-- PASS_B, R109. A lane completes replacement and stages 5 to 8 of a line and hands off its results. -/
def execPassB (lane : Nat) (s : State) : Host.Outcome State Fault Refusal :=
  .next (s.run (passB lane))

/-- RECORD_REPAIR, R115. The calibration engine writes a failed record block whole from the learned set and factory
record. -/
def execRecordRepair (ok : Bool) (s : State) : Host.Outcome State Fault Refusal :=
  .next (s.run (recordRepair ok))

/-- ALARM_HOLD, R127. ALARM_HOLD passes with no source standing, and ALARM_N is released. -/
def execAlarmHold (s : State) : Host.Outcome State Fault Refusal :=
  .next (s.run alarmHold)

/-- SELFTEST, R129. An alarm self-test ends and TEST_OK records whether the I/O die saw it. -/
def execSelftest (seen : Bool) (s : State) : Host.Outcome State Fault Refusal :=
  .next (s.run (selfTest seen))

/-- ALARM_LINE_FAULT, R129. The two wires of an alarm or frame-sync line agree for more than 20 ns and the line is
faulted. -/
def execAlarmLineFault (bridge : Nat) (sync : Bool) (s : State) : Host.Outcome State Fault Refusal :=
  .next (s.run (alarmLineFault bridge sync))

/-- TAP_DATAGRAM, R136. The uplink streamer sends the next ring data of a tap in a UDP datagram. -/
def execTapDatagram (t : Nat) (s : State) : Host.Outcome State Fault Refusal :=
  .next (s.run (tapDatagram t))

/-- RATE_WINDOW, R37. A monitor window ends; the region reports its lane rate and the rate-margin event is raised or re-
armed. -/
def execRateWindow (r : Nat) (rate : Nat) (s : State) : Host.Outcome State Fault Refusal :=
  .next (s.run (rateWindow r rate))

/-- BRIDGE_TRANSFER_ERROR, R21. A bridge transfer fails its CRC and is replayed, or after three replays the bridge is
failed. -/
def execBridgeTransferError (x : BridgeFault) (s : State) : Host.Outcome State Fault Refusal :=
  .next (s.run (bridgeTransferError x.bridge x.again))

/-- CSI_LINK_UP, R103. A CSI-2 receiver detects the clock lane and brings its lanes into normal operation, or loses
them, which changes LINK_UP of the link. -/
def execCsiLinkUp (l : Nat) (up : Bool) (s : State) : Host.Outcome State Fault Refusal :=
  .next (s.run (csiLinkUp l up))

end Sys2Proof.Machine
end

