-- ==== Sys2Proof/Machine/SystemExec.lean ====
section
/-!
DEFINITION. Sys2Proof/Machine/SystemExec.lean: the meanings of
the store, reset and start-up, trust, Doze, events and health (chapters 11 to 14).
Each runs its row on the device; the queue is not touched.
-/
namespace Sys2Proof.Machine

/-- IDLE_COMMIT, R354. A commit of the write buffer begins on idle time, age or fill. -/
def execIdleCommit (s : State) : Host.Outcome State Fault Refusal :=
  .next (s.run idleCommit)

/-- COMMIT_END, R355. A batch commit ends with its closing record valid. -/
def execCommitEnd (p : Prog) (s : State) : Host.Outcome State Fault Refusal :=
  .next (s.run (commitEnd p))

/-- IMMEDIATE_RECORD, R356. An immediate record is programmed and becomes durable. -/
def execImmediateRecord (p : Prog) (s : State) : Host.Outcome State Fault Refusal :=
  .next (s.run (immediateRecord p))

/-- COMPACTION, R357. An area with fewer than two erased sectors is compacted. -/
def execCompaction (a : Nat) (s : State) : Host.Outcome State Fault Refusal :=
  .next (s.run (compaction a))

/-- REFRESH_SCAN, R361. Every REFRESH_DAYS a refresh scan rewrites weak records. -/
def execRefreshScan (weak : List Nat) (bulk : List Nat) (prog : Nat) (s : State) : Host.Outcome State Fault Refusal :=
  .next (s.run (refreshScan weak bulk prog))

/-- RECALL_END, R362. Recall of the non-volatile store ends and NV_STATE becomes 1. -/
def execRecallEnd (part : Option (Nat × Nat × Bool)) (s : State) : Host.Outcome State Fault Refusal :=
  .next (s.run (recallEnd part))

/-- BULK_LOST, R348. The bulk store stops answering and is treated as lost. -/
def execBulkLost (s : State) : Host.Outcome State Fault Refusal :=
  .next (s.run bulkLost)

/-- BULK_RECORD_WRITE, R364. A bulk record's data is programmed, verified and committed by its index record. -/
def execBulkRecordWrite (p : Prog) (s : State) : Host.Outcome State Fault Refusal :=
  .next (s.run (bulkRecordWrite p))

/-- POWER_ON, R372. Power-on resets the device. -/
def execPowerOn (c : Cut) (s : State) : Host.Outcome State Fault Refusal :=
  .next (s.run (powerOn c))

/-- RESET_N, R372. RESET_N low for 1.0 µs or longer resets the device. -/
def execResetN (low : Nat) (c : Cut) (s : State) : Host.Outcome State Fault Refusal :=
  .next (s.run (resetN low c))

/-- SUPERVISOR_TRIP, R427. A rail or the junction temperature leaves its limits and the supervisor resets the device. -/
def execSupervisorTrip (rail : Nat) (isOver : Bool) (c : Cut) (s : State) : Host.Outcome State Fault Refusal :=
  .next (s.run (supervisorTrip rail isOver c))

/-- THIMBLE_FATAL, R372. A Thimble fatal error resets the device. -/
def execThimbleFatal (c : Cut) (s : State) : Host.Outcome State Fault Refusal :=
  .next (s.run (thimbleFatal c))

/-- RESET_RELEASE, R429. The device leaves reset and start-up begins. -/
def execResetRelease (fuseOk : Bool) (s : State) : Host.Outcome State Fault Refusal :=
  .next (s.run (resetRelease fuseOk))

/-- MEMORY_TEST_END, R374. The start-up memory test ends and failing ranks are retired. -/
def execMemoryTestEnd (failed : List Nat) (s : State) : Host.Outcome State Fault Refusal :=
  .next (s.run (memoryTestEnd failed))

/-- IMAGE_VERIFIED, R375. Thimble verifies the selected Workroom image, tries the other bank, or enters recovery. -/
def execImageVerified (s : State) : Host.Outcome State Fault Refusal :=
  .next (s.run imageVerified)

/-- STARTED, R373. Workroom is running after start-up; uplinks are brought up. -/
def execStarted (s : State) : Host.Outcome State Fault Refusal :=
  .next (s.run started)

/-- CONFIG_RECALLED, R373. The active configuration is recalled and in force. -/
def execConfigRecalled (s : State) : Host.Outcome State Fault Refusal :=
  .next (s.run configRecalled)

/-- WATCHDOG, R387. A Workroom core misses its kick for 50 ms and Workroom restarts with cause 1. -/
def execWatchdog (s : State) : Host.Outcome State Fault Refusal :=
  .next (s.run watchdog)

/-- FW_VIOLATION, R371. A Workroom access to a protected resource is refused and Workroom restarts with cause 2. -/
def execFwViolation (addr : Nat) (s : State) : Host.Outcome State Fault Refusal :=
  .next (s.run (fwViolation addr))

/-- FATAL_EXCEPTION, R387. A Workroom core reports a fatal exception and Workroom restarts with cause 3. -/
def execFatalException (s : State) : Host.Outcome State Fault Refusal :=
  .next (s.run fatalException)

/-- WR_RESTART, R388. A Workroom restart completes and requests are served again. -/
def execWrRestart (s : State) : Host.Outcome State Fault Refusal :=
  .next (s.run wrRestart)

/-- TRIAL_TIME, R384. No confirm within TRIAL_TIME reverts the trial to the fallback bank. -/
def execTrialTime (s : State) : Host.Outcome State Fault Refusal :=
  .next (s.run trialTime)

/-- SESSION_TIMEOUT, R383. An update session closes after 600 s without FW_DATA. -/
def execSessionTimeout (s : State) : Host.Outcome State Fault Refusal :=
  .next (s.run sessionTimeout)

/-- CHALLENGE_EXPIRY, R391. A debug challenge expires after 60 s. -/
def execChallengeExpiry (s : State) : Host.Outcome State Fault Refusal :=
  .next (s.run challengeExpiry)

/-- DOZE_ENTRY, R392. Doze entry completes and the device is in Doze. -/
def execDozeEntry (p : Prog) (s : State) : Host.Outcome State Fault Refusal :=
  .next (s.run (dozeEntry p))

/-- WAKE_PIN, R394. A rising edge on WAKE starts a wake. -/
def execWakePin (level : Bool) (s : State) : Host.Outcome State Fault Refusal :=
  .next (s.run (wakePin level))

/-- WAKE_COMPLETE, R394. A wake completes and DEV_STATE becomes 1. -/
def execWakeComplete (s : State) : Host.Outcome State Fault Refusal :=
  .next (s.run wakeComplete)

/-- EVT_HOLDOFF, R399. The holdoff of a source ends and a closing KIND 1 record is written. -/
def execEvtHoldoff (src : Nat) (s : State) : Host.Outcome State Fault Refusal :=
  .next (s.run (evtHoldoff src))

/-- EVENT_DELIVERY, R404. A destination sends its next queued event record. -/
def execEventDelivery (dst : Nat) (s : State) : Host.Outcome State Fault Refusal :=
  .next (s.run (eventDelivery dst))

/-- LOG_WRITE, R408. The log writer programs the next queued log record. -/
def execLogWrite (p : Prog) (s : State) : Host.Outcome State Fault Refusal :=
  .next (s.run (logWrite p))

/-- SUPPLY_GRADE, R410. Every hour the history is appended and each tile supply is graded. -/
def execSupplyGrade (s : State) : Host.Outcome State Fault Refusal :=
  .next (s.run supplyHour)

/-- BASELINE_STORE, R409. Daily, the supply baselines are stored. -/
def execBaselineStore (s : State) : Host.Outcome State Fault Refusal :=
  .next (s.run baselineStore)

/-- LINK_HEALTH, R411. Every minute each enabled port is graded. -/
def execLinkHealth (s : State) : Host.Outcome State Fault Refusal :=
  .next (s.run linkHealth)

/-- CORE_HEALTH, R412. Every minute each enabled core is graded. -/
def execCoreHealth (s : State) : Host.Outcome State Fault Refusal :=
  .next (s.run coreHealth)

/-- TJ_HISTOGRAM, R413. Every power-on hour a bin of the Tj histogram counts the hour. -/
def execTjHistogram (tj : Nat) (s : State) : Host.Outcome State Fault Refusal :=
  .next (s.run (tjHistogram tj))

/-- POWER_ON_HOURS, R359. Each full hour from RESET_N release increments counter 64. -/
def execPowerOnHours (s : State) : Host.Outcome State Fault Refusal :=
  .next (s.run powerOnHours)

/-- UPLINK_LINK_UP, R71. An uplink's PCS gains or loses block lock and link, which changes LINK_UP of the uplink and its
readiness to answer. -/
def execUplinkLinkUp (u : Nat) (up : Bool) (s : State) : Host.Outcome State Fault Refusal :=
  .next (s.run (uplinkLinkUp u up))

/-- UL_MODABS, R440. The UL_MODABS input of an uplink changes as an SFP+ module is removed or inserted, which decides
whether the uplink is brought up. -/
def execUlModabs (u : Nat) (high : Bool) (s : State) : Host.Outcome State Fault Refusal :=
  .next (s.run (ulModabs u high))

end Sys2Proof.Machine
end

