-- ==== Sys2Proof/Machine/TransportExec.lean ====
section
/-!
DEFINITION. Sys2Proof/Machine/TransportExec.lean: the meanings of
packets, relay, chain, uplink frames and the service port (chapters 2, 7 and 12).
Each runs its row on the device; the queue is not touched.
-/
namespace Sys2Proof.Machine

/-- BAD_PACKET, R44. A KCP packet whose CRC or length fails is discarded without reply and sets RX_CRC_ERR. -/
def execBadPacket (s : State) : Host.Outcome State Fault Refusal :=
  .next (s.run badPacket)

/-- UNMATCHED_REPLY, R46. A packet with RSP set that matches no outstanding request is discarded and sets REPLY_LATE. -/
def execUnmatchedReply (s : State) : Host.Outcome State Fault Refusal :=
  .next (s.run unmatchedReply)

/-- KCP_FORWARD, R53. A request not addressed to the receiving device is passed down the chain, relayed over the mesh,
or answered NO_ROUTE. -/
def execKcpForward (op : Nat) (r : Req) (s : State) : Host.Outcome State Fault Refusal :=
  .next (s.run (kcpForward op r))

/-- RELAY, R228. A relay frame reaches its destination, which begins its requests in RSEQ order, or passes on a reply.
-/
def execRelay (h : SeamHdr) (e : Envelope) (m : Relayed) (s : State) : Host.Outcome State Fault Refusal :=
  .next (s.run (relay h e m))

/-- RELAY_REPLY, R54. A relayed reply reaches the ingress device and is sent on the transport the request arrived on. -/
def execRelayReply (hid : Nat) (x : RelayAnswer) (s : State) : Host.Outcome State Fault Refusal :=
  .next (s.run (relayReply hid x))

/-- RELAY_TIMEOUT, R54. No reply within RELAY_TIMEOUT: the ingress device answers ST_FAULT, detail RELAY_LOST. -/
def execRelayTimeout (s : State) : Host.Outcome State Fault Refusal :=
  .next (s.run relayTimeout)

/-- RELAY_GAP_TIMEOUT, R228. The destination stops waiting for a missing RSEQ after RELAY_TIMEOUT and goes on. -/
def execRelayGapTimeout (ingress : Nat) (hid : Nat) (s : State) : Host.Outcome State Fault Refusal :=
  .next (s.run (relayGapTimeout ingress hid))

/-- DUPLICATE_CACHE_EXPIRY, R57. A duplicate cache entry expires 2 s after its reply was sent. -/
def execDuplicateCacheExpiry (s : State) : Host.Outcome State Fault Refusal :=
  .next (s.run duplicateCacheExpiry)

/-- BROADCAST_KCP, R227. A flooded broadcast KCP packet is executed once per SRC and FSEQ and passed on. -/
def execBroadcastKcp (h : SeamHdr) (op : Nat) (r : Req) (s : State) : Host.Outcome State Fault Refusal :=
  .next (s.run (broadcastKcp h op r))

/-- ARP_REQUEST, R52. An ARP request on an uplink is answered. -/
def execArpRequest (u : Nat) (vlan : Option Nat) (mac : Nat) (ip : Nat) (target : Nat) (s : State) :
    Host.Outcome State Fault Refusal :=
  .next (s.run (arpRequest u vlan mac ip target))

/-- ICMP_ECHO, R52. An ICMPv4 or ICMPv6 echo request on an uplink is answered. -/
def execIcmpEcho (u : Nat) (vlan : Option Nat) (v6 : Bool) (src : Nat) (dst : Nat) (body : List Byte) (s : State) :
    Host.Outcome State Fault Refusal :=
  .next (s.run (icmpEcho u vlan v6 src dst body))

/-- NEIGHBOUR_SOLICITATION, R52. An IPv6 neighbour solicitation on an uplink is answered. -/
def execNeighbourSolicitation (u : Nat) (vlan : Option Nat) (src : Nat) (target : Nat) (s : State) :
    Host.Outcome State Fault Refusal :=
  .next (s.run (neighbourSolicitation u vlan src target))

/-- PAUSE_FRAME, R51. A received PAUSE frame stops transmission on the uplink for the quanta it carries. -/
def execPauseFrame (u : Nat) (quanta : Nat) (s : State) : Host.Outcome State Fault Refusal :=
  .next (s.run (pauseFrame u quanta))

/-- PAUSE_END, R51. The PAUSE quanta expire and transmission on the uplink resumes. -/
def execPauseEnd (u : Nat) (s : State) : Host.Outcome State Fault Refusal :=
  .next (s.run (pauseEnd u))

/-- UNSERVED_FRAME, R51. A frame that the uplink does not serve, or that is damaged, is discarded and counted in
UL_RX_DROP. -/
def execUnservedFrame (u : Nat) (damaged : Bool) (s : State) : Host.Outcome State Fault Refusal :=
  .next (s.run (unservedFrame u damaged))

/-- CHAIN_FRAME, R213. A KCP frame on a chain port that is not for this device is passed on cut-through. -/
def execChainFrame (fromUp : Bool) (frame : List Byte) (aborted : Bool) (room : Bool) (passed : Bool) (s : State) :
    Host.Outcome State Fault Refusal :=
  .next (s.run (chainFrame fromUp frame aborted room passed))

/-- SVC_SEND, R390. Service-port OP 0x01 delivers a frame to the device. -/
def execSvcSend (frame : List Byte) (space : Bool) (s : State) : Host.Outcome State Fault Refusal :=
  .next (s.run (svcSend frame space))

/-- SVC_RECEIVE, R390. Service-port OP 0x02 returns the oldest waiting frame. -/
def execSvcReceive (s : State) : Host.Outcome State Fault Refusal :=
  .next (s.run svcReceive)

/-- SVC_STATUS, R390. Service-port OP 0x03 returns the status byte. -/
def execSvcStatus (space : Bool) (s : State) : Host.Outcome State Fault Refusal :=
  .next (s.run (svcStatus space))

/-- HOLD, R376. A HOLD frame within 20 ms of RESET_N release puts the device in recovery. -/
def execHold (s : State) : Host.Outcome State Fault Refusal :=
  .next (s.run holdFrame)

/-- DEBUG_REQUEST, R390. A debug request frame is served at the unlocked level and answered by a debug reply. -/
def execDebugRequest (m : List Byte) (s : State) : Host.Outcome State Fault Refusal :=
  .next (s.run (debugRequest m))

end Sys2Proof.Machine
end

