-- ==== Sys2Proof/Machine/Dispatch.lean ====
section
/-!
DEFINITION. Sys2Proof/Machine/Dispatch.lean: one arm for each command, each a direct call of its meaning.
-/
namespace Sys2Proof.Machine

def exec (i : Instr) (s : State) : Host.Outcome State Fault Refusal :=
  match i with
  | .ping r => Sys2Proof.Machine.execPing r s
  | .deviceStatus r => Sys2Proof.Machine.execDeviceStatus r s
  | .fabricStatus r => Sys2Proof.Machine.execFabricStatus r s
  | .fabricProfile r => Sys2Proof.Machine.execFabricProfile r s
  | .coreStatus r => Sys2Proof.Machine.execCoreStatus r s
  | .coreSetting r => Sys2Proof.Machine.execCoreSetting r s
  | .coreEnable r => Sys2Proof.Machine.execCoreEnable r s
  | .coreDisable r => Sys2Proof.Machine.execCoreDisable r s
  | .frameStats r => Sys2Proof.Machine.execFrameStats r s
  | .pipeStatus r => Sys2Proof.Machine.execPipeStatus r s
  | .pipeProfile r => Sys2Proof.Machine.execPipeProfile r s
  | .shutterProfile r => Sys2Proof.Machine.execShutterProfile r s
  | .shutterNow r => Sys2Proof.Machine.execShutterNow r s
  | .seamSolve r => Sys2Proof.Machine.execSeamSolve r s
  | .calStatus r => Sys2Proof.Machine.execCalStatus r s
  | .calReload r => Sys2Proof.Machine.execCalReload r s
  | .tileStatus r => Sys2Proof.Machine.execTileStatus r s
  | .patchStatus r => Sys2Proof.Machine.execPatchStatus r s
  | .blinkRegister r => Sys2Proof.Machine.execBlinkRegister r s
  | .outputProfile r => Sys2Proof.Machine.execOutputProfile r s
  | .enumerate r => Sys2Proof.Machine.execEnumerate r s
  | .addressSet r => Sys2Proof.Machine.execAddressSet r s
  | .census r => Sys2Proof.Machine.execCensus r s
  | .censusRead r => Sys2Proof.Machine.execCensusRead r s
  | .configStage r => Sys2Proof.Machine.execConfigStage r s
  | .configActivate r => Sys2Proof.Machine.execConfigActivate r s
  | .configDiscard r => Sys2Proof.Machine.execConfigDiscard r s
  | .placementStatus r => Sys2Proof.Machine.execPlacementStatus r s
  | .timeStatus r => Sys2Proof.Machine.execTimeStatus r s
  | .memStatus r => Sys2Proof.Machine.execMemStatus r s
  | .memProfile r => Sys2Proof.Machine.execMemProfile r s
  | .convSeqStart r => Sys2Proof.Machine.execConvSeqStart r s
  | .convStatus r => Sys2Proof.Machine.execConvStatus r s
  | .convCalibrateZero r => Sys2Proof.Machine.execConvCalibrateZero r s
  | .convCalibrateFullScale r => Sys2Proof.Machine.execConvCalibrateFullScale r s
  | .convCalibrateFactory r => Sys2Proof.Machine.execConvCalibrateFactory r s
  | .convCalibrateAbandon r => Sys2Proof.Machine.execConvCalibrateAbandon r s
  | .shutterDriveStatus r => Sys2Proof.Machine.execShutterDriveStatus r s
  | .shutterTestDiagnose r => Sys2Proof.Machine.execShutterTestDiagnose r s
  | .shutterTestClose r => Sys2Proof.Machine.execShutterTestClose r s
  | .shutterTestRelease r => Sys2Proof.Machine.execShutterTestRelease r s
  | .shutterTestClear r => Sys2Proof.Machine.execShutterTestClear r s
  | .shutterTestApplyProfile r => Sys2Proof.Machine.execShutterTestApplyProfile r s
  | .nvCommit r => Sys2Proof.Machine.execNvCommit r s
  | .nvStatus r => Sys2Proof.Machine.execNvStatus r s
  | .doze r => Sys2Proof.Machine.execDoze r s
  | .wake r => Sys2Proof.Machine.execWake r s
  | .workroomRestart r => Sys2Proof.Machine.execWorkroomRestart r s
  | .eventRead r => Sys2Proof.Machine.execEventRead r s
  | .eventRoute r => Sys2Proof.Machine.execEventRoute r s
  | .logRead r => Sys2Proof.Machine.execLogRead r s
  | .healthStatus r => Sys2Proof.Machine.execHealthStatus r s
  | .prmRead r => Sys2Proof.Machine.execPrmRead r s
  | .prmWrite r => Sys2Proof.Machine.execPrmWrite r s
  | .prmBulkRead r => Sys2Proof.Machine.execPrmBulkRead r s
  | .prmBulkWrite r => Sys2Proof.Machine.execPrmBulkWrite r s
  | .prmModify r => Sys2Proof.Machine.execPrmModify r s
  | .tapSet r => Sys2Proof.Machine.execTapSet r s
  | .tapStream r => Sys2Proof.Machine.execTapStream r s
  | .tapStreamStop r => Sys2Proof.Machine.execTapStreamStop r s
  | .tableRead r => Sys2Proof.Machine.execTableRead r s
  | .tableWrite r => Sys2Proof.Machine.execTableWrite r s
  | .marginScan r => Sys2Proof.Machine.execMarginScan r s
  | .marginAbort r => Sys2Proof.Machine.execMarginAbort r s
  | .view r => Sys2Proof.Machine.execView r s
  | .withdraw r => Sys2Proof.Machine.execWithdraw r s
  | .commit r => Sys2Proof.Machine.execCommit r s
  | .query r => Sys2Proof.Machine.execQuery r s
  | .ready r => Sys2Proof.Machine.execReady r s
  | .state r => Sys2Proof.Machine.execState r s
  | .done r => Sys2Proof.Machine.execDone r s
  | .reserve r => Sys2Proof.Machine.execReserve r s
  | .grant r => Sys2Proof.Machine.execGrant r s
  | .release r => Sys2Proof.Machine.execRelease r s
  | .sums r => Sys2Proof.Machine.execSums r s
  | .nodes r => Sys2Proof.Machine.execNodes r s
  | .censusGather r => Sys2Proof.Machine.execCensusGather r s
  | .configExchange r => Sys2Proof.Machine.execConfigExchange r s
  | .keyStatus r => Sys2Proof.Machine.execKeyStatus r s
  | .keyRotate r => Sys2Proof.Machine.execKeyRotate r s
  | .fwBegin r => Sys2Proof.Machine.execFwBegin r s
  | .fwData r => Sys2Proof.Machine.execFwData r s
  | .fwCommit r => Sys2Proof.Machine.execFwCommit r s
  | .fwSelectTrial r => Sys2Proof.Machine.execFwSelectTrial r s
  | .fwSelectConfirm r => Sys2Proof.Machine.execFwSelectConfirm r s
  | .debugChallenge r => Sys2Proof.Machine.execDebugChallenge r s
  | .debugUnlock r => Sys2Proof.Machine.execDebugUnlock r s
  | .authSet r => Sys2Proof.Machine.execAuthSet r s
  | .parameterWrite r a v => Sys2Proof.Machine.execParameterWrite r a v s
  | .seqGo r m => Sys2Proof.Machine.execSeqGo r m s
  | .injGo r ch => Sys2Proof.Machine.execInjGo r ch s
  | .testGo r lane => Sys2Proof.Machine.execTestGo r lane s
  | .directData r v => Sys2Proof.Machine.execDirectData r v s
  | .data r m => Sys2Proof.Machine.execData r m s
  | .timeLo r => Sys2Proof.Machine.execTimeLo r s
  | .fspSel r f => Sys2Proof.Machine.execFspSel r f s
  | .badPacket => Sys2Proof.Machine.execBadPacket s
  | .unmatchedReply => Sys2Proof.Machine.execUnmatchedReply s
  | .kcpForward op r => Sys2Proof.Machine.execKcpForward op r s
  | .relay h e m => Sys2Proof.Machine.execRelay h e m s
  | .relayReply hid x => Sys2Proof.Machine.execRelayReply hid x s
  | .relayTimeout => Sys2Proof.Machine.execRelayTimeout s
  | .relayGapTimeout ingress hid => Sys2Proof.Machine.execRelayGapTimeout ingress hid s
  | .duplicateCacheExpiry => Sys2Proof.Machine.execDuplicateCacheExpiry s
  | .broadcastKcp h op r => Sys2Proof.Machine.execBroadcastKcp h op r s
  | .arpRequest u vlan mac ip target => Sys2Proof.Machine.execArpRequest u vlan mac ip target s
  | .icmpEcho u vlan v6 src dst body => Sys2Proof.Machine.execIcmpEcho u vlan v6 src dst body s
  | .neighbourSolicitation u vlan src target => Sys2Proof.Machine.execNeighbourSolicitation u vlan src target s
  | .pauseFrame u quanta => Sys2Proof.Machine.execPauseFrame u quanta s
  | .pauseEnd u => Sys2Proof.Machine.execPauseEnd u s
  | .unservedFrame u damaged => Sys2Proof.Machine.execUnservedFrame u damaged s
  | .sync u v6 addr domain seq twoStep => Sys2Proof.Machine.execSync u v6 addr domain seq twoStep s
  | .followUp u domain seq origin => Sys2Proof.Machine.execFollowUp u domain seq origin s
  | .delayResp u domain seq received => Sys2Proof.Machine.execDelayResp u domain seq received s
  | .announce u domain o => Sys2Proof.Machine.execAnnounce u domain o s
  | .delayReq u => Sys2Proof.Machine.execDelayReq u s
  | .chainFrame fromUp frame aborted room passed => Sys2Proof.Machine.execChainFrame fromUp frame aborted room passed s
  | .enumerationToken frame aborted => Sys2Proof.Machine.execEnumerationToken frame aborted s
  | .noSignal up => Sys2Proof.Machine.execNoSignal up s
  | .signalReturn up => Sys2Proof.Machine.execSignalReturn up s
  | .syncCharacter => Sys2Proof.Machine.execSyncCharacter s
  | .fsync level => Sys2Proof.Machine.execFsync level s
  | .syncPeriod => Sys2Proof.Machine.execSyncPeriod s
  | .heartbeat m b => Sys2Proof.Machine.execHeartbeat m b s
  | .heartbeatSend => Sys2Proof.Machine.execHeartbeatSend s
  | .linkStateAdvertisement h l => Sys2Proof.Machine.execLinkStateAdvertisement h l s
  | .lsaRefresh => Sys2Proof.Machine.execLsaRefresh s
  | .topologyExpiry uid => Sys2Proof.Machine.execTopologyExpiry uid s
  | .thirdMissedHeartbeat m => Sys2Proof.Machine.execThirdMissedHeartbeat m s
  | .lossReport h uid addr => Sys2Proof.Machine.execLossReport h uid addr s
  | .linkUp m locked => Sys2Proof.Machine.execLinkUp m locked s
  | .contribution m => Sys2Proof.Machine.execContribution m s
  | .tileRecordCarriage m => Sys2Proof.Machine.execTileRecordCarriage m s
  | .handoverData m => Sys2Proof.Machine.execHandoverData m s
  | .configurationBlock m => Sys2Proof.Machine.execConfigurationBlock m s
  | .svcSend frame space => Sys2Proof.Machine.execSvcSend frame space s
  | .svcReceive => Sys2Proof.Machine.execSvcReceive s
  | .svcStatus space => Sys2Proof.Machine.execSvcStatus space s
  | .hold => Sys2Proof.Machine.execHold s
  | .debugRequest m => Sys2Proof.Machine.execDebugRequest m s
  | .frameStart l vc fn h => Sys2Proof.Machine.execFrameStart l vc fn h s
  | .frameEnd l vc n h => Sys2Proof.Machine.execFrameEnd l vc n h s
  | .lineStart l vc n h => Sys2Proof.Machine.execLineStart l vc n h s
  | .lineEnd l vc h => Sys2Proof.Machine.execLineEnd l vc h s
  | .imageLine l vc dt payload crcOk h => Sys2Proof.Machine.execImageLine l vc dt payload crcOk h s
  | .telemetry l vc dt payload crcOk h => Sys2Proof.Machine.execTelemetry l vc dt payload crcOk h s
  | .genericShortPacket l vc h => Sys2Proof.Machine.execGenericShortPacket l vc h s
  | .frameTimeout strm => Sys2Proof.Machine.execFrameTimeout strm s
  | .coreWrite b e => Sys2Proof.Machine.execCoreWrite b e s
  | .laneGrant lane => Sys2Proof.Machine.execLaneGrant lane s
  | .passA lane errs => Sys2Proof.Machine.execPassA lane errs s
  | .passB lane => Sys2Proof.Machine.execPassB lane s
  | .recordRepair ok => Sys2Proof.Machine.execRecordRepair ok s
  | .alarmHold => Sys2Proof.Machine.execAlarmHold s
  | .selftest seen => Sys2Proof.Machine.execSelftest seen s
  | .alarmLineFault bridge sync => Sys2Proof.Machine.execAlarmLineFault bridge sync s
  | .tapDatagram t => Sys2Proof.Machine.execTapDatagram t s
  | .rateWindow r rate => Sys2Proof.Machine.execRateWindow r rate s
  | .bridgeTransferError x => Sys2Proof.Machine.execBridgeTransferError x s
  | .cycleRequest k => Sys2Proof.Machine.execCycleRequest k s
  | .retry k => Sys2Proof.Machine.execRetry k s
  | .grantStartLimit k => Sys2Proof.Machine.execGrantStartLimit k s
  | .maxDefer k => Sys2Proof.Machine.execMaxDefer k s
  | .grantVoid p => Sys2Proof.Machine.execGrantVoid p s
  | .openSettleEnd k => Sys2Proof.Machine.execOpenSettleEnd k s
  | .openConfirmation k => Sys2Proof.Machine.execOpenConfirmation k s
  | .openConfirmationTimeout k => Sys2Proof.Machine.execOpenConfirmationTimeout k s
  | .flagClosedFault k => Sys2Proof.Machine.execFlagClosedFault k s
  | .gatherResult k => Sys2Proof.Machine.execGatherResult k s
  | .learnedSetStore ok => Sys2Proof.Machine.execLearnedSetStore ok s
  | .seamSample => Sys2Proof.Machine.execSeamSample s
  | .seamPeriod => Sys2Proof.Machine.execSeamPeriod s
  | .solveEnd r => Sys2Proof.Machine.execSolveEnd r s
  | .publication p => Sys2Proof.Machine.execPublication p s
  | .holdPeriod p => Sys2Proof.Machine.execHoldPeriod p s
  | .hitRecord => Sys2Proof.Machine.execHitRecord s
  | .tileRecordSend b => Sys2Proof.Machine.execTileRecordSend b s
  | .heldNoticeRepeat t => Sys2Proof.Machine.execHeldNoticeRepeat t s
  | .tileSilent t => Sys2Proof.Machine.execTileSilent t s
  | .healthQuery b => Sys2Proof.Machine.execHealthQuery b s
  | .healthReply b lead codes rest => Sys2Proof.Machine.execHealthReply b lead codes rest s
  | .replyWindowClose b => Sys2Proof.Machine.execReplyWindowClose b s
  | .registrationSession => Sys2Proof.Machine.execRegistrationSession s
  | .registrationEnd => Sys2Proof.Machine.execRegistrationEnd s
  | .directoryDecision p => Sys2Proof.Machine.execDirectoryDecision p s
  | .rebalPeriod => Sys2Proof.Machine.execRebalPeriod s
  | .rateMove r => Sys2Proof.Machine.execRateMove r s
  | .directoryTakeover p => Sys2Proof.Machine.execDirectoryTakeover p s
  | .commitRepeat p => Sys2Proof.Machine.execCommitRepeat p s
  | .viewRefresh => Sys2Proof.Machine.execViewRefresh s
  | .configExchangeSend => Sys2Proof.Machine.execConfigExchangeSend s
  | .stagingComplete => Sys2Proof.Machine.execStagingComplete s
  | .activation => Sys2Proof.Machine.execActivation s
  | .censusWait => Sys2Proof.Machine.execCensusWait s
  | .refreshDue n b busy => Sys2Proof.Machine.execRefreshDue n b busy s
  | .mr4Poll codes => Sys2Proof.Machine.execMr4Poll codes s
  | .zqCalibration c => Sys2Proof.Machine.execZqCalibration c s
  | .powerDownEntry n => Sys2Proof.Machine.execPowerDownEntry n s
  | .setPointSwitch => Sys2Proof.Machine.execSetPointSwitch s
  | .dramReadError n bank row col x e => Sys2Proof.Machine.execDramReadError n bank row col x e s
  | .migrateDone => Sys2Proof.Machine.execMigrateDone s
  | .marginScanStep c errors => Sys2Proof.Machine.execMarginScanStep c errors s
  | .conversionEnd m raw isOver up down => Sys2Proof.Machine.execConversionEnd m raw isOver up down s
  | .calStepDone m => Sys2Proof.Machine.execCalStepDone m s
  | .watchPeriod => Sys2Proof.Machine.execWatchPeriod s
  | .pullInEnd n mA => Sys2Proof.Machine.execPullInEnd n mA s
  | .maxOn n => Sys2Proof.Machine.execMaxOn n s
  | .releaseDecayEnd n => Sys2Proof.Machine.execReleaseDecayEnd n s
  | .onStateFault n f => Sys2Proof.Machine.execOnStateFault n f s
  | .offStateDiagnosis n mv hs lowCur => Sys2Proof.Machine.execOffStateDiagnosis n mv hs lowCur s
  | .diagPeriod n => Sys2Proof.Machine.execDiagPeriod n s
  | .stuckOn j => Sys2Proof.Machine.execStuckOn j s
  | .vshutLow mv => Sys2Proof.Machine.execVshutLow mv s
  | .idleCommit => Sys2Proof.Machine.execIdleCommit s
  | .commitEnd p => Sys2Proof.Machine.execCommitEnd p s
  | .immediateRecord p => Sys2Proof.Machine.execImmediateRecord p s
  | .compaction a => Sys2Proof.Machine.execCompaction a s
  | .refreshScan weak bulk prog => Sys2Proof.Machine.execRefreshScan weak bulk prog s
  | .recallEnd part => Sys2Proof.Machine.execRecallEnd part s
  | .bulkLost => Sys2Proof.Machine.execBulkLost s
  | .bulkRecordWrite p => Sys2Proof.Machine.execBulkRecordWrite p s
  | .powerOn c => Sys2Proof.Machine.execPowerOn c s
  | .resetN low c => Sys2Proof.Machine.execResetN low c s
  | .supervisorTrip rail isOver c => Sys2Proof.Machine.execSupervisorTrip rail isOver c s
  | .thimbleFatal c => Sys2Proof.Machine.execThimbleFatal c s
  | .resetRelease fuseOk => Sys2Proof.Machine.execResetRelease fuseOk s
  | .memoryTestEnd failed => Sys2Proof.Machine.execMemoryTestEnd failed s
  | .imageVerified => Sys2Proof.Machine.execImageVerified s
  | .started => Sys2Proof.Machine.execStarted s
  | .configRecalled => Sys2Proof.Machine.execConfigRecalled s
  | .watchdog => Sys2Proof.Machine.execWatchdog s
  | .fwViolation addr => Sys2Proof.Machine.execFwViolation addr s
  | .fatalException => Sys2Proof.Machine.execFatalException s
  | .wrRestart => Sys2Proof.Machine.execWrRestart s
  | .trialTime => Sys2Proof.Machine.execTrialTime s
  | .sessionTimeout => Sys2Proof.Machine.execSessionTimeout s
  | .challengeExpiry => Sys2Proof.Machine.execChallengeExpiry s
  | .dozeEntry p => Sys2Proof.Machine.execDozeEntry p s
  | .wakePin level => Sys2Proof.Machine.execWakePin level s
  | .wakeComplete => Sys2Proof.Machine.execWakeComplete s
  | .evtHoldoff src => Sys2Proof.Machine.execEvtHoldoff src s
  | .eventDelivery dst => Sys2Proof.Machine.execEventDelivery dst s
  | .logWrite p => Sys2Proof.Machine.execLogWrite p s
  | .supplyGrade => Sys2Proof.Machine.execSupplyGrade s
  | .baselineStore => Sys2Proof.Machine.execBaselineStore s
  | .linkHealth => Sys2Proof.Machine.execLinkHealth s
  | .coreHealth => Sys2Proof.Machine.execCoreHealth s
  | .tjHistogram tj => Sys2Proof.Machine.execTjHistogram tj s
  | .powerOnHours => Sys2Proof.Machine.execPowerOnHours s
  | .unallocatedOpcode op r => Sys2Proof.Machine.execUnallocatedOpcode op r s
  | .csiLinkUp l up => Sys2Proof.Machine.execCsiLinkUp l up s
  | .uplinkLinkUp u up => Sys2Proof.Machine.execUplinkLinkUp u up s
  | .ulModabs u high => Sys2Proof.Machine.execUlModabs u high s
  | .releasePhaseEnd k => Sys2Proof.Machine.execReleasePhaseEnd k s
  | .silentRecordRepeat t => Sys2Proof.Machine.execSilentRecordRepeat t s

end Sys2Proof.Machine
end

