-- ==== Sys2Proof/Safety.lean ====
section
/-!
DEFINITION. Sys2Proof/Safety.lean: the terms claims are stated in: which requests the packet engine serves, what it answers, and
which parts of the device a command leaves as they were.
-/
namespace Sys2Proof.Machine

/-- The request a command carries, with its opcode, class and broadcast mark (Table 2-10); none for a command that is no KCP
request of an allocated opcode. A row that names one form of an opcode fixes the byte or bit that selects the form, and a row that
names one parameter is a PRM_WRITE or PRM_READ of it. -/
def requestOf (d : Dev) : Instr → Option (Op × Req)
  | .ping r => some (⟨0x0000, .open_, true⟩, r)
  | .deviceStatus r => some (⟨0x0001, .open_, false⟩, r)
  | .fabricStatus r => some (⟨0x0100, .open_, false⟩, r)
  | .fabricProfile r => some (⟨0x0101, .operator, true⟩, r)
  | .coreStatus r => some (⟨0x0200, .open_, false⟩, r)
  | .coreSetting r => some (⟨0x0201, .operator, false⟩, r)
  | .coreEnable r => some (⟨0x0202, .operator, false⟩, withByte 1 1 r)
  | .coreDisable r => some (⟨0x0202, .operator, false⟩, withByte 1 0 r)
  | .frameStats r => some (⟨0x0203, .open_, false⟩, r)
  | .pipeStatus r => some (⟨0x0300, .open_, false⟩, r)
  | .pipeProfile r => some (⟨0x0301, .operator, false⟩, r)
  | .shutterProfile r => some (⟨0x0400, .operator, true⟩, r)
  | .shutterNow r => some (⟨0x0401, .operator, false⟩, r)
  | .seamSolve r => some (⟨0x0402, .operator, false⟩, r)
  | .calStatus r => some (⟨0x0403, .open_, false⟩, r)
  | .calReload r => some (⟨0x0404, .service, false⟩, r)
  | .tileStatus r => some (⟨0x0500, .open_, false⟩, r)
  | .patchStatus r => some (⟨0x0501, .open_, false⟩, r)
  | .blinkRegister r => some (⟨0x0502, .operator, false⟩, r)
  | .outputProfile r => some (⟨0x0503, .operator, true⟩, r)
  | .enumerate r => some (⟨0x0600, .operator, false⟩, r)
  | .addressSet r => some (⟨0x0601, .operator, false⟩, r)
  | .census r => some (⟨0x0602, .open_, false⟩, r)
  | .censusRead r => some (⟨0x0603, .open_, false⟩, r)
  | .configStage r => some (⟨0x0604, .operator, true⟩, r)
  | .configActivate r => some (⟨0x0605, .operator, true⟩, r)
  | .configDiscard r => some (⟨0x0606, .operator, true⟩, r)
  | .placementStatus r => some (⟨0x0607, .open_, false⟩, r)
  | .timeStatus r => some (⟨0x0608, .open_, false⟩, r)
  | .memStatus r => some (⟨0x0700, .open_, false⟩, r)
  | .memProfile r => some (⟨0x0701, .operator, false⟩, r)
  | .convSeqStart r => some (⟨0x0800, .operator, false⟩, r)
  | .convStatus r => some (⟨0x0801, .open_, false⟩, r)
  | .convCalibrateZero r => some (⟨0x0802, .service, false⟩, withByte 1 0 r)
  | .convCalibrateFullScale r => some (⟨0x0802, .service, false⟩, withByte 1 1 r)
  | .convCalibrateFactory r => some (⟨0x0802, .service, false⟩, withByte 1 2 r)
  | .convCalibrateAbandon r => some (⟨0x0802, .service, false⟩, withByte 1 3 r)
  | .shutterDriveStatus r => some (⟨0x0900, .open_, false⟩, r)
  | .shutterTestDiagnose r => some (⟨0x0901, .service, false⟩, withByte 1 (byteAt r.params 1 / 16 * 16) r)
  | .shutterTestClose r => some (⟨0x0901, .service, false⟩, withByte 1 (byteAt r.params 1 / 16 * 16 + 1) r)
  | .shutterTestRelease r => some (⟨0x0901, .service, false⟩, withByte 1 (byteAt r.params 1 / 16 * 16 + 2) r)
  | .shutterTestClear r => some (⟨0x0901, .service, false⟩, withByte 1 (byteAt r.params 1 / 16 * 16 + 3) r)
  | .shutterTestApplyProfile r => some (⟨0x0901, .service, false⟩, withByte 1 (byteAt r.params 1 / 16 * 16 + 4) r)
  | .nvCommit r => some (⟨0x0A00, .operator, false⟩, r)
  | .nvStatus r => some (⟨0x0A01, .open_, false⟩, r)
  | .doze r => some (⟨0x0B00, .operator, true⟩, r)
  | .wake r => some (⟨0x0B01, .operator, true⟩, r)
  | .workroomRestart r => some (⟨0x0B02, .service, false⟩, r)
  | .eventRead r => some (⟨0x0C00, .open_, false⟩, r)
  | .eventRoute r => some (⟨0x0C01, .operator, false⟩, r)
  | .logRead r => some (⟨0x0C02, .open_, false⟩, r)
  | .healthStatus r => some (⟨0x0C03, .open_, false⟩, r)
  | .prmRead r => some (⟨0x4000, .open_, false⟩, r)
  | .prmWrite r => some (⟨0x4001, .operator, true⟩, r)
  | .prmBulkRead r => some (⟨0x4002, .open_, false⟩, r)
  | .prmBulkWrite r => some (⟨0x4003, .operator, false⟩, r)
  | .prmModify r => some (⟨0x4004, .operator, false⟩, r)
  | .tapSet r => some (⟨0x4100, .operator, false⟩, r)
  | .tapStream r => some (⟨0x4101, .operator, false⟩, r)
  | .tapStreamStop r => some (⟨0x4101, .operator, false⟩, withByte 1 0xFF r)
  | .tableRead r => some (⟨0x4200, .service, false⟩, r)
  | .tableWrite r => some (⟨0x4201, .service, false⟩, r)
  | .marginScan r => some (⟨0x4300, .service, false⟩, r)
  | .marginAbort r => some (⟨0x4301, .service, false⟩, r)
  | .view r => some (⟨0x4400, .device, false⟩, withByte 8 1 r)
  | .withdraw r => some (⟨0x4400, .device, false⟩, withByte 8 2 r)
  | .commit r => some (⟨0x4400, .device, false⟩, withByte 8 3 r)
  | .query r => some (⟨0x4400, .device, false⟩, withByte 8 4 r)
  | .ready r => some (⟨0x4401, .device, false⟩, withByte 8 1 r)
  | .state r => some (⟨0x4401, .device, false⟩, withByte 8 2 r)
  | .done r => some (⟨0x4401, .device, false⟩, withByte 8 3 r)
  | .reserve r => some (⟨0x4402, .device, false⟩, withByte 0 1 r)
  | .grant r => some (⟨0x4402, .device, false⟩, withByte 0 2 r)
  | .release r => some (⟨0x4402, .device, false⟩, withByte 0 3 r)
  | .sums r => some (⟨0x4402, .device, false⟩, withByte 0 4 r)
  | .nodes r => some (⟨0x4402, .device, false⟩, withByte 0 5 r)
  | .censusGather r => some (⟨0x4403, .device, false⟩, r)
  | .configExchange r => some (⟨0x4404, .device, false⟩, r)
  | .keyStatus r => some (⟨0x8000, .open_, false⟩, r)
  | .keyRotate r => some (⟨0x8001, .service, false⟩, r)
  | .fwBegin r => some (⟨0x8002, .service, false⟩, r)
  | .fwData r => some (⟨0x8003, .service, false⟩, r)
  | .fwCommit r => some (⟨0x8004, .service, false⟩, r)
  | .fwSelectTrial r => some (⟨0x8005, .service, false⟩, withBit 0 1 false r)
  | .fwSelectConfirm r => some (⟨0x8005, .service, false⟩, withBit 0 1 true r)
  | .authSet r => some (⟨0x8007, .service, false⟩, r)
  | .debugChallenge r => some (⟨0x8006, if r.host.via = .service && r.auth.isNone then .open_ else .service, false⟩, { r with params := r.params.take 4 })
  | .debugUnlock r => some (⟨0x8006, if r.host.via = .service && r.auth.isNone then .open_ else .service, false⟩,
      if r.params.length ≤ 4 then { r with params := fitTo 132 0 r.params } else r)
  | .parameterWrite r a v => some (⟨0x4001, .operator, true⟩, oneEntry r a v)
  | .seqGo r m => some (⟨0x4001, .operator, true⟩, oneEntry r (0x310010 + m % 4) (setBit (d.view (0x310010 + m % 4)) 0))
  | .injGo r ch => some (⟨0x4001, .operator, true⟩, oneEntry r (0x310024 + ch / 32 % 4) (ch % 128 + 128))
  | .testGo r lane => some (⟨0x4001, .operator, true⟩, oneEntry r 0x210013 (lane % 128 + 256))
  | .directData r v => some (⟨0x4001, .operator, true⟩, oneEntry r 0x2000A1 v)
  | .data r m => some (⟨0x4000, .open_, false⟩, { r with params := leBytes 4 (0x310018 + m % 4) })
  | .timeLo r => some (⟨0x4000, .open_, false⟩, { r with params := leBytes 4 0x240063 })
  | .fspSel r f => some (⟨0x4001, .operator, true⟩, oneEntry r 0x300010 (f % 2))
  | _ => none

/-- The packet engine serves a request of an opcode: it reaches the device and is for it (R45, R51, R52), and passes the checks
of R49 that do not belong to its opcode. -/
structure Serves (op : Op) (r : Req) (d : Dev) : Prop where
  /-- The transport takes it. -/
  arrives : d.arrives r = (true, true)
  /-- Its destination is this device. -/
  here : d.destOf r = .here
  /-- Version and broadcast. -/
  early : earlyChecks op r = none
  /-- Tag, duplicate cache, counter and class. -/
  auth : d.authStep op r = .pass
  /-- The device's state. -/
  gate : d.stateGate op.code r = none
  /-- Device-only opcodes come from a device. -/
  source : op.cls = .device → r.host.via = .device
  /-- The payload's bound. -/
  size : payloadLen r ≤ 1400
  /-- Queue space. -/
  space : d.queueCheck r = none
  /-- Its turn: no earlier request of its host is in hand (R55). -/
  turn : d.mustWait op r = false
  /-- It needs no failed bridge (R21). -/
  whole : d.cutOff op.code r = false

/-- The device at the moment a request it serves takes effect: its outputs are those of this command, the request's counter is
accepted (R61) and it stands in the queue (R55). -/
def Dev.taken (d : Dev) (r : Req) : Dev := (({ d with out := [], begun := none } : Dev).takeCounter r).queued

/-- A reply of an opcode to a request, with an answer (R46, R47). -/
def IsReply (op : Nat) (r : Req) (a : Answer) (p : Reply) : Prop :=
  p.host = r.host ∧ p.opcode = op ∧ p.seq = r.seq ∧ p.rseq = r.rseq ∧ p.dest = r.source ∧ p.port = replyPort r.host ∧ p.answer = a

/-- The relay frame in which a reply travels back to its ingress device (R228). -/
def backFrame (p : Reply) (e : Dev) : List Byte :=
  seamFrame 3 (frameClass 3 false) 32 p.host.ingress e.addr (e.kcp.fseq.get 3 0)
    (envelope p.host.ingress p.host.hid p.rseq true ++ replyPacket p)

/-- A Seamlink frame reaches the device whole, on a link that is up, and is for it (R223, R225). -/
structure Receives (h : SeamHdr) (d : Dev) : Prop where
  /-- The fabric runs. -/
  alive : d.alive = true
  /-- The link is up. -/
  up : d.is P.SL_LINK_UP [h.link] = true
  /-- The device has an address. -/
  addressed : d.addressed = true
  /-- It is the frame's destination. -/
  dest : h.dest = d.addr
  /-- The frame's CRC is right and it is not aborted. -/
  whole : h.ok = true

/-- A command brings a Seamlink frame to one device: its KIND, whether it carries an alarm record, and its payload (Table 7-6). -/
def Brings (h : SeamHdr) (c : Instr) (kind : Nat) (alarm : Bool) (b : List Byte) : Prop :=
  (∃ e m, c = .relay h e m ∧ kind = 3 ∧ alarm = false ∧ b = relayPayload e m) ∨
  (c = .contribution ⟨h, b⟩ ∧ kind = 5 ∧ alarm = false) ∨
  (c = .tileRecordCarriage ⟨h, b⟩ ∧ kind = 6 ∧ alarm = decide (byteAt b 22 % 16 = 2)) ∨
  (c = .handoverData ⟨h, b⟩ ∧ kind = 7 ∧ alarm = false) ∨ (c = .configurationBlock ⟨h, b⟩ ∧ kind = 8 ∧ alarm = false)

/-- Between `e` and `t` a reply has left on its transport: an uplink under PAUSE queues it (R71), the service port holds it for the
tool where it has room (R390), one to a relayed request leaves on the route to its ingress device (R228), a broadcast that another
device received first has none (R50). -/
def Leaves (p : Reply) (e t : Dev) : Prop :=
  match p.host.via with
  | .flood | .passed => True
  | .relay | .device => ∀ m, e.route p.host.ingress = some m → Out.frame (40 + m) 3 (backFrame p e) ∈ t.out
  | .uplink =>
    if e.kcp.paused.get p.host.uplink 0 = 0 then Out.reply p ∈ t.out
    else (t.kcp.replyQ.get p.host.uplink []).getLast? = some (.reply p)
  | .service => e.boot.svcOut.length < 4 → t.boot.svcOut.getLast? = some (1, replyPacket p)
  | .chain => Out.reply p ∈ t.out

/-- The parts of a device that frames speak of. -/
inductive DevPart where
  | clk | time | tbl | kcp | evt | nv | boot | plc | ing | pipe | cal | fus | mem | conv | shut | free
deriving DecidableEq, Repr

/-- Two devices agree on a part. -/
def DevPart.same (p : DevPart) (a b : Dev) : Prop :=
  match p with
  | .clk => a.clk = b.clk
  | .time => a.ofs = b.ofs ∧ a.slew = b.slew ∧ a.slewTick = b.slewTick
  | .tbl => a.tbl = b.tbl
  | .kcp => a.kcp = b.kcp
  | .evt => a.evt = b.evt
  | .nv => a.nv = b.nv
  | .boot => a.boot = b.boot
  | .plc => a.plc = b.plc
  | .ing => a.ing = b.ing
  | .pipe => a.pipe = b.pipe
  | .cal => a.cal = b.cal
  | .fus => a.fus = b.fus
  | .mem => a.mem = b.mem
  | .conv => a.conv = b.conv
  | .shut => a.shut = b.shut
  | .free => a.free = b.free

/-- The parts of a list are as they were. -/
def Untouched (l : List DevPart) (a b : Dev) : Prop := ∀ p ∈ l, p.same a b

/-- Every parameter field but these reads as it did. -/
def OnlyFields (fs : List (Row × List Nat)) (a b : Dev) : Prop :=
  ∀ k, (∀ f ∈ fs, k ≠ f.1.key f.2) → b.prm.get? k = a.prm.get? k

/-- The pins are what the device's state makes them (R127, R390, R406, R440, Table 14-8). -/
def PinsAgree (d : Dev) : Prop :=
  d.pins.fault = d.faultN ∧ d.pins.alarm = d.alarmN ∧ d.is P.ALARM_PIN = d.alarmN ∧
  d.pins.svcIrq = (d.awake && !d.boot.svcOut.isEmpty) ∧ d.pins.ulTx = d.ulTxOn ∧ d.pins.bsRst = !d.boot.inReset

/-- `t` is `e` and the advertisements and VIEWs that follow commands (R226, R231). -/
structure Trails (e t : Dev) : Prop where
  /-- The parts that stay. -/
  parts : Untouched [.clk, .time, .tbl, .evt, .nv, .boot, .ing, .pipe, .cal, .fus, .mem, .conv, .shut, .free] e t
  /-- The fields that may follow: the score, its health term and ALARM_PIN. -/
  fields : OnlyFields [(P.SCORE, []), (P.H_PEN, []), (P.ALARM_PIN, [])] e t
  /-- In the packet engine only the numbers of frames and the floods remembered. -/
  engine : t.kcp = { e.kcp with rseqTx := t.kcp.rseqTx, floods := t.kcp.floods, fseq := t.kcp.fseq }
  /-- In the array only what VIEWs and advertisements note. -/
  array : t.plc = { e.plc with asked := t.plc.asked, lsaSeq := t.plc.lsaSeq, dirs := t.plc.dirs, viewScore := t.plc.viewScore }
  /-- Pins that others drive. -/
  inputs : t.pins.wake = e.pins.wake ∧ t.pins.fsync = e.pins.fsync
  /-- The command's own outputs come first. -/
  outputs : e.out <+: t.out

/-- `t` is `e` and what follows every command: an advertisement and VIEWs where they are due, and the pins. -/
structure Follows (e t : Dev) : Prop extends Trails e t where
  /-- The pins. -/
  pins : PinsAgree t

/-- `t` is `e` after one reply has left, and what follows every command. -/
structure Carried (p : Reply) (e t : Dev) : Prop where
  /-- The reply left. -/
  leaves : Leaves p e t
  /-- The parts that stay. -/
  parts : Untouched [.clk, .time, .tbl, .evt, .nv, .ing, .pipe, .cal, .fus, .mem, .conv, .shut, .free] e t
  /-- The fields that may follow; the service port counts a reply it has no room for. -/
  fields : OnlyFields [(P.SCORE, []), (P.H_PEN, []), (P.ALARM_PIN, []), (P.SVC_DROP, [])] e t
  /-- A reply on the service port waits for the tool. -/
  service : t.boot = { e.boot with svcOut := t.boot.svcOut }
  /-- In the packet engine the uplinks' queues, the numbers of frames and the floods. -/
  engine : t.kcp = { e.kcp with replyQ := t.kcp.replyQ, rseqTx := t.kcp.rseqTx, floods := t.kcp.floods, fseq := t.kcp.fseq }
  /-- In the array only what VIEWs and advertisements note. -/
  array : t.plc = { e.plc with asked := t.plc.asked, lsaSeq := t.plc.lsaSeq, dirs := t.plc.dirs, viewScore := t.plc.viewScore }
  /-- Pins that others drive. -/
  inputs : t.pins.wake = e.pins.wake ∧ t.pins.fsync = e.pins.fsync
  /-- The command's own outputs come first. -/
  outputs : e.out <+: t.out
  /-- The pins. -/
  pins : PinsAgree t

/-- `t` is `e` after the request's one reply, sent and kept as the newest entry of the duplicate cache (R57), and what follows
every command. -/
def Replied (op : Nat) (r : Req) (a : Answer) (e t : Dev) : Prop :=
  ∃ p, IsReply op r a p ∧ Carried p (e.keep p) t

/-- `t` is `e` after the request's one reply, sent and not kept, and what follows every command. -/
def Turned (op : Nat) (r : Req) (a : Answer) (e t : Dev) : Prop :=
  ∃ p, IsReply op r a p ∧ Carried p e t

/-- A command answers a next state that keeps the queue, and whose device meets `post`. -/
def Completes (c : Instr) (s : State) (post : Dev → Prop) : Prop :=
  ∃ t, exec c s = .next t ∧ t.pending = s.pending ∧ post t.dev

/-- The device as a command finds it: its outputs are the command's own, and no queued request is being begun. -/
def State.here (s : State) : Dev := { s.dev with out := [], begun := none }

/-- A command has no effect of its own in a state. -/
def Idle (c : Instr) (s : State) : Prop := Completes c s (Follows s.here)

/-- A request of entries on a state where it is served (R63, R66): a first refused entry, or a GEN that names another generation,
answers for all and nothing is executed; otherwise the entries are in force in their order, the persistent ones go to the store in
one batch, each group's write generation rises once, and the reply leaves, at once or, where the set point is to change, once that is
done. -/
def WritesEntries (c : Instr) (op : Op) (r : Req) (es : Dev → List (Nat × Nat)) (ans : Dev → List Byte) (s : State) : Prop :=
  let b := s.here.takeCounter r
  let d := s.dev.taken r
  let as := (es d).map (·.1)
  let w := writeEntries ⟨op.code, r.seq, r.host⟩ 0 (es d) d
  let e := (w.dev.storeParams ((as.filter persistentWord).eraseDups)).each ((as.map (· / 65536)).eraseDups) fun g e => e.wrote g
  let refused := (writeEntries ⟨op.code, r.seq, r.host⟩ 0 (es b) b).bad
  (∀ x, b.genCheck r ((es b).map (·.1)) = some x → Completes c s (Replied op.code r x (b.statusFlags r.host x.status))) ∧
  (b.genCheck r ((es b).map (·.1)) = none →
    (∀ x, refused = some x → Completes c s (Replied op.code r x (b.statusFlags r.host x.status))) ∧
    (refused = none → d.is P.FSP_BUSY = false → e.is P.FSP_BUSY = true →
      Completes c s (Follows (e.hold op.code r .setPoint))) ∧
    (refused = none → (d.is P.FSP_BUSY = true ∨ e.is P.FSP_BUSY = false) → w.late = true →
      Completes c s (Replied op.code r ⟨.deferred, 0x2007, []⟩ e)) ∧
    (refused = none → (d.is P.FSP_BUSY = true ∨ e.is P.FSP_BUSY = false) → w.late = false →
      Completes c s (Replied op.code r (okWith (ans e)) e)))

end Sys2Proof.Machine
end

