-- ==== Sys2Proof/Certificates/Slice0/Obligations.lean ====
section
/-!
DEFINITION. Sys2Proof/Certificates/Slice0/Obligations.lean: the statements for the provers.
-/
open Sys2Proof Sys2Proof.Machine

/-! ## The block -/

/-- For every command and state: a step with the command at the front of the queue is that command on the state with the queue's
rest. -/
def Obligations.StepRunsFrontCommand : Prop :=
  ∀ (s : State) (c : Instr) (q : List Instr), s.pending = c :: q → step s = exec c { s with pending := q }

/-- A step on an empty queue is one tick of the 500 MHz timebase (the model's choice, log 4): 2 ns pass outside reset and none
in reset, a correction of system time is slewed by 1 ns in 1,000 ticks (R261), and nothing else moves but what follows every
command; then the first queued request none of whose host identity is executing is begun (R55, log 127). -/
def Obligations.EmptyQueueTicks : Prop :=
  ∀ s : State, s.pending = [] → ∃ (t : State) (e : Dev), step s = .next t ∧ t.pending = [] ∧
    (s.dev.boot.inReset = true → e = s.here) ∧
    (s.dev.boot.inReset = false →
      e.clk = s.dev.clk + 2 ∧ e.ofs + e.slew = s.dev.ofs + s.dev.slew ∧
      (s.dev.slew = 0 → e.ofs = s.dev.ofs ∧ e.slewTick = s.dev.slewTick) ∧
      (s.dev.slew ≠ 0 → s.dev.slewTick + 1 < 1000 → e.ofs = s.dev.ofs ∧ e.slewTick = s.dev.slewTick + 1) ∧
      (s.dev.slew ≠ 0 → s.dev.slewTick + 1 = 1000 → e.slew.natAbs + 1 = s.dev.slew.natAbs ∧ e.slewTick = 0) ∧
      e = { s.here with clk := e.clk, ofs := e.ofs, slew := e.slew, slewTick := e.slewTick }) ∧
    ((∀ q ∈ s.dev.kcp.queue, s.dev.hostBusy q.req.host = true) → Follows e t.dev) ∧
    (∀ l q m, s.dev.kcp.queue = l ++ q :: m → (∀ x ∈ l, s.dev.hostBusy x.req.host = true) → s.dev.hostBusy q.req.host = false →
      Follows (runOpcode q.opcode q.req { e with begun := some q, kcp := { s.dev.kcp with queue := l ++ m } }) t.dev)

/-- Every command completes: it answers a next state, and the commands that wait stay as they are. -/
def Obligations.EveryCommandCompletes : Prop :=
  ∀ (c : Instr) (s : State), ∃ t, exec c s = .next t ∧ t.pending = s.pending

/-- After reset every field of every parameter reads the reset column of its table, every table byte reads its reset contents,
every group's write generation is 1 (R63), the timebase stands at 0, the queue is empty, FAULT_N is asserted and ALARM_N is not.
Where the spec gives no reset value the column holds 0, the model's choice (log 3). -/
def Obligations.ResetValues : Prop :=
  (∀ (r : Row) (ix : List Nat), State.reset.dev.rd r ix = r.resetAt ix) ∧
  (∀ a, State.reset.dev.tbl.read a = tblReset a) ∧ (∀ g, State.reset.dev.wgen g = 1) ∧
  State.reset.dev.clk = 0 ∧ State.reset.dev.rd P.ADDR = 0x3FF ∧ State.reset.dev.rd P.DEV_STATE = 0 ∧
  State.reset.dev.rd P.PART = 12900 ∧ State.reset.pending = [] ∧
  State.reset.dev.pins.fault = true ∧ State.reset.dev.pins.alarm = false

/-- The pins agree with the device's state right after reset. -/
def Obligations.PinsAgreeAtReset : Prop :=
 PinsAgree State.reset.dev

/-- After every step FAULT_N, ALARM_N, SVC_IRQ_N, UL_TXDIS, BS_RST_N and ALARM_PIN are what the device's state makes them (R127,
R390, R406, R440). -/
def Obligations.PinsFollowState : Prop :=
  ∀ s t : State, step s = .next t → PinsAgree t.dev

/-- A parameter field written reads back cut to its width, every other field reads as before, and every other part of the device
is as it was. Table bytes written read back, every byte outside them reads as before, and the table memory stays in canonical
form. -/
def Obligations.WritesReadBack : Prop :=
  (∀ (d : Dev) (r : Row) (ix : List Nat) (v : Nat),
      (d.wr r ix v).rd r ix = v % 2 ^ r.width ∧
      (∀ (q : Row) (jx : List Nat), q.key jx ≠ r.key ix → (d.wr r ix v).rd q jx = d.rd q jx) ∧
      { d.wr r ix v with prm := d.prm } = d) ∧
  (∀ (d : Dev) (t o : Nat) (bs : List Byte),
      (d.tblWrite t o bs).tblRead t o bs.length = bs ∧
      (∀ a, (a < tblAddr t o ∨ tblAddr t o + bs.length ≤ a) → (d.tblWrite t o bs).tbl.read a = d.tbl.read a) ∧
      Memory.wf (d.tblWrite t o bs).tbl.cells = true ∧ { d.tblWrite t o bs with tbl := d.tbl } = d)

/-! ## The packet engine -/

/-- A request that does not reach the engine changes nothing (R65): its uplink or the service port is off, or the device is in
reset. One whose uplink drops its frame (R51, R52, R71) counts it in UL_RX_DROP alone. -/
def Obligations.RequestsThatDoNotArrive : Prop :=
  ∀ (c : Instr) (s : State) (op : Op) (r : Req), requestOf s.here c = some (op, r) →
    ((s.dev.arrives r).1 = false → Idle c s) ∧
    (s.dev.arrives r = (true, false) →
      Completes c s (Follows (s.here.wr P.UL_RX_DROP [r.host.uplink] (s.dev.rd P.UL_RX_DROP [r.host.uplink] + 1))))

/-- Steps 3 and 5 of R49, before anything else of a request for this device is looked at: a VERSION that is not 1 is answered
ST_BADOPCODE, VERSION, and a broadcast of an opcode that is not marked B ST_BADPARAM, BROADCAST. Nothing is executed and the
reply is not kept. A device-only opcode that a host sends is answered ST_DENIED, SOURCE (R49), and a request whose payload is
over 1,400 bytes ST_BADPARAM, LENGTH (R42). Nothing is executed. A request for an unaddressed device that arrives on an uplink,
or that arrives on the service port under another DEST than 0x3FF, is answered ST_DENIED, UNADDRESSED, and nothing else happens
(R45). An opcode that no chapter allocates is answered ST_BADOPCODE, and nothing is executed (R2, R49). -/
def Obligations.EngineRefusals : Prop :=
  (∀ (c : Instr) (s : State) (op : Op) (r : Req), requestOf s.here c = some (op, r) →
      s.dev.arrives r = (true, true) → s.dev.destOf r = .here →
      (r.version ≠ 1 → Completes c s (Turned op.code r ⟨.badOpcode, 0x0001, []⟩ s.here)) ∧
      (r.version = 1 → r.dest = 0x3FF → op.bcast = false → op.code ≠ 0x0600 →
        Completes c s (Turned op.code r ⟨.badParam, 0x0003, []⟩ s.here))) ∧
  (∀ (c : Instr) (s : State) (op : Op) (r : Req), requestOf s.here c = some (op, r) →
      s.dev.arrives r = (true, true) → s.dev.destOf r = .here → earlyChecks op r = none → s.dev.authStep op r = .pass →
      s.dev.stateGate op.code r = none →
      (op.cls = .device → r.host.via ≠ .device →
        Completes c s (Replied op.code r ⟨.denied, 0x0017, []⟩ (s.here.takeCounter r))) ∧
      ((op.cls = .device → r.host.via = .device) → 1400 < payloadLen r →
        Completes c s (Replied op.code r ⟨.badParam, 0x0002, []⟩ (s.here.takeCounter r)))) ∧
  (∀ (c : Instr) (s : State) (op : Op) (r : Req), requestOf s.here c = some (op, r) → s.dev.rd P.ADDR = 0x3FF →
      s.dev.arrives r = (true, true) →
      (r.host.via = .uplink ∨ (r.host.via = .service ∧ r.dest ≠ 0x3FF)) →
      Completes c s (Turned op.code r ⟨.denied, 0x001B, []⟩ s.here)) ∧
  (∀ (s : State) (op : Nat) (r : Req), s.dev.arrives r = (true, true) → s.dev.destOf r = .here → r.version = 1 →
      Completes (.unallocatedOpcode op r) s (Turned op r ⟨.badOpcode, 0, []⟩ s.here))

/-- Step 6 of R49 (R60 to R62): a request of Operator or Service class without a tag, where its transport is not exempt, is
answered ST_AUTH, TAG_MISSING; one under slots 12 to 15, an empty slot or an exhausted one NO_KEY; one whose tag does not verify
TAG_BAD. AUTH_FAIL is set, and nothing is executed. A counter already accepted, or more than 63 below the highest accepted, is
answered ST_AUTH, REPLAY, with the highest accepted counter (R61); a Service opcode under an Operator slot is answered CLASS_LOW
(R62). Nothing is executed. -/
def Obligations.TagsKeysAndReplay : Prop :=
  (∀ (c : Instr) (s : State) (op : Op) (r : Req), requestOf s.here c = some (op, r) →
      s.dev.arrives r = (true, true) → s.dev.destOf r = .here → earlyChecks op r = none →
      (r.auth = none → (op.cls = .service ∨ (op.cls = .operator ∧ s.dev.relaxed r.host.via = false)) →
        Completes c s (Turned op.code r ⟨.auth, 0x0007, []⟩ (s.here.set (.kcp 1) (arrivalOf r.host)))) ∧
      (∀ a, r.auth = some a → (12 ≤ a.slot ∨ s.dev.keyOf a.slot = none ∨ (s.dev.fresh a.slot).high = 0xFFFFFFFFFFFF) →
        Completes c s (Turned op.code r ⟨.auth, 0x000B, []⟩ (s.here.set (.kcp 1) (arrivalOf r.host)))) ∧
      (∀ a, r.auth = some a → s.dev.noKey a.slot = false → s.dev.tagGood op.code r a = false →
        Completes c s (Turned op.code r ⟨.auth, 0x0008, []⟩ (s.here.set (.kcp 1) (arrivalOf r.host))))) ∧
  (∀ (c : Instr) (s : State) (op : Op) (r : Req) (a : Auth), requestOf s.here c = some (op, r) →
      s.dev.arrives r = (true, true) → s.dev.destOf r = .here → earlyChecks op r = none → r.auth = some a → r.rtx = false →
      s.dev.noKey a.slot = false → s.dev.tagGood op.code r a = true →
      ((s.dev.fresh a.slot).accepts a.counter = false →
        Completes c s (Turned op.code r ⟨.auth, 0x000A, leBytes 8 (s.dev.fresh a.slot).high⟩
          (s.here.set (.kcp 1) (arrivalOf r.host)))) ∧
      ((s.dev.fresh a.slot).accepts a.counter = true → op.cls = .service → a.slot < 8 →
        Completes c s (Replied op.code r ⟨.auth, 0x0009, []⟩ ((s.here.takeCounter r).set (.kcp 1) (arrivalOf r.host)))))

/-- A retransmission (RTX 1) that matches an entry of the duplicate cache is not executed: the kept reply leaves again with RTX
set, and its entry becomes the newest (R57). ST_AUTH and ST_OVERRUN set their flags again. -/
def Obligations.RetransmissionResends : Prop :=
  ∀ (c : Instr) (s : State) (op : Op) (r : Req) (e : DupEntry), requestOf s.here c = some (op, r) →
    s.dev.arrives r = (true, true) → s.dev.destOf r = .here → earlyChecks op r = none → s.dev.authStep op r = .resend e →
    Completes c s (Carried { e.reply with rtx := true, ip := s.dev.ownAddr r.host, rseq := r.rseq }
      (({ s.here with kcp := { s.dev.kcp with dup := s.dev.kcp.dup.filter (· ≠ e) ++ [e] } } : Dev).statusFlags r.host
        e.reply.answer.status))

/-- In Doze the engine serves PING, DEVICE_STATUS, KEY_STATUS, WAKE, CENSUS_GATHER and CONFIG_EXCHANGE alone: every other
request that passes the checks before its state is answered ST_DENIED, DOZE, and nothing of it is executed (R65, R393). -/
def Obligations.DozeDeniesRequests : Prop :=
  ∀ (c : Instr) (s : State) (op : Op) (r : Req), requestOf s.here c = some (op, r) →
    s.dev.arrives r = (true, true) → s.dev.destOf r = .here → earlyChecks op r = none → s.dev.authStep op r = .pass →
    s.dev.rd P.DEV_STATE = 3 → op.code ∉ [0x0000, 0x0001, 0x8000, 0x0B01, 0x4403, 0x4404] →
    Completes c s (Replied op.code r ⟨.denied, 0x000E, []⟩ (s.here.takeCounter r))

/-- In recovery a request below 0x8000 outside the recovery set is answered ST_DENIED, RECOVERY; before start-up has ended it is
answered ST_BUSY, STARTING, and while Workroom restarts ST_BUSY, WORKROOM_RESTART (R65, R376, R388). Nothing of it is executed. -/
def Obligations.StateGate : Prop :=
  ∀ (c : Instr) (s : State) (op : Op) (r : Req), requestOf s.here c = some (op, r) →
    s.dev.arrives r = (true, true) → s.dev.destOf r = .here → earlyChecks op r = none → s.dev.authStep op r = .pass →
    1 < op.code → op.code < 0x8000 → s.dev.recalling = false →
    (s.dev.rd P.DEV_STATE = 7 → recoverySet op.code r = false →
      Completes c s (Replied op.code r ⟨.denied, 0x0018, []⟩ (s.here.takeCounter r))) ∧
    (s.dev.rd P.DEV_STATE ∉ [3, 5, 6, 7] → s.dev.boot.started = false →
      Completes c s (Replied op.code r ⟨.busy, 0x000D, []⟩ (s.here.takeCounter r))) ∧
    (s.dev.rd P.DEV_STATE ∉ [3, 5, 6, 7] → s.dev.boot.started = true → s.dev.boot.running = false →
      Completes c s (Replied op.code r ⟨.busy, 0x000C, []⟩ (s.here.takeCounter r)))

/-- What a request that is served leaves on the device beside its effect: Q_PEAK is raised to the requests in the queue, the
sender's counter is accepted, and where that passes the stored ceiling a new one is queued as an immediate record (R55, R61);
every other field and part is as it was. -/
def Obligations.TakenChangesNothingElse : Prop :=
  ∀ (d : Dev) (r : Req),
    (d.inHand.length < 64 → (d.taken r).rd P.Q_PEAK = max (d.rd P.Q_PEAK) (d.inHand.length + 1)) ∧
    OnlyFields [(P.Q_PEAK, [])] d (d.taken r) ∧
    Untouched [.clk, .time, .tbl, .kcp, .evt, .plc, .ing, .pipe, .cal, .fus, .mem, .conv, .shut, .free] d (d.taken r) ∧
    (d.taken r).boot = { d.boot with fresh := (d.taken r).boot.fresh } ∧
    (d.taken r).nv = { d.nv with imm := (d.taken r).nv.imm, immNum := (d.taken r).nv.immNum } ∧
    (r.auth = none → (d.taken r).boot = d.boot ∧ (d.taken r).nv = d.nv) ∧
    (∀ a, r.auth = some a → ((d.taken r).fresh a.slot).accepts a.counter = false)

/-! ## Reports and profiles -/

/-- PING returns UID, address, WR_VER and DEV_STATE; DEVICE_STATUS its 24 bytes; both change nothing but what serving a request
changes (R377). FABRIC_STATUS returns the lane rates, the cluster loads, the fabric flags with their occurrence words, and
RATE_PROFILE (R41; the layout is the model's, log 34). FABRIC_PROFILE writes RATE_MARGIN and RATE_WINDOW together with
RATE_PROFILE, and the loads follow (R40). CORE_STATUS, FRAME_STATS, PIPE_STATUS and CAL_STATUS return the blocks of the core or
stream they name, and change nothing but what serving a request changes (R100, R103, R138, R174). -/
def Obligations.StatusRequests : Prop :=
  (∀ (s : State) (r : Req), Serves ⟨0x0000, .open_, true⟩ r s.dev → r.params = [] →
    Completes (.ping r) s (Replied 0x0000 r
      (okWith (leBytes 8 s.dev.uid ++ leBytes 2 (s.dev.rd P.ADDR) ++ leBytes 4 (s.dev.rd P.WR_VER) ++
        leBytes 1 (s.dev.rd P.DEV_STATE)))
      (s.dev.taken r))) ∧
  (∀ (s : State) (r : Req), Serves ⟨0x0001, .open_, false⟩ r s.dev → r.params = [] →
    Completes (.deviceStatus r) s (Replied 0x0001 r
      (okWith (leBytes 1 (s.dev.rd P.DEV_STATE) ++ leBytes 1 (s.dev.rd P.RESET_CAUSE) ++ leBytes 1 (s.dev.rd P.DEBUG_LEVEL) ++
        leBytes 1 ((if s.dev.pins.fault then 1 else 0) + (if s.dev.pins.alarm then 2 else 0) +
          (if s.dev.is P.TRIAL then 4 else 0) + (if s.dev.inRecovery then 8 else 0) + (if s.dev.halted then 16 else 0)) ++
        leBytes 4 (s.dev.rd P.CFG_GEN) ++ leBytes 4 (s.dev.rd P.CFG_DIG_LO) ++ leBytes 4 (s.dev.rd P.CFG_DIG_HI) ++
        leBytes 4 (s.dev.rd P.WR_VER) ++ leBytes 4 (s.dev.clk / 1000000000)))
      (s.dev.taken r))) ∧
  (∀ (s : State) (r : Req), Serves ⟨0x0100, .open_, false⟩ r s.dev → r.params = [] →
    Completes (.fabricStatus r) s (Replied 0x0100 r
      (okWith (((List.range 4).flatMap fun n => leBytes 2 ((s.dev.taken r).rd P.LANE_RATE [n])) ++
        ((List.range 16).flatMap fun c => leBytes 2 ((s.dev.taken r).rd P.CL_LOAD [c])) ++ leBytes 4 ((s.dev.taken r).word 0x10001B) ++
        (([.rateLow 0, .rateLow 1, .rateLow 2, .rateLow 3, .bridgeErr 0, .bridgeErr 1] : List Flag).flatMap fun f =>
          leBytes 4 ((s.dev.taken r).occWord f)) ++ leBytes 1 ((s.dev.taken r).rd P.RATE_PROFILE) ++ [0, 0, 0]))
      (s.dev.taken r))) ∧
  (∀ (s : State) (r : Req) (p m w : Nat), Serves ⟨0x0101, .operator, true⟩ r s.dev → r.params = [BitVec.ofNat 8 p] →
    (p, m, w) ∈ [(0, 16, 250), (1, 8, 100), (2, 32, 500)] →
    Completes (.fabricProfile r) s (Replied 0x0101 r okay
      (((((s.dev.taken r).wr P.RATE_MARGIN [] m).wr P.RATE_WINDOW [] w).wr P.RATE_PROFILE [] p).refreshLoads.wrote 0x10))) ∧
  (∀ (s : State) (r : Req) (k : Nat), Serves ⟨0x0200, .open_, false⟩ r s.dev → r.params = [BitVec.ofNat 8 k] → k < 64 →
    Completes (.coreStatus r) s (Replied 0x0200 r
      (okWith (leBytes 4 ((s.dev.taken r).word (0x200010 + k / 2)) ++ leBytes 4 ((s.dev.taken r).word (0x200030 + k / 8)) ++
        leBytes 4 ((s.dev.taken r).word (0x200038 + k / 8)) ++ leBytes 4 ((s.dev.taken r).word (0x200040 + k / 2)) ++
        leBytes 4 ((s.dev.taken r).word (0x200060 + k / 2)) ++ leBytes 4 ((s.dev.taken r).word (0x200080 + k / 2)) ++
        (List.range 16).flatMap fun i => leBytes 4 ((s.dev.taken r).word (0x200100 + 16 * k + i))))
      (s.dev.taken r))) ∧
  (∀ (s : State) (r : Req) (k : Nat), Serves ⟨0x0203, .open_, false⟩ r s.dev → r.params = [BitVec.ofNat 8 k] → k < 128 →
    Completes (.frameStats r) s (Replied 0x0203 r (okWith (fitTo 304 0 (s.dev.strm k).stats)) (s.dev.taken r))) ∧
  (∀ (s : State) (r : Req) (k : Nat), Serves ⟨0x0300, .open_, false⟩ r s.dev → r.params = [BitVec.ofNat 8 k] → k < 64 →
    Completes (.pipeStatus r) s (Replied 0x0300 r
      (okWith ((List.range 16).flatMap fun i => leBytes 4 ((s.dev.taken r).pipeWord k i))) (s.dev.taken r))) ∧
  (∀ (s : State) (r : Req) (k : Nat), Serves ⟨0x0403, .open_, false⟩ r s.dev → r.params = [BitVec.ofNat 8 k] → k < 64 →
    Completes (.calStatus r) s (Replied 0x0403 r
      (okWith ((List.range 16).flatMap fun i => leBytes 4 ((s.dev.taken r).calWord k i))) (s.dev.taken r)))

/-- PIPE_PROFILE writes the six fields of its profile and PIPE_PROF to one core or to all (R138), SHUTTER_PROFILE the seven
fields of a calibration profile and CAL_PROF (R173), OUTPUT_PROFILE the eight fields of an output profile and OUT_PROF (R208);
each advances its group's write generation (R63). -/
def Obligations.ProfileRequests : Prop :=
  (∀ (s : State) (r : Req) (k p : Nat), Serves ⟨0x0301, .operator, false⟩ r s.dev →
    r.params = [BitVec.ofNat 8 k, BitVec.ofNat 8 p] → (k < 64 ∨ k = 0xFF) → p < 8 →
    Completes (.pipeProfile r) s (Replied 0x0301 r okay
      (((s.dev.taken r).each (if k = 0xFF then List.range 64 else [k]) fun c d =>
        let t := s.dev.tblRead (0x21C0 + p) 0 16
        d.wrs [(P.TNR_K, [c], byteAt t 0), (P.ALARM_RUN, [c], byteAt t 1), (P.LIVE_EN, [c], byteAt t 2 % 2),
          (P.ALARM_DMG, [c], byteAt t 2 / 2 % 2), (P.TNR_GUARD, [c], leAt t 4 2), (P.SNR_SIGMA, [c], leAt t 6 2),
          (P.NOISE_LIM, [c], leAt t 8 2), (P.PIPE_PROF, [c], p)]).wrote 0x21))) ∧
  (∀ (s : State) (r : Req) (p : Nat), Serves ⟨0x0400, .operator, true⟩ r s.dev → r.params = [BitVec.ofNat 8 p] → p < 7 →
    Completes (.shutterProfile r) s (Replied 0x0400 r okay
      (let t := s.dev.tblRead (0x22C0 + p) 0 16
       ((s.dev.taken r).wrs [(P.MIN_INT, [], leAt t 0 2), (P.MAX_INT, [], leAt t 2 2), (P.UNC_THR, [], leAt t 4 2),
         (P.SEAM_THR, [], leAt t 6 2), (P.MAX_DEFER, [], leAt t 8 2), (P.SLEW, [], byteAt t 10), (P.RAMP_LEN, [], byteAt t 11),
         (P.CAL_PROF, [], p)]).wrote 0x22))) ∧
  (∀ (s : State) (r : Req) (p : Nat), Serves ⟨0x0503, .operator, true⟩ r s.dev → r.params = [BitVec.ofNat 8 p] → p < 7 →
    Completes (.outputProfile r) s (Replied 0x0503 r okay
      (let t := s.dev.tblRead (0x23C0 + p) 0 16
       ((s.dev.taken r).wrs [(P.OUT_RATE_MAX, [], byteAt t 0), (P.HOLD_PERIOD, [], leAt t 1 2), (P.SILENCE_MIN, [], leAt t 3 2),
         (P.HEALTH_PERIOD, [], leAt t 5 2), (P.ANGLE_MAX, [], byteAt t 7), (P.RATE_TAU, [], byteAt t 8),
         (P.JOIN_SLEW, [], byteAt t 9), (P.JOIN_MAX, [], byteAt t 10), (P.OUT_PROF, [], p)]).spaceAll.wrote 0x23)))

/-- CORE_DISABLE, and CORE_ENABLE of a core that is on: a disabled core answers ST_OK at once; a core with no frame open is
disabled at once, and one with a frame open at its next FE (R89). CORE_ENABLE of a core that passes the checks of R87 and R246
enables it. CORE_SETTING queues the profile as a setting change with the core's next generation, which the answer carries (R93).
A gather in hand defers it: ST_DEFERRED (R97). -/
def Obligations.CoreRequests : Prop :=
  (∀ (s : State) (r : Req) (k : Nat), Serves ⟨0x0202, .operator, false⟩ r s.dev →
    r.params = [BitVec.ofNat 8 k, 0] → k < 64 →
    (s.dev.is P.CORE_EN [k] = false → Completes (.coreDisable r) s (Replied 0x0202 r okay (s.dev.taken r))) ∧
    (s.dev.is P.CORE_EN [k] = true → (s.dev.strm k).openFrame = none →
      Completes (.coreDisable r) s (Replied 0x0202 r okay (((s.dev.taken r).takeDisable k).wrote 0x20))) ∧
    (s.dev.is P.CORE_EN [k] = true → (s.dev.strm k).openFrame ≠ none →
      Completes (.coreDisable r) s (Replied 0x0202 r okay
        (((s.dev.taken r).setSetting k { s.dev.setting k with disabling := true }).wrote 0x20)))) ∧
  (∀ (s : State) (r : Req) (k : Nat), Serves ⟨0x0202, .operator, false⟩ r s.dev →
    r.params = [BitVec.ofNat 8 k, 1] → k < 64 → (s.dev.setting k).disabling = false →
    (s.dev.is P.CORE_EN [k] = true → Completes (.coreEnable r) s (Replied 0x0202 r okay (s.dev.taken r))) ∧
    (s.dev.is P.CORE_EN [k] = false → s.dev.enableCheck k = none →
      (s.dev.nv.bulkRec (factoryRid k)).any (·.damaged) = false →
      Completes (.coreEnable r) s (Replied 0x0202 r okay (((s.dev.taken r).enableCore k).wrote 0x20)))) ∧
  (∀ (s : State) (r : Req) (k p : Nat), Serves ⟨0x0201, .operator, false⟩ r s.dev →
      r.params = [BitVec.ofNat 8 k, BitVec.ofNat 8 p] → k < 64 → p < 16 →
      ¬ (byteAt (s.dev.tblRead (0x2010 + p) 0 8) 0 = 0 ∧ leAt (s.dev.tblRead (0x2010 + p) 0 8) 2 2 = 0 ∧
         leAt (s.dev.tblRead (0x2010 + p) 0 8) 4 2 = 0) →
      s.dev.changeCheck k (leAt (s.dev.tblRead (0x2010 + p) 0 8) 2 2) (leAt (s.dev.tblRead (0x2010 + p) 0 8) 4 2) = none →
      let g := nextGen (s.dev.rd P.SET_GEN_ISSUED [k])
      let t := s.dev.tblRead (0x2010 + p) 0 264
      let x := s.dev.setting k
      let added (ticket : Option Ticket) : Dev :=
        (((s.dev.taken r).setSetting k { x with queue := x.queue ++ [⟨g, profileOps t, leAt t 2 2, leAt t 4 2, false, 0, ticket⟩] }).wr
          P.SET_GEN_ISSUED [k] g).wr P.SET_PROFILE [k] p
      (s.dev.gathering k = false →
        Completes (.coreSetting r) s (Replied 0x0201 r (okWith (leBytes 2 g)) ((added none).wrote 0x20))) ∧
      (s.dev.gathering k = true →
        Completes (.coreSetting r) s (Replied 0x0201 r ⟨.deferred, 0x2007, leBytes 2 g⟩
          (((added (some ⟨0x0201, r.seq, r.host⟩)).gatherAbort k).wrote 0x20))))

/-! ## Requests of calibration, output, the chain and the array -/

/-- SHUTTER_NOW begins a cycle of a streaming core whose last one has ended, whatever MIN_INT, AUTO_EN and SUSP say; SEAM_SOLVE
begins a solve of each region of its mask, and of none completes at once; CAL_RELOAD stages the stored set of a core, or of
every enabled core (R174). -/
def Obligations.CalibrationRequests : Prop :=
  (∀ (s : State) (r : Req) (k : Nat), Serves ⟨0x0401, .operator, false⟩ r s.dev → r.params = [BitVec.ofNat 8 k] → k < 64 →
    s.dev.rd P.CORE_STATE [k] = 3 → s.dev.rd P.CYC_STATE [k] ∈ [0, 8] → s.dev.rd P.SHUT_CH [k] ≠ 0x7F →
    s.dev.rd P.FLAG_CH [k] ≠ 0x7F →
    Completes (.shutterNow r) s (Replied 0x0401 r okay
      ((s.dev.taken r).startCycle k (some ⟨0x0401, r.seq, r.host⟩)))) ∧
  (∀ (s : State) (r : Req) (m : Nat), Serves ⟨0x0402, .operator, false⟩ r s.dev → r.params = [BitVec.ofNat 8 m] → m < 16 →
    (∀ g, g < 4 → m / 2 ^ g % 2 = 1 → s.dev.cal.solves.get? g = none) →
    (m = 0 → Completes (.seamSolve r) s (Replied 0x0402 r okay
      ((s.dev.taken r).complete ⟨0x0402, r.seq, r.host⟩ .ok 0 (leBytes 2 (s.dev.rd P.LAST_RES))))) ∧
    (m ≠ 0 → Completes (.seamSolve r) s (Replied 0x0402 r okay
      ((s.dev.taken r).each (regionsOf m) fun g d => d.beginSolve g (some ⟨0x0402, r.seq, r.host⟩))))) ∧
  (∀ (s : State) (r : Req) (k : Nat), Serves ⟨0x0404, .service, false⟩ r s.dev → r.params = [BitVec.ofNat 8 k] → k < 64 →
    s.dev.is P.CORE_EN [k] = true →
    Completes (.calReload r) s (Replied 0x0404 r okay ((s.dev.taken r).stageReload k ⟨0x0404, r.seq, r.host⟩))) ∧
  (∀ (s : State) (r : Req), Serves ⟨0x0404, .service, false⟩ r s.dev → r.params = [0xFF] →
    (s.dev.enabledCores = [] →
      Completes (.calReload r) s (Replied 0x0404 r okay ((s.dev.taken r).complete ⟨0x0404, r.seq, r.host⟩ .ok))) ∧
    (s.dev.enabledCores ≠ [] →
      Completes (.calReload r) s (Replied 0x0404 r okay
        ((s.dev.taken r).each s.dev.enabledCores fun k d => d.stageReload k ⟨0x0404, r.seq, r.host⟩))))

/-- TILE_STATUS and PATCH_STATUS of a patch owned here, under epoch 0 or the patch's, return its cells and its header (R64,
R209). BLINK_REGISTER begins a session at the next multiple of 4 s at least 1.5 s away, and queues the blink record on every
enabled bus (R183). A patch-addressed request at a device that does not own its patch, in the order of Table 2-7: an unknown
patch is ST_BADPARAM, an older epoch than the owner's ST_STALE_EPOCH with the owner's epoch, a newer one ST_BUSY, EPOCH_AHEAD,
and one past the forwarding period ST_MOVED, NOT_FORWARDED with the owner (R64). -/
def Obligations.OutputRequests : Prop :=
  (∀ (s : State) (r : Req) (p t i : Nat), Serves ⟨0x0500, .open_, false⟩ r s.dev → r.params.length = 12 → patchOf r = p →
    leAt r.params 8 4 = t → (s.dev.patch? p).isSome = true → s.dev.owns p = true →
    (epochOf r = 0 ∨ epochOf r = (s.dev.place p).epoch) → s.dev.tileIndex p t = some i →
    let d := s.dev.taken r
    Completes (.tileStatus r) s (Replied 0x0500 r
      (okWith (leBytes 4 t ++ leBytes 1 ((d.attach t).seq + 255) ++ leBytes 1 (d.attach t).mapSeq ++
        leBytes 2 d.tileCells ++ leBytes 8 (d.attach t).sent ++
        (List.range (min 160 d.tileCells)).flatMap fun c : Nat =>
          d.cellEntry p ((d.slot? p).getD (Slot.fresh 0)) (i * d.tileCells + c)))
      d)) ∧
  (∀ (s : State) (r : Req) (p : Nat), Serves ⟨0x0501, .open_, false⟩ r s.dev → r.params.length = 8 → patchOf r = p →
    (s.dev.patch? p).isSome = true → s.dev.owns p = true → (epochOf r = 0 ∨ epochOf r = (s.dev.place p).epoch) →
    Completes (.patchStatus r) s (Replied 0x0501 r (okWith ((s.dev.taken r).slotHeader p)) (s.dev.taken r))) ∧
  (∀ (s : State) (r : Req), Serves ⟨0x0502, .operator, false⟩ r s.dev → r.params.length = 8 → s.dev.rd P.TIME_SRC ≠ 0 →
    (∀ k, k < 64 → leAt r.params 0 8 / 2 ^ k % 2 = 1 →
      s.dev.is P.COMP_EN [k] = true ∧ ∀ g ∈ s.dev.fus.regs, k ∉ g.cores) →
    let start := (s.dev.now + 1500000000 + sec 4 - 1) / sec 4 * sec 4
    Completes (.blinkRegister r) s (Replied 0x0502 r okay
      (({ s.dev.taken r with fus := { s.dev.fus with regs := s.dev.fus.regs ++
            [⟨start, maskCores (leAt r.params 0 8), ⟨0x0502, r.seq, r.host⟩, false⟩] } } : Dev).each s.dev.busesOn fun b d =>
        d.pushOther (allQueue b) ⟨0, 4, true, [0, 0, BitVec.ofNat 8 (s.dev.rd P.BLINK_SYM), BitVec.ofNat 8 (s.dev.rd P.BLINK_REP), 0],
          [], s.dev.clk, start⟩))) ∧
  (∀ (s : State) (r : Req) (p : Nat), Serves ⟨0x0501, .open_, false⟩ r s.dev → r.params.length = 8 → patchOf r = p →
      (s.dev.patch? p = none → Completes (.patchStatus r) s (Replied 0x0501 r badValue (s.here.takeCounter r))) ∧
      ((s.dev.patch? p).isSome = true → s.dev.owns p = true → 0 < epochOf r → epochOf r < (s.dev.place p).epoch →
        Completes (.patchStatus r) s (Replied 0x0501 r ⟨.staleEpoch, 0, leBytes 4 (s.dev.place p).epoch⟩ (s.here.takeCounter r))) ∧
      ((s.dev.patch? p).isSome = true → s.dev.owns p = true → (s.dev.place p).epoch < epochOf r →
        Completes (.patchStatus r) s (Replied 0x0501 r ⟨.busy, 0x000F, []⟩ (s.here.takeCounter r))) ∧
      ((s.dev.patch? p).isSome = true → s.dev.owns p = false → (s.dev.place p).forwards = false →
        (s.dev.place p).withdrawn = false → (s.dev.place p).owner ≠ 0x3FF →
        Completes (.patchStatus r) s (Replied 0x0501 r (notForwarded (s.dev.place p).owner (s.dev.place p).epoch) (s.here.takeCounter r))))

/-- ENUMERATE from the chain as a broadcast takes the address it carries and is answered with the address taken and the UID, and
the walk goes on by token (R214 to R216). ADDRESS_SET takes an address no live device holds (R217). PLACEMENT_STATUS,
TIME_STATUS, CENSUS_READ and CENSUS_GATHER report (R257, R262), and CENSUS begins a census or, with no other device known,
completes it. -/
def Obligations.ChainAndArrayRequests : Prop :=
  (∀ (s : State) (r : Req), Serves ⟨0x0600, .operator, false⟩ r s.dev → r.params.length = 2 →
    leAt r.params 0 2 % 1024 ≠ 0x3FF → r.host.via = .chain → r.dest = 0x3FF →
    let e := (s.dev.taken r).enumStep (leAt r.params 0 2 % 1024) (leAt r.params 0 2 / 1024 % 2) 0
    Completes (.enumerate r) s fun t => ∃ p, IsReply 0x0600 r (okWith (leBytes 2 e.1.addr ++ leBytes 8 e.1.uid)) p ∧
      Follows (((e.1.keep p).send p).sendToken e.2.1 (leAt r.params 0 2 / 1024 % 2) e.2.2) t) ∧
  (∀ (s : State) (r : Req) (a : Nat), Serves ⟨0x0601, .operator, false⟩ r s.dev → r.params.length = 2 →
    leAt r.params 0 2 % 1024 = a → a ≠ 0x3FF → (s.dev.taken r).knownAddr a = false →
    Completes (.addressSet r) s (Replied 0x0601 r okay ((s.dev.taken r).takeAddress a))) ∧
  (∀ (s : State) (r : Req), Serves ⟨0x0607, .open_, false⟩ r s.dev → r.params = [] →
    let d := s.dev.taken r
    Completes (.placementStatus r) s (Replied 0x0607 r
      (okWith (leBytes 2 d.ownedPatches.length ++ leBytes 2 d.directedPatches.length ++ leBytes 4 0 ++
        ((List.range 8).flatMap fun m => leBytes 2 (d.rd P.NEIGH [m]) ++ leBytes 1 (d.link m).state ++ leBytes 1 0 ++
          leBytes 2 (d.rd P.LINK_DELAY [m]) ++ leBytes 2 (d.link m).score) ++ (d.ownedEntries.take 160).flatten)) d)) ∧
  (∀ (s : State) (r : Req), Serves ⟨0x0608, .open_, false⟩ r s.dev → r.params = [] →
    Completes (.timeStatus r) s (Replied 0x0608 r
      (okWith (leBytes 8 s.dev.now ++ leBytes 1 (s.dev.rd P.TIME_SRC) ++ leBytes 1 (s.dev.rd P.TIME_HOPS) ++
        leBytes 2 (s.dev.rd P.ROOT_ADDR) ++ leBytes 4 (s.dev.rd P.TIME_OFS))) (s.dev.taken r))) ∧
  (∀ (s : State) (r : Req) (l : List (List Byte)) (n : Nat), Serves ⟨0x0603, .open_, false⟩ r s.dev → r.params.length = 4 →
    leAt r.params 0 2 = n → s.dev.plc.censuses.find? (fun c => decide (c.num = n)) = some ⟨n, l⟩ →
    let e := (l.drop (40 * leAt r.params 2 2)).take 40
    Completes (.censusRead r) s (Replied 0x0603 r
      (okWith (leBytes 2 n ++ leBytes 2 (leAt r.params 2 2) ++ leBytes 2 e.length ++ leBytes 2 l.length ++ e.flatten))
      (s.dev.taken r))) ∧
  (∀ (s : State) (r : Req), Serves ⟨0x4403, .device, false⟩ r s.dev → 2 ≤ r.params.length →
    Completes (.censusGather r) s (Replied 0x4403 r (okWith (s.dev.taken r).censusEntry) (s.dev.taken r))) ∧
  (∀ (s : State) (r : Req), Serves ⟨0x0602, .open_, false⟩ r s.dev → r.params = [] → s.dev.plc.census = none →
    let d := s.dev.taken r
    let n := s.dev.plc.censusNo
    (s.dev.plc.topo.vals = [] →
      Completes (.census r) s (Replied 0x0602 r (okWith (leBytes 2 n))
        (({ d with
            plc := { s.dev.plc with
              census := none
              censusNo := (n + 1) % 65536
              censuses := (⟨n, [d.censusEntry]⟩ :: s.dev.plc.censuses).take 4 } } : Dev).complete
          ⟨0x0602, r.seq, r.host⟩ .ok 0 (leBytes 2 n)))) ∧
    (s.dev.plc.topo.vals ≠ [] →
      Completes (.census r) s (Replied 0x0602 r (okWith (leBytes 2 n))
        (({ d with
            plc := { s.dev.plc with
              censusNo := (n + 1) % 65536
              census := some ⟨n, ⟨0x0602, r.seq, r.host⟩, [], (s.dev.plc.topo.vals.map fun l => (l.addr, l.uid)), [d.censusEntry],
                s.dev.clk⟩ } } : Dev).gatherMore))))

/-- CONFIG_STAGE puts its block into the staging of its digest, whatever of it the store was writing is dropped where the block
is new or differs, and a staging complete already completes at once (R251). CONFIG_ACTIVATE schedules T_A for a complete staging
of the request's generation, from 100 ms to 60 s ahead (R252). CONFIG_DISCARD clears the staging and any scheduled activation,
and with nothing staged is answered ST_DENIED, NOT_STAGED (R253). CONFIG_EXCHANGE is answered with the device's own block
(R254). -/
def Obligations.ConfigurationRequests : Prop :=
  (∀ (s : State) (r : Req) (i : Nat) (b : List Byte), Serves ⟨0x0604, .operator, true⟩ r s.dev → r.params.length ≤ 1034 →
    r.params.drop 10 = b → b ≠ [] → leAt r.params 8 2 = i →
    let own := (s.dev.plc.stage.filter fun g => g.digest == r.params.take 8)
    ((own.bind fun g => g.blocks.get? 0).all fun h => decide (i < leAt h 4 2)) = true →
    (own = none → s.dev.plc.stage.any (·.act.isSome) = false) →
    (i = 0 → leAt b 4 2 ≠ 0 ∧ leAt b 0 4 % 65536 = r.gen ∧ s.dev.rd P.CFG_GEN < leAt b 0 4 ∧
      (s.dev.bulkSize 11 = 0 ∨ 2 * 1024 * leAt b 4 2 ≤ s.dev.bulkSize 11)) →
    let g := own.getD ⟨r.params.take 8, r.gen, KMap.empty, false, none, [], false⟩
    let t : Ticket := ⟨0x0604, r.seq, r.host⟩
    let more : Stage := { g.put i b with complete := false, tickets := g.tickets ++ [t] }
    (own ≠ none → g.put i b = g → g.complete = true →
      Completes (.configStage r) s (Replied 0x0604 r okay ((s.dev.taken r).complete t .ok))) ∧
    (own ≠ none → g.put i b = g → g.complete = false →
      Completes (.configStage r) s (Replied 0x0604 r okay ((s.dev.taken r).setStage (some more)))) ∧
    (own = none ∨ g.put i b ≠ g →
      Completes (.configStage r) s (Replied 0x0604 r okay ((s.dev.taken r).dropStaged.setStage (some more))))) ∧
  (∀ (s : State) (r : Req) (g : Stage) (t : Nat), Serves ⟨0x0605, .operator, true⟩ r s.dev → r.params.length = 8 →
    leAt r.params 0 8 = t → s.dev.plc.stage = some g → g.complete = true → g.gen % 65536 = r.gen →
    s.dev.now + ms 100 ≤ t → t ≤ s.dev.now + sec 60 → s.dev.rd P.TIME_SRC ≠ 0 →
    Completes (.configActivate r) s (Replied 0x0605 r okay ((s.dev.taken r).setStage (some { g with act := some t })))) ∧
  (∀ (s : State) (r : Req), Serves ⟨0x0606, .operator, true⟩ r s.dev → r.params = [] →
    (s.dev.plc.stage = none → Completes (.configDiscard r) s (Replied 0x0606 r ⟨.denied, 0x2405, []⟩ (s.here.takeCounter r))) ∧
    (s.dev.plc.stage ≠ none → Completes (.configDiscard r) s fun t =>
      t.plc.stage = none ∧ t.rd P.STG_STATE = 0 ∧ t.rd P.STG_GEN = 0 ∧ t.rd P.ACT_LO = 0 ∧ t.rd P.ACT_HI = 0 ∧
      (∀ j ∈ t.nv.bulkQ, j.why ≠ .config) ∧ t.tbl = s.dev.tbl ∧ t.plc.image = s.dev.plc.image ∧
      t.rd P.CFG_GEN = s.dev.rd P.CFG_GEN)) ∧
  (∀ (s : State) (r : Req), Serves ⟨0x4404, .device, false⟩ r s.dev → r.params.length = 40 →
    (s.dev.linkTo r.source = none →
      Completes (.configExchange r) s (Replied 0x4404 r (okWith ((s.dev.taken r).configBlock 0)) (s.dev.taken r))) ∧
    (∀ m, s.dev.linkTo r.source = some m →
      Completes (.configExchange r) s (Replied 0x4404 r
        (okWith (((s.dev.taken r).takeExchange m r.params false).configBlock m))
        ((s.dev.taken r).takeExchange m r.params false))))

/-! ## Requests of memory, converters, shutters and the store -/

/-- MEM_STATUS returns 92 bytes: FSP_CUR, MEM_MODE, SPARES_LEFT, a reserved byte, the state of each of the 16 ranks, CE_CNT and
UE_CNT of each, MIG_PTR, DEMAND, and two reserved bytes (R298). -/
def Obligations.MemStatusLayout : Prop :=
  ∀ (s : State) (r : Req), Serves ⟨0x0700, .open_, false⟩ r s.dev → r.params = [] →
    let d := (s.dev.taken r).senseMigration.senseDemand
    ∃ b : List Byte, b.length = 92 ∧
      b = leBytes 1 (d.rd P.FSP_CUR) ++ leBytes 1 (d.rd P.MEM_MODE) ++ leBytes 1 (d.rd P.SPARES_LEFT) ++ leBytes 1 0 ++
        ((List.range 16).flatMap fun n => leBytes 1 (d.rankState n)) ++
        ((List.range 16).flatMap fun n => leBytes 2 (d.rd P.CE_CNT [n])) ++
        ((List.range 16).flatMap fun n => leBytes 2 (d.rd P.UE_CNT [n])) ++
        leBytes 4 (d.rd P.MIG_PTR) ++ leBytes 2 (d.rd P.DEMAND) ++ leBytes 2 0 ∧
      Completes (.memStatus r) s (Replied 0x0700 r (okWith b) d)

/-- NV_STATUS returns 76 bytes: NV_STATE, BULK_PRESENT and BULK_KIND, BUF_FILL, COMMITS, two reserved bytes, the power-on hours
of counter 64, and AREA_FREE and ERASE_MAX of areas 0 to 15 (R367). -/
def Obligations.NvStatusLayout : Prop :=
  ∀ (s : State) (r : Req), Serves ⟨0x0A01, .open_, false⟩ r s.dev → r.params = [] →
    let d := s.dev.taken r
    ∃ b : List Byte, b.length = 76 ∧
      b = leBytes 1 (d.rd P.NV_STATE) ++ leBytes 1 (d.rd P.BULK_PRESENT + 2 * d.rd P.BULK_KIND) ++ leBytes 2 d.nv.fill ++
        leBytes 2 (d.rd P.NV_COMMITS) ++ leBytes 2 0 ++ leBytes 4 (d.rd P.COUNTER [64]) ++
        ((List.range 16).flatMap fun a => leBytes 2 (d.areaFree a) ++ leBytes 2 (d.eraseMax a)) ∧
      Completes (.nvStatus r) s (Replied 0x0A01 r (okWith b) d)

/-- MEM_PROFILE writes the five fields of its profile; one that names the set point in force is answered at once, and another
begins the switch and is answered when it ends (R285, R297). MARGIN_SCAN begins a scan of a channel, and MARGIN_ABORT has it
stop at its next step (R288, R289). NV_COMMIT with an empty buffer completes at once, with a commit running waits for the next,
and otherwise begins one (R354, R355). -/
def Obligations.MemoryRequests : Prop :=
  (∀ (s : State) (r : Req) (p : Nat), Serves ⟨0x0701, .operator, false⟩ r s.dev → r.params = [BitVec.ofNat 8 p] → p < 7 →
    let t := s.dev.tblRead (0x30C0 + p) 0 16
    let f := byteAt t 0 % 2
    let e := (((s.dev.taken r).wrs [(P.REF_POSTPONE, [], byteAt t 1), (P.PD_IDLE, [], leAt t 2 2), (P.MIG_RATE, [], leAt t 4 2),
      (P.ARM_LIMIT, [], leAt t 6 2), (P.MEM_PROF, [], p)]).wrote 0x30)
    (s.dev.rd P.FSP_CUR = f → s.dev.is P.FSP_BUSY = false →
      Completes (.memProfile r) s (Replied 0x0701 r okay (e.wr P.FSP_SEL [] f))) ∧
    (s.dev.rd P.FSP_CUR ≠ f → s.dev.pointCheck f = none →
      Completes (.memProfile r) s (Follows ((e.beginPoint f).hold 0x0701 r .setPoint)))) ∧
  (∀ (s : State) (r : Req), Serves ⟨0x4300, .service, false⟩ r s.dev → scanCheck s.dev r = none →
    let c := byteAt r.params 0
    let lane := byteAt r.params 1
    let x : Scan := ⟨byteAt r.params 2, if lane = 1 then 1 else 0, if lane = 0xFF then [1] else [], [], false,
      ⟨0x4300, r.seq, r.host⟩⟩
    Completes (.marginScan r) s (Replied 0x4300 r okay
      (({ s.dev.taken r with mem := { s.dev.mem with scans := s.dev.mem.scans.put c x } } : Dev).refreshMode))) ∧
  (∀ (s : State) (r : Req) (c : Nat) (x : Scan), Serves ⟨0x4301, .service, false⟩ r s.dev → r.params = [BitVec.ofNat 8 c] → c < 8 →
    s.dev.mem.scans.get? c = some x →
    Completes (.marginAbort r) s (Replied 0x4301 r okay
      { s.dev.taken r with mem := { s.dev.mem with scans := s.dev.mem.scans.put c { x with stopping := true } } })) ∧
  (∀ (s : State) (r : Req), Serves ⟨0x0A00, .operator, false⟩ r s.dev → r.params = [] →
      let t : Ticket := ⟨0x0A00, r.seq, r.host⟩
      let waits : Dev := { s.dev.taken r with
        nv := { (s.dev.taken r).nv with waiting := s.dev.nv.waiting ++ [t] } }
      (s.dev.nv.commit ≠ none → Completes (.nvCommit r) s (Replied 0x0A00 r okay waits)) ∧
      (s.dev.nv.commit = none → s.dev.nv.buf = [] →
        Completes (.nvCommit r) s (Replied 0x0A00 r okay
          (({ s.dev.taken r with nv := { (s.dev.taken r).nv with lostRec := false } } : Dev).complete t
            (if s.dev.nv.lostRec then .fault else .ok) (if s.dev.nv.lostRec then 0x3304 else 0)))) ∧
      (s.dev.nv.commit = none → s.dev.nv.buf ≠ [] → Completes (.nvCommit r) s (Replied 0x0A00 r okay waits.beginCommit)))

/-- CONV_SEQ_START starts a sequence that may start (R313); CONV_STATUS takes the result of DATA and reports (R311, R325). The
four steps of CONV_CALIBRATE begin, or in steps 2 and 3 act and complete at once; each waits while an injected conversion of the
modulator is queued or runs (R318, R319). -/
def Obligations.ConverterRequests : Prop :=
  (∀ (s : State) (r : Req) (m : Nat), Serves ⟨0x0800, .operator, false⟩ r s.dev → r.params = [BitVec.ofNat 8 m] → m < 4 →
    s.dev.startCheck m = none →
    Completes (.convSeqStart r) s (Replied 0x0800 r okay ((s.dev.taken r).startSeq m))) ∧
  (∀ (s : State) (r : Req) (m : Nat), Serves ⟨0x0801, .open_, false⟩ r s.dev → r.params = [BitVec.ofNat 8 m] → m < 4 →
    let d := (s.dev.taken r).takeData m
    Completes (.convStatus r) s (Replied 0x0801 r
      (okWith (leBytes 4 (d.2.word (0x310010 + m)) ++ leBytes 4 (d.2.word (0x310014 + m)) ++ leBytes 4 d.1 ++
        leBytes 4 (d.2.word (0x31001C + m)) ++ leBytes 4 (d.2.word 0x310000) ++
        (List.range 32).flatMap fun i =>
          leBytes 4 (d.2.word (0x310101 + 4 * (32 * m + i))) ++ leBytes 4 (d.2.rd P.CH_ENG [32 * m + i]))) d.2)) ∧
  (∀ (s : State) (r : Req) (m st : Nat), Serves ⟨0x0802, .service, false⟩ r s.dev →
    r.params = [BitVec.ofNat 8 m, BitVec.ofNat 8 st] → m < 4 → s.dev.recalling = false → (s.dev.mod m).cal = none →
    let ch := s.dev.rd P.CAL_CH [m]
    let t : Ticket := ⟨0x0802, r.seq, r.host⟩
    let waits := ((s.dev.taken r).setMod m { s.dev.mod m with cal := some ⟨st, ch, [], true, t⟩ }).calState m
    let begun := ((s.dev.taken r).setMod m { s.dev.mod m with cal := some ⟨st, ch, [], false, t⟩ }).calState m
    let free := (s.dev.mod m).inj = []
    (st = 0 → ch ≠ 0x7F → (free → Completes (.convCalibrateZero r) s (Replied 0x0802 r okay begun)) ∧
      (¬free → Completes (.convCalibrateZero r) s (Replied 0x0802 r (refuse .deferred 0x3109) waits))) ∧
    (st = 1 → ch ≠ 0x7F → s.dev.zeroKept m = true →
      (free → Completes (.convCalibrateFullScale r) s (Replied 0x0802 r okay begun)) ∧
      (¬free → Completes (.convCalibrateFullScale r) s (Replied 0x0802 r (refuse .deferred 0x3109) waits))) ∧
    (st = 2 → ch ≠ 0x7F →
      (free → Completes (.convCalibrateFactory r) s (Replied 0x0802 r okay
        ((((s.dev.taken r).setCoef m (s.dev.rd P.GAIN [ch]) ((s.dev.taken r).factoryCoef m (s.dev.rd P.GAIN [ch])).1
          ((s.dev.taken r).factoryCoef m (s.dev.rd P.GAIN [ch])).2).calOver m).complete t .ok))) ∧
      (¬free → Completes (.convCalibrateFactory r) s (Replied 0x0802 r (refuse .deferred 0x3109) waits))) ∧
    (st = 3 → (free → Completes (.convCalibrateAbandon r) s (Replied 0x0802 r okay
        ((((s.dev.taken r).setMod m { s.dev.mod m with zero := none }).calOver m).complete t .ok))) ∧
      (¬free → Completes (.convCalibrateAbandon r) s (Replied 0x0802 r (refuse .deferred 0x3109) waits))))

/-- SHUTTER_DRIVE_STATUS reports a channel, its switch and its partner, with the currents measured anew (R343). SHUTTER_TEST
diagnoses, closes, releases and applies a profile to channels; a close that the checks of R330 refuse says so, and one they
defer waits. A clear begins the diagnoses it needs and is answered when they have ended (R338). -/
def Obligations.ShutterRequests : Prop :=
  (∀ (s : State) (r : Req) (n : Nat), Serves ⟨0x0900, .open_, false⟩ r s.dev → r.params = [BitVec.ofNat 8 n] → n < 64 →
    let d := ((s.dev.taken r).senseCoil n).senseCoil (partner n)
    Completes (.shutterDriveStatus r) s (Replied 0x0900 r
      (okWith (((List.range 8).flatMap fun i =>
          if i = 4 then leBytes 4 (d.dutyWord n) else leBytes 4 (d.word (0x320100 + 8 * n + i))) ++
        leBytes 4 (d.word (0x320500 + n / 2)) ++ leBytes 4 (d.word (0x320100 + 8 * partner n)))) d)) ∧
  (∀ (s : State) (r : Req) (n : Nat), Serves ⟨0x0901, .service, false⟩ r s.dev → r.params = [BitVec.ofNat 8 n, 0] →
    (n < 64 → s.dev.is P.CH_EN [n] = true →
      Completes (.shutterTestDiagnose r) s (Replied 0x0901 r okay ((s.dev.taken r).diagnose n .plain))) ∧
    (n = 0xFF → Completes (.shutterTestDiagnose r) s (Replied 0x0901 r okay
      ((s.dev.taken r).each ((List.range 64).filter fun c => (s.dev.taken r).is P.CH_EN [c]) fun c d => d.diagnose c .plain)))) ∧
  (∀ (s : State) (r : Req) (n : Nat), Serves ⟨0x0901, .service, false⟩ r s.dev → r.params = [BitVec.ofNat 8 n, 1] → n < 64 →
    s.dev.recalling = false → s.dev.is P.CH_EN [n] = true → (s.dev.taken r).inUse n = false →
    let a := (s.dev.taken r).closeCheck n false false
    (a.status = .ok → Completes (.shutterTestClose r) s (Replied 0x0901 r a
      (((s.dev.taken r).countRefusal n a).energise n 2))) ∧
    (a.status = .deferred → Completes (.shutterTestClose r) s (Replied 0x0901 r a
      (let d := (s.dev.taken r).countRefusal n a
       ((d.setSh n { d.sh n with wait := some ⟨0x0901, r.seq, r.host⟩ }).wrs [(P.DRV_STATE, [n], 1),
         (P.OWNER, [n], 2)]).refreshPair n))) ∧
    (a.status ∈ [.duty, .denied, .busy, .busyNv] → Completes (.shutterTestClose r) s (Replied 0x0901 r a
      ((s.dev.taken r).countRefusal n a)))) ∧
  (∀ (s : State) (r : Req) (n : Nat), Serves ⟨0x0901, .service, false⟩ r s.dev → r.params = [BitVec.ofNat 8 n, 2] → n < 64 →
    s.dev.is P.CH_EN [n] = true →
    (s.dev.drv n = 1 → Completes (.shutterTestRelease r) s (Replied 0x0901 r okay
      ((s.dev.taken r).endWait n (refuse .denied 0x320A)))) ∧
    (s.dev.drv n ≠ 1 → (s.dev.energised n = false ∨ s.dev.rd P.OWNER [n] ≠ 1) →
      Completes (.shutterTestRelease r) s (Replied 0x0901 r okay ((s.dev.taken r).releaseCh n)))) ∧
  (∀ (s : State) (r : Req) (n : Nat), Serves ⟨0x0901, .service, false⟩ r s.dev → r.params = [BitVec.ofNat 8 n, 3] → n < 64 →
    s.dev.is P.CH_EN [n] = true → s.dev.chActive n = false →
    Completes (.shutterTestClear r) s (Follows
      (((((s.dev.taken r).each (s.dev.clearSet n) fun c d => d.abandonDiag c).each (s.dev.clearSet n)
        fun c d => d.setSh c { d.sh c with diag := some (.clear n), clearOk := none }).refreshRest n).hold 0x0901 r (.clearing n)))) ∧
  (∀ (s : State) (r : Req) (n p : Nat), Serves ⟨0x0901, .service, false⟩ r s.dev →
    r.params = [BitVec.ofNat 8 n, BitVec.ofNat 8 (16 * p + 4)] → p < 7 → n < 64 → s.dev.drv n ∉ [1, 2, 3] →
    s.dev.storeBusy = none →
    Completes (.shutterTestApplyProfile r) s (Replied 0x0901 r okay
      ((((s.dev.taken r).applyDrive n p).storeParams [0x320101 + 8 * n, 0x320102 + 8 * n, 0x320103 + 8 * n]).wrote 0x32))) ∧
  (∀ (s : State) (r : Req) (p : Nat), Serves ⟨0x0901, .service, false⟩ r s.dev →
    r.params = [0xFF, BitVec.ofNat 8 (16 * p + 4)] → p < 7 → s.dev.storeBusy = none →
    let set := (List.range 64).filter fun c => !decide (s.dev.drv c ∈ [1, 2, 3])
    Completes (.shutterTestApplyProfile r) s (Replied 0x0901 r okay
      ((((s.dev.taken r).each set fun c d => d.applyDrive c p).storeParams
        (set.flatMap fun c => [0x320101 + 8 * c, 0x320102 + 8 * c, 0x320103 + 8 * c])).wrote 0x32)))

/-- DOZE begins entry: DEV_STATE becomes 5 (R392); it is refused while WAKE is high, a session is open or a trial runs. WAKE is
a wake event (R394). WORKROOM_RESTART is answered ST_OK and stops Workroom with cause 4 (R387). Doze entry ends with the notices
sent, the write buffer committed, the refreshes paid and DEV_STATE 3 (R392, R393). A rising WAKE is a wake event (R394); the
wake ends with DEV_STATE as it runs, WAKE_TIME, and what Table 12-13 restores (R395). UL_MODABS without a module takes its
uplink down, and an uplink comes up only outside Doze and recovery, enabled and with a module (R440). -/
def Obligations.PowerRequests : Prop :=
  (∀ (s : State) (r : Req), Serves ⟨0x0B00, .operator, true⟩ r s.dev → r.params = [] →
    (s.dev.pins.wake = true → Completes (.doze r) s (Replied 0x0B00 r ⟨.denied, 0x4010, []⟩ (s.here.takeCounter r))) ∧
    (s.dev.pins.wake = false → s.dev.boot.session ≠ none →
      Completes (.doze r) s (Replied 0x0B00 r ⟨.busy, 0x4007, []⟩ (s.here.takeCounter r))) ∧
    (s.dev.pins.wake = false → s.dev.boot.session = none → s.dev.boot.trial ≠ none →
      Completes (.doze r) s (Replied 0x0B00 r ⟨.busy, 0x4008, []⟩ (s.here.takeCounter r))) ∧
    (s.dev.pins.wake = false → s.dev.boot.session = none → s.dev.boot.trial = none →
      Completes (.doze r) s (Replied 0x0B00 r okay (s.dev.taken r).beginDoze))) ∧
  (∀ (s : State) (r : Req), Serves ⟨0x0B01, .operator, true⟩ r s.dev → r.params = [] →
    (s.dev.rd P.DEV_STATE = 3 → Completes (.wake r) s fun t => t.rd P.DEV_STATE = 6 ∧ t.rd P.WAKE_SRC = 2 ∧
      t.boot.wakeAt = s.dev.clk ∧ t.boot.wakeLatched = none ∧ Replied 0x0B01 r okay ((s.dev.taken r).beginWake 2) t) ∧
    (s.dev.rd P.DEV_STATE = 5 → s.dev.boot.wakeLatched = none → Completes (.wake r) s fun t =>
      t.rd P.DEV_STATE = 5 ∧ t.boot.wakeLatched = some 2) ∧
    (s.dev.rd P.DEV_STATE ≠ 3 → (s.dev.rd P.DEV_STATE ≠ 5 ∨ s.dev.boot.wakeLatched ≠ none) → Completes (.wake r) s (Replied 0x0B01 r okay (s.dev.taken r)))) ∧
  (∀ (s : State) (r : Req), Serves ⟨0x0B02, .service, false⟩ r s.dev → r.params = [] →
    Completes (.workroomRestart r) s (Replied 0x0B02 r okay ((s.dev.taken r).stopWorkroom 4))) ∧
  (∀ (s : State) (p : Prog), (s.dev.rd P.DEV_STATE ≠ 5 → Idle (.dozeEntry p) s) ∧
    (s.dev.alive = true → s.dev.rd P.DEV_STATE = 5 →
      let d := s.here.dozeNotices.dropFrames
      let d := if d.nv.commit.isSome then commitEnd p d else d
      let d := if d.nv.buf.isEmpty || d.nv.commit.isSome then d else d.beginCommit
      let d := if d.nv.commit.isSome then commitEnd p d else d
      let d := d.memDoze.each [0, 1, 2, 3] fun u d => d.put P.UL_LINK_UP [u] false
      let d : Dev := { d with kcp := { d.kcp with replyQ := KMap.empty, paused := KMap.empty } }
      let d := (d.wr P.DEV_STATE [] 3).count 132
      (d.boot.wakeLatched = none → Completes (.dozeEntry p) s (Follows d)) ∧
      (∀ src, d.boot.wakeLatched = some src → Completes (.dozeEntry p) s (Follows (d.beginWake src))))) ∧
  (∀ s : State, Completes (.wakePin false) s (Follows { s.here with pins := { s.dev.pins with wake := false } }) ∧
    (s.dev.alive = true → s.dev.pins.wake = false →
      Completes (.wakePin true) s (Follows (({ s.here with pins := { s.dev.pins with wake := true } } : Dev).wakeEvent 1))) ∧
    (s.dev.pins.wake = true → Idle (.wakePin true) s)) ∧
  (∀ s : State, (s.dev.rd P.DEV_STATE ≠ 6 → Idle .wakeComplete s) ∧
    (s.dev.alive = true → s.dev.rd P.DEV_STATE = 6 →
      let d := s.here.wrs [(P.DEV_STATE, [], s.dev.runState), (P.WAKE_TIME, [], min 65535 ((s.dev.clk - s.dev.boot.wakeAt) / 1000))]
      let d := (d.memWake.calWake).convWake
      let ends := KMap.ofList ([0, 1, 2, 3].map fun r => (r, d.clk + 1000 * d.rd P.RATE_WINDOW))
      let d : Dev := { d with pipe := { d.pipe with winEnd := ends, easing := [] } }
      let d := d.each d.ing.strms.keys fun x d => d.setStrm x { d.strm x with heard := d.clk }
      Completes .wakeComplete s (Follows d.activateAtWake.sendViews))) ∧
  (∀ (s : State) (u : Nat), u < 4 →
    Completes (.ulModabs u false) s (Follows (s.here.wr P.UL_MODABS [u] 0)) ∧
    Completes (.ulModabs u true) s (Follows ((s.here.wr P.UL_MODABS [u] 1).wr P.UL_LINK_UP [u] 0)) ∧
    Completes (.uplinkLinkUp u false) s (Follows (s.here.wr P.UL_LINK_UP [u] 0)) ∧
    (s.dev.awake = true → s.dev.boot.started = true → s.dev.rd P.DEV_STATE ≠ 7 → s.dev.is P.UL_EN [u] = true →
      s.dev.is P.UL_MODABS [u] = false → Completes (.uplinkLinkUp u true) s (Follows (s.here.wr P.UL_LINK_UP [u] 1))) ∧
    ((s.dev.awake = false ∨ s.dev.is P.UL_EN [u] = false ∨ s.dev.is P.UL_MODABS [u] = true) →
      Completes (.uplinkLinkUp u true) s (Follows (s.here.wr P.UL_LINK_UP [u] 0))))

/-- EVENT_READ returns up to 21 records from an index of the ring, LOG_READ up to 19 of the log, HEALTH_STATUS the scope it
names, and EVENT_ROUTE routes one source, or with 0xFFFF every source (R402, R414, R415). -/
def Obligations.EventRequests : Prop :=
  (∀ (s : State) (r : Req), Serves ⟨0x0C00, .open_, false⟩ r s.dev → r.params.length = 6 → 1 ≤ leAt r.params 4 2 →
    leAt r.params 4 2 ≤ 21 →
    let d := s.dev.taken r
    let l := d.eventsFrom (leAt r.params 0 4) (leAt r.params 4 2)
    Completes (.eventRead r) s (Replied 0x0C00 r
      (okWith (leBytes 4 l.1 ++ leBytes 4 (d.rd P.RING_HEAD) ++ l.2.flatMap fun e => e.bytes false)) d)) ∧
  (∀ (s : State) (r : Req), Serves ⟨0x0C02, .open_, false⟩ r s.dev → r.params.length = 6 → 1 ≤ leAt r.params 4 2 →
    leAt r.params 4 2 ≤ 19 →
    let d := s.dev.taken r
    let l := (d.logRecords.filter fun p => decide (leAt r.params 0 4 ≤ p.1)).take (leAt r.params 4 2)
    Completes (.logRead r) s (Replied 0x0C02 r
      (okWith (leBytes 4 ((l.head?.map (·.1)).getD (d.rd P.LOG_HEAD)) ++ leBytes 4 (d.rd P.LOG_HEAD) ++ l.flatMap (·.2))) d)) ∧
  (∀ (s : State) (r : Req) (x : Nat), Serves ⟨0x0C03, .open_, false⟩ r s.dev → r.params.length = 2 → leAt r.params 0 2 = x →
    let d := s.dev.taken r
    (x = 0 → Completes (.healthStatus r) s (Replied 0x0C03 r (okWith d.healthSummary) d)) ∧
    (0x1000 ≤ x → x < 0x1040 → Completes (.healthStatus r) s (Replied 0x0C03 r (okWith (d.coreEntry (x - 0x1000))) d)) ∧
    (0x2000 ≤ x → x < 0x2008 → Completes (.healthStatus r) s (Replied 0x0C03 r
      (okWith ((List.range 32).flatMap fun i => d.portEntry (32 * (x - 0x2000) + i))) d)) ∧
    (0x3000 ≤ x → x < 0x30C8 → Completes (.healthStatus r) s (Replied 0x0C03 r
      (okWith ((List.range 32).flatMap fun i => d.supplyEntry (32 * (x - 0x3000) + i))) d))) ∧
  (∀ (s : State) (r : Req) (x w : Nat), Serves ⟨0x0C01, .operator, false⟩ r s.dev → r.params.length = 4 → leAt r.params 0 2 = x →
    leAt r.params 2 2 = w → x < 512 → sourceKnown x = true → ((flagOfSource x).isNone = true → w / 32 % 4 = 0) →
    s.dev.storeBusy = none →
    Completes (.eventRoute r) s (Replied 0x0C01 r okay
      ((((s.dev.taken r).routeSource x (if (flagOfSource x).isSome then w % 128 else w % 32)
        (if w / 128 % 2 = 1 then none else some (w / 256 % 4))).storeParams [0x410200 + x]).wrote 0x41))) ∧
  (∀ (s : State) (r : Req) (w : Nat), Serves ⟨0x0C01, .operator, false⟩ r s.dev → r.params.length = 4 →
    leAt r.params 0 2 = 0xFFFF → leAt r.params 2 2 = w → s.dev.storeBusy = none →
    let all := (List.range 512).filter sourceKnown
    Completes (.eventRoute r) s (Replied 0x0C01 r okay
      ((((s.dev.taken r).each all fun x d => d.routeSource x (if (flagOfSource x).isSome then w % 128 else w % 32)
        (if w / 128 % 2 = 1 then none else some (w / 256 % 4))).storeParams (all.map (0x410200 + ·))).wrote 0x41)))

/-! ## Requests of parameters, taps and tables -/

/-- PRM_WRITE, PRM_BULK_WRITE and PRM_MODIFY write their entries, and PRM_MODIFY returns the old and the new value (R63, R66).
The rows that name one parameter are a PRM_WRITE of it: a start of a sequence (R313), an injected conversion (R316), a self-test
of a lane (R129), a direct write (R99), a set-point change (R285) and any parameter (R34). -/
def Obligations.ParameterWrites : Prop :=
  (∀ (s : State) (r : Req), Serves ⟨0x4001, .operator, true⟩ r s.dev → r.params.length % 8 = 0 → r.params ≠ [] →
    r.params.length ≤ 1360 →
    WritesEntries (.prmWrite r) ⟨0x4001, .operator, true⟩ r (fun _ => pairEntries r) (fun _ => []) s) ∧
  (∀ (s : State) (r : Req) (n : Nat), Serves ⟨0x4003, .operator, false⟩ r s.dev → leAt r.params 4 2 = n → 1 ≤ n → n ≤ 340 →
    r.params.length = 8 + 4 * n → idAt r 0 / 65536 = (idAt r 0 + n - 1) / 65536 →
    WritesEntries (.prmBulkWrite r) ⟨0x4003, .operator, false⟩ r (fun _ => bulkEntries r) (fun _ => []) s) ∧
  (∀ (s : State) (r : Req), Serves ⟨0x4004, .operator, false⟩ r s.dev → r.params.length = 12 →
    (∀ p ∈ rowsAt (idAt r 0), p.1.acc ≠ .rws ∧ p.1.acc ≠ .w1c) →
    WritesEntries (.prmModify r) ⟨0x4004, .operator, false⟩ r (fun d => d.modifyEntry r)
      (fun e => leBytes 4 ((s.dev.taken r).view (idAt r 0)) ++ leBytes 4 (e.view (idAt r 0))) s) ∧
  (∀ (s : State) (r q : Req) (c : Instr) (a v m f : Nat), m < 4 → f < 128 →
    (c, q) ∈ [(Instr.parameterWrite r a v, oneEntry r a v),
      (.seqGo r m, oneEntry r (0x310010 + m) (setBit (s.here.view (0x310010 + m)) 0)),
      (.injGo r f, oneEntry r (0x310024 + f / 32) (f + 128)), (.testGo r f, oneEntry r 0x210013 (f + 256)),
      (.directData r v, oneEntry r 0x2000A1 v), (.fspSel r v, oneEntry r 0x300010 (v % 2))] →
    Serves ⟨0x4001, .operator, true⟩ q s.dev →
    WritesEntries c ⟨0x4001, .operator, true⟩ q (fun _ => pairEntries q) (fun _ => []) s)

/-- PRM_READ and PRM_BULK_READ return a word for each ID, read in order, and an ID that no table lists is ST_BADPARAM, PRM_ID,
with its index (R66). The rows DATA and TIME_LO read one parameter: a read of DATA takes the result (R311), and one of TIME_LO
latches the upper word of the time (Table 7-11). -/
def Obligations.ParameterReads : Prop :=
  (∀ (s : State) (r : Req) (ids : List Nat), Serves ⟨0x4000, .open_, false⟩ r s.dev → r.params.length = 4 * ids.length →
    ids ≠ [] → ids.length ≤ 340 → (∀ i a, ids[i]? = some a → idAt r (4 * i) = a) →
    ((∀ a ∈ ids, readable a = true) → Completes (.prmRead r) s (Replied 0x4000 r
      (okWith ((s.dev.taken r).readWords ids).1) ((s.dev.taken r).readWords ids).2)) ∧
    (∀ i a, ids[i]? = some a → readable a = false → (∀ b ∈ ids.take i, readable b = true) →
      Completes (.prmRead r) s (Replied 0x4000 r ⟨.badParam, 0x0015, leBytes 2 i⟩ (s.here.takeCounter r)))) ∧
  (∀ (s : State) (r : Req) (a n : Nat), Serves ⟨0x4002, .open_, false⟩ r s.dev → r.params.length = 8 → idAt r 0 = a →
    leAt r.params 4 2 = n → 1 ≤ n → n ≤ 340 → a / 65536 = (a + n - 1) / 65536 →
    let ids := (List.range n).map fun i => a + i
    ((∀ i, i < n → readable (a + i) = true) → Completes (.prmBulkRead r) s (Replied 0x4002 r
      (okWith ((s.dev.taken r).readWords ids).1) ((s.dev.taken r).readWords ids).2)) ∧
    (∀ i, i < n → readable (a + i) = false → (∀ j, j < i → readable (a + j) = true) →
      Completes (.prmBulkRead r) s (Replied 0x4002 r ⟨.badParam, 0x0015, leBytes 2 i⟩ (s.here.takeCounter r)))) ∧
  (∀ (s : State) (r : Req) (m : Nat), m < 4 → Serves ⟨0x4000, .open_, false⟩ { r with params := leBytes 4 (0x310018 + m) } s.dev →
    let q : Req := { r with params := leBytes 4 (0x310018 + m) }
    let d := (s.dev.taken q).takeData m
    Completes (.data r m) s (Replied 0x4000 q (okWith (leBytes 4 d.1)) d.2)) ∧
  (∀ (s : State) (r : Req), Serves ⟨0x4000, .open_, false⟩ { r with params := leBytes 4 0x240063 } s.dev →
    let q : Req := { r with params := leBytes 4 0x240063 }
    Completes (.timeLo r) s (Replied 0x4000 q (okWith (leBytes 4 (s.dev.now % 2 ^ 32)))
      { s.dev.taken q with plc := { s.dev.plc with timeHi := s.dev.now / 2 ^ 32 } }))

/-- TAP_SET writes a tap's fields, and enables it with both indices at 0 where its rate and the DRAM hold it, or disables it,
which stops its stream; TAP_STREAM makes the streamer of an uplink the consumer of an enabled tap, and with uplink 0xFF stops it
(R132, R135 to R137). TABLE_READ returns bytes of a table, and TABLE_WRITE writes them where every check of R68 passes; the
checks that fail answer for it. -/
def Obligations.TapAndTableRequests : Prop :=
  (∀ (s : State) (r : Req) (t : Nat), Serves ⟨0x4100, .operator, false⟩ r s.dev → r.params.length = 8 → byteAt r.params 0 = t →
    t < 16 → boundaryOk (byteAt r.params 1) (bitOf (byteAt r.params 2) 6) = true → 16 ≤ byteAt r.params 4 →
    byteAt r.params 4 ≤ 30 →
    let d := s.dev.taken r
    (bitOf (byteAt r.params 5) 0 = true → s.dev.is P.TAP_EN [t] = true →
      Completes (.tapSet r) s (Replied 0x4100 r ⟨.denied, 0x2105, []⟩ (s.here.takeCounter r))) ∧
    (bitOf (byteAt r.params 5) 0 = true → s.dev.is P.TAP_EN [t] = false →
      ((s.here.takeCounter r).tapFields r.params).tapEnableCheck t = none →
      Completes (.tapSet r) s (Replied 0x4100 r okay (((d.tapFields r.params).enableTap t).wrote 0x21))) ∧
    (bitOf (byteAt r.params 5) 0 = false → s.dev.is P.TAP_EN [t] = true →
      Completes (.tapSet r) s (Replied 0x4100 r okay (((d.disableTap t).tapFields r.params).wrote 0x21))) ∧
    (bitOf (byteAt r.params 5) 0 = false → s.dev.is P.TAP_EN [t] = false →
      Completes (.tapSet r) s (Replied 0x4100 r okay ((d.tapFields r.params).wrote 0x21)))) ∧
  (∀ (s : State) (r : Req) (t u : Nat), Serves ⟨0x4101, .operator, false⟩ r s.dev → r.params.length = 24 → byteAt r.params 0 = t →
    byteAt r.params 1 = u → t < 16 → u < 4 →
    ((s.dev.is P.TAP_EN [t] = false ∨ s.dev.is P.UL_EN [u] = false) →
      Completes (.tapStream r) s (Replied 0x4101 r ⟨.denied, 0x210A, []⟩ (s.here.takeCounter r))) ∧
    (s.dev.is P.TAP_EN [t] = true → s.dev.is P.UL_EN [u] = true → bitOf (byteAt r.params 2) 0 = false →
      s.dev.is P.STREAMING [t] = true →
      Completes (.tapStream r) s (Replied 0x4101 r okay
        ((((s.dev.taken r).wrs [(P.ST_UPLINK, [t], u), (P.ST_V6, [t], 0), (P.ST_PORT, [t], leAt r.params 4 2),
          (P.STREAMING, [t], 1)]).each (List.range 4) fun w d =>
            d.wr P.ST_ADDR [t, w] (beNat ((r.params.drop 8).take 4) / 2 ^ (32 * w))).wrote 0x21)))) ∧
  (∀ (s : State) (r : Req) (t : Nat), Serves ⟨0x4101, .operator, false⟩ r s.dev → r.params.length = 24 → byteAt r.params 0 = t →
    byteAt r.params 1 = 0xFF → t < 16 →
    (s.dev.is P.TAP_EN [t] = false →
      Completes (.tapStreamStop r) s (Replied 0x4101 r ⟨.denied, 0x210A, []⟩ (s.here.takeCounter r))) ∧
    (s.dev.is P.TAP_EN [t] = true →
      Completes (.tapStreamStop r) s (Replied 0x4101 r okay (((s.dev.taken r).put P.STREAMING [t] false).wrote 0x21)))) ∧
  (∀ (s : State) (r : Req) (t o n z : Nat), Serves ⟨0x4200, .service, false⟩ r s.dev → r.params.length = 12 →
    leAt r.params 0 2 = t → leAt r.params 4 4 = o → leAt r.params 8 2 = n → 1 ≤ n → n ≤ 1384 →
    (s.here.takeCounter r).tableSize t = some z → o + n ≤ z →
    Completes (.tableRead r) s (Replied 0x4200 r (okWith ((s.dev.taken r).tableBytes t o n))
      ((s.dev.taken r).touchTable t o n))) ∧
  (∀ (s : State) (r : Req) (t o : Nat) (bs : List Byte), Serves ⟨0x4201, .service, false⟩ r s.dev → leAt r.params 0 2 = t →
    leAt r.params 4 4 = o → r.params.drop 8 = bs →
    (∀ a, (s.here.takeCounter r).tableWriteCheck r = some a →
      Completes (.tableWrite r) s (Replied 0x4201 r a ((s.here.takeCounter r).statusFlags r.host a.status))) ∧
    ((s.here.takeCounter r).tableWriteCheck r = none →
      Completes (.tableWrite r) s (Replied 0x4201 r okay
        (((s.dev.taken r).touchTable t o bs.length).tableWritten t o bs ⟨0x4201, r.seq, r.host⟩))))

/-! ## Messages of the array -/

/-- A placement message for a patch that no image holds is ST_BADPARAM; one whose role the receiver does not hold ST_MOVED,
NOT_FORWARDED (R64, R234). The directory takes a VIEW as a candidacy and answers OWNER, EPOCH and T_C, takes a WITHDRAW, and
answers a QUERY. A message of a lower epoch is ST_STALE_EPOCH. A COMMIT of a higher epoch is adopted, one of the same epoch and
owner is known already, and any other is ST_STALE_EPOCH with the receiver's epoch (R235, R243). READY, which may tell of the
commit itself, has the former owner hand over; STATE tells the new owner the snapshot's size; DONE frees the slot of a device
that is no owner any more (R237). -/
def Obligations.PlacementMessages : Prop :=
  (∀ (s : State) (r : Req) (p op kind : Nat) (c : Instr),
    (c, op, kind) ∈ [(Instr.view r, 0x4400, 1), (.withdraw r, 0x4400, 2), (.commit r, 0x4400, 3), (.query r, 0x4400, 4),
      (.ready r, 0x4401, 1), (.state r, 0x4401, 2), (.done r, 0x4401, 3)] →
    Serves ⟨op, .device, false⟩ r s.dev → r.params.length = 32 → byteAt r.params 8 = kind → patchOf r = p →
    s.dev.patch? p = none → Completes c s (Replied op r badValue (s.here.takeCounter r))) ∧
  (∀ (s : State) (r : Req) (p op kind : Nat) (role : Bool) (c : Instr),
    (c, op, kind, role) ∈ [(Instr.view r, 0x4400, 1, s.dev.isDirectory p), (.withdraw r, 0x4400, 2, s.dev.isDirectory p),
      (.query r, 0x4400, 4, s.dev.isDirectory p), (.ready r, 0x4401, 1, s.dev.handsOver p), (.state r, 0x4401, 2, s.dev.owns p),
      (.done r, 0x4401, 3, s.dev.handsOver p)] →
    Serves ⟨op, .device, false⟩ r s.dev → r.params.length = 32 → byteAt r.params 8 = kind → patchOf r = p →
    (s.dev.patch? p).isSome = true → role = false →
    Completes c s (Replied op r
      (notForwarded (if (s.dev.place p).withdrawn then 0x3FF else (s.dev.place p).owner) (s.dev.place p).epoch)
      (s.here.takeCounter r))) ∧
  (∀ (s : State) (r : Req) (p : Nat), Serves ⟨0x4400, .device, false⟩ r s.dev → r.params.length = 32 → patchOf r = p →
    (s.dev.patch? p).isSome = true →
    let d := s.dev.taken r
    (byteAt r.params 8 = 1 → s.dev.isDirectory p = true →
      Completes (.view r) s (Replied 0x4400 r ((d.takeView p (candOf r)).placeAnswer p 1) (d.takeView p (candOf r)))) ∧
    (byteAt r.params 8 = 2 → s.dev.isDirectory p = true →
      Completes (.withdraw r) s (Replied 0x4400 r okay (d.takeWithdraw p r.source))) ∧
    (byteAt r.params 8 = 4 → s.dev.isDirectory p = true →
      Completes (.query r) s (Replied 0x4400 r (d.placeAnswer p 4) d)) ∧
    (byteAt r.params 8 = 3 → (s.dev.place p).epoch < leAt r.params 16 4 →
      Completes (.commit r) s (Replied 0x4400 r okay
        (d.adopt p (leAt r.params 10 2 % 1024) (leAt r.params 12 2 % 1024) (leAt r.params 16 4) (leAt r.params 20 8)
          (byteAt r.params 9)))) ∧
    (byteAt r.params 8 = 3 → (s.dev.place p).epoch = leAt r.params 16 4 → (s.dev.place p).owner = leAt r.params 10 2 % 1024 →
      Completes (.commit r) s (Replied 0x4400 r okay d)) ∧
    (byteAt r.params 8 = 3 → leAt r.params 16 4 < (s.dev.place p).epoch →
      Completes (.commit r) s (Replied 0x4400 r ⟨.staleEpoch, 0, leBytes 4 (s.dev.place p).epoch⟩ d)) ∧
    (byteAt r.params 8 = 3 → (s.dev.place p).epoch = leAt r.params 16 4 → (s.dev.place p).owner ≠ leAt r.params 10 2 % 1024 →
      Completes (.commit r) s (Replied 0x4400 r ⟨.staleEpoch, 0, leBytes 4 (s.dev.place p).epoch⟩
        (d.epochClash p (leAt r.params 10 2 % 1024) r.source)))) ∧
  (∀ (s : State) (r : Req) (p : Nat), Serves ⟨0x4401, .device, false⟩ r s.dev → r.params.length = 32 → patchOf r = p →
    (s.dev.patch? p).isSome = true →
    let d := s.dev.taken r
    let pl := s.dev.place p
    let stale : Answer := ⟨.staleEpoch, 0, leBytes 4 pl.epoch⟩
    let e := leAt r.params 16 4
    (byteAt r.params 8 = 1 → s.dev.handsOver p = true → pl.epoch ≤ e →
      let x := if pl.epoch < e then d.adopt p r.source d.addr e (leAt r.params 20 8) (byteAt r.params 9) else d
      Completes (.ready r) s (Replied 0x4401 r okay
        (({ x with plc := { x.plc with ready := p :: x.plc.ready.filter (· ≠ p) } } : Dev).tryState p))) ∧
    (byteAt r.params 8 = 1 → s.dev.handsOver p = true → e < pl.epoch → Completes (.ready r) s (Replied 0x4401 r stale d)) ∧
    (byteAt r.params 8 = 2 → s.dev.owns p = true → e < pl.epoch → Completes (.state r) s (Replied 0x4401 r stale d)) ∧
    (byteAt r.params 8 = 3 → s.dev.handsOver p = true → e < pl.epoch → Completes (.done r) s (Replied 0x4401 r stale d)) ∧
    (byteAt r.params 8 = 2 → s.dev.owns p = true → pl.epoch ≤ e → s.dev.plc.handovers.get? p = none →
      Completes (.state r) s (Replied 0x4401 r okay d)) ∧
    (∀ h, byteAt r.params 8 = 2 → s.dev.owns p = true → pl.epoch ≤ e → s.dev.plc.handovers.get? p = some h →
      let h' : Handover := { h with size := leAt r.params 28 2, last := leAt r.params 20 8 }
      Completes (.state r) s (Replied 0x4401 r okay
        { d with plc := { d.plc with handovers := d.plc.handovers.put p h' } })) ∧
    (byteAt r.params 8 = 3 → s.dev.handsOver p = true → pl.epoch ≤ e →
      let x : Dev := { d with plc := { d.plc with ready := d.plc.ready.filter (· ≠ p) } }
      Completes (.done r) s (Replied 0x4401 r okay (if s.dev.owns p then x else
        { x.freeSlot p with cal := { x.cal with given := x.cal.given.filter fun g => decide (g.patch ≠ p) } }))))

/-- SEAM_EXCHANGE messages of one entry are answered ST_OK on receipt (R152). A RESERVE is decided and its decision leaves as a
GRANT (R148); a GRANT is noted on the attempt that awaits it, which is examined, and one that names another owner has its
RESERVE sent there (R149, R151); a RELEASE returns the patch to service (R149); SUMS are added to what other devices brought of
the pair (R160); a NODES entry is the next solve's external node (R161). -/
def Obligations.SeamMessages : Prop :=
  ∀ (s : State) (r : Req) (e : List Byte), Serves ⟨0x4402, .device, false⟩ r s.dev → r.params.drop 4 = e → byteAt r.params 1 = 1 →
    let d := s.dev.taken r
    let p := leAt e 0 4 % 2 ^ 22
    (byteAt r.params 0 = 1 → e.length = 12 →
      let core := leAt e 8 2 % 64
      let seen := (s.dev.slot? p).bind fun x => x.views.find? fun v => decide (v.dev = r.source ∧ v.core = core)
      let period := seen.elim ((ms (leAt e 10 2) - 86600000) / 17) (·.period)
      let x := d.decideHere p (leAt e 4 4) (bitOf (leAt e 0 4) 22) r.source core period (ms (leAt e 10 2))
      let pl := x.1.place p
      Completes (.reserve r) s (Replied 0x4402 r okay
        (x.1.seamSend 2 r.source [leBytes 4 p ++ leBytes 4 pl.epoch ++ leBytes 1 x.2 ++ [0] ++ leBytes 2 pl.owner]))) ∧
    (byteAt r.params 0 = 2 → e.length = 12 → s.dev.awaits p = none → Completes (.grant r) s (Replied 0x4402 r okay d)) ∧
    (∀ k c, byteAt r.params 0 = 2 → e.length = 12 → s.dev.awaits p = some k → (s.dev.calCore k).cycle = some c →
      byteAt e 8 ≠ 3 →
      Completes (.grant r) s (Replied 0x4402 r okay ((d.setCycle k (some (c.note p r.source (byteAt e 8) d.clk))).examine k))) ∧
    (∀ k c, byteAt r.params 0 = 2 → e.length = 12 → s.dev.awaits p = some k → (s.dev.calCore k).cycle = some c →
      byteAt e 8 = 3 →
      let owner := leAt e 10 2 % 1024
      let pl := s.dev.place p
      let y := if pl.epoch < leAt e 4 4 then d.setPlace p { pl with owner := owner, epoch := leAt e 4 4 } else d
      let x := y.setCycle k (some { c with grants := c.grants.map fun g => if g.patch = p then { g with owner := owner } else g })
      Completes (.grant r) s (Replied 0x4402 r okay (x.seamSend 1 owner [x.reserveEntry k p c.force]))) ∧
    (byteAt r.params 0 = 3 → e.length = 8 →
      Completes (.release r) s (Replied 0x4402 r okay (d.takeBack p r.source (leAt e 4 2 % 64)))) ∧
    (byteAt r.params 0 = 4 → e.length = 24 →
      let q := pairKey (64 * r.source + leAt e 0 2 % 64) (64 * d.addr + leAt e 0 2 / 256 % 64)
      let add (x : Pair) : Pair := ⟨x.n + leAt e 4 4, x.sum + signedOf 64 (leAt e 8 8), x.sq + leAt e 16 8⟩
      Completes (.sums r) s (Replied 0x4402 r okay
        { d with cal := { d.cal with brought := d.cal.brought.upd q ⟨0, 0, 0⟩ add } })) ∧
    (byteAt r.params 0 = 5 → e.length = 12 →
      let n : Node := ⟨leAt e 2 2, signedOf 32 (leAt e 4 4), leAt e 8 2, bitOf (leAt e 0 2) 6⟩
      Completes (.nodes r) s (Replied 0x4402 r okay
        { d with cal := { d.cal with nodes := d.cal.nodes.put (64 * r.source + leAt e 0 2 % 64) n } }))

/-! ## Requests of trust -/

/-- KEY_STATUS returns the 16 slots and the fuse word (R379). KEY_ROTATE and AUTH_SET request an immediate record and hold their
reply until it is durable (R380, R381); once it is, the key or AUTH_RELAX is in force and the request is answered ST_OK. A set
reserved bit of AUTH_SET is ST_BADPARAM, PRM_VALUE. -/
def Obligations.KeyRequests : Prop :=
  (∀ (s : State) (r : Req), Serves ⟨0x8000, .open_, false⟩ r s.dev → r.params = [] →
    let d := s.dev.taken r
    Completes (.keyStatus r) s (Replied 0x8000 r (okWith ((List.range 16).flatMap d.slotEntry ++ leBytes 4 d.fuseWord)) d)) ∧
  (∀ (s : State) (r : Req) (k : Option (List Byte)), Serves ⟨0x8001, .service, false⟩ r s.dev →
    (s.here.takeCounter r).rotateKey r = .inr k → (s.dev.taken r).rotateKey r = .inr k →
    let d := s.dev.taken r
    Completes (.keyRotate r) s (Follows ((d.immediate ⟨0x20 + byteAt r.params 0, 0, k.getD []⟩
      (.key (byteAt r.params 0) k)).hold 0x8001 r (.durable d.nv.immNum)))) ∧
  (∀ (s : State) (r : Req) (b : Nat), Serves ⟨0x8007, .service, false⟩ r s.dev → r.params = [BitVec.ofNat 8 b] → b < 256 →
    let d := s.dev.taken r
    (b < 16 → Completes (.authSet r) s (Follows
      ((d.immediate ⟨0x1, 0, r.params⟩ .authRelax).hold 0x8007 r (.durable d.nv.immNum)))) ∧
    (16 ≤ b → Completes (.authSet r) s (Replied 0x8007 r badValue (s.here.takeCounter r)))) ∧
  (∀ (s : State) (m : ImmRec) (rest : List ImmRec) (p : Prog), s.dev.nv.imm = m :: rest → s.dev.alive = true →
    let b : Dev := { s.here with nv := { s.dev.nv with imm := rest } }
    let b := if p = .retired then b.retireFor m.body else b
    let done := match m.after with
      | .counter i => b.nv.countBit i
      | _ => b.nv.write m.body 0 true
    ((p = .failed ∨ done = none) → Completes (.immediateRecord p) s (Follows (b.recordLost m))) ∧
    (∀ nv, p ≠ .failed → done = some nv →
    let d : Dev := { b with nv := nv }
    ((m.after = .none ∨ m.after = .activation ∨ (∃ i, m.after = .ceiling i) ∨ ∃ i, 64 ≤ i ∧ m.after = .counter i) →
      Completes (.immediateRecord p) s (Follows d)) ∧
    (∀ i, m.after = .counter i → i < 64 → Completes (.immediateRecord p) s (Follows (d.setSh i { d.sh i with reserve := true }))) ∧
    (∀ t, m.after = .patch t →
      let f : Fuses := { d.boot.fuses with thSvn := max d.boot.fuses.thSvn (byteAt m.body.data 12) }
      Completes (.immediateRecord p) s (Follows
        ((({ d with boot := { d.boot with fuses := f } } : Dev).closeSession).complete t .ok))) ∧
    (m.after = .authRelax → Completes (.immediateRecord p) s (Follows
      (((d.wr P.AUTH_RELAX [] (byteAt m.body.data 0)).wrote 0x11).release (.durable m.num) okay))) ∧
    (∀ bank, m.after = .confirmed bank → Completes (.immediateRecord p) s (Follows
      ((d.confirmTrial bank).release (.durable m.num) okay))) ∧
    (∀ slot k, m.after = .key slot k → Completes (.immediateRecord p) s (Follows
      (((({ d with nv := (nv.write ⟨0x10 + slot, 0, leBytes 6 0⟩ 0 true).getD nv } : Dev).putKey slot k).set (.trust 7)).release
        (.durable m.num) okay)))))

/-- FW_BEGIN opens a session of its host, FW_DATA stages bytes of it, and FW_COMMIT accepts it and has the image checked and
stored (R383). FW_SELECT with CONFIRM 0 boots a bank that verifies in a trial with cause 5, does nothing for the bank that runs,
and with CONFIRM 1 records the running trial's bank as confirmed, and is answered once that is durable (R384). Without a
session, a bank that verifies or a trial they are ST_DENIED. DEBUG_UNLOCK without a response draws a challenge, and with one
opens the level it names, or is ST_AUTH where it does not verify; the challenge is spent either way (R391). -/
def Obligations.UpdateAndDebugRequests : Prop :=
  (∀ (s : State) (r : Req), Serves ⟨0x8002, .service, false⟩ r s.dev → r.params.length = 12 → 512 ≤ leAt r.params 0 4 →
    leAt r.params 0 4 ≤ (if byteAt r.params 8 = 0 then 16777216 else 16384) → byteAt r.params 8 ≤ 1 →
    s.dev.boot.trial = none →
    let d := s.dev.taken r
    let x : Session := ⟨r.host, leAt r.params 0 4, byteAt r.params 8, KMap.empty, d.clk, false⟩
    (s.dev.boot.session = none → Completes (.fwBegin r) s (Replied 0x8002 r okay
      { d with boot := { d.boot with session := some x } })) ∧
    (∀ x, s.dev.boot.session = some x → x.host ≠ r.host →
      Completes (.fwBegin r) s (Replied 0x8002 r ⟨.busy, 0x4007, []⟩ d))) ∧
  (∀ (s : State) (r : Req), Serves ⟨0x8003, .service, false⟩ r s.dev → 5 ≤ r.params.length → r.params.length ≤ 1388 →
    let d := s.dev.taken r
    (s.dev.boot.session = none → Completes (.fwData r) s (Replied 0x8003 r ⟨.denied, 0x4006, []⟩ d)) ∧
    (∀ x, s.dev.boot.session = some x → leAt r.params 0 4 + (r.params.length - 4) ≤ x.len →
      Completes (.fwData r) s (Replied 0x8003 r okay
        (let y : Session := { x with bytes := stageBytes x.bytes (leAt r.params 0 4) (r.params.drop 4), at_ := d.clk }
         { d with boot := { d.boot with session := some y } })))) ∧
  (∀ (s : State) (r : Req), Serves ⟨0x8004, .service, false⟩ r s.dev → r.params.length = 32 →
    let d := s.dev.taken r
    (s.dev.boot.session = none → Completes (.fwCommit r) s (Replied 0x8004 r ⟨.denied, 0x4006, []⟩ d)) ∧
    (∀ x, s.dev.boot.session = some x → x.committing = false →
      Completes (.fwCommit r) s (Replied 0x8004 r okay
        (d.commitImage { x with committing := true } r.params ⟨0x8004, r.seq, r.host⟩)))) ∧
  (∀ (s : State) (r : Req) (b : Nat), Serves ⟨0x8005, .service, false⟩ r s.dev → r.params = [BitVec.ofNat 8 b] → b < 2 →
    let d := s.dev.taken r
    (s.dev.boot.trial = none → s.dev.halted = false → s.dev.rd P.DEV_STATE ≠ 7 → s.dev.rd P.BOOT_BANK = b →
      Completes (.fwSelectTrial r) s
        (if d.bankVerifies b then Replied 0x8005 r okay d else Replied 0x8005 r ⟨.denied, 0x4009, []⟩ d)) ∧
    (s.dev.boot.trial = none → s.dev.halted = false → s.dev.rd P.DEV_STATE ≠ 7 → s.dev.rd P.BOOT_BANK ≠ b →
      let e := d.select b (some d.boot.selected)
      let x : Trial := ⟨b, d.boot.selected, d.clk, 0⟩
      let f : Dev := { e with boot := { e.boot with trial := some x, restarts := [], changed := false, started := true } }
      Completes (.fwSelectTrial r) s
        (if d.bankVerifies b then
          Replied 0x8005 r okay ((((f.put P.TRIAL [] true).wr P.BOOT_BANK [] b).stopWorkroom 5).refreshState)
        else Replied 0x8005 r ⟨.denied, 0x4009, []⟩ d))) ∧
  (∀ (s : State) (r : Req) (b : Nat), Serves ⟨0x8005, .service, false⟩ r s.dev → r.params = [BitVec.ofNat 8 (b + 2)] → b < 2 →
    let d := s.dev.taken r
    (s.dev.boot.trial = none → Completes (.fwSelectConfirm r) s (Replied 0x8005 r ⟨.denied, 0x400A, []⟩ d)) ∧
    (∀ x, s.dev.boot.trial = some x → x.bank = b → Completes (.fwSelectConfirm r) s (Follows
      ((d.immediate ⟨0x2, 7, leBytes 1 b ++ [0xFF, 1]⟩ (.confirmed b)).hold 0x8005 r (.durable d.nv.immNum))))) ∧
  (∀ (s : State) (r : Req) (l : Nat),
    Serves ⟨0x8006, if r.host.via = .service && r.auth.isNone then .open_ else .service, false⟩ r s.dev →
    byteAt r.params 0 = l → 1 ≤ l → l ≤ 3 → s.dev.ownerSet = true → (l = 2 → s.dev.boot.fuses.dbg2Off = false) →
    let d := s.dev.taken r
    (r.params.length = 4 →
      let n := d.draw (2 ^ 256)
      let ch := leBytes 8 d.uid ++ leBytes 1 l ++ List.replicate 7 0 ++ leBytes 32 n.1
      Completes (.debugChallenge r) s (Replied 0x8006 r (okWith ch)
        { n.2 with boot := { n.2.boot with challenge := some ⟨ch, l, n.2.clk⟩ } })) ∧
    (r.params.length = 132 →
      let spent : Dev := { d with boot := { d.boot with challenge := none } }
      let pub := (r.params.drop 4).take 64
      (∀ c, s.dev.boot.challenge = some c →
        let good := decide (c.level = l ∧ s.dev.clk < c.at_ + sec 60 ∧ sha256 pub = s.dev.boot.fuses.ownerHash) &&
          ecdsaVerify pub (sha256 c.bytes) (r.params.drop 68)
        Completes (.debugUnlock r) s
          (if good then Replied 0x8006 r okay (spent.unlock l) else Replied 0x8006 r ⟨.auth, 0x400D, []⟩ (spent.set (.kcp 1) (arrivalOf r.host)))) ∧
      (s.dev.boot.challenge = none → Completes (.debugUnlock r) s (Replied 0x8006 r ⟨.auth, 0x400D, []⟩ (spent.set (.kcp 1) (arrivalOf r.host))))))

/-! ## The transports -/

/-- A damaged packet and a reply that nothing awaits are discarded and set their flag (R44, R46). The duplicate cache forgets an
entry 2 s after it was sent (R57). A request for another device goes down the chain, over Seamlink under its RSEQ and its
sender's HID, or is answered NO_ROUTE (R53, R54). A Seamlink frame to one device that is not for the device goes on with HOPS
one less, and with HOPS at most 1 is discarded; one whose CRC fails is counted, discarded at its destination, and elsewhere
ended as aborted behind what has been passed on (R223 to R225, R228). At its destination a request is run in the order of its
RSEQ, and one behind a gap waits for it, at most RELAY_TIMEOUT; a reply leaves on the transport its request came on, and one
that nothing awaits sets REPLY_LATE; a relayed request without a reply for RELAY_TIMEOUT is answered RELAY_LOST (R54). A flooded
broadcast is run once (R227). -/
def Obligations.PacketsAndRelays : Prop :=
  (∀ s : State, s.dev.alive = true → Completes .badPacket s (Follows (s.here.set (.kcp 0) noUnit)) ∧
    Completes .unmatchedReply s (Follows (s.here.set (.kcp 2) noUnit))) ∧
  (∀ s : State, s.dev.alive = false → Idle .badPacket s ∧ Idle .unmatchedReply s) ∧
  (∀ s : State, s.dev.kcp.dup = [] → Idle .duplicateCacheExpiry s) ∧
  (∀ (s : State) (e : DupEntry) (l : List DupEntry), s.dev.kcp.dup = e :: l → (∀ x ∈ l, e.sent ≤ x.sent) →
    let d := s.here.reach (e.sent + sec 2)
    Completes .duplicateCacheExpiry s (Follows
      { d with kcp := { d.kcp with dup := d.kcp.dup.filter fun x => decide (d.clk < x.sent + sec 2) } })) ∧
  (∀ (s : State) (op : Nat) (r : Req), s.dev.arrives r = (true, true) → s.dev.destOf r = .away →
    let d := s.here
    let x := d.hidOf r.host
    let k := 1024 * x.1 + r.dest
    let n := x.2.kcp.rseqTx.get k 0
    let lost : Answer := ⟨.fault, 0x0005, []⟩
    (r.host.via ∈ [.chain, .passed] → s.dev.is P.DOWN_SIG = true →
      Completes (.kcpForward op r) s (Follows (d.chainSend 53 1 (reqPacket op r)))) ∧
    (r.host.via ∈ [.chain, .passed] → s.dev.is P.DOWN_SIG = false → Completes (.kcpForward op r) s (Turned op r lost d)) ∧
    (r.host.via ∈ [.uplink, .service] → s.dev.route r.dest = none → Completes (.kcpForward op r) s (Turned op r lost d)) ∧
    (r.host.via ∈ [.uplink, .service] → (s.dev.route r.dest).isSome = true →
      let e : Dev := { x.2 with kcp := { x.2.kcp with
        rseqTx := x.2.kcp.rseqTx.put k ((n + 1) % 65536), relays := x.2.kcp.relays ++ [⟨op, r, x.1, n, d.clk, x.2.ownAddr r.host⟩] } }
      Completes (.kcpForward op r) s (Follows
        (e.sendTo 3 r.dest (envelope s.dev.addr x.1 n false ++ reqPacket op r))))) ∧
  (∀ (s : State) (h : SeamHdr) (c : Instr) (kind : Nat) (alarm : Bool) (b : List Byte), s.dev.alive = true →
    s.dev.is P.SL_LINK_UP [h.link] = true → Brings h c kind alarm b →
    let counted := s.here.wr P.SL_CRC [h.link] (s.dev.rd P.SL_CRC [h.link] + 1)
    let onward := seamFrame kind (frameClass kind alarm) (h.hops - 1) h.dest h.src h.fseq b
    ((h.dest ≠ s.dev.addr ∨ s.dev.addressed = false) →
      (h.hops ≤ 1 → Completes c s (Follows counted)) ∧
      (∀ n, 1 < h.hops → s.dev.route h.dest = some n → h.ok = true →
        Completes c s (Follows (s.here.emit (.frame (40 + n) kind onward)))) ∧
      (∀ n, 1 < h.hops → s.dev.route h.dest = some n → h.ok = false →
        Completes c s (Follows (counted.emit (.aborted (40 + n) kind onward)))) ∧
      (1 < h.hops → s.dev.route h.dest = none → h.ok = true → Idle c s)) ∧
    (h.dest = s.dev.addr → s.dev.addressed = true → h.ok = false → Completes c s (Follows counted))) ∧
  (∀ (s : State) (h : SeamHdr) (e : Envelope) (op : Nat) (r : Req), Receives h s.dev →
    let d := s.here
    let q : Req := { r with host := relayHost e, rseq := e.rseq }
    let k := rseqKey e.ingress e.hid
    let want := d.kcp.rseqRx.get k 0
    (e.rseq = want → want < 65536 → s.dev.kcp.rseqWait = [] →
      Completes (.relay h e (.request op r)) s (Follows
        (runOpcode op q { d with kcp := { d.kcp with rseqRx := d.kcp.rseqRx.put k ((want + 1) % 65536) } }))) ∧
    (want < e.rseq → e.rseq < want + 32768 → e.rseq < 65536 →
      let w : GapWait := ⟨e.ingress, e.hid, e.rseq, op, q, d.clk⟩
      Completes (.relay h e (.request op r)) s (Follows
        { d with kcp := { d.kcp with rseqWait := d.kcp.rseqWait ++ [w] } }))) ∧
  (∀ (s : State) (hid : Nat) (x : RelayAnswer), s.dev.alive = true → hid ≠ ownHid →
    let found := s.dev.kcp.relays.find? fun q =>
      decide (q.hid = hid ∧ q.opcode = x.opcode ∧ q.req.seq = x.seq ∧ q.req.dest = x.source)
    (found = none → Completes (.relayReply hid x) s (Follows (s.here.set (.kcp 2)))) ∧
    (∀ q, found = some q → Completes (.relayReply hid x) s (Carried
      { host := q.req.host, opcode := x.opcode, seq := x.seq, rseq := 0, dest := q.req.source, source := x.source, gen := x.gen,
        rtx := x.rtx, auth := x.auth, answer := ⟨statusOf x.status, x.detail, x.data⟩, ip := q.own, port := replyPort q.req.host }
      { s.here with kcp := { s.dev.kcp with relays := s.dev.kcp.relays.filter (· ≠ q) } }))) ∧
  (∀ (s : State) (x : RelayAnswer) (a : Asked), s.dev.alive = true →
    (s.dev.awaited.find? fun a => decide (a.dest = x.source ∧ a.rseq = x.seq ∧ a.opcode = x.opcode)) = some a →
    Completes (.relayReply ownHid x) s (Follows
      (({ s.here with plc := { s.dev.plc with asked := s.dev.plc.asked.filter (· ≠ a) } } : Dev).ownReply a x))) ∧
  (∀ (s : State) (q : InRelay) (l : List InRelay), s.dev.alive = true → s.dev.kcp.relays = q :: l →
    let d := s.here.reach (q.since + ms (s.dev.rd P.RELAY_TIMEOUT))
    Completes .relayTimeout s (Turned q.opcode q.req ⟨.fault, 0x0006, []⟩ { d with kcp := { d.kcp with relays := l } })) ∧
  (∀ (s : State) (i hid : Nat) (w : GapWait),
    (s.dev.kcp.rseqWait.filter fun x => decide (x.ingress = i ∧ x.hid = hid)) = [w] →
    s.dev.kcp.rseqRx.get (rseqKey i hid) 0 ≤ w.rseq → w.rseq < 65536 →
    let d := s.here.reach (w.since + ms (s.dev.rd P.RELAY_TIMEOUT))
    Completes (.relayGapTimeout i hid) s (Follows
      (drainRelay i hid 1 { d with kcp := { d.kcp with rseqRx := d.kcp.rseqRx.put (rseqKey i hid) w.rseq } }))) ∧
  (∀ (s : State) (i hid : Nat), (∀ x ∈ s.dev.kcp.rseqWait, x.ingress ≠ i ∨ x.hid ≠ hid) → Idle (.relayGapTimeout i hid) s) ∧
  (∀ (s : State) (h : SeamHdr) (op : Nat) (r : Req) (e : Dev), s.dev.alive = true → s.dev.is P.SL_LINK_UP [h.link] = true →
    (s.here.floodNew 4 h (reqPacket op r) = (e, false) →
      Completes (.broadcastKcp h op r) s (Follows e)) ∧
    (s.here.floodNew 4 h (reqPacket op r) = (e, true) →
      Completes (.broadcastKcp h op r) s (Follows
        (runOpcode op { r with host := { deviceHost h.src with via := .flood }, dest := 0x3FF } e))))

/-- An uplink that is on answers ARP, echo requests and neighbour solicitations for its own addresses, under PAUSE once it ends
where its queue of 64 has room, and counts every other frame in UL_RX_DROP, a damaged one in UL_RX_ERR too (R51, R52, Table
2-12). A PAUSE of n quanta stops its transmission for 512 n bit times of 10 Gb/s; at its end, or by a PAUSE of 0, what waited
leaves in order (R71). -/
def Obligations.UplinkFrames : Prop :=
  (∀ (s : State) (u : Nat) (vlan : Option Nat) (o : Out) (c : Instr) (mine : Bool), s.dev.uplinkOn u = true →
    (∃ mac ip target, c = .arpRequest u vlan mac ip target ∧ mine = s.dev.ownIp u false target ∧
      o = .lowReply u 0 ip ([0, 1, 8, 0, 6, 4, 0, 2] ++ beBytes 6 (s.dev.mac u) ++ beBytes 4 target ++ beBytes 6 mac ++ beBytes 4 ip)) ∨
    (∃ v6 src dst body, c = .icmpEcho u vlan v6 src dst body ∧ mine = s.dev.ownIp u v6 dst ∧ o = .lowReply u 1 src body) ∨
    (∃ src target, c = .neighbourSolicitation u vlan src target ∧ mine = s.dev.ownIp u true target ∧
      o = .lowReply u 2 src (beBytes 16 target ++ [2, 1] ++ beBytes 6 (s.dev.mac u))) →
    (s.dev.vlanOk u vlan = true → mine = true → s.dev.kcp.paused.get u 0 = 0 → Completes c s (Follows (s.here.emit o))) ∧
    (s.dev.vlanOk u vlan = true → mine = true → s.dev.kcp.paused.get u 0 ≠ 0 →
      let q := s.dev.kcp.replyQ.get u []
      (q.length < 64 → Completes c s fun t => t.kcp.replyQ.get u [] = q ++ [o]) ∧
      (64 ≤ q.length → Completes c s (Follows (s.here.wr P.UL_RX_DROP [u] (s.dev.rd P.UL_RX_DROP [u] + 1))))) ∧
    ((s.dev.vlanOk u vlan = false ∨ mine = false) →
      Completes c s (Follows (s.here.wr P.UL_RX_DROP [u] (s.dev.rd P.UL_RX_DROP [u] + 1))))) ∧
  (∀ (s : State) (u : Nat), s.dev.uplinkOn u = true →
    Completes (.unservedFrame u false) s (Follows (s.here.wr P.UL_RX_DROP [u] (s.dev.rd P.UL_RX_DROP [u] + 1))) ∧
    Completes (.unservedFrame u true) s (Follows ((s.here.wr P.UL_RX_DROP [u] (s.dev.rd P.UL_RX_DROP [u] + 1)).wr P.UL_RX_ERR [u]
      (s.dev.rd P.UL_RX_ERR [u] + 1)))) ∧
  (∀ (s : State) (u n : Nat), s.dev.uplinkOn u = true → n < 65536 →
    let d := s.here.wr P.UL_PAUSE [u] (s.dev.rd P.UL_PAUSE [u] + 1)
    (n = 0 → Completes (.pauseFrame u n) s (Follows (d.resume u))) ∧
    (n ≠ 0 → Completes (.pauseFrame u n) s (Follows
      { d with kcp := { d.kcp with paused := d.kcp.paused.put u (d.clk + (512 * n + 9) / 10) } }))) ∧
  (∀ (s : State) (u t : Nat), s.dev.kcp.paused.get? u = some t →
    Completes (.pauseEnd u) s fun e => s.dev.kcp.replyQ.get u [] <+: e.out ∧ e.clk = max s.dev.clk t ∧
      e.kcp.paused.get? u = none ∧ e.kcp.replyQ.get? u = none ∧ Follows ((s.here.reach t).resume u) e) ∧
  (∀ (s : State) (u : Nat), s.dev.uplinkOn u = false →
    ∀ c : Instr, c ∈ [Instr.pauseFrame u 1, .unservedFrame u true] → Idle c s)

/-! ## The chain, links, time and placement -/

/-- A chain frame is taken by the device it addresses, passed on where its direction has a device behind it and its queue room,
and counted in CHAIN_DROP_CNT where not or where its TYPE is reserved; one whose LEN or CRC is wrong or that ends aborted counts
in CHAIN_CRC_CNT and sets CHAIN_CRC, and where it is being passed on is ended as aborted on the outgoing port (R212, R213). The
enumeration token takes the device's step and goes on down, or at the chain end reports the walk (R214, R216). Losing a port's
signal clears UP_SIG or DOWN_SIG and sets the flag. A sync event leaves as K28.1 on the down port 300 ns later, as the
frame-sync line of each compute die and, where FSYNC is an output, as FSYNC (R221). It comes from the source that SYNC_SRC
names: the chain's character, a rising FSYNC, or the next multiple of SYNC_PERIOD of system time; any other source has no
effect. -/
def Obligations.ChainAndSync : Prop :=
  (∀ (s : State) (f : List Byte) (up aborted room passed : Bool), s.dev.alive = true → byteAt f 0 ∉ [1, 2] →
    Completes (.chainFrame up f aborted room passed) s
      (Follows (s.here.wr P.CHAIN_DROP_CNT [] (s.dev.rd P.CHAIN_DROP_CNT + 1)))) ∧
  (∀ (s : State) (f : List Byte) (up aborted room passed : Bool), s.dev.alive = true → byteAt f 0 = 1 →
    let d := s.here
    let b := framedPayload f
    let dest := leAt b 4 2 % 1024
    let reply := bitOf (byteAt b 0) 4
    let whole := chainOk f = true ∧ aborted = false
    let bad := (d.wr P.CHAIN_CRC_CNT [] (s.dev.rd P.CHAIN_CRC_CNT + 1)).setPlc 2
    let c := Instr.chainFrame up f aborted room passed
    let mine := s.dev.addressed = true ∧ dest = s.dev.addr
    let taken := (up = true ∧ (dest = 0x3FF ∨ mine ∨ s.dev.is P.DOWN_SIG = false)) ∨ (up = false ∧ reply = true ∧ mine)
    let port := if up then 53 else 52
    (taken → whole → Completes c s (Follows (d.takePacket (chainHost (passed && decide (dest = 0x3FF))) b))) ∧
    (taken → ¬ whole → Completes c s (Follows bad)) ∧
    (¬ taken → room = false → Completes c s (Follows (d.wr P.CHAIN_DROP_CNT [] (s.dev.rd P.CHAIN_DROP_CNT + 1)))) ∧
    (¬ taken → room = true → whole → Completes c s (Follows (d.emit (.frame port 1 f)))) ∧
    (¬ taken → room = true → ¬ whole → Completes c s (Follows (bad.emit (.aborted port 1 f))))) ∧
  (∀ (s : State) (f : List Byte), s.dev.alive = true →
    let b := framedPayload f
    let e := s.here.enumStep (leAt b 0 2 % 1024) (byteAt b 2) (leAt b 4 2)
    let bad := (s.here.wr P.CHAIN_CRC_CNT [] (s.dev.rd P.CHAIN_CRC_CNT + 1)).setPlc 2
    (byteAt f 0 = 2 → chainOk f = true → Completes (.enumerationToken f false) s (Follows (e.1.sendToken e.2.1 (byteAt b 2) e.2.2)) ∧
      ∀ room passed, Completes (.chainFrame true f false room passed) s (Follows (e.1.sendToken e.2.1 (byteAt b 2) e.2.2))) ∧
    Completes (.enumerationToken f true) s (Follows bad) ∧
    (byteAt f 0 = 2 → ∀ room passed, Completes (.chainFrame true f true room passed) s (Follows bad) ∧
      ∀ aborted, Idle (.chainFrame false f aborted room passed) s) ∧
    ((byteAt f 0 ≠ 2 ∨ chainOk f = false) → ∀ aborted, Completes (.enumerationToken f aborted) s (Follows bad))) ∧
  (∀ s : State, s.dev.alive = true →
    Completes (.noSignal true) s (Follows ((s.here.wr P.UP_SIG [] 0).setPlc 0 [] (1, 52))) ∧
    Completes (.noSignal false) s (Follows ((s.here.wr P.DOWN_SIG [] 0).setPlc 1 [] (1, 53))) ∧
    Completes (.signalReturn true) s (Follows (s.here.wr P.UP_SIG [] 1)) ∧
    Completes (.signalReturn false) s (Follows (s.here.wr P.DOWN_SIG [] 1))) ∧
  (∀ s : State, s.dev.alive = true →
      let pulses := [Out.pulse 2 0 300, .pulse 1 0 0, .pulse 1 1 0] ++
        (if s.dev.is P.FSYNC_OUT then [.pulse 0 0 (s.dev.rd P.SYNC_COMP)] else [])
      (s.dev.rd P.SYNC_SRC = 2 → Completes .syncCharacter s (Follows { s.here with out := pulses })) ∧
      (s.dev.rd P.SYNC_SRC ≠ 2 → Idle .syncCharacter s) ∧
      (s.dev.rd P.SYNC_SRC = 1 → s.dev.pins.fsync = false →
        Completes (.fsync true) s (Follows { s.here with pins := { s.dev.pins with fsync := true }, out := pulses })) ∧
      Completes (.fsync false) s (Follows { s.here with pins := { s.dev.pins with fsync := false } }) ∧
      (s.dev.rd P.SYNC_SRC = 3 → s.dev.rd P.SYNC_PERIOD ≠ 0 →
        s.dev.now + 1000 * s.dev.rd P.SYNC_PERIOD < 2 ^ 64 → Completes .syncPeriod s fun t =>
        t.now % (1000 * s.dev.rd P.SYNC_PERIOD) = 0 ∧ s.dev.now < t.now ∧ t.now ≤ s.dev.now + 1000 * s.dev.rd P.SYNC_PERIOD ∧
        Follows { s.here with clk := t.clk, out := pulses } t) ∧
      (s.dev.rd P.SYNC_SRC ≠ 3 → Idle .syncPeriod s))

/-- A heartbeat brings its link up and notes the neighbour's UID, address, state, hops, score and times (R222, R229); heartbeats
go out on every enabled and locked link. A link that loses its lanes goes down, and an advertisement follows. An advertisement
newer than the one held replaces it, is flooded on, and expires 30 s later (R226). Three heartbeats missed on every link of a
neighbour are a loss, flooded once (R230). -/
def Obligations.MeshLinks : Prop :=
  (∀ (s : State) (m uid addr : Nat) (b : List Byte), s.dev.alive = true → m < 8 → s.dev.is P.SL_LINK_EN [m] = true →
    (s.dev.link m).locked = true → b.length = 48 → leAt b 0 8 = uid → leAt b 8 2 % 1024 = addr →
    let l := s.dev.link m
    let echo := leAt b 28 8
    let sample : Int := ((s.dev.now : Int) - echo - leAt b 36 4) / 2
    let delays := if echo = 0 then l.delays else (sample :: l.delays).take 16
    let hb := ms (s.dev.rd P.HB_PERIOD)
    let missed := if l.heard then (s.dev.clk - l.at_ + hb / 2) / hb - 1 - (if l.reported then 3 else 0) else 0
    let heard : LinkSt := { l with
      heard := true, met := true, uid := uid, state := byteAt b 10, hops := byteAt b 11, score := leAt b 12 2, tTx := leAt b 20 8,
      tRx := s.dev.now, at_ := s.dev.clk, delays := delays, reported := false }
    let d := (s.here.setLink m heard).wrs [(P.SL_LINK_UP, [m], 1), (P.NEIGH, [m], addr),
      (P.LINK_DELAY, [m], (clampInt 0 65535 (medianInt delays)).toNat), (P.HB_MISS, [m], s.dev.rd P.HB_MISS [m] + missed)]
    let e := Dev.viewsMoved s.here
      ((((d.rejoin uid addr).checkConflict uid addr none).refreshTime).meshTime m s.dev.plc.timed)
    ((s.dev.is P.SL_LINK_UP [m] = false ∨ s.dev.rd P.NEIGH [m] ≠ addr) → Completes (.heartbeat m b) s (Follows e.sendLsa)) ∧
    (s.dev.is P.SL_LINK_UP [m] = true → s.dev.rd P.NEIGH [m] = addr → Completes (.heartbeat m b) s (Follows e))) ∧
  (∀ (s : State) (m : Nat) (b : List Byte), (s.dev.alive = false ∨ (s.dev.link m).locked = false ∨ b.length ≠ 48) →
    Idle (.heartbeat m b) s) ∧
  (∀ s : State, s.dev.alive = true →
    let d := s.here.wrs [(P.SCORE, [], s.dev.score), (P.H_PEN, [], s.dev.healthPen)]
    Completes .heartbeatSend s (Follows
      (d.each ((List.range 8).filter fun m => s.dev.is P.SL_LINK_EN [m] && (s.dev.link m).locked) fun m d =>
        let n := d.nextFseq 0
        n.2.emit (.frame (40 + m) 0 (seamFrame 0 0 1 0x3FF n.2.addr n.1 (n.2.heartbeatBytes m)))))) ∧
  (∀ (s : State) (m : Nat), s.dev.alive = true → m < 8 →
    (s.dev.is P.SL_LINK_EN [m] = true →
      Completes (.linkUp m true) s (Follows (s.here.setLink m { s.dev.link m with locked := true }))) ∧
    (s.dev.is P.SL_LINK_UP [m] = true →
      Completes (.linkUp m false) s (Follows (((s.here.dropLink m false).refreshTime).sendLsa)))) ∧
  (∀ (s : State) (h : SeamHdr) (l : Lsa) (e : Dev), s.dev.alive = true → s.dev.is P.SL_LINK_UP [h.link] = true → l.uid ≠ s.dev.uid →
    (s.here.floodNew 1 h (lsaBytes l) = (e, false) →
      Completes (.linkStateAdvertisement h l) s (Follows e)) ∧
    (s.here.floodNew 1 h (lsaBytes l) = (e, true) → s.dev.plc.topo.get? l.uid = none →
      let d : Dev := { e with plc := { e.plc with topo := e.plc.topo.put l.uid l, topoAt := e.plc.topoAt.put l.uid e.clk } }
      Completes (.linkStateAdvertisement h l) s (Follows
        (Dev.viewsMoved e (((d.rejoin l.uid l.addr).checkConflict l.uid l.addr (some l.since)).refreshTime))))) ∧
  (∀ s : State, s.dev.alive = true → Completes .lsaRefresh s (Follows s.here.sendLsa)) ∧
  (∀ (s : State) (uid t : Nat), s.dev.plc.topoAt.get? uid = some t →
    let d := s.here.reach (t + sec 30)
    Completes (.topologyExpiry uid) s (Follows (Dev.viewsMoved d
      ({ d with plc := { d.plc with topo := d.plc.topo.del uid, topoAt := d.plc.topoAt.del uid } } : Dev).refreshTime))) ∧
  (∀ (s : State) (m : Nat), s.dev.alive = true → (s.dev.link m).met = true → (s.dev.link m).reported = false →
    let mine := (List.range 8).filter fun n => (s.dev.link n).met && decide ((s.dev.link n).uid = (s.dev.link m).uid)
    let last := (mine.map fun n => (s.dev.link n).at_).foldl max 0
    let addr := (s.dev.plc.topo.get? (s.dev.link m).uid).elim (s.dev.rd P.NEIGH [m]) (·.addr)
    let d := (s.here.reach (last + 3 * ms (s.dev.rd P.HB_PERIOD) + ms 1)).each mine fun n d =>
      (d.setLink n { d.link n with reported := true }).wr P.HB_MISS [n] (d.rd P.HB_MISS [n] + 3)
    Completes (.thirdMissedHeartbeat m) s (Follows
      ((d.flood 2 (leBytes 8 (s.dev.link m).uid ++ leBytes 2 addr)).takeLoss (s.dev.link m).uid addr d.addr))) ∧
  (∀ (s : State) (h : SeamHdr) (uid addr : Nat) (e : Dev), s.dev.alive = true → s.dev.is P.SL_LINK_UP [h.link] = true →
    uid ≠ s.dev.uid →
    s.here.floodNew 2 h (leBytes 8 uid ++ leBytes 2 addr) = (e, true) →
    Completes (.lossReport h uid addr) s (Follows (e.takeLoss uid addr h.src)))

/-- On an uplink that takes time, a two-step Sync of PTP_DOMAIN is stamped, its FOLLOW_UP gives the origin, a DELAY_REQ is
stamped and sent, and the DELAY_RESP of the same sequence completes the measurement; the root on that grandmaster is corrected
(R258, R261). A one-step Sync is discarded and counted in UL_RX_DROP; a message of another domain and a FOLLOW_UP of another
sequence have no effect. -/
def Obligations.PtpMessages : Prop :=
  ∀ (s : State) (u dom seq : Nat), s.dev.ptpOn u = true → s.dev.rd P.PTP_DOMAIN = dom →
    let d := s.here
    let x := s.dev.ptp u
    (∀ v6 addr, Completes (.sync u v6 addr dom seq true) s (Follows
      (d.setPtp u { x with sync := some (seq, s.dev.now), origin := none, addr := (v6, addr) }))) ∧
    (s.dev.uplinkOn u = true → ∀ v6 addr any, Completes (.sync u v6 addr any seq false) s
      (Follows (d.wr P.UL_RX_DROP [u] (s.dev.rd P.UL_RX_DROP [u] + 1)))) ∧
    (∀ v6 addr other, other ≠ dom → Idle (.sync u v6 addr other seq true) s) ∧
    (∀ at_ origin, x.sync = some (seq, at_) →
      Completes (.followUp u dom seq origin) s (Follows (d.setPtp u { x with origin := some origin }))) ∧
    (∀ at_ other origin, x.sync = some (other, at_) → other ≠ seq → Idle (.followUp u dom seq origin) s) ∧
    (∀ y, x.sync = some y → Completes (.delayReq u) s (Follows
      ((d.setPtp u { x with delayReq := some (x.seq, s.dev.now), seq := (x.seq + 1) % 65536 }).emit
        (.delayReq u x.addr.1 x.addr.2 x.seq)))) ∧
    (∀ (q t1 t2 t3 t4 : Nat), x.sync = some (q, t2) → x.origin = some t1 → x.delayReq = some (seq, t3) →
      let e := (d.setPtp u { x with delayReq := none }).refreshTime
      let ahead : Int := -((((t2 : Int) - t1) - ((t4 : Int) - t3)) / 2)
      (e.rd P.TIME_SRC ≠ 1 → Completes (.delayResp u dom seq t4) s (Follows e)) ∧
      (e.rd P.TIME_SRC = 1 → e.ownOffer.map (·.1) = some u → Completes (.delayResp u dom seq t4) s (Follows (e.rootTime ahead)))) ∧
    (∀ o, x.gm = none → Completes (.announce u dom o) s (Follows (d.setPtp u { x with gm := some o }).refreshTime)) ∧
    (∀ o g, x.gm = some g → g.gm ≠ o.gm → betterOffer (0, o) (0, g) = false → Idle (.announce u dom o) s)

/-- The directory of a patch decides, takes over 10 ms after a loss, repeats a COMMIT every 10 ms for up to 1 s and balances;
VIEWs are refreshed (R231 to R235, R240). A snapshot's last frame gives the new owner the patch's state, and DONE goes back
(R237). A configuration block fills its place in the staging, a complete image of the right digest goes to the bulk store, and
T_A activates it (R251, R252); exchanges go to every neighbour (R254), and a census ends with 0xFE for those that did not answer
(R257). -/
def Obligations.ArrayProgress : Prop :=
  (∀ (s : State) (p : Nat), s.dev.awake = true → s.dev.isDirectory p = true →
    ((s.dev.patch? p).isSome = true → Completes (.directoryDecision p) s (Follows (s.here.direct p))) ∧
    ((s.dev.dir p).taking = true → Completes (.directoryTakeover p) s (Follows
      ((s.here.reach ((s.dev.dir p).sent + ms 10)).takeOver p)))) ∧
  (∀ (s : State) (p : Nat), s.dev.isDirectory p = false → Idle (.directoryDecision p) s ∧ Idle (.directoryTakeover p) s) ∧
  (∀ (s : State) (p : Nat), s.dev.awake = true → (s.dev.dir p).waiting ≠ [] →
    let x := s.dev.dir p
    (s.dev.clk ≤ x.sent + sec 1 → Completes (.commitRepeat p) s (Follows ((s.here.reach (x.sent + ms 10)).sendCommits p))) ∧
    (x.sent + sec 1 < s.dev.clk → Completes (.commitRepeat p) s (Follows (s.here.setDir p { x with waiting := [] })))) ∧
  (∀ s : State, s.dev.awake = true →
    Completes .viewRefresh s (Follows s.here.sendViews) ∧
    (s.dev.boot.running = true → Completes .rebalPeriod s (Follows
      (((s.here.each ((patchesOf s.dev.plc.image).map (·.patch)) fun p d => d.balance p).each (List.range 16) fun c d =>
        d.rebalance c).moveSlots))) ∧
    (s.dev.boot.running = false → Idle .rebalPeriod s)) ∧
  (∀ (s : State) (f : SeamHdr) (m : List Byte) (p : Nat) (h : Handover), Receives f s.dev → s.dev.awake = true →
    leAt m 0 4 % 2 ^ 22 = p → s.dev.plc.handovers.get? p = some h →
    let got := h.got.put (leAt m 4 4) (m.drop 12)
    let h' : Handover := { h with got := got }
    ((got.vals.map List.length).sum < leAt m 8 4 → Completes (.handoverData ⟨f, m⟩) s (Follows
      { s.here with plc := { s.dev.plc with handovers := s.dev.plc.handovers.put p h' } })) ∧
    (leAt m 8 4 ≤ (got.vals.map List.length).sum →
      let d : Dev := { s.here with plc := { s.dev.plc with handovers := s.dev.plc.handovers.del p } }
      let e := d.takeSnapshot p got.vals.flatten
      Completes (.handoverData ⟨f, m⟩) s (Follows
        (e.ask 0x4401 h.former (placeBody p 3 0 e.addr h.former 0 (e.place p).epoch 0 0 0))))) ∧
  (∀ (s : State) (f : SeamHdr) (m : List Byte) (g : Stage), Receives f s.dev → s.dev.plc.stage = some g → g.complete = false →
    g.blocks.get? (leAt m 0 2) = none → 5 ≤ m.length →
    Completes (.configurationBlock ⟨f, m⟩) s (Follows (s.here.setStage (some (g.put (leAt m 0 2) ((m.drop 4).take (leAt m 2 2))))))) ∧
  (∀ s : State, s.dev.plc.stage = none → Idle .activation s ∧ Idle .stagingComplete s ∧
    (∀ f m, Receives f s.dev → Idle (.configurationBlock ⟨f, m⟩) s)) ∧
  (∀ (s : State) (g : Stage), s.dev.plc.stage = some g → s.dev.awake = true → g.complete = false → g.full = true →
    (∀ j ∈ s.dev.nv.bulkQ, j.why ≠ .config) →
    (digestOf g.image ≠ g.digest → Completes .stagingComplete s (Follows (s.here.failStage g .badParam 0x2408 true))) ∧
    (digestOf g.image = g.digest → surfaceValid g.image = false →
      Completes .stagingComplete s (Follows (s.here.failStage g .badParam 0x2306 true))) ∧
    (digestOf g.image = g.digest → surfaceValid g.image = true → s.dev.bulkUp = true →
      Completes .stagingComplete s (Follows (s.here.bulkWrite s.dev.stagedRid 11 g.image .config)))) ∧
  (∀ (s : State) (g : Stage) (t : Nat), s.dev.plc.stage = some g → g.act = some t → g.complete = true → s.dev.awake = true →
    Completes .activation s (Follows ((s.here.reachTime t).activate g.image t))) ∧
  (∀ s : State, s.dev.alive = true → Completes .configExchangeSend s (Follows
    (s.here.each s.dev.upLinks fun m d => d.ask 0x4404 (d.rd P.NEIGH [m]) (d.configBlock m)))) ∧
  (∀ (s : State) (c : CensusRun), s.dev.plc.census = some c →
    let d := s.here.reach (c.since + ms (s.dev.rd P.CENSUS_WAIT))
    Completes .censusWait s (Follows (d.endCensus c (c.entries ++ (c.asked ++ c.todo).map fun e => silentEntry e.1 e.2))))

/-! ## Sensor links, frames and lanes -/

/-- A packet on a link that is enabled: a header that cannot be corrected discards it (R75), and a packet of no enabled stream
is discarded and counted (R74), in CRC_ERR too where its payload's CRC fails (R76). FRAME_START opens a frame of its stream,
FRAME_END closes it and begins the writes that wait for it (R78, R94), LINE_START gives the next line's position where LINE_NUM
is 1 (R77), LINE_END is ignored, and a generic short packet is discarded (R74). On a link that is not enabled packets have no
effect. -/
def Obligations.SensorPackets : Prop :=
  ∀ (s : State) (l vc : Nat),
    let all (h : Hdr) (n dt : Nat) (pay : List Byte) (ok : Bool) : List Instr :=
      [.frameStart l vc n h, .frameEnd l vc n h, .lineStart l vc n h, .lineEnd l vc h, .genericShortPacket l vc h,
        .imageLine l vc dt pay ok h, .telemetry l vc dt pay ok h]
    (s.dev.linkOn l = false → ∀ h n dt pay ok, ∀ c ∈ all h n dt pay ok, Idle c s) ∧
    (s.dev.linkOn l = true →
      (∀ n dt pay ok, ∀ c ∈ all .bad n dt pay ok, Completes c s (Follows
        ((((s.here.bump P.ECC_UNCORR [l]).bump P.DISCARD [l]).set (.ing 1) (1, l) (leBytes 1 l)).set (.ing 5) (1, l) (leBytes 1 l)))) ∧
      (s.dev.streamAt l vc = none → ∀ n dt pay,
        (∀ c ∈ all .good n dt pay true, Completes c s (Follows (s.here.discard l))) ∧
        ∀ c ∈ [Instr.imageLine l vc dt pay false .good, .telemetry l vc dt pay false .good], Completes c s (Follows
          (((s.here.bump P.CRC_ERR [l]).set (.ing 2) (1, l) (leBytes 1 l)).discard l))) ∧
      (∀ x h e, s.here.header l vc h = (some x, e) →
        let d := e.fixFrame x h
        (∀ n, Completes (.frameStart l vc n h) s (Follows ((e.setStrm x { e.strm x with heard := e.clk }).startFrame l x n h))) ∧
        (∀ n, (d.strm x).openFrame = none → Completes (.frameEnd l vc n h) s (Follows (d.discard l))) ∧
        (∀ n, (d.strm x).openFrame ≠ none → isComp x = false →
          Completes (.frameEnd l vc n h) s (Follows ((d.endFrame x false).beginWrites (coreOf x)))) ∧
        (∀ n, (d.strm x).openFrame ≠ none → isComp x = true → Completes (.frameEnd l vc n h) s (Follows (d.endFrame x false))) ∧
        (∀ n f, (d.strm x).openFrame = some f → d.is P.LINE_NUM [coreOf x] = true →
          Completes (.lineStart l vc n h) s (Follows (d.setStrm x ((d.strm x).putLast { f with ls := some n })))) ∧
        (∀ n, ((d.strm x).openFrame = none ∨ d.is P.LINE_NUM [coreOf x] = false) →
          Completes (.lineStart l vc n h) s (Follows d)) ∧
        Completes (.lineEnd l vc h) s (Follows d) ∧
        Completes (.genericShortPacket l vc h) s (Follows (d.discard l))))

/-- An image line of a stream's data type is placed at its position while a line buffer is free (R76, R77, R84); one at a
position already filled or beyond HEIGHT, or of a frame already cut, is cut and counted. A telemetry packet's values are taken
into the open frame's tag (R83). A frame without packets for four periods ends, and a core that streams stalls (R79, R89). -/
def Obligations.LinesAndTelemetry : Prop :=
  (∀ (s : State) (l vc x : Nat) (h : Hdr) (e : Dev) (pay : List Byte) (ok : Bool), s.dev.linkOn l = true →
    s.here.header l vc h = (some x, e) →
    let d := if ok then e.fixFrame x h else (e.fixFrame x h).payloadError l x
    let c := Instr.imageLine l vc (0x2C + d.dataType x) pay ok h
    (∀ dt, dt ≠ 0x2C + d.dataType x → Completes (.imageLine l vc dt pay ok h) s (Follows (d.discard l))) ∧
    ((d.strm x).openFrame = none → Completes c s (Follows (d.discard l))) ∧
    (∀ f, (d.strm x).openFrame = some f →
      let y := if d.is P.LINE_NUM [coreOf x] then f.ls.getD 0 else f.top + 1
      let extra := decide (y ≤ f.top ∨ d.height x < y)
      let hurt (z : Frame) : Frame := if ok then z else { z with tag := { z.tag.mark 0 with crc := z.tag.crc + 1 } }
      let counted (e : Dev) : Dev := if ok then e else e.bump P.CRC_LINES [coreOf x]
      ((extra = true ∨ f.tag.has 1 = true) → Completes c s (Follows ((counted d).cutLine x (hurt f) extra))) ∧
      (extra = false → f.tag.has 1 = false → d.occupied x < d.buffers x →
        Completes c s (Follows (d.placeLine x y f pay ok))) ∧
      (∀ z, extra = false → f.tag.has 1 = false → d.buffers x ≤ d.occupied x → ((d.overrun x).strm x).openFrame = some z →
        (z.tag.has 1 = true → Completes c s (Follows ((counted (d.overrun x)).cutLine x (hurt z) false))) ∧
        (z.tag.has 1 = false → Completes c s (Follows ((d.overrun x).placeLine x y z pay ok))))) ∧
    (∀ dt, dt ≠ 0x12 → (dt < 0x30 ∨ 0x37 < dt) → Completes (.telemetry l vc dt pay ok h) s (Follows (d.discard l))) ∧
    (∀ dt f, (dt = 0x12 ∨ (0x30 ≤ dt ∧ dt ≤ 0x37)) → (d.strm x).openFrame = some f →
      let g := d.takeTelemetry x dt pay ok true (d.takeTelemetry x dt pay ok false f)
      let e := d.setStrm x ((d.strm x).putLast
        { g with tel := g.tel ++ [(dt, pay)], telBad := if ok then g.telBad else dt :: g.telBad })
      ((g.tag.has 8 = false ∨ f.tag.has 8 = true) → Completes (.telemetry l vc dt pay ok h) s (Follows e)) ∧
      (g.tag.has 8 = true → f.tag.has 8 = false → Completes (.telemetry l vc dt pay ok h) s (Follows (e.setIng 7 x))))) ∧
  (∀ (s : State) (x : Nat), s.dev.awake = true → (s.dev.strm x).openFrame ≠ none →
    let d := (s.here.reach ((s.dev.strm x).heard + 4 * s.dev.period x)).endFrame x true
    (d.rd P.CORE_STATE [coreOf x] = 3 → Completes (.frameTimeout x) s (Follows (d.coreState (coreOf x) 4))) ∧
    (d.rd P.CORE_STATE [coreOf x] ≠ 3 → Completes (.frameTimeout x) s (Follows d))) ∧
  (∀ (s : State) (x : Nat), (s.dev.strm x).openFrame = none → Idle (.frameTimeout x) s) ∧
  (∀ (s : State) (l : Nat) (up : Bool), s.dev.awake = true → l < 32 →
    Completes (.csiLinkUp l up) s (Follows (s.here.put P.CSI_LINK_UP [l] (up && s.dev.is P.CSI_LINK_EN [l]))))

/-- The write in hand on a sensor control bus is driven and ends: with others left the next goes on, with none left the setting
change completes (R92, R95); one not acknowledged, one whose read-back differs and one that ends in a bus error, which resets
the bus (R90), is counted and tried again RETRIES times, then the change fails (R96). Without a write the bus is idle. -/
def Obligations.SensorWrites : Prop :=
  (∀ (s : State) (b : Nat) (e : WriteEnd), s.dev.busCores b = [] → Idle (.coreWrite b e) s) ∧
  (∀ (s : State) (b k : Nat) (c : Change) (rest : List Change) (op : BusOp) (ops : List BusOp), s.dev.awake = true →
    (s.dev.busCores b).head? = some k → (s.dev.setting k).queue = c :: rest → c.ops = op :: ops →
    let x := s.dev.setting k
    let d := s.here.drive b k op
    let back (e : WriteEnd) : Prop := ∃ got comp wide reg data, e = .readBack got ∧ op = .write comp true wide reg data ∧
      s.dev.is P.BUS_MODE [b] = true ∧ got ≠ data
    let fails (e : WriteEnd) : Prop := e = .nack ∨ e = .busError ∨ back e
    let n := d.bump P.NACK_CNT [b]
    let after (e : WriteEnd) : Dev := if e = .busError then
        ((n.emit (.busReset b)).bump P.BUS_RESET_CNT [b]).set (.ing 9) (1, 32 + b) (n.ingData k c.gen)
      else n
    (∀ e, ¬ fails e → ops ≠ [] → Completes (.coreWrite b e) s (Follows
      (d.setSetting k { x with queue := { c with ops := ops } :: rest, tries := 0 }))) ∧
    (∀ e, ¬ fails e → ops = [] → Completes (.coreWrite b e) s (Follows (completeEmpty 8 k (d.completeChange k c)))) ∧
    (∀ e, fails e → x.tries < (after e).rd P.RETRIES [b] → Completes (.coreWrite b e) s (Follows
      ((after e).setSetting k { x with tries := x.tries + 1 }))) ∧
    (∀ e, fails e → (after e).rd P.RETRIES [b] ≤ x.tries → Completes (.coreWrite b e) s (Follows
      (completeEmpty 8 k ((after e).failChange k c)))))

/-- A free lane takes the oldest line that waits, for pass B before pass A (R14, R16). Pass A of a line gives its pixels to the
window, or for a companion or SHUTTER frame to the lines that wait to leave, and pass B finishes the line and lets lines leave
in order (R15, R121 to R130). A reported record block is written again, dropped where its core is disabled, and logged and given
up at its second failure (R115). -/
def Obligations.LaneWork : Prop :=
  (∀ (s : State) (lane : Nat), s.dev.awake = true → lane < 128 → s.dev.pipe.lanes.get? lane = none →
    (∀ k l, s.dev.pickB (lane / 8) = some (k, l) →
      let d := s.here.setWindow k ((s.dev.window k).map fun w => if w.cnt = l.cnt ∧ w.y = l.y then { w with begun := true } else w)
      Completes (.laneGrant lane) s (Follows
        { d with pipe := { d.pipe with lanes := d.pipe.lanes.put lane (.passB k l.cnt l.y) } })) ∧
    (∀ x cnt y line, s.dev.pickB (lane / 8) = none → s.dev.pickA (lane / 8) = some (x, cnt, y, line) →
      let frames := (s.dev.strm x).frames.map fun f =>
        if f.tag.cnt = cnt then { f with lines := f.lines.del y, begun := f.begun + 1 } else f
      let d := s.here.setStrm x { s.dev.strm x with frames := frames }
      Completes (.laneGrant lane) s (Follows
        { d with pipe := { d.pipe with lanes := d.pipe.lanes.put lane (.passA x cnt y line) } })) ∧
    (s.dev.pickB (lane / 8) = none → s.dev.pickA (lane / 8) = none → Idle (.laneGrant lane) s)) ∧
  (∀ (s : State) (lane x cnt y : Nat) (line : Line) (errs : List BlockErr) (f : Frame), s.dev.awake = true →
    s.dev.pipe.lanes.get? lane = some (.passA x cnt y line) → (s.dev.strm x).frame? cnt = some f →
    let d := s.here.freeLane lane
    let k := coreOf x
    let dt := if isComp x then d.rd P.COMP_DT [k] else d.rd P.DT [k]
    let px := line.px.mapIdx fun i raw => shutterPixel dt raw (decide (i < line.valid)) line.flagged
    let rows := if isComp x then f.rows.put (y - 1) (line.px.map (align dt)) else f.rows
    ((isComp x = true ∨ f.tag.has 11 = true) → Completes (.passA lane errs) s (Follows
      (leaveInOrder 4096 x (d.setStrm x ((d.strm x).putFrame { f with rows := rows, waiting := f.waiting.put y (line, px) })))))) ∧
  (∀ (s : State) (lane k cnt y : Nat) (line : Line) (errs : List BlockErr) (f : Frame), s.dev.awake = true →
    s.dev.pipe.lanes.get? lane = some (.passA k cnt y line) → (s.dev.strm k).frame? cnt = some f → k < 64 → f.tag.has 11 = false →
    let w := s.dev.rd P.WIDTH [k]
    let bs := f.failing k (y - 1) errs
    let d := ((s.here.freeLane lane).touch (pixTable k) (s.dev.recOffset k f.bank ((y - 1) * w)) (16 * w)).each bs fun b d =>
      d.blockError b
    Completes (.passA lane errs) s (Follows
      (d.setWindow k (d.window k ++ [⟨cnt, y, line.arrival, line, d.passAOf k f y line bs, false, false, []⟩])))) ∧
  (∀ (s : State) (lane x cnt y : Nat) (line : Line) (errs : List BlockErr), s.dev.awake = true →
    s.dev.pipe.lanes.get? lane = some (.passA x cnt y line) → (s.dev.strm x).frame? cnt = none →
    Completes (.passA lane errs) s (Follows (s.here.freeLane lane))) ∧
  (∀ (s : State) (lane k cnt y : Nat) (f : Frame) (l : WinLine), s.dev.awake = true →
    s.dev.pipe.lanes.get? lane = some (.passB k cnt y) → (s.dev.strm k).frame? cnt = some f →
    lineIn (s.dev.window k) cnt y = some l →
    let d := s.here.freeLane lane
    let res := d.resultsOf k f l
    let lived := (res.filter (·.lived)).length
    let lone := (res.filter fun r => bitOf r.st 5).length
    let a := d.writeBack k f y l.px res
    let a := a.wr P.LIVE_CNT [k] (a.rd P.LIVE_CNT [k] + lived)
    let a := if lived ≠ 0 && !f.lived then a.setPipe 2 k else a
    let a := a.wr P.NO_DONOR_CNT [k] (a.rd P.NO_DONOR_CNT [k] + lone)
    let a := if lone ≠ 0 then a.setPipe 3 k else a
    let z := a.lineHits k f y res
    let g := { z.2 with lived := z.2.lived || decide (lived ≠ 0), dmax := (res.map (·.dmax)).foldl max z.2.dmax }
    let u := z.1.setStrm k ((z.1.strm k).putFrame g)
    Completes (.passB lane) s (Follows (leaveInOrder 4096 k
      (u.setWindow k ((u.window k).map fun w => if w.cnt = cnt ∧ w.y = y then { w with done := true, res := res } else w))))) ∧
  (∀ (s : State) (lane : Nat) (errs : List BlockErr), s.dev.pipe.lanes.get? lane = none →
    Idle (.passA lane errs) s ∧ Idle (.passB lane) s) ∧
  (∀ (s : State) (q : Repair) (rest : List Repair), s.dev.pipe.bad = q :: rest → s.dev.awake = true →
    let b := q.block
    let w := s.dev.rd P.WIDTH [b.core]
    (s.dev.is P.CORE_EN [b.core] = false → ∀ ok, Completes (.recordRepair ok) s (Follows
      { s.here with pipe := { s.dev.pipe with bad := rest } })) ∧
    (s.dev.is P.CORE_EN [b.core] = true → s.dev.storing b.core = true → ∀ ok, Idle (.recordRepair ok) s) ∧
    (s.dev.is P.CORE_EN [b.core] = true → s.dev.storing b.core = false →
      let d := s.here.each (blockCols b.state b.block w) fun x d =>
        d.repairPixel b x (overlay (s.dev.factory b.core) (s.dev.learned b.core) (b.row * w + x))
      let dead : Dev := { s.here with pipe := { s.dev.pipe with bad := rest, dead := s.dev.pipe.dead ++ [b] } }
      let data := leBytes 1 b.core ++ leBytes 1 b.bank ++ leBytes 1 (if b.state then 1 else 0) ++ [0] ++ leBytes 4 b.row ++
        leBytes 4 b.block
      Completes (.recordRepair true) s (Follows { d with pipe := { d.pipe with bad := rest } }) ∧
      (q.tries = 0 → Completes (.recordRepair false) s (Follows
        { s.here with pipe := { s.dev.pipe with bad := ⟨b, 1⟩ :: rest } })) ∧
      (q.tries ≠ 0 → Completes (.recordRepair false) s (Follows
        (dead.queueLog (dead.record 101 2 (2, b.core) 0 data)).1))))

/-- ALARM_N is released once no source has stood for ALARM_HOLD (R127). The self-test of a lane ends with TEST_OK telling what
the I/O die saw, and a faulted wire sets its bit of LINE_DIE (R129). A bridge transfer that fails is replayed up to three times,
and the bridge has failed after that (R21). At a rate window's end the measured rate is recorded and the next window begins; a
cluster that is short raises the region's margin event, and one whole window in which none is short by twice the margin arms it
again (R36, R37); RATE_MOVE moves cores off a raised region's short clusters (R248). A tap's stream sends whole words up to the
ring's end (R136). -/
def Obligations.LaneSignals : Prop :=
  (∀ (s : State) (t : Nat), s.dev.pipe.alarmAt = some t →
    (s.dev.alarmStands = true → Idle .alarmHold s) ∧
    (s.dev.alarmStands = false →
      let d := s.here.reach (t + ms (s.dev.rd P.ALARM_HOLD))
      Completes .alarmHold s (Follows { d with pipe := { d.pipe with alarmAt := none } }))) ∧
  (∀ (s : State) (seen : Bool),
    (s.dev.is P.TEST_GO = false → Idle (.selftest seen) s) ∧
    (s.dev.is P.TEST_GO = true →
      let d := (s.here.put P.TEST_GO [] false).put P.TEST_OK [] seen
      Completes (.selftest seen) s (Follows
        (({ d with pipe := { d.pipe with alarmAt := some s.dev.clk } } : Dev).report 112 (3, s.dev.rd P.TEST_LANE))))) ∧
  (∀ (s : State) (b : Nat), s.dev.alive = true → b < 2 →
    Completes (.alarmLineFault b false) s (Follows
      ((s.here.wr P.LINE_DIE [] (setBit (s.dev.rd P.LINE_DIE) b)).set (.pipe 6))) ∧
    Completes (.alarmLineFault b true) s (Follows
      ((s.here.wr P.LINE_DIE [] (setBit (s.dev.rd P.LINE_DIE) (2 + b))).set (.pipe 7))) ∧
    (∀ (n : Nat) (again : Bool), (if again then s.dev.pipe.replays.get b 0 else 0) = n → n < 3 → Completes (.bridgeTransferError ⟨b, again⟩) s (Follows
      (({ s.here with pipe := { s.dev.pipe with replays := s.dev.pipe.replays.put b (n + 1) } } : Dev).set (.bridgeErr b)))) ∧
    (3 ≤ s.dev.pipe.replays.get b 0 → Completes (.bridgeTransferError ⟨b, true⟩) s (Follows
      ((({ s.here with pipe := { s.dev.pipe with replays := s.dev.pipe.replays.put b 0 } } : Dev).set
        (.bridgeFail b)).refreshState)))) ∧
  (∀ (s : State) (r rate : Nat), s.dev.awake = true → r < 4 →
    let period := 1000 * s.dev.rd P.RATE_WINDOW
    let w := s.here.reach (s.dev.pipe.winEnd.get r period)
    let w : Dev := { w with pipe := { w.pipe with winEnd := w.pipe.winEnd.put r (w.clk + period) } }
    let d := (w.wr P.LANE_RATE [r] rate).lowerTo P.LANE_RATE_MIN [r] (rate % 65536)
    let m := s.dev.rd P.RATE_MARGIN
    let low (m : Nat) : Bool := [4 * r, 4 * r + 1, 4 * r + 2, 4 * r + 3].any fun c => d.short c rate m
    let rest := s.dev.pipe.easing.filter (· ≠ r)
    let e : Dev := { d with pipe := { d.pipe with easing := if low (2 * m) then rest else r :: rest } }
    (s.dev.pipe.raised.contains r = false → low m = true → Completes (.rateWindow r rate) s (Follows
      (({ e with pipe := { e.pipe with raised := r :: e.pipe.raised } } : Dev).set (.rateLow r) (5, r)))) ∧
    (s.dev.pipe.raised.contains r = false → low m = false → Completes (.rateWindow r rate) s (Follows e)) ∧
    (s.dev.pipe.raised.contains r = true → (s.dev.pipe.easing.contains r = false ∨ low (2 * m) = true) →
      Completes (.rateWindow r rate) s (Follows e)) ∧
    (s.dev.pipe.raised.contains r = true → s.dev.pipe.easing.contains r = true → low (2 * m) = false →
      Completes (.rateWindow r rate) s (Follows { e with pipe := { e.pipe with raised := e.pipe.raised.filter (· ≠ r) } }))) ∧
  (∀ (s : State) (r : Nat), s.dev.awake = true → s.dev.boot.running = true → s.dev.pipe.raised.contains r = true →
    Completes (.rateMove r) s (Follows (moveShort 64 r s.here))) ∧
  (∀ (s : State) (r : Nat), s.dev.pipe.raised.contains r = false → Idle (.rateMove r) s) ∧
  (∀ (s : State) (t n : Nat), t < 16 → s.dev.is P.STREAMING [t] = true →
    let u := s.dev.rd P.ST_UPLINK [t]
    let size := s.dev.ringWords t
    let prod := s.dev.rd P.TAP_PROD [t]
    let cons := s.dev.rd P.TAP_CONS [t]
    let x := s.dev.pipe.taps.get t Tap.fresh
    prod ≠ cons → s.dev.uplinkOn u = true → s.dev.kcp.paused.get u 0 = 0 →
    min 178 (if cons < prod then prod - cons else size - cons) = n →
    let body := s.dev.ringRead t cons n
    let head := leBytes 1 1 ++ leBytes 1 t ++ [0, 0] ++ leBytes 4 x.seq ++ leBytes 4 cons ++ leBytes 2 body.length ++ [0, 0]
    let addr := ((List.range 4).map fun w => s.dev.rd P.ST_ADDR [t, w] * 2 ^ (32 * w)).sum
    let d := (s.here.emit (.datagram u (s.dev.is P.ST_V6 [t]) addr (s.dev.rd P.ST_PORT [t]) 47641 (head ++ body))).wr P.TAP_CONS [t]
      ((cons + n) % size)
    Completes (.tapDatagram t) s (Follows
      { d with pipe := { d.pipe with taps := d.pipe.taps.put t { x with seq := (x.seq + 1) % 2 ^ 32 } } }))

/-! ## Calibration and seams -/

/-- A core that may begin a cycle begins one where a trigger of Table 5-5 holds, or at the earliest instant one comes due. A
refused attempt reserves again at its retry (R149, R155), and grants that outlive their limit without an opening are given back
and reserved again (R149); while Workroom restarts, what would be reserved is abandoned (R142). A cycle refused for MAX_DEFER
asks by force, or, where SHUTTER_NOW asked and the driver alone refused, ends with ST_DUTY (R150, R155). An owner voids its
oldest grant of a patch at the end of the lease (R149). -/
def Obligations.CyclesAndGrants : Prop :=
  (∀ (s : State) (k : Nat), k < 64 → s.dev.mayCycle k = true →
    (s.dev.triggered k = true → Completes (.cycleRequest k) s (Follows (s.here.startCycle k none))) ∧
    (∀ t l, s.dev.triggered k = false → s.dev.timeDue k = t :: l →
      Completes (.cycleRequest k) s (Follows ((s.here.reach (l.foldl min t)).startCycle k none))) ∧
    (s.dev.triggered k = false → s.dev.timeDue k = [] → Idle (.cycleRequest k) s)) ∧
  (∀ (s : State) (k : Nat), (64 ≤ k ∨ s.dev.mayCycle k = false) → Idle (.cycleRequest k) s) ∧
  (∀ (s : State) (k : Nat), (s.dev.calCore k).cycle = none → ∀ c : Instr,
    c ∈ [Instr.retry k, .grantStartLimit k, .maxDefer k, .releasePhaseEnd k, .openSettleEnd k, .openConfirmation k,
      .openConfirmationTimeout k, .flagClosedFault k, .gatherResult k] → Idle c s) ∧
  (∀ (s : State) (k : Nat) (c : Cycle), (s.dev.calCore k).cycle = some c →
    (∀ t, c.retryAt = some t →
      (s.dev.boot.running = true → Completes (.retry k) s (Follows ((s.here.reach t).reserve k))) ∧
      (s.dev.boot.running = false → Completes (.retry k) s (Follows ((s.here.reach t).abandonCycle k)))) ∧
    (c.retryAt = none → Idle (.retry k) s) ∧
    (∀ g l, (c.grants.filter fun g => decide (g.decision = some 0 ∨ g.decision = some 1)) = g :: l →
      s.dev.rd P.CYC_STATE [k] = 1 → c.retryAt = none →
      let t := (l.map (·.at_)).foldl min g.at_
      let d := (s.here.reach (t + startLimit (s.dev.period k))).releaseGrants k
      (s.dev.boot.running = true → Completes (.grantStartLimit k) s (Follows (d.reserve k))) ∧
      (s.dev.boot.running = false → Completes (.grantStartLimit k) s (Follows (d.abandonCycle k)))) ∧
    (s.dev.rd P.CYC_STATE [k] = 1 → c.refusals ≠ 0 → c.force = false →
      let d := s.here.reach (c.first + sec (s.dev.rd P.MAX_DEFER))
      ((c.duty = false ∨ c.ticket = none) → Completes (.maxDefer k) s (Follows
        ((d.setCycle k (some { c with force := true })).setCalF 2 k))) ∧
      (c.duty = true → c.ticket ≠ none → Completes (.maxDefer k) s (Follows
        (((d.endTicket k .duty 0x3201).releaseGrants k).dropCycle k))))) ∧
  (∀ (s : State) (p : Nat), (s.dev.cal.given.find? fun g => decide (g.patch = p)) = none → Idle (.grantVoid p) s) ∧
  (∀ (s : State) (p : Nat) (g : Given), (s.dev.cal.given.find? fun g => decide (g.patch = p)) = some g →
    Completes (.grantVoid p) s (Follows ((((s.here.reach (g.at_ + g.lease)).takeBack p g.dev g.core).report 145
      (s.dev.coreUnit g.dev g.core) (s.dev.calData g.core p)))))

/-- A cycle's release phase ends 25 ms after it began and open settle 60 ms after that, when the open check is asked for (R143,
R147). A flag found open ends the interruption; none within 10 ms fails the cycle, and one second marks the flag closed (R147).
The gather's result is taken once its frames have left; too little coverage fails the cycle (R156 to R159). A learned set's
store commits under the next STORE_SEQ or sets STORE_FAIL (R169). -/
def Obligations.CyclePhases : Prop :=
  (∀ (s : State) (k : Nat) (c : Cycle), (s.dev.calCore k).cycle = some c → s.dev.rd P.CYC_STATE [k] = 5 →
    let d := s.here.reach (c.phaseAt + ms 25)
    Completes (.releasePhaseEnd k) s (Follows
      ((d.setCycle k (some { c with phaseAt := d.clk, settled := false })).wr P.CYC_STATE [k] 6))) ∧
  (∀ (s : State) (k : Nat) (c : Cycle), (s.dev.calCore k).cycle = some c → s.dev.rd P.CYC_STATE [k] = 6 →
    let ch := s.dev.rd P.SHUT_CH [k]
    (c.settled = false →
      let d := s.here.reach (c.phaseAt + ms 60)
      Completes (.openSettleEnd k) s (Follows
        ((d.setCycle k (some { c with phaseAt := d.clk, settled := true })).openCheck ch))) ∧
    (c.settled = true → (s.dev.sh ch).openOk = true → (s.dev.sh ch).latch = false →
      Completes (.openConfirmation k) s (Follows (s.here.opened k c))) ∧
    ((s.dev.sh ch).latch = true → Idle (.openConfirmation k) s) ∧
    (c.settled = true → Completes (.openConfirmationTimeout k) s (Follows ((s.here.reach (c.phaseAt + ms 10)).cycleFault k))) ∧
    (c.settled = true → Completes (.flagClosedFault k) s (Follows
      ((s.here.reach (c.phaseAt + sec 1)).setCycle k (some { c with closed := true }))))) ∧
  (∀ (s : State) (k : Nat) (c : Cycle), (s.dev.calCore k).cycle = some c → s.dev.rd P.CYC_STATE [k] = 7 →
    (s.dev.gatherPending k c = true → Idle (.gatherResult k) s) ∧
    (s.dev.gatherPending k c = false → c.aborted = true → Completes (.gatherResult k) s (Follows (s.here.dropCycle k))) ∧
    (s.dev.gatherPending k c = false → c.aborted = false → s.here.coverageGood k c = false →
      Completes (.gatherResult k) s (Follows ((s.here.countFail k).dropCycle k))) ∧
    (s.dev.gatherPending k c = false → c.aborted = false → s.here.coverageGood k c = true →
      let d := ((s.here.gatherUpdate k c).bump P.CYCLES [k]).wr P.CONSEC_FAIL [k] 0
      let d := if c.ticket.isSome then d.put P.SUSP [k] false else d
      Completes (.gatherResult k) s (Follows ((d.endTicket k .ok 0).dropCycle k)))) ∧
  (∀ (s : State) (k : Nat) (j : BulkJob) (l m : List BulkJob), s.dev.nv.bulkQ = l ++ j :: m → j.why = .learned k →
    (∀ x ∈ l, ∀ k, x.why ≠ .learned k) →
    let d : Dev := { s.here with nv := { s.dev.nv with bulkQ := l ++ m } }
    (s.dev.bulkUp = true → Completes (.learnedSetStore true) s (Follows
      ((d.bulkCommit j.rid j.area j.data).bump P.STORE_SEQ [k]))) ∧
    Completes (.learnedSetStore false) s (Follows (d.setCalF 8 k)))

/-- Once a second every seam cell of the owned patches gives its samples (R160). At SEAM_PERIOD the sums go to their devices,
each region without a running solve begins one, and the next period's sums start over; a solve's end counts it, sends NODES and
trims its paired cores (R161 to R164). -/
def Obligations.SeamPeriods : Prop :=
  (∀ s : State, s.dev.awake = false → Idle .seamSample s ∧ Idle .seamPeriod s) ∧
  (∀ s : State, s.dev.awake = true →
    let slots := s.dev.fus.slots.cells.filter fun x => s.dev.owns x.1 && !x.2.held
    let m := slots.foldl (fun m x => (List.range (s.dev.patchCells x.1)).foldl (fun m c => s.dev.sampleCell x.1 x.2 c m) m) s.dev.cal.pairs
    Completes .seamSample s (Follows { s.here with cal := { s.dev.cal with pairs := m } })) ∧
  (∀ s : State, s.dev.awake = true → s.dev.boot.running = true →
    let es := s.dev.cal.pairs.cells.filterMap s.dev.sumsEntry
    let d := s.here.each ((es.map (·.1)).eraseDups) fun o d =>
      d.seamSend 4 o ((es.filter fun e : Nat × List Byte => decide (e.1 = o)).map fun e : Nat × List Byte => e.2)
    let d := d.each [0, 1, 2, 3] fun g d => if (d.cal.solves.get? g).isSome then d else d.beginSolve g none
    Completes .seamPeriod s (Follows { d with cal := { d.cal with pairs := KMap.empty, brought := KMap.empty } })) ∧
  (∀ (s : State) (g : Nat), s.dev.cal.solves.get? g = none → Idle (.solveEnd g) s) ∧
  (∀ (s : State) (g : Nat) (v : Solve), s.dev.cal.solves.get? g = some v →
    let z := s.here.solve g v.sums
    let paired := z.loc.filter fun i => z.es.any fun e => decide (e.a = i ∨ e.b = i)
    let d : Dev := { s.here with cal := { s.dev.cal with solves := s.dev.cal.solves.del g, solveNo := s.dev.cal.solveNo + 1 } }
    let d := (d.wr P.SOLVE_CNT [] (s.dev.rd P.SOLVE_CNT + 1)).wrs [(P.LAST_ITER, [], z.iter),
      (P.LAST_RES, [], min 65535 ((z.es.map z.residual).foldl max 0))]
    let d := if paired.all (d.anchoredNode z) then d else d.set (.cal 5) (5, g) (d.calData 0 0)
    let d := (d.sendNodes z v.sums s.dev.cal.solveNo).each paired fun i d => (d.applyTrim z v.notes i).noteResidual z i
    (v.ticket = none → Completes (.solveEnd g) s (Follows (d.report 146 (5, g) (d.calData 0 0)))) ∧
    (∀ t, v.ticket = some t → (∀ w ∈ (s.dev.cal.solves.del g).vals, w.ticket ≠ some t) →
      Completes (.solveEnd g) s (Follows (d.complete t .ok 0 (leBytes 2 (d.rd P.LAST_RES))))))

/-! ## Fusion and tile output -/

/-- A patch is published when the last line of its lead view's frame has come, and held once HOLD_PERIOD passes without a fresh
view (R192, R193). A registration session blinks from S0 and its cores are solved at its end (R184, R185). A hit record is
mapped by its core's grid; its alarm records are raised by the owner of its patch, to whom another device sends it (R200, R241),
and by the device itself where the owner has no route; one on unmapped pixels sets its flag. A device without an address or in
Doze entry sends nothing (R245). -/
def Obligations.PublicationAndHits : Prop :=
  (∀ (s : State) (p : Nat), s.dev.slot? p = none → Idle (.publication p) s ∧ Idle (.holdPeriod p) s) ∧
  (∀ (s : State) (p i c : Nat) (x : Slot) (v : View), s.dev.slot? p = some x → s.dev.awake = true → x.lead = some i →
    x.views[i]? = some v → v.recent s.dev.now = true → v.capture = some c → v.done = false → s.dev.publishes p c = true →
    let gap := 1000000000 / s.dev.rd P.OUT_RATE_MAX - 2000000
    (x.pubs ≠ 0 → c < x.lastPub + gap → Completes (.publication p) s (Follows
      ((s.here.setSlot p x).setSlot p { x with views := x.views.map fun w => if w = v then { w with done := true } else w }))) ∧
    ((x.pubs = 0 ∨ x.lastPub + gap ≤ c) →
      let d := (s.here.setSlot p x).publishLead p c v.origin
      Completes (.publication p) s (Follows (match d.slot? p with
        | some y => (d.setSlot p { y with lead := d.leadAt p y d.now }).tryState p
        | none => d)))) ∧
  (∀ (s : State) (p : Nat) (x : Slot), s.dev.slot? p = some x → s.dev.awake = true → s.dev.mute = false → s.dev.owns p = true →
    let e := s.here.reach (x.pubAt + ms (s.dev.rd P.HOLD_PERIOD))
    (e.leadAt p x e.now ≠ none → Idle (.holdPeriod p) s) ∧
    (e.leadAt p x e.now = none →
      let h := e.publish p none e.clk
      Completes (.holdPeriod p) s (Follows (match h.slot? p with
        | some y => h.setSlot p { y with lead := none }
        | none => h)))) ∧
  (∀ s : State, s.dev.fus.regs = [] → Idle .registrationSession s ∧ Idle .registrationEnd s) ∧
  (∀ (s : State) (g : Session6), s.dev.awake = true → (s.dev.fus.regs.find? fun x => !x.blinking) = some g →
    let d := s.here.reachTime g.start
    let regs := d.fus.regs.map fun q => if q = g then { q with blinking := true } else q
    let e : Dev := { d with fus := { d.fus with regs := regs, planes := d.fus.planes.keep fun k _ => !g.cores.contains k } }
    Completes .registrationSession s (Follows (e.each g.cores fun k d => d.wr P.REG_STATE [k] 2))) ∧
  (∀ (s : State) (g : Session6), s.dev.awake = true → (s.dev.fus.regs.find? (·.blinking)) = some g →
    let d := s.here.reachTime (g.start + ms (72 * s.dev.rd P.BLINK_SYM * s.dev.rd P.BLINK_REP))
    let e : Dev := { d with fus := { d.fus with regs := d.fus.regs.filter (· ≠ g) } }
    (g.cores = [] → Completes .registrationEnd s (Follows (e.complete g.ticket .ok))) ∧
    (g.cores ≠ [] → Completes .registrationEnd s (Follows (e.each g.cores fun k d => d.registerCore k g)))) ∧
  (∀ s : State, s.dev.fus.hits = [] → Idle .hitRecord s) ∧
  (∀ (s : State) (h : List Nat) (rest : List (List Nat)), s.dev.awake = true → s.dev.fus.hits = h :: rest →
    let a (i : Nat) : Nat := h.getD i 0
    let d : Dev := { s.here with fus := { s.dev.fus with hits := rest } }
    (d.mapPixel (a 0) (a 1) (a 2) = none → Completes .hitRecord s (Follows (d.setOut 7 (2, a 0)))) ∧
    (∀ t cell ang row, d.mapPixel (a 0) (a 1) (a 2) = some (t, cell, ang) → d.tile? t = some row →
      let x : Hit := ⟨d.addr, a 0, a 3, a 4, a 5, a 6, a 7, a 8, t, cell⟩
      let o := d.ownerFor row.patch x.capture
      (d.mute = true → Completes .hitRecord s (Follows d)) ∧
      (d.mute = false → o = d.addr → d.verdict row.patch x.capture = .use →
        Completes .hitRecord s (Follows (d.takeHit row.patch x))) ∧
      (d.mute = false → o = d.addr → d.verdict row.patch x.capture ≠ .use →
        Completes .hitRecord s (Follows ((d.bump P.STALE_CNT).setOut 4 (2, a 0)))) ∧
      (d.mute = false → o ≠ d.addr → d.route o = none → Completes .hitRecord s (Follows (d.takeHit row.patch x))) ∧
      (d.mute = false → o ≠ d.addr → (d.route o).isSome = true → Completes .hitRecord s (Follows
        (d.sendTo 5 o (hitMessage row.patch (d.place row.patch).epoch x))))))

/-- A bus sends the record of the best rank, then the earliest origin, then the lowest tile, and its burst ends with none left
(R199). A held-notice is repeated after 10 s; a tile without records for SILENCE_MIN or 2.5 intervals is silent, and its last
record is repeated held every HOLD_PERIOD (R203). A query, sent while nothing else waits, opens the bus's window; a reply of the
tile asked is kept and closes it, one whose CRC fails counts in REPLY_ERR, and a window that closes without one counts NO_REPLY
(R198, R199). A carried record is accepted by the device that attaches its tile (R202). A contribution or a hit record is used
by the owner after T_c, forwarded by a former owner, else counted stale; one of an epoch not known yet has the device ask the
directory (R236, R241, R242). -/
def Obligations.TileBuses : Prop :=
  (∀ (s : State) (b : Nat), s.dev.awake = true → b < 200 → s.dev.is P.BUS_EN [b] = true → (s.dev.bus b).window = none →
    (s.dev.nextRecord b = none → Completes (.tileRecordSend b) s (Follows
      (s.here.setBus b { s.dev.bus b with burst := false }))) ∧
    (∀ q r, s.dev.nextRecord b = some (q, r) →
      let z := (s.here.popRec q).finishRecord q r
      let d := z.1.sendRecord b q z.2
      Completes (.tileRecordSend b) s (Follows (d.setBus b { d.bus b with burst := (d.nextRecord b).isSome }))) ∧
    (s.dev.nextQuery b = none → Idle (.healthQuery b) s) ∧
    (∀ t, s.dev.nextQuery b = some t →
      let d := match (s.dev.attach t).queried with
        | some q => s.here.reach (q + sec (s.dev.rd P.HEALTH_PERIOD))
        | none => s.here
      let keys := (s.dev.busTiles b).map (·.tile) ++ [allQueue b]
      let e := (d.setAttach t { s.dev.attach t with queried := some d.clk }).sendRecord b t ⟨t, 5, false, [], [], d.clk, 0⟩
      ((∀ q ∈ keys, ∀ r ∈ s.dev.queue q, r.kind = 1 ∧ d.clk ≤ r.origin + ms 1) → Completes (.healthQuery b) s (Follows
        ((e.setBus b { e.bus b with window := some t, burst := false }).useBus b 75))) ∧
      (∀ q r, q ∈ keys → r ∈ s.dev.queue q → (r.kind ≠ 1 ∨ r.origin + ms 1 < d.clk) → Idle (.healthQuery b) s))) ∧
  (∀ (s : State) (b : Nat), (s.dev.awake = false ∨ s.dev.is P.BUS_EN [b] = false) →
    Idle (.tileRecordSend b) s ∧ Idle (.healthQuery b) s) ∧
  (∀ (s : State) (t : Nat) (row : TileRow), s.dev.tile? t = some row → s.dev.awake = true → row.dev = s.dev.addr →
    let a := s.dev.attach t
    Completes (.heldNoticeRepeat t) s (Follows ((s.here.reach (a.noticed + sec 10)).notice t a.inForce a.reason false)) ∧
    (a.silent = false →
      let d := s.here.reach (a.at_ + max (ms (s.dev.rd P.SILENCE_MIN)) (5 * a.interval / 2))
      let m := s.dev.mapOfTile t
      let e := d.setAttach t { a with silent := true, map := m, repeated := d.clk }
      Completes (.tileSilent t) s (Follows (((e.notice t (heldMap m) 3 true).bump P.SILENT_CNT).setOut 1
        (e.tileUnit t)))) ∧
    (a.silent = true → Idle (.tileSilent t) s) ∧
    (∀ tspec pay, a.silent = true → a.last = some (tspec, pay) →
      let d := s.here.reach (a.repeated + ms (s.dev.rd P.HOLD_PERIOD))
      let e := d.setAttach t { a with repeated := d.clk }
      Completes (.silentRecordRepeat t) s (Follows (e.pushTemp t
        ⟨t, 1, false, (fitTo 5 0 tspec).set 2 (BitVec.ofNat 8 (setBit (byteAt tspec 2) 1)), pay, d.clk, 0⟩)))) ∧
  (∀ (s : State) (b : Nat), (s.dev.bus b).window = none → Idle (.replyWindowClose b) s ∧
    ∀ lead codes rest, Idle (.healthReply b lead codes rest) s) ∧
  (∀ (s : State) (b t : Nat), (s.dev.bus b).window = some t →
    let a := s.dev.attach t
    let d := (s.here.setBus b { s.dev.bus b with window := none }).bump P.NO_REPLY [b]
    let e := d.setAttach t { a with missed := a.missed + 1 }
    (a.missed < 2 → Completes (.replyWindowClose b) s (Follows e)) ∧
    (2 ≤ a.missed → Completes (.replyWindowClose b) s (Follows (e.setOut 6 (e.tileUnit t)))) ∧
    (∀ lead codes rest, recordIn (lead ++ codes ++ rest) = none → Idle (.healthReply b lead codes rest) s) ∧
    (∀ lead codes rest r, recordIn (lead ++ codes ++ rest) = some r →
      (recordCrcOk r = false → Completes (.healthReply b lead codes rest) s (Follows
        ((s.here.bump P.REPLY_ERR [b]).setOut 5 (s.dev.tileUnit t)))) ∧
      (recordCrcOk r = true → isReplyOf t r = false → Idle (.healthReply b lead codes rest) s) ∧
      (∀ row, recordCrcOk r = true → isReplyOf t r = true → s.dev.attached.find? (fun r => decide (r.tile = t)) = some row →
        let pay := (r.drop 11).take 30
        let d := (s.here.tblWrite 0x23F1 (32 * t) (pay ++ [0, 0])).setAttach t { a with missed := 0 }
        Completes (.healthReply b lead codes rest) s (Follows
          ((d.setBus b { d.bus b with window := none }).supplySample row pay))))) ∧
  (∀ (s : State) (f : SeamHdr) (m : List Byte) (t : Nat) (row : TileRow), Receives f s.dev → leAt m 0 4 % 2 ^ 18 = t →
    s.dev.tile? t = some row → s.dev.awake = true → row.dev = s.dev.addr →
    let c := (m.drop 16).drop 1
    let len := leAt c 0 2 % 1024
    byteAt (m.drop 16) 0 = 0xBC → (m.drop 16).length = len → 14 ≤ len → recordCrcOk c = true →
    let r : TRec := ⟨leAt c 2 3 % 2 ^ 18, byteAt c 5 % 16, bitOf (leAt c 2 3) 23, (c.drop 6).take 5, (c.drop 11).take (len - 14),
      s.dev.clk, (64 * (leAt c 15 2 % 1024) + byteAt c 17) * 2 ^ 32 + leAt c 19 4⟩
    Completes (.tileRecordCarriage ⟨f, m⟩) s (Follows (s.here.acceptRecord t row.bus (leAt m 4 4) (leAt m 8 8) r))) ∧
  (∀ (s : State) (f : SeamHdr) (m : List Byte) (p : Nat), Receives f s.dev → s.dev.awake = true → leAt m 0 4 % 2 ^ 22 = p →
    let d := s.here
    let pl := s.dev.place p
    let cap := leAt m 8 8
    let stale (d : Dev) : Dev := (d.bump P.STALE_CNT).setOut 4 (s.dev.coreUnit (leAt m 16 2 % 1024) (byteAt m 18))
    (s.dev.owns p = true → (pl.kept.isSome = true ∨ pl.tc < cap) →
      Completes (.contribution ⟨f, m⟩) s (Follows
        (if byteAt m 19 = 0 then d.takeHit p (hitOf m d.clk) else d.contribute p (contribOf m d.clk)))) ∧
    (s.dev.owns p = true → pl.kept = none → cap ≤ pl.tc → Completes (.contribution ⟨f, m⟩) s (Follows (stale d))) ∧
    (∀ x, s.dev.owns p = false → leAt m 4 4 ≤ pl.epoch → pl.lost = some x → pl.forwards = true → x.2.2.1 < cap →
      pl.owner ≠ 0x3FF → Completes (.contribution ⟨f, m⟩) s (Follows (d.sendTo 5 pl.owner m))) ∧
    (s.dev.owns p = false → pl.lost = none → pl.epoch < leAt m 4 4 → Completes (.contribution ⟨f, m⟩) s (Follows
      (stale (d.query p)))) ∧
    (s.dev.owns p = false → pl.lost = none → leAt m 4 4 ≤ pl.epoch → Completes (.contribution ⟨f, m⟩) s (Follows (stale d)))) ∧
  (∀ (s : State) (f : SeamHdr) (m : List Byte), Receives f s.dev → s.dev.awake = false →
    Idle (.contribution ⟨f, m⟩) s ∧ Idle (.tileRecordCarriage ⟨f, m⟩) s)

/-! ## Memory, converters and shutters -/

/-- A refresh due in a busy bank is owed while the temperature and REF_POSTPONE allow it, and in an idle bank pays what is owed;
while a rank pays off what a shortened interval has made of it, that goes on beside them (R278, R280). MR4 polls set MR4_CODE
and REF_MULT (R279); ZQ calibration changes nothing a host can see (R282); a rank with nothing to do powers down (R283). A
set-point switch puts FSP_SEL in force and answers its request (R285). A read error of one byte is corrected, of two bytes or at
a wrong address found (R269); it is recorded in the error registers and counted, answered to its port where it was not
corrected, and fails its rank as R291 and R292 say; a migration's end gives the slot to its target and retires its source
(R293). A scan's steps collect counts until its range is done (R288). -/
def Obligations.MemoryEvents : Prop :=
  (∀ (s : State) (n b : Nat), s.dev.alive = true → n < 16 → b < 8 → s.dev.is P.SR [n] = false →
    let k := 8 * n + b
    let d := s.here.settleOwed n
    let owed := d.mem.owed.get k 0
    let limit := if s.dev.rd P.MR4_CODE [n] ≤ 3 then s.dev.rd P.REF_POSTPONE else 0
    let e := d.wr P.PD [n] 0
    (d.mem.paying.get? n = none →
      (owed < limit → Completes (.refreshDue n b true) s (Follows
        (({ e with mem := { e.mem with owed := d.mem.owed.put k (owed + 1) } } : Dev).refreshOwed n))) ∧
      (limit ≤ owed → Completes (.refreshDue n b true) s (Follows (e.refreshOwed n))) ∧
      Completes (.refreshDue n b false) s (Follows
        (({ e with mem := { e.mem with owed := d.mem.owed.del k } } : Dev).refreshOwed n))) ∧
    ((d.mem.paying.get? n).isSome = true → ∀ busy, Completes (.refreshDue n b busy) s (Follows (e.refreshOwed n))) ∧
    (d.rankBusy n = false → Completes (.powerDownEntry n) s (Follows (d.wr P.PD [n] 1))) ∧
    (d.rankBusy n = true → Completes (.powerDownEntry n) s (Follows d))) ∧
  (∀ (s : State) (n b : Nat) (busy : Bool), s.dev.is P.SR [n] = true → Idle (.refreshDue n b busy) s ∧ Idle (.powerDownEntry n) s) ∧
  (∀ (s : State) (codes : List Nat), s.dev.alive = true → s.dev.rd P.DEV_STATE ≠ 3 →
    Completes (.mr4Poll codes) s (Follows
      (s.here.each ((codes.take 16).mapIdx fun n c => (n, c % 8)) fun p d => d.pollRank p.1 p.2))) ∧
  (∀ (s : State) (c : Nat), Idle (.zqCalibration c) s) ∧
  (∀ s : State, (s.dev.is P.FSP_BUSY = false → Idle .setPointSwitch s) ∧
    (s.dev.is P.FSP_BUSY = true → s.dev.awake = true →
      let d := s.here.each (List.range 16) fun n d => d.payOwed n
      Completes .setPointSwitch s (Follows
        ((d.wrs [(P.FSP_CUR, [], d.rd P.FSP_SEL), (P.FSP_BUSY, [], 0)]).release .setPoint okay)))) ∧
  (∀ (s : State) (n bank row col port : Nat) (merge : Bool), s.dev.alive = true → n < 16 → s.dev.is P.SR [n] = false →
    let noted (kind : Nat) : Dev := s.here.wrs [(P.ERR_RANK, [], n), (P.ERR_BANK, [], bank), (P.ERR_ROW, [], row),
      (P.ERR_KIND, [], kind), (P.ERR_MODE, [], s.dev.rd P.MEM_MODE), (P.ERR_COL, [], col), (P.ERR_PORT, [], port), (P.PD, [n], 0)]
    let hit (e : DramErr) : Instr := .dramReadError n bank row col ⟨port, merge⟩ e
    let fails (d : Dev) : Dev := d.emit (.memError port merge)
    let ce := (((noted 1).bump P.CE_CNT [n]).countHour n).setMem 0 n
    Completes (hit (.bytes 0)) s (Follows (s.here.wr P.PD [n] 0)) ∧
    (∀ e ∈ [DramErr.corrected, .bytes 1],
      (ce.rd P.CE_HOUR [n] < ce.rd P.CE_LIMIT → Completes (hit e) s (Follows ce)) ∧
      (ce.rd P.CE_LIMIT ≤ ce.rd P.CE_HOUR [n] → Completes (hit e) s (Follows (ce.failRank n)))) ∧
    (∀ e ∈ [DramErr.uncorrectable, .bytes 2, .misplaced], Completes (hit e) s (Follows (fails (((noted 2).countUe n).ueFollows n)))) ∧
    Completes (hit .poisoned) s (Follows (fails ((noted 3).countUe n))) ∧
    Completes (hit .parity) s (Follows ((noted 4).setMem 2 n)) ∧
    Completes (hit .parityTwice) s (Follows (fails ((((noted 2).setMem 2 n).countUe n).ueFollows n)))) ∧
  (∀ s : State, (s.dev.is P.MIG_ACTIVE = false → Idle .migrateDone s) ∧
    (s.dev.is P.MIG_ACTIVE = true → s.dev.awake = true →
      let src := s.dev.rd P.MIG_SRC
      let dst := s.dev.rd P.MIG_DST
      ∀ x, ((List.range (s.dev.rd P.N_SVC)).find? fun x => decide (s.dev.rankOf x = src)) = some x →
        let d := (((s.here.setSlotRank x dst).setRank src 4).setRank dst 0).wrs [(P.MIG_ACTIVE, [], 0), (P.MIG_PTR, [], 0xF00000)]
        Completes .migrateDone s (Follows (nextMigration 17 (d.setMem 4 src))))) ∧
  (∀ (s : State) (c n : Nat), s.dev.mem.scans.get? c = none → Idle (.marginScanStep c n) s) ∧
  (∀ (s : State) (c n : Nat) (x : Scan), s.dev.mem.scans.get? c = some x →
    let y : Scan := { x with counts := x.counts ++ [n] }
    let put (z : Scan) (d : Dev) : Dev := { d with mem := { d.mem with scans := d.mem.scans.put c z } }
    (x.stopping = true → Completes (.marginScanStep c n) s (Follows ((put y s.here).abortScan c))) ∧
    (x.stopping = false → y.counts.length < (scanRange x.type).2 → Completes (.marginScanStep c n) s (Follows (put y s.here))) ∧
    (x.stopping = false → (scanRange x.type).2 ≤ y.counts.length → x.todo = [] →
      Completes (.marginScanStep c n) s (Follows (((s.here.writeMargin c y).dropScan c).complete x.ticket .ok))) ∧
    (∀ l todo, x.stopping = false → (scanRange x.type).2 ≤ y.counts.length → x.todo = l :: todo →
      Completes (.marginScanStep c n) s (Follows
        (put { y with lane := l, todo := todo, counts := [] } (s.here.writeMargin c y)))))

/-- A conversion's end stores its result, for the watch, an injected request, a calibration step or the running sequence, and
flag results reach their cycles (R309, R316). A calibration step with its eight conversions keeps their mean as the zero, or
computes OFS and GAIN_C and refuses a gain outside its range (R318). In Doze each modulator begins its watched channels (R322). -/
def Obligations.ConverterEvents : Prop :=
  (∀ (s : State) (m : Nat) (raw : Int) (ov : Bool) (up down : Int), s.dev.alive = true → s.dev.recalling = false → m < 4 →
    let z := s.here.convert m ⟨raw, ov, up, down⟩
    Completes (.conversionEnd m raw ov up down) s (Follows (z.1.each z.2 fun p d => d.flagResult p.1 p.2))) ∧
  (∀ (s : State) (m : Nat) (raw : Int) (ov : Bool) (up down : Int), s.dev.recalling = true → Idle (.conversionEnd m raw ov up down) s) ∧
  (∀ (s : State) (m : Nat), (s.dev.mod m).cal = none → Idle (.calStepDone m) s) ∧
  (∀ (s : State) (m : Nat) (c : CalStep), (s.dev.mod m).cal = some c →
    ((c.waiting = true ∨ c.raws.length < 8) → Idle (.calStepDone m) s) ∧
    (s.dev.alive = true → c.waiting = false → 8 ≤ c.raws.length →
      let mean := meanRaw c.raws
      let gain := s.dev.rd P.GAIN [c.ch]
      let zero := ((s.dev.mod m).zero.map (·.raw)).getD 0
      let g : Int := if mean = zero then 0
        else rndDiv ((if mean < zero then -1 else 1) * (s.dev.rd P.CAL_FS_CODE [m] : Int) * 2 ^ 22) (mean - zero).natAbs
      (c.step = 0 → Completes (.calStepDone m) s (Follows
        (((s.here.setMod m { s.dev.mod m with zero := some ⟨c.ch, gain, mean, s.dev.clk⟩ }).calOver m).complete c.ticket .ok 0
          (leBytes 4 (wrapInt 32 mean))))) ∧
      (c.step ≠ 0 → (g < 0x200000 ∨ 0x600000 < g) → Completes (.calStepDone m) s (Follows
        (((s.here.calOver m).set (.conv 7)).complete c.ticket .badParam 0x3107))) ∧
      (c.step ≠ 0 → 0x200000 ≤ g → g ≤ 0x600000 →
        Completes (.calStepDone m) s (Follows
          (((s.here.setCoef m gain zero g.toNat).calOver m).complete c.ticket .ok 0
            (leBytes 4 (wrapInt 32 zero) ++ leBytes 4 g.toNat)))))) ∧
  (∀ s : State, (s.dev.alive = true → s.dev.rd P.DEV_STATE = 3 → Completes .watchPeriod s (Follows
      (s.here.each [0, 1, 2, 3] fun m d => d.setMod m { d.mod m with watch := d.watched m }))) ∧
    (s.dev.rd P.DEV_STATE ≠ 3 → Idle .watchPeriod s))

/-- Pull-in ends after PULL_T in the hold state, with PULL_LOW set below 90 % of PULL_I, and a waiting partner begins (R332,
R333). MAX_ON releases a channel and tells its cycle; decay ends with the channel idle (R333, R334). A fault found while a
channel is driven latches it (R335). A diagnosis sets DIAG and latches what it finds (R336 to R338); an enabled idle channel is
diagnosed every DIAG_PERIOD (R337). A switch that stays on is stuck (R336). VSHUT below 10.5 V is reported to the owners, and
below 8 V every channel is released (R335, R340); in Doze it is only measured. -/
def Obligations.ShutterEvents : Prop :=
  (∀ (s : State) (n : Nat), n < 64 →
    (s.dev.drv n ≠ 2 → ∀ mA, Idle (.pullInEnd n mA) s) ∧ (s.dev.energised n = false → Idle (.maxOn n) s) ∧
    (s.dev.drv n ≠ 4 → Idle (.releaseDecayEnd n) s) ∧
    ((s.dev.sh n).diag = none → ∀ mv hs low, Idle (.offStateDiagnosis n mv hs low) s) ∧
    (s.dev.energised n = false → s.dev.drv n ≠ 4 → ∀ f, Idle (.onStateFault n f) s)) ∧
  (∀ (s : State) (n mA : Nat), n < 64 → s.dev.drv n = 2 →
    let d := s.here.reach ((s.dev.sh n).since + ms (s.dev.rd P.PULL_T [n]))
    let d := (d.wrs [(P.I_MEAS, [n], min 2047 mA), (P.DRV_STATE, [n], 3)]).refreshPair n
    let d := if 100 * mA < 90 * d.rd P.PULL_I [n] then d.set (.shd 8) (8, n) (d.shData n 0) else d
    let d := d.flagSettles n
    (d.drv (partner n) ≠ 1 → Completes (.pullInEnd n mA) s (Follows d)) ∧
    (d.drv (partner n) = 1 → Completes (.pullInEnd n mA) s (Follows (d.endWait (partner n) okay)))) ∧
  (∀ (s : State) (n : Nat), n < 64 → s.dev.energised n = true →
    let d := ((s.here.reach ((s.dev.sh n).since + ms (s.dev.rd P.MAX_ON [n]))).setShd 5 n).releaseCh n
    ((s.dev.cycleOn n = none ∨ s.dev.rd P.OWNER [n] ≠ 1) → Completes (.maxOn n) s (Follows d)) ∧
    (∀ k, s.dev.cycleOn n = some k → s.dev.rd P.OWNER [n] = 1 → Completes (.maxOn n) s (Follows (d.cycleFault k)))) ∧
  (∀ (s : State) (n : Nat), n < 64 → s.dev.drv n = 4 → Completes (.releaseDecayEnd n) s (Follows
    ((s.here.wrs [(P.I_MEAS, [n], 0), (P.DRV_STATE, [n], 0)]).refreshRest n))) ∧
  (∀ (s : State) (n : Nat) (f : ShFault), n < 64 → ((s.dev.energised n = true ∧ (f = .openLoad → s.dev.shut.low = false)) ∨
      (s.dev.drv n = 4 ∧ f ≠ .openLoad)) →
    Completes (.onStateFault n f) s (Follows (tellCycles (s.here.faultCh n f)))) ∧
  (∀ (s : State) (n mv hs : Nat) (low : Bool) (why : DiagWhy), (s.dev.sh n).diag = some why → s.dev.energised n = false →
    (∀ c, why ≠ .clear c) →
    let code := diagCode (decide (s.dev.drv (partner n) ∈ [2, 3, 4])) mv
    let d := (s.here.wr P.DIAG [n] code).setSh n { s.dev.sh n with
      diag := none, openOk := (s.dev.sh n).openOk || (decide (code ≤ 2) && low) }
    (diagFault code = none → Completes (.offStateDiagnosis n mv hs low) s (Follows (d.refreshRest n))) ∧
    (∀ f, diagFault code = some f → Completes (.offStateDiagnosis n mv hs low) s (Follows (tellCycles (d.faultCh n f))))) ∧
  (∀ (s : State) (n mv hs c : Nat) (low : Bool), (s.dev.sh n).diag = some (.clear c) → s.dev.energised n = false →
    let code := diagCode (decide (s.dev.drv (partner n) ∈ [2, 3, 4])) mv
    let d := (s.here.wr P.DIAG [n] code).setSh n { s.dev.sh n with
      diag := none, openOk := (s.dev.sh n).openOk || (decide (code ≤ 2) && low) }
    let d := match diagFault code with
      | some f => tellCycles (d.faultCh n f)
      | none => d.refreshRest n
    Completes (.offStateDiagnosis n mv hs low) s (Follows
      ((d.setSh n { d.sh n with clearOk := some (decide (code = 1)) }).finishClear c hs))) ∧
  (∀ (s : State) (n : Nat), n < 64 → s.dev.awake = true → s.dev.recalling = false →
    (s.dev.rd P.DIAG_PERIOD ≠ 0 → s.dev.is P.CH_EN [n] = true → (s.dev.sh (partner n)).diag = none →
      Completes (.diagPeriod n) s (Follows (s.here.diagnose n .plain))) ∧
    ((s.dev.rd P.DIAG_PERIOD = 0 ∨ s.dev.is P.CH_EN [n] = false) → Idle (.diagPeriod n) s)) ∧
  (∀ (s : State) (j : Nat), j < 32 → s.dev.awake = true →
    ((s.dev.is P.HS_ON [j] = true ∨ s.dev.shut.stuck.contains j = true) → Idle (.stuckOn j) s) ∧
    (s.dev.is P.HS_ON [j] = false → s.dev.shut.stuck.contains j = false →
      let d : Dev := { s.here with shut := { s.dev.shut with stuck := j :: s.dev.shut.stuck } }
      Completes (.stuckOn j) s (Follows (((d.put P.HS_LATCH [j] true).setShd 4 (2 * j)).refreshRest (2 * j))))) ∧
  (∀ (s : State) (mv : Nat), s.dev.awake = true →
    let d := s.here.wr P.VSHUT_MV [] (min 65535 mv)
    let d : Dev := { d with shut := { d.shut with low := decide (mv < 10500) } }
    let e := d.set (.shd 9) noUnit (d.shData 0 0)
    let told := if s.dev.shut.low then d else tellCycles (e, ((List.range 64).filter d.energised).filterMap e.cycleOn)
    (10500 ≤ mv → Completes (.vshutLow mv) s (Follows d)) ∧
    (8000 ≤ mv → mv < 10500 → Completes (.vshutLow mv) s (Follows told)) ∧
    (mv < 8000 → Completes (.vshutLow mv) s (Follows (told.releaseAll false)))) ∧
  (∀ (s : State) (mv : Nat), s.dev.alive = true → s.dev.awake = false →
    let d := s.here.wr P.VSHUT_MV [] (min 65535 mv)
    Completes (.vshutLow mv) s (Follows { d with shut := { d.shut with low := decide (mv < 10500) } }))

/-! ## The store, power, trust and health -/

/-- A commit begins at its idle instant (R354). At its end the batch and its closing record stand and NV_COMMITS counts, or,
where it failed, nothing of it is valid and STORE_FAIL is set (R353, R355, R357). Compaction keeps two erased sectors of a
sequence area and one of each bank of a twin area (R357); a refresh scan rewrites what it found weak (R361); recall brings what
the store holds into force (R362); a lost bulk store fails its writes (R348), and a bulk write commits or fails (R364). -/
def Obligations.StoreEvents : Prop :=
  (∀ s : State, s.dev.nv.commit = none → s.dev.nv.buf = [] → Idle .idleCommit s) ∧
  (∀ s : State, s.dev.alive = true → s.dev.recalling = false → s.dev.nv.commit = none → s.dev.nv.buf ≠ [] →
    Completes .idleCommit s (Follows ((s.here.reach
      (min (s.dev.nv.bufLast + ms (s.dev.rd P.IDLE_COMMIT)) (s.dev.nv.bufFirst + sec 1))).beginCommit))) ∧
  (∀ (s : State) (p : Prog), s.dev.nv.commit = none → Idle (.commitEnd p) s) ∧
  (∀ (s : State) (c : Commit) (p : Prog), s.dev.nv.commit = some c → s.dev.alive = true →
    let first := c.recs.headD (closingRecord c.batch 0)
    let d := if p = .retired then s.here.retireFor first else s.here
    let written := (d.nv.writeBatch c.batch c.recs).bind fun nv => nv.write (closingRecord c.batch c.recs.length) 0 false
    let next (e : Dev) : Dev :=
      if e.nv.waiting = [] then e
      else if e.nv.buf = [] then ({ e with nv := { e.nv with waiting := [] } } : Dev).endCommits e.nv.waiting e.nv.lostRec
      else e.beginCommit
    (∀ nv, p ≠ .failed → written = some nv → Completes (.commitEnd p) s (Follows
      (next (((({ d with nv := { nv with commit := none } } : Dev).bump P.NV_COMMITS).wr P.NV_STATE [] 1).endCommits c.tickets
        nv.lostRec)))) ∧
    ((p = .failed ∨ written = none) → Completes (.commitEnd p) s (Follows
      (let e := (({ d with nv := { d.nv with commit := none, lostRec := true } } : Dev).setNv 4 first.rid
         (d.nv.topSeq first.area first.rid + 1) first.area).wr P.NV_STATE [] 1
       next (e.endCommits c.tickets e.nv.lostRec))))) ∧
  (∀ (s : State) (a : Nat), s.dev.alive = true → s.dev.recalling = false →
    (a < 8 → twinArea a = false → Completes (.compaction a) s (Follows (s.here.compactBank a 0 2))) ∧
    (a < 8 → twinArea a = true → Completes (.compaction a) s (Follows ((s.here.compactBank a 0 1).compactBank a 1 1))) ∧
    (8 ≤ a → Completes (.compaction a) s fun t => Untouched [.clk, .tbl, .kcp, .evt, .boot, .ing, .pipe, .cal, .fus, .mem, .conv,
        .shut] s.dev t ∧
      t.nv = { s.dev.nv with bulk := t.nv.bulk } ∧ (∀ r ∈ t.nv.bulk, r ∈ s.dev.nv.bulk) ∧
      (∀ r ∈ s.dev.nv.bulk, r.area ≠ a → r ∈ t.nv.bulk))) ∧
  (∀ (s : State) (weak bulk : List Nat) (prog : Nat),
    (s.dev.scanDue = false → Idle (.refreshScan weak bulk prog) s) ∧
    (s.dev.awake = true → s.dev.recalling = false → s.dev.scanDue = true →
      let recs := weak.filterMap fun i => s.dev.nv.recs[i]?
      let bulks := if s.dev.bulkUp then bulk.filterMap fun i => s.dev.nv.bulk[i]? else []
      let d := (s.here.each recs fun r d => d.rewrite r).each bulks fun r d => d.rewriteBulk r
      (prog < 100 → Completes (.refreshScan weak bulk prog) s (Follows
        (({ d with nv := { d.nv with scan := some prog } } : Dev).wr P.SCAN_PROG [] prog))) ∧
      (100 ≤ prog →
        let e := ({ d with nv := { d.nv with scan := none } } : Dev).wrs [(P.SCAN_PROG, [], 0), (P.LAST_SCAN, [], d.rd P.COUNTER [64])]
        Completes (.refreshScan weak bulk prog) s (Follows (((e.storeParams [P.LAST_SCAN.base]).count 133).setNv 9 0 0 0))))) ∧
  (∀ (s : State) (part : Option (Nat × Nat × Bool)), (s.dev.rd P.NV_STATE ≠ 0 → Idle (.recallEnd part) s) ∧
    (s.dev.alive = true → s.dev.rd P.NV_STATE = 0 →
      let d := (((((s.here.recallAreas.recallKeys).recallBoot).recallParams).recallConv).recallCounters)
      let d := d.recallBaselines.wr P.LOG_HEAD [] (if (d.nv.rids 4).isEmpty then 0 else d.nv.topSeq 4 0xFF0000 + 1)
      let d := (d.discover part).finishBurns.refreshBanks.wr P.NV_STATE [] 1
      Completes (.recallEnd part) s (Follows (d.each (List.range 64) fun k d => d.recallLearned k).routeEarly))) ∧
  (∀ s : State, (s.dev.bulkUp = false → Idle .bulkLost s ∧ ∀ p, Idle (.bulkRecordWrite p) s) ∧
    (s.dev.alive = true → s.dev.bulkUp = true →
      let d := ((s.here.wr P.BULK_PRESENT [] 0).setNv 7 0 0 6).setNv 8 0 0 6
      Completes .bulkLost s (Follows
        (({ d with nv := { d.nv with bulkQ := [] } } : Dev).each d.nv.bulkQ fun j d => d.bulkFailed j 0x3305)))) ∧
  (∀ (s : State) (j : BulkJob) (l m : List BulkJob), s.dev.alive = true → s.dev.bulkUp = true → s.dev.nv.bulkQ = l ++ j :: m →
    (∀ x ∈ l, ∃ k, x.why = .learned k) → (∀ k, j.why ≠ .learned k) →
    let d : Dev := { s.here with nv := { s.dev.nv with bulkQ := l ++ m } }
    Completes (.bulkRecordWrite .good) s (Follows ((d.bulkCommit j.rid j.area j.data).bulkDone j)) ∧
    Completes (.bulkRecordWrite .retired) s (Follows (((d.bump P.BLOCKS_BAD).bulkCommit j.rid j.area j.data).bulkDone j)) ∧
    Completes (.bulkRecordWrite .failed) s (Follows (d.bulkFailed j 0)))

/-- A reset keeps the stores as they were cut off, the fuses, the pins that others drive and the supervisor's cell, names its
cause, and puts everything else at its reset value (R372, R447). A low of RESET_N of 1.0 µs or longer resets and one below 0.96
µs does not; a supervisor trip records its rail (R427). Reset ends with RESET_RELEASE (R373), and with a damaged fuse array in
recovery (R376). -/
def Obligations.ResetCauses : Prop :=
  let after (s : State) (cause : Nat) (c : Cut) (t : Dev) : Prop :=
    t.boot.inReset = true ∧ t.clk = 0 ∧ t.rd P.RESET_CAUSE = cause ∧ t.nv = s.dev.nv.cut c ∧ t.boot = Boot.start s.dev.boot.fuses true ∧
    t.pins.wake = s.dev.pins.wake ∧ t.pins.fsync = s.dev.pins.fsync ∧
    OnlyFields [(P.RESET_CAUSE, []), (P.SUP_RAIL, []), (P.SUP_OVER, []), (P.UL_MODABS, [0]), (P.UL_MODABS, [1]), (P.UL_MODABS, [2]),
      (P.UL_MODABS, [3]), (P.SCORE, []), (P.H_PEN, []), (P.ALARM_PIN, [])] State.reset.dev t ∧
    Untouched [.clk, .time, .tbl, .evt, .ing, .pipe, .cal, .fus, .mem, .conv, .shut] State.reset.dev t ∧ PinsAgree t
  (∀ (s : State) (c : Cut), Completes (.powerOn c) s fun t => after s 0 c t ∧ t.rd P.SUP_RAIL = 15 ∧ t.rd P.SUP_OVER = 0) ∧
  (∀ (s : State) (low : Nat) (c : Cut), s.dev.boot.inReset = false →
    (1000 ≤ low → Completes (.resetN low c) s fun t => after s 1 c t ∧ t.rd P.SUP_RAIL = s.dev.rd P.SUP_RAIL) ∧
    (low < 960 → Idle (.resetN low c) s) ∧ Completes (.thimbleFatal c) s (after s 3 c)) ∧
  (∀ (s : State) (low : Nat) (c : Cut), s.dev.boot.inReset = true → Idle (.resetN low c) s ∧ Idle (.thimbleFatal c) s) ∧
  (∀ (s : State) (rail : Nat) (ov : Bool) (c : Cut),
    (s.dev.watches rail = true → Completes (.supervisorTrip rail ov c) s fun t =>
      after s 2 c t ∧ t.rd P.SUP_RAIL = rail ∧ t.rd P.SUP_OVER = (if ov then 1 else 0)) ∧
    (s.dev.watches rail = false → Idle (.supervisorTrip rail ov c) s)) ∧
  (∀ s : State, (s.dev.boot.inReset = false → ∀ ok, Idle (.resetRelease ok) s) ∧
    (s.dev.boot.inReset = true →
      let d : Dev := { s.here with boot := { s.dev.boot with inReset := false } }
      Completes (.resetRelease true) s (Follows d) ∧ Completes (.resetRelease false) s (Follows ((d.set (.trust 8)).recover))))

/-- Start-up in its order (R373 to R376, Table 12-2): the memory test retires the ranks that failed and MEM_MODE becomes 1; the
selected image, else the other, is verified, else the device enters recovery; Workroom starts and DEV_STATE leaves 0; the stored
configuration comes into force. A HOLD frame within 20 ms of release enters recovery. A missed kick, a firewall violation and a
fatal exception restart Workroom with causes 1, 2 and 3, and only while it runs (R371, R387); the restart's end serves requests
again but where Workroom is held (R388, R389). A trial not confirmed within TRIAL_TIME reverts (R384), 600 s without FW_DATA
close a session (R383), and a challenge lasts 60 s (R391). -/
def Obligations.StartUp : Prop :=
  (∀ (s : State) (failed : List Nat), s.dev.alive = true → s.dev.recalling = false → s.dev.boot.memTested = false →
    let d := s.here.loadDelays
    let stored := leNat ((d.nv.stored 2 retirementRid).getD [])
    let bad := (List.range 16).filter fun n => failed.contains n && !bitOf stored n
    let retired := (List.range 16).filter fun n => failed.contains n || bitOf stored n
    let d := d.each bad fun n d => d.setRank n 4
    let d := if bad.isEmpty then d else d.immediate ⟨retirementRid, 2, leBytes 2 ((retired.map fun n => 2 ^ n).sum)⟩
    let e : Dev := { d.buildMap retired with boot := { d.boot with memTested := true } }
    Completes (.memoryTestEnd failed) s (Follows (e.wr P.MEM_MODE [] (if e.inRecovery then 3 else 1)))) ∧
  (∀ (s : State) (failed : List Nat), (s.dev.recalling = true ∨ s.dev.boot.memTested = true) → Idle (.memoryTestEnd failed) s) ∧
  (∀ s : State, s.dev.alive = true → s.dev.boot.memTested = true → s.dev.boot.verified = false → s.dev.rd P.DEV_STATE = 0 →
    let ok (d : Dev) : Dev := ({ d with boot := { d.boot with verified := true } } : Dev).wr P.BOOT_BANK [] d.boot.selected
    let a := s.dev.boot.selected
    Completes .imageVerified s
      (if s.here.bankVerifies a then Follows (ok s.here)
      else if s.here.bankVerifies (1 - a) then Follows (ok ((s.here.select (1 - a) none).set (.trust 1)))
      else Follows s.here.recover)) ∧
  (∀ s : State, s.dev.alive = true → s.dev.boot.verified = true → s.dev.boot.started = false → s.dev.rd P.DEV_STATE = 0 →
    let d : Dev := { s.here with boot := { s.dev.boot with running := true, started := true } }
    let e := d.wrs [(P.WR_VER, [], d.rd P.BANK_VER [d.rd P.BOOT_BANK]), (P.DEV_STATE, [], d.runState),
      (P.START_TIME, [], min 65535 (d.clk / 1000000))]
    Completes .started s (Follows
      ((e.each ((List.range 64).filter fun n => e.is P.CH_EN [n]) fun n d => d.diagnose n .plain).report 369))) ∧
  (∀ s : State, (s.dev.boot.verified = false ∨ s.dev.boot.started = true) → Idle .started s) ∧
  (∀ s : State, s.dev.serving = true → s.dev.boot.confRecalled = false →
    let d : Dev := { s.here with boot := { s.dev.boot with confRecalled := true } }
    let d := (d.bulkRead 0x0B0000).bulkRead 0x0B0001
    let imgs := if d.bulkUp then ([0x0B0000, 0x0B0001] : List Nat).filterMap fun r => (d.nv.bulkGood r).map (·.data) else []
    let held := (d.nv.stored 2 activationRid).bind fun a => imgs.find? fun i => digestOf i == a.drop 4
    let e := match held with
      | some img => (d.underSurface img).wrs [(P.CFG_GEN, [], leAt img 0 4), (P.CFG_DIG_LO, [], leAt (digestOf img) 0 4),
          (P.CFG_DIG_HI, [], leAt (digestOf img) 4 4)]
      | none => d
    let newer := imgs.find? fun i => decide (e.rd P.CFG_GEN < leAt i 0 4) && surfaceValid i
    ((newer = none ∨ e.plc.stage ≠ none) → Completes .configRecalled s (Follows e.sendViews)) ∧
    (∀ img, newer = some img → e.plc.stage = none →
      Completes .configRecalled s (Follows (e.setStage (some (stageOf img))).sendViews))) ∧
  (∀ s : State, s.dev.boot.confRecalled = true → Idle .configRecalled s) ∧
  (∀ s : State, (s.dev.alive = true → s.dev.clk ≤ ms 20 → s.dev.rd P.DEV_STATE = 0 → Completes .hold s fun t =>
      t.rd P.DEV_STATE = 7 ∧ t.boot.running = false ∧ Follows s.here.recover t) ∧
    ((ms 20 < s.dev.clk ∨ s.dev.rd P.DEV_STATE ≠ 0) → Idle .hold s)) ∧
  (∀ (s : State) (addr : Nat), (s.dev.alive = true → s.dev.boot.running = true →
      Completes .watchdog s (Follows (s.here.faultRestart 1)) ∧
      Completes (.fwViolation addr) s (Follows (((s.here.wr P.FW_VIOL_ADDR [] addr).set (.trust 3)).faultRestart 2)) ∧
      Completes .fatalException s (Follows (s.here.faultRestart 3))) ∧
    (s.dev.boot.running = false → Idle .watchdog s ∧ Idle (.fwViolation addr) s ∧ Idle .fatalException s)) ∧
  (∀ s : State, (s.dev.alive = true → s.dev.boot.running = false → s.dev.boot.started = true → s.dev.halted = false →
      s.dev.rd P.DEV_STATE ≠ 7 → Completes .wrRestart s (Follows
        (({ s.here with boot := { s.dev.boot with running := true } } : Dev).wr P.WR_VER []
          (s.dev.rd P.BANK_VER [s.dev.rd P.BOOT_BANK])))) ∧
    ((s.dev.boot.running = true ∨ s.dev.halted = true ∨ s.dev.rd P.DEV_STATE = 7) → Idle .wrRestart s)) ∧
  (∀ s : State, (s.dev.boot.trial = none → Idle .trialTime s) ∧
    (∀ x, s.dev.boot.trial = some x → Completes .trialTime s (Follows
      (((s.here.reach (x.since + sec (s.dev.rd P.TRIAL_TIME))).revert x).stopWorkroom 5)))) ∧
  (∀ s : State, (s.dev.boot.session = none → Idle .sessionTimeout s) ∧
    (∀ x, s.dev.boot.session = some x → x.committing = true → Idle .sessionTimeout s) ∧
    (∀ x, s.dev.boot.session = some x → x.committing = false → Completes .sessionTimeout s fun t =>
      t.boot = { s.dev.boot with session := none } ∧ t.clk = max s.dev.clk (x.at_ + sec 600) ∧
      Follows { s.here with clk := t.clk, boot := t.boot } t)) ∧
  (∀ s : State, (s.dev.boot.challenge = none → Idle .challengeExpiry s) ∧
    (∀ x, s.dev.boot.challenge = some x → Completes .challengeExpiry s fun t =>
      t.boot = { s.dev.boot with challenge := none } ∧ t.clk = max s.dev.clk (x.at_ + sec 60) ∧
      Follows { s.here with clk := t.clk, boot := t.boot } t))

/-- The service port gives the tool its oldest waiting frame, or TYPE 0, and its status (R390). A frame damaged, without space
or cut short counts in SVC_DROP; TYPE 1 carries a KCP packet, 3 is HOLD and 4 a debug request. A debug request is answered by
the unlock level its target needs, and by its operation (R391). In Doze and in reset the port is not live. -/
def Obligations.ServicePort : Prop :=
  (∀ (s : State) (b m : List Byte) (space : Bool), s.dev.awake = false →
    Idle (.svcSend b space) s ∧ Idle .svcReceive s ∧ Idle (.svcStatus space) s ∧ Idle (.debugRequest m) s) ∧
  (∀ s : State, s.dev.awake = true →
    (s.dev.boot.svcOut = [] → Completes .svcReceive s (Follows (s.here.emit (.serial (svcFrame 0 []))))) ∧
    (∀ t b rest, s.dev.boot.svcOut = (t, b) :: rest → Completes .svcReceive s (Follows
      (({ s.here with boot := { s.dev.boot with svcOut := rest } } : Dev).emit (.serial (svcFrame t b))))) ∧
    (∀ space : Bool, Completes (.svcStatus space) s (Follows (s.here.emit (.serial (leBytes 1
      ((if s.dev.boot.svcOut.isEmpty then 0 else 1) + (if space then 2 else 0) + (if s.dev.inRecovery then 4 else 0)))))))) ∧
  (∀ (s : State) (b : List Byte), s.dev.awake = true →
    let len := leAt b 1 2
    let pay := (b.drop 3).take len
    let whole := b.length = len + 5 ∧ leAt b (3 + len) 2 = crc16 (b.take (3 + len))
    Completes (.svcSend b false) s (Follows (s.here.wr P.SVC_DROP [] (s.dev.rd P.SVC_DROP + 1))) ∧
    (¬whole → Completes (.svcSend b true) s (Follows (s.here.wr P.SVC_DROP [] (s.dev.rd P.SVC_DROP + 1)))) ∧
    (whole → byteAt b 0 = 1 → Completes (.svcSend b true) s (Follows (s.here.takePacket serviceHost pay))) ∧
    (whole → byteAt b 0 = 3 → s.dev.clk ≤ ms 20 → s.dev.rd P.DEV_STATE = 0 →
      Completes (.svcSend b true) s (Follows s.here.recover)) ∧
    (whole → byteAt b 0 ∉ [1, 3, 4] → Idle (.svcSend b true) s)) ∧
  (∀ (s : State) (m : List Byte) (c : Instr), s.dev.awake = true → m.length < 65536 →
    c ∈ [Instr.debugRequest m, .svcSend (svcFrame 4 m) true] →
    let target := byteAt m 1
    let count := leAt m 2 2
    (debugLevel target = none → Completes c s (Follows (s.here.debugReply 2 []))) ∧
    (∀ l, debugLevel target = some l → s.dev.boot.access < l → Completes c s (Follows (s.here.debugReply 1 []))) ∧
    (∀ l, debugLevel target = some l → l ≤ s.dev.boot.access →
      (byteAt m 0 = 0 → m.length = 12 → 1 ≤ count → count ≤ 256 →
        Completes c s (Follows (s.here.debugRead target (leAt m 4 8) count))) ∧
      (byteAt m 0 = 1 → 1 ≤ count → count ≤ 256 → m.length = 12 + 4 * count →
        Completes c s (Follows (s.here.debugWrite target (leAt m 4 8) (m.drop 12)))) ∧
      (byteAt m 0 = 2 → target ≤ 4 → Completes c s (Follows
        (({ s.here with boot := { s.dev.boot with halted := target :: s.dev.boot.halted.filter (· ≠ target) } } : Dev).debugReply 0 []))) ∧
      (byteAt m 0 = 3 → target ≤ 4 → Completes c s (Follows
        (({ s.here with boot := { s.dev.boot with halted := s.dev.boot.halted.filter (· ≠ target) } } : Dev).debugReply 0 []))) ∧
      (4 < byteAt m 0 → Completes c s (Follows (s.here.debugReply 2 [])))))

/-- A record held back by its source's holdoff is ringed at its end (R399); a destination sends its next record (R403); the log
writer programs the next record behind the immediate ones (R407). The hours, the grades of supplies, ports and cores and the
baselines are taken while the device is awake (R409 to R413). -/
def Obligations.HealthEvents : Prop :=
  (∀ (s : State) (x last : Nat) (e : EvRec), s.dev.evt.hold.get? x = some ⟨last, some e⟩ →
    let d := s.here.reach (last + ms (s.dev.rd P.EVT_HOLDOFF))
    Completes (.evtHoldoff x) s (Follows
      (({ d with evt := { d.evt with hold := d.evt.hold.put x ⟨d.clk, none⟩ } } : Dev).deliver e))) ∧
  (∀ (s : State) (x : Nat), s.dev.evt.hold.get? x = none → Idle (.evtHoldoff x) s) ∧
  (∀ (s : State) (n : Nat), s.dev.evt.dq.get n [] = [] → Idle (.eventDelivery n) s) ∧
  (∀ (s : State) (n : Nat) (e : EvRec) (t : List EvRec), s.dev.evt.dq.get n [] = e :: t →
    (s.dev.destFree n = false → Idle (.eventDelivery n) s) ∧
    (s.dev.alive = true → s.dev.destFree n = true →
      let dq := if t.isEmpty then s.dev.evt.dq.del n else s.dev.evt.dq.put n t
      let d : Dev := { s.here with evt := { s.dev.evt with dq := dq, gap := s.dev.evt.gap.filter (· ≠ n) } }
      Completes (.eventDelivery n) s (Follows ((d.sendEvent n (d.eventPacket e (s.dev.evt.gap.contains n))).bump P.DSENT [n])))) ∧
  (∀ (s : State) (p : Prog), (s.dev.evt.logQ = [] ∨ s.dev.nv.imm ≠ []) → Idle (.logWrite p) s) ∧
  (∀ (s : State) (e : EvRec) (b : Bool) (t : List (EvRec × Bool)), s.dev.evt.logQ = (e, b) :: t → s.dev.alive = true →
    s.dev.recalling = false → s.dev.nv.imm = [] →
    let d := s.here.logTurn t
    Completes (.logWrite .good) s (Follows (d.programLog e)) ∧
    Completes (.logWrite .retired) s (Follows ((d.retireFor ⟨0xFF0000, 4, List.replicate 72 0⟩).programLog e)) ∧
    Completes (.logWrite .failed) s (Follows (d.setNv 4 0xFF0000 (d.rd P.LOG_HEAD) 4))) ∧
  (∀ s : State, s.dev.awake = false → ∀ c : Instr, c ∈ [Instr.supplyGrade, .baselineStore, .linkHealth, .coreHealth] → Idle c s) ∧
  (∀ s : State, s.dev.awake = true →
    Completes .supplyGrade s (Follows (s.here.each (s.dev.attached.map supplyKey) fun n d => d.gradeSupply n)) ∧
    Completes .linkHealth s (Follows (s.here.each (List.range 256) fun p d => d.gradePort p)) ∧
    Completes .coreHealth s (Follows (s.here.each (List.range 64) fun k d => d.gradeCore k)) ∧
    (s.dev.recalling = false → s.dev.attached = [] → Idle .baselineStore s) ∧
    (s.dev.recalling = false → s.dev.attached ≠ [] →
      let ns := s.dev.attached.map supplyKey
      let d := s.here.each ns fun n d => d.tblWrite 0x4103 (2 * n) (leBytes 2 (match (d.supplyAt n).base with
        | some b => min 65535 (F32.toInt (F32.mul b (F32.ofNat 10000))).toNat
        | none => 0))
      Completes .baselineStore s (Follows (d.buffer [tableRecord 0x4103 (d.tblRead 0x4103 0 (2 * (ns.foldl max 0 + 1)))])))) ∧
  (∀ (s : State) (tj : Nat), s.dev.alive = true → s.dev.recalling = false →
    let bin := min 15 ((tj - 23315) / 1000)
    let d := (s.here.tblPut 0x4110 (4 * bin) 4 (s.dev.tblNat 0x4110 (4 * bin) 4 + 1)).raiseTo P.TJ_MAX [] tj
    Completes (.tjHistogram tj) s (Follows ((d.buffer [tableRecord 0x4110 (d.tblRead 0x4110 0 64)]).storeParams [P.TJ_MAX.base]))) ∧
  (∀ s : State, s.dev.alive = true →
    let d := s.here.count 64
    Completes .powerOnHours s (Follows (d.lifeWarn 0 (decide (d.rd P.LIFE_HOURS ≤ d.rd P.COUNTER [64])))))

/-! ## Completion, form by form -/

/-- Conditions on the state and the operands alone under which a command answers a next state with its own effect: the reports
and the route of events (R402, R414, R415), the placement messages (R234 to R237), the messages of the seam (R148 to R161), the
frames of an uplink (R51, R52, R71), the packets of a sensor link (R74 to R78), time on an uplink (R258), and the events of
health and of the log (R399 to R413). -/
def Obligations.NamedFormsComplete : Prop :=
  (∀ (s : State) (r : Req), r.params.length = 6 → 1 ≤ leAt r.params 4 2 →
    (Serves ⟨0x0C00, .open_, false⟩ r s.dev → leAt r.params 4 2 ≤ 21 → ∃ t b, exec (.eventRead r) s = .next t ∧
      t.pending = s.pending ∧ Replied 0x0C00 r (okWith b) (s.dev.taken r) t.dev) ∧
    (Serves ⟨0x0C02, .open_, false⟩ r s.dev → leAt r.params 4 2 ≤ 19 → ∃ t b, exec (.logRead r) s = .next t ∧
      t.pending = s.pending ∧ Replied 0x0C02 r (okWith b) (s.dev.taken r) t.dev)) ∧
  (∀ (s : State) (r : Req), Serves ⟨0x0C03, .open_, false⟩ r s.dev → r.params = [0, 0] → ∃ t, exec (.healthStatus r) s = .next t ∧
    t.pending = s.pending ∧ Replied 0x0C03 r (okWith (s.dev.taken r).healthSummary) (s.dev.taken r) t.dev) ∧
  (∀ (s : State) (r : Req) (x : Nat), Serves ⟨0x0C01, .operator, false⟩ r s.dev → r.params.length = 4 → leAt r.params 0 2 = x →
    leAt r.params 2 2 = 0x81 → x < 512 → sourceKnown x = true → s.dev.storeBusy = none →
    ∃ t, exec (.eventRoute r) s = .next t ∧ t.pending = s.pending ∧ Replied 0x0C01 r okay
      ((((s.dev.taken r).wr P.ROUTE [x] 1).storeParams [0x410200 + x]).wrote 0x41) t.dev) ∧
  (∀ (s : State) (r : Req) (p : Nat), Serves ⟨0x4400, .device, false⟩ r s.dev → r.params.length = 32 → patchOf r = p →
    (s.dev.patch? p).isSome = true →
    let d := s.dev.taken r
    (byteAt r.params 8 = 1 → s.dev.isDirectory p = true → ∃ t, exec (.view r) s = .next t ∧ t.pending = s.pending ∧
      Replied 0x4400 r ((d.takeView p (candOf r)).placeAnswer p 1) (d.takeView p (candOf r)) t.dev) ∧
    (byteAt r.params 8 = 2 → s.dev.isDirectory p = true → ∃ t, exec (.withdraw r) s = .next t ∧ t.pending = s.pending ∧
      Replied 0x4400 r okay (d.takeWithdraw p r.source) t.dev) ∧
    (byteAt r.params 8 = 3 → (s.dev.place p).epoch < leAt r.params 16 4 → ∃ t, exec (.commit r) s = .next t ∧
      t.pending = s.pending ∧ Replied 0x4400 r okay (d.adopt p (leAt r.params 10 2 % 1024) (leAt r.params 12 2 % 1024)
        (leAt r.params 16 4) (leAt r.params 20 8) (byteAt r.params 9)) t.dev) ∧
    (byteAt r.params 8 = 4 → s.dev.isDirectory p = true → ∃ t, exec (.query r) s = .next t ∧ t.pending = s.pending ∧
      Replied 0x4400 r (d.placeAnswer p 4) d t.dev)) ∧
  (∀ (s : State) (r : Req) (p : Nat), Serves ⟨0x4401, .device, false⟩ r s.dev → r.params.length = 32 → patchOf r = p →
    (s.dev.patch? p).isSome = true → leAt r.params 16 4 = (s.dev.place p).epoch →
    let d := s.dev.taken r
    let x : Dev := { d with plc := { d.plc with ready := d.plc.ready.filter (· ≠ p) } }
    (byteAt r.params 8 = 1 → s.dev.handsOver p = true → ∃ t, exec (.ready r) s = .next t ∧ t.pending = s.pending ∧
      Replied 0x4401 r okay (({ d with plc := { d.plc with ready := p :: d.plc.ready.filter (· ≠ p) } } : Dev).tryState p) t.dev) ∧
    (∀ h, byteAt r.params 8 = 2 → s.dev.owns p = true → s.dev.plc.handovers.get? p = some h →
      let h' : Handover := { h with size := leAt r.params 28 2, last := leAt r.params 20 8 }
      ∃ t, exec (.state r) s = .next t ∧ t.pending = s.pending ∧
        Replied 0x4401 r okay { d with plc := { d.plc with handovers := d.plc.handovers.put p h' } } t.dev) ∧
    (byteAt r.params 8 = 3 → s.dev.handsOver p = true → s.dev.owns p = false → ∃ t, exec (.done r) s = .next t ∧
      t.pending = s.pending ∧ Replied 0x4401 r okay
        { x.freeSlot p with cal := { x.cal with given := x.cal.given.filter fun g => decide (g.patch ≠ p) } } t.dev)) ∧
  (∀ (s : State) (r : Req) (e : List Byte), Serves ⟨0x4402, .device, false⟩ r s.dev → r.params.drop 4 = e →
    byteAt r.params 1 = 1 →
    let d := s.dev.taken r
    let p := leAt e 0 4 % 2 ^ 22
    (∀ v, byteAt r.params 0 = 1 → e.length = 12 →
      ((s.dev.slot? p).bind fun x => x.views.find? fun v => decide (v.dev = r.source ∧ v.core = leAt e 8 2 % 64)) = some v →
      let x := d.decideHere p (leAt e 4 4) (bitOf (leAt e 0 4) 22) r.source (leAt e 8 2 % 64) v.period (ms (leAt e 10 2))
      ∃ t, exec (.reserve r) s = .next t ∧ t.pending = s.pending ∧ Replied 0x4402 r okay (x.1.seamSend 2 r.source
        [leBytes 4 p ++ leBytes 4 (x.1.place p).epoch ++ leBytes 1 x.2 ++ [0] ++ leBytes 2 (x.1.place p).owner]) t.dev) ∧
    (∀ k c, byteAt r.params 0 = 2 → e.length = 12 → s.dev.awaits p = some k → (s.dev.calCore k).cycle = some c → byteAt e 8 ≠ 3 →
      ∃ t, exec (.grant r) s = .next t ∧ t.pending = s.pending ∧ Replied 0x4402 r okay
        ((d.setCycle k (some (c.note p r.source (byteAt e 8) d.clk))).examine k) t.dev) ∧
    (byteAt r.params 0 = 3 → e.length = 8 → ∃ t, exec (.release r) s = .next t ∧ t.pending = s.pending ∧
      Replied 0x4402 r okay (d.takeBack p r.source (leAt e 4 2 % 64)) t.dev) ∧
    (byteAt r.params 0 = 4 → e.length = 24 →
      let q := pairKey (64 * r.source + leAt e 0 2 % 64) (64 * d.addr + leAt e 0 2 / 256 % 64)
      let add (x : Pair) : Pair := ⟨x.n + leAt e 4 4, x.sum + signedOf 64 (leAt e 8 8), x.sq + leAt e 16 8⟩
      ∃ t, exec (.sums r) s = .next t ∧ t.pending = s.pending ∧
        Replied 0x4402 r okay { d with cal := { d.cal with brought := d.cal.brought.upd q ⟨0, 0, 0⟩ add } } t.dev) ∧
    (byteAt r.params 0 = 5 → e.length = 12 →
      let n : Node := ⟨leAt e 2 2, signedOf 32 (leAt e 4 4), leAt e 8 2, bitOf (leAt e 0 2) 6⟩
      let key := 64 * r.source + leAt e 0 2 % 64
      ∃ t, exec (.nodes r) s = .next t ∧ t.pending = s.pending ∧
        Replied 0x4402 r okay { d with cal := { d.cal with nodes := d.cal.nodes.put key n } } t.dev)) ∧
  (∀ (s : State) (u : Nat), s.dev.uplinkOn u = true →
    (∀ vlan mac ip target, s.dev.vlanOk u vlan = true → s.dev.ownIp u false target = true → s.dev.kcp.paused.get u 0 = 0 →
      ∃ t, exec (.arpRequest u vlan mac ip target) s = .next t ∧ t.pending = s.pending ∧ Follows (s.here.emit (.lowReply u 0 ip
        ([0, 1, 8, 0, 6, 4, 0, 2] ++ beBytes 6 (s.dev.mac u) ++ beBytes 4 target ++ beBytes 6 mac ++ beBytes 4 ip))) t.dev) ∧
    (∀ vlan v6 src dst body, s.dev.vlanOk u vlan = true → s.dev.ownIp u v6 dst = true → s.dev.kcp.paused.get u 0 = 0 →
      ∃ t, exec (.icmpEcho u vlan v6 src dst body) s = .next t ∧ t.pending = s.pending ∧
        Follows (s.here.emit (.lowReply u 1 src body)) t.dev) ∧
    (∀ vlan src target, s.dev.vlanOk u vlan = true → s.dev.ownIp u true target = true → s.dev.kcp.paused.get u 0 = 0 →
      ∃ t, exec (.neighbourSolicitation u vlan src target) s = .next t ∧ t.pending = s.pending ∧
        Follows (s.here.emit (.lowReply u 2 src (beBytes 16 target ++ [2, 1] ++ beBytes 6 (s.dev.mac u)))) t.dev) ∧
    (∀ n, n ≠ 0 → n < 65536 →
      let d := s.here.wr P.UL_PAUSE [u] (s.dev.rd P.UL_PAUSE [u] + 1)
      let until_ := s.dev.clk + (512 * n + 9) / 10
      ∃ t, exec (.pauseFrame u n) s = .next t ∧ t.pending = s.pending ∧
        Follows { d with kcp := { d.kcp with paused := d.kcp.paused.put u until_ } } t.dev) ∧
    (∀ t0, s.dev.kcp.paused.get? u = some t0 → ∃ t, exec (.pauseEnd u) s = .next t ∧ t.pending = s.pending ∧
      t.dev.clk = max s.dev.clk t0 ∧ s.dev.kcp.replyQ.get u [] <+: t.dev.out) ∧
    ∃ t, exec (.unservedFrame u false) s = .next t ∧ t.pending = s.pending ∧
      Follows (s.here.wr P.UL_RX_DROP [u] (s.dev.rd P.UL_RX_DROP [u] + 1)) t.dev) ∧
  (∀ (s : State) (u seq : Nat), s.dev.ptpOn u = true →
    let d := s.here
    let dom := s.dev.rd P.PTP_DOMAIN
    let x := s.dev.ptp u
    (∀ v6 addr, ∃ t, exec (.sync u v6 addr dom seq true) s = .next t ∧ t.pending = s.pending ∧
      Follows (d.setPtp u { x with sync := some (seq, s.dev.now), origin := none, addr := (v6, addr) }) t.dev) ∧
    (∀ at_ origin, x.sync = some (seq, at_) → ∃ t, exec (.followUp u dom seq origin) s = .next t ∧ t.pending = s.pending ∧
      Follows (d.setPtp u { x with origin := some origin }) t.dev) ∧
    (∀ q t1 t2 t3 t4, x.sync = some (q, t2) → x.origin = some t1 → x.delayReq = some (seq, t3) →
      let e := (d.setPtp u { x with delayReq := none }).refreshTime
      e.rd P.TIME_SRC ≠ 1 → ∃ t, exec (.delayResp u dom seq t4) s = .next t ∧ t.pending = s.pending ∧ Follows e t.dev) ∧
    (∀ o, x.gm = none → ∃ t, exec (.announce u dom o) s = .next t ∧ t.pending = s.pending ∧
      Follows (d.setPtp u { x with gm := some o }).refreshTime t.dev) ∧
    (∀ y, x.sync = some y → ∃ t, exec (.delayReq u) s = .next t ∧ t.pending = s.pending ∧ Follows
      ((d.setPtp u { x with delayReq := some (x.seq, s.dev.now), seq := (x.seq + 1) % 65536 }).emit
        (.delayReq u x.addr.1 x.addr.2 x.seq)) t.dev)) ∧
  (∀ (s : State) (l vc x : Nat) (f : Frame), s.dev.linkOn l = true → s.dev.streamAt l vc = some x →
    (s.dev.strm x).openFrame = some f →
    let d := s.here.setStrm x { s.dev.strm x with heard := s.dev.clk }
    (∀ n, ∃ t, exec (.frameStart l vc n .good) s = .next t ∧ t.pending = s.pending ∧ Follows (d.startFrame l x n .good) t.dev) ∧
    (∀ n, isComp x = true → ∃ t, exec (.frameEnd l vc n .good) s = .next t ∧ t.pending = s.pending ∧
      Follows (d.endFrame x false) t.dev) ∧
    (∀ n, s.dev.is P.LINE_NUM [coreOf x] = true → ∃ t, exec (.lineStart l vc n .good) s = .next t ∧ t.pending = s.pending ∧
      Follows (d.setStrm x ((d.strm x).putLast { f with ls := some n })) t.dev) ∧
    (∃ t, exec (.lineEnd l vc .good) s = .next t ∧ t.pending = s.pending ∧ Follows d t.dev) ∧
    ∃ t, exec (.genericShortPacket l vc .good) s = .next t ∧ t.pending = s.pending ∧ Follows (d.discard l) t.dev) ∧
  (∀ (s : State) (x last : Nat) (e : EvRec), s.dev.evt.hold.get? x = some ⟨last, some e⟩ →
    let d := s.here.reach (last + ms (s.dev.rd P.EVT_HOLDOFF))
    ∃ t, exec (.evtHoldoff x) s = .next t ∧ t.pending = s.pending ∧
      Follows (({ d with evt := { d.evt with hold := d.evt.hold.put x ⟨d.clk, none⟩ } } : Dev).deliver e) t.dev) ∧
  (∀ (s : State) (n : Nat) (e : EvRec), s.dev.evt.dq.get n [] = [e] → s.dev.alive = true → s.dev.destFree n = true →
    s.dev.evt.gap.contains n = false →
    let d : Dev := { s.here with evt := { s.dev.evt with dq := s.dev.evt.dq.del n, gap := s.dev.evt.gap.filter (· ≠ n) } }
    ∃ t, exec (.eventDelivery n) s = .next t ∧ t.pending = s.pending ∧
      Follows ((d.sendEvent n (d.eventPacket e false)).bump P.DSENT [n]) t.dev) ∧
  (∀ (s : State) (e : EvRec) (b : Bool) (q : List (EvRec × Bool)), s.dev.evt.logQ = (e, b) :: q → s.dev.alive = true →
    s.dev.recalling = false → s.dev.nv.imm = [] → ∃ t, exec (.logWrite .good) s = .next t ∧ t.pending = s.pending ∧
      Follows ((s.here.logTurn q).programLog e) t.dev) ∧
  (∀ s : State, s.dev.awake = true →
    (∃ t, exec .supplyGrade s = .next t ∧ t.pending = s.pending ∧
      Follows (s.here.each (s.dev.attached.map supplyKey) fun n d => d.gradeSupply n) t.dev) ∧
    (∃ t, exec .linkHealth s = .next t ∧ t.pending = s.pending ∧
      Follows (s.here.each (List.range 256) fun p d => d.gradePort p) t.dev) ∧
    (∃ t, exec .coreHealth s = .next t ∧ t.pending = s.pending ∧
      Follows (s.here.each (List.range 64) fun k d => d.gradeCore k) t.dev) ∧
    (∀ x, s.dev.recalling = false → s.dev.attached = [x] → (s.dev.supplyAt (supplyKey x)).base = none →
      let d := s.here.tblWrite 0x4103 (2 * supplyKey x) [0, 0]
      ∃ t, exec .baselineStore s = .next t ∧ t.pending = s.pending ∧
        Follows (d.buffer [tableRecord 0x4103 (d.tblRead 0x4103 0 (2 * (supplyKey x + 1)))]) t.dev)) ∧
  (∀ (s : State) (tj : Nat), s.dev.alive = true → s.dev.recalling = false →
    let bin := min 15 ((tj - 23315) / 1000)
    let d := (s.here.tblPut 0x4110 (4 * bin) 4 (s.dev.tblNat 0x4110 (4 * bin) 4 + 1)).raiseTo P.TJ_MAX [] tj
    ∃ t, exec (.tjHistogram tj) s = .next t ∧ t.pending = s.pending ∧
      Follows ((d.buffer [tableRecord 0x4110 (d.tblRead 0x4110 0 64)]).storeParams [P.TJ_MAX.base]) t.dev) ∧
  (∀ s : State, s.dev.alive = true → ∃ t, exec .powerOnHours s = .next t ∧ t.pending = s.pending ∧
    Follows ((s.here.count 64).lifeWarn 0 (decide ((s.here.count 64).rd P.LIFE_HOURS ≤ (s.here.count 64).rd P.COUNTER [64])))
      t.dev)
end

