-- ==== Sys2Proof/Laws/Maps.lean ====
section
/-!
SUPPORT. Sys2Proof/Laws/Maps.lean: what the operations of a sorted map do: a key written reads what was written, a key removed
reads nothing, and every other key reads as before.
-/
namespace Sys2Proof

variable {α : Type}

/-- A key below every key of a list is not found in it. -/
theorem findKey_above {k j : Nat} {l : List (Nat × α)} (h : above k l) (hj : j ≤ k) : findKey j l = none := by
  cases l with
  | nil => rfl
  | cons q s =>
    obtain ⟨c, e⟩ := q
    have hc : k < c := h (c, e) (List.mem_cons_self ..)
    simp [findKey, show ¬ j = c by omega, show j < c by omega]

theorem findKey_insertKey_same (k : Nat) (v : α) (l : List (Nat × α)) : findKey k (insertKey k v l) = some v := by
  induction l with
  | nil => simp [insertKey, findKey]
  | cons p t ih =>
    obtain ⟨a, b⟩ := p
    simp only [insertKey]
    split
    · simp [findKey]
    · split
      · simp [findKey]
      · rename_i h1 h2
        simp [findKey, h1, h2, ih]

theorem findKey_insertKey_other {k j : Nat} (v : α) (l : List (Nat × α)) (h : j ≠ k) :
    findKey j (insertKey k v l) = findKey j l := by
  induction l with
  | nil => simp [insertKey, findKey, h]
  | cons p t ih =>
    obtain ⟨a, b⟩ := p
    simp only [insertKey]
    split
    · rename_i hk
      simp only [findKey, if_neg h]
      split
      · simp [show ¬ j = a by omega, show j < a by omega]
      · rfl
    · split
      · rename_i hk
        subst hk
        simp [findKey, h]
      · simp only [findKey, ih]

theorem findKey_eraseKey_same (k : Nat) (l : List (Nat × α)) (hl : rising l = true) : findKey k (eraseKey k l) = none := by
  induction l with
  | nil => rfl
  | cons p t ih =>
    obtain ⟨a, b⟩ := p
    have ht := (rising_cons a b t).1 hl
    simp only [eraseKey]
    split
    · rename_i h1
      simp [findKey, h1, show ¬ k = a by omega]
    · split
      · rename_i h1 hk
        subst hk
        exact findKey_above ht.1 (Nat.le_refl k)
      · rename_i h1 h2
        simp [findKey, h1, h2, ih ht.2]

theorem findKey_eraseKey_other {k j : Nat} (l : List (Nat × α)) (hl : rising l = true) (h : j ≠ k) :
    findKey j (eraseKey k l) = findKey j l := by
  induction l with
  | nil => rfl
  | cons p t ih =>
    obtain ⟨a, b⟩ := p
    have ht := (rising_cons a b t).1 hl
    simp only [eraseKey]
    split
    · rfl
    · split
      · rename_i h1 hk
        subst hk
        simp only [findKey, if_neg h]
        split
        · rename_i hj
          exact findKey_above ht.1 (by omega)
        · rfl
      · simp only [findKey, ih ht.2]

namespace KMap

@[simp] theorem get?_put_same (m : KMap α) (k : Nat) (v : α) : (m.put k v).get? k = some v :=
  findKey_insertKey_same k v m.cells

theorem get?_put_other (m : KMap α) {k j : Nat} (v : α) (h : j ≠ k) : (m.put k v).get? j = m.get? j :=
  findKey_insertKey_other v m.cells h

@[simp] theorem get?_del_same (m : KMap α) (k : Nat) : (m.del k).get? k = none := findKey_eraseKey_same k m.cells m.ok

theorem get?_del_other (m : KMap α) {k j : Nat} (h : j ≠ k) : (m.del k).get? j = m.get? j :=
  findKey_eraseKey_other m.cells m.ok h

@[simp] theorem get_put_same (m : KMap α) (k : Nat) (v d : α) : (m.put k v).get k d = v := by simp [get]

theorem get_put_other (m : KMap α) {k j : Nat} (v d : α) (h : j ≠ k) : (m.put k v).get j d = m.get j d := by
  simp [get, get?_put_other m v h]

@[simp] theorem get_del_same (m : KMap α) (k : Nat) (d : α) : (m.del k).get k d = d := by simp [get]

theorem get_del_other (m : KMap α) {k j : Nat} (d : α) (h : j ≠ k) : (m.del k).get j d = m.get j d := by
  simp [get, get?_del_other m h]

@[simp] theorem get?_empty (k : Nat) : (KMap.empty : KMap α).get? k = none := rfl

@[simp] theorem get_empty (k : Nat) (d : α) : (KMap.empty : KMap α).get k d = d := rfl

end KMap

end Sys2Proof
end

