-- ==== Sys2Proof/Laws/State.lean ====
section
/-!
SUPPORT. Sys2Proof/Laws/State.lean: what the operations of Machine/Ops.lean do to each part of a device: a field written reads
back cut to its width, every other field and every other part is as it was.
-/
namespace Sys2Proof.Machine

/-! ## Parameter fields -/

@[simp] theorem Dev.rd_wr_same (d : Dev) (r : Row) (ix : List Nat) (v : Nat) : (d.wr r ix v).rd r ix = v % 2 ^ r.width := by
  unfold Dev.rd Dev.wr
  dsimp only
  split
  · rename_i h; simp [h]
  · simp

theorem Dev.get?_wr_other (d : Dev) (r : Row) (ix : List Nat) (v k : Nat) (h : k ≠ r.key ix) :
    (d.wr r ix v).prm.get? k = d.prm.get? k := by
  unfold Dev.wr
  dsimp only
  split
  · exact KMap.get?_del_other _ h
  · exact KMap.get?_put_other _ _ h

theorem Dev.rd_congr {a b : Dev} {r : Row} {ix : List Nat} (h : a.prm.get? (r.key ix) = b.prm.get? (r.key ix)) :
    a.rd r ix = b.rd r ix := by
  unfold Dev.rd KMap.get
  rw [h]

theorem Dev.rd_wr_other (d : Dev) (r q : Row) (ix jx : List Nat) (v : Nat) (h : q.key jx ≠ r.key ix) :
    (d.wr r ix v).rd q jx = d.rd q jx := Dev.rd_congr (Dev.get?_wr_other d r ix v _ h)

theorem Dev.is_congr {a b : Dev} {r : Row} {ix : List Nat} (h : a.prm.get? (r.key ix) = b.prm.get? (r.key ix)) :
    a.is r ix = b.is r ix := by
  unfold Dev.is
  rw [Dev.rd_congr h]

theorem Dev.is_put_same (d : Dev) (r : Row) (ix : List Nat) (b : Bool) (h : 0 < r.width) : (d.put r ix b).is r ix = b := by
  have h2 : 1 < 2 ^ r.width := Nat.one_lt_two_pow (by omega)
  unfold Dev.is Dev.put
  cases b <;> simp [Nat.mod_eq_of_lt h2]

/-! ## The parts an operation leaves alone -/

@[simp] theorem Dev.clk_wr (d : Dev) (r : Row) (ix : List Nat) (v : Nat) : (d.wr r ix v).clk = d.clk := rfl
@[simp] theorem Dev.ofs_wr (d : Dev) (r : Row) (ix : List Nat) (v : Nat) : (d.wr r ix v).ofs = d.ofs := rfl
@[simp] theorem Dev.slew_wr (d : Dev) (r : Row) (ix : List Nat) (v : Nat) : (d.wr r ix v).slew = d.slew := rfl
@[simp] theorem Dev.slewTick_wr (d : Dev) (r : Row) (ix : List Nat) (v : Nat) : (d.wr r ix v).slewTick = d.slewTick := rfl
@[simp] theorem Dev.tbl_wr (d : Dev) (r : Row) (ix : List Nat) (v : Nat) : (d.wr r ix v).tbl = d.tbl := rfl
@[simp] theorem Dev.kcp_wr (d : Dev) (r : Row) (ix : List Nat) (v : Nat) : (d.wr r ix v).kcp = d.kcp := rfl
@[simp] theorem Dev.evt_wr (d : Dev) (r : Row) (ix : List Nat) (v : Nat) : (d.wr r ix v).evt = d.evt := rfl
@[simp] theorem Dev.nv_wr (d : Dev) (r : Row) (ix : List Nat) (v : Nat) : (d.wr r ix v).nv = d.nv := rfl
@[simp] theorem Dev.boot_wr (d : Dev) (r : Row) (ix : List Nat) (v : Nat) : (d.wr r ix v).boot = d.boot := rfl
@[simp] theorem Dev.plc_wr (d : Dev) (r : Row) (ix : List Nat) (v : Nat) : (d.wr r ix v).plc = d.plc := rfl
@[simp] theorem Dev.ing_wr (d : Dev) (r : Row) (ix : List Nat) (v : Nat) : (d.wr r ix v).ing = d.ing := rfl
@[simp] theorem Dev.pipe_wr (d : Dev) (r : Row) (ix : List Nat) (v : Nat) : (d.wr r ix v).pipe = d.pipe := rfl
@[simp] theorem Dev.cal_wr (d : Dev) (r : Row) (ix : List Nat) (v : Nat) : (d.wr r ix v).cal = d.cal := rfl
@[simp] theorem Dev.fus_wr (d : Dev) (r : Row) (ix : List Nat) (v : Nat) : (d.wr r ix v).fus = d.fus := rfl
@[simp] theorem Dev.mem_wr (d : Dev) (r : Row) (ix : List Nat) (v : Nat) : (d.wr r ix v).mem = d.mem := rfl
@[simp] theorem Dev.conv_wr (d : Dev) (r : Row) (ix : List Nat) (v : Nat) : (d.wr r ix v).conv = d.conv := rfl
@[simp] theorem Dev.shut_wr (d : Dev) (r : Row) (ix : List Nat) (v : Nat) : (d.wr r ix v).shut = d.shut := rfl
@[simp] theorem Dev.pins_wr (d : Dev) (r : Row) (ix : List Nat) (v : Nat) : (d.wr r ix v).pins = d.pins := rfl
@[simp] theorem Dev.out_wr (d : Dev) (r : Row) (ix : List Nat) (v : Nat) : (d.wr r ix v).out = d.out := rfl
@[simp] theorem Dev.begun_wr (d : Dev) (r : Row) (ix : List Nat) (v : Nat) : (d.wr r ix v).begun = d.begun := rfl
@[simp] theorem Dev.free_wr (d : Dev) (r : Row) (ix : List Nat) (v : Nat) : (d.wr r ix v).free = d.free := rfl

@[simp] theorem Dev.clk_put (d : Dev) (r : Row) (ix : List Nat) (b : Bool) : (d.put r ix b).clk = d.clk := rfl
@[simp] theorem Dev.ofs_put (d : Dev) (r : Row) (ix : List Nat) (b : Bool) : (d.put r ix b).ofs = d.ofs := rfl
@[simp] theorem Dev.slew_put (d : Dev) (r : Row) (ix : List Nat) (b : Bool) : (d.put r ix b).slew = d.slew := rfl
@[simp] theorem Dev.slewTick_put (d : Dev) (r : Row) (ix : List Nat) (b : Bool) : (d.put r ix b).slewTick = d.slewTick := rfl
@[simp] theorem Dev.tbl_put (d : Dev) (r : Row) (ix : List Nat) (b : Bool) : (d.put r ix b).tbl = d.tbl := rfl
@[simp] theorem Dev.kcp_put (d : Dev) (r : Row) (ix : List Nat) (b : Bool) : (d.put r ix b).kcp = d.kcp := rfl
@[simp] theorem Dev.evt_put (d : Dev) (r : Row) (ix : List Nat) (b : Bool) : (d.put r ix b).evt = d.evt := rfl
@[simp] theorem Dev.nv_put (d : Dev) (r : Row) (ix : List Nat) (b : Bool) : (d.put r ix b).nv = d.nv := rfl
@[simp] theorem Dev.boot_put (d : Dev) (r : Row) (ix : List Nat) (b : Bool) : (d.put r ix b).boot = d.boot := rfl
@[simp] theorem Dev.plc_put (d : Dev) (r : Row) (ix : List Nat) (b : Bool) : (d.put r ix b).plc = d.plc := rfl
@[simp] theorem Dev.ing_put (d : Dev) (r : Row) (ix : List Nat) (b : Bool) : (d.put r ix b).ing = d.ing := rfl
@[simp] theorem Dev.pipe_put (d : Dev) (r : Row) (ix : List Nat) (b : Bool) : (d.put r ix b).pipe = d.pipe := rfl
@[simp] theorem Dev.cal_put (d : Dev) (r : Row) (ix : List Nat) (b : Bool) : (d.put r ix b).cal = d.cal := rfl
@[simp] theorem Dev.fus_put (d : Dev) (r : Row) (ix : List Nat) (b : Bool) : (d.put r ix b).fus = d.fus := rfl
@[simp] theorem Dev.mem_put (d : Dev) (r : Row) (ix : List Nat) (b : Bool) : (d.put r ix b).mem = d.mem := rfl
@[simp] theorem Dev.conv_put (d : Dev) (r : Row) (ix : List Nat) (b : Bool) : (d.put r ix b).conv = d.conv := rfl
@[simp] theorem Dev.shut_put (d : Dev) (r : Row) (ix : List Nat) (b : Bool) : (d.put r ix b).shut = d.shut := rfl
@[simp] theorem Dev.pins_put (d : Dev) (r : Row) (ix : List Nat) (b : Bool) : (d.put r ix b).pins = d.pins := rfl
@[simp] theorem Dev.out_put (d : Dev) (r : Row) (ix : List Nat) (b : Bool) : (d.put r ix b).out = d.out := rfl
@[simp] theorem Dev.begun_put (d : Dev) (r : Row) (ix : List Nat) (b : Bool) : (d.put r ix b).begun = d.begun := rfl
@[simp] theorem Dev.free_put (d : Dev) (r : Row) (ix : List Nat) (b : Bool) : (d.put r ix b).free = d.free := rfl

@[simp] theorem Dev.clk_wrInt (d : Dev) (r : Row) (ix : List Nat) (v : Int) : (d.wrInt r ix v).clk = d.clk := rfl
@[simp] theorem Dev.ofs_wrInt (d : Dev) (r : Row) (ix : List Nat) (v : Int) : (d.wrInt r ix v).ofs = d.ofs := rfl
@[simp] theorem Dev.slew_wrInt (d : Dev) (r : Row) (ix : List Nat) (v : Int) : (d.wrInt r ix v).slew = d.slew := rfl
@[simp] theorem Dev.slewTick_wrInt (d : Dev) (r : Row) (ix : List Nat) (v : Int) : (d.wrInt r ix v).slewTick = d.slewTick := rfl
@[simp] theorem Dev.tbl_wrInt (d : Dev) (r : Row) (ix : List Nat) (v : Int) : (d.wrInt r ix v).tbl = d.tbl := rfl
@[simp] theorem Dev.kcp_wrInt (d : Dev) (r : Row) (ix : List Nat) (v : Int) : (d.wrInt r ix v).kcp = d.kcp := rfl
@[simp] theorem Dev.evt_wrInt (d : Dev) (r : Row) (ix : List Nat) (v : Int) : (d.wrInt r ix v).evt = d.evt := rfl
@[simp] theorem Dev.nv_wrInt (d : Dev) (r : Row) (ix : List Nat) (v : Int) : (d.wrInt r ix v).nv = d.nv := rfl
@[simp] theorem Dev.boot_wrInt (d : Dev) (r : Row) (ix : List Nat) (v : Int) : (d.wrInt r ix v).boot = d.boot := rfl
@[simp] theorem Dev.plc_wrInt (d : Dev) (r : Row) (ix : List Nat) (v : Int) : (d.wrInt r ix v).plc = d.plc := rfl
@[simp] theorem Dev.ing_wrInt (d : Dev) (r : Row) (ix : List Nat) (v : Int) : (d.wrInt r ix v).ing = d.ing := rfl
@[simp] theorem Dev.pipe_wrInt (d : Dev) (r : Row) (ix : List Nat) (v : Int) : (d.wrInt r ix v).pipe = d.pipe := rfl
@[simp] theorem Dev.cal_wrInt (d : Dev) (r : Row) (ix : List Nat) (v : Int) : (d.wrInt r ix v).cal = d.cal := rfl
@[simp] theorem Dev.fus_wrInt (d : Dev) (r : Row) (ix : List Nat) (v : Int) : (d.wrInt r ix v).fus = d.fus := rfl
@[simp] theorem Dev.mem_wrInt (d : Dev) (r : Row) (ix : List Nat) (v : Int) : (d.wrInt r ix v).mem = d.mem := rfl
@[simp] theorem Dev.conv_wrInt (d : Dev) (r : Row) (ix : List Nat) (v : Int) : (d.wrInt r ix v).conv = d.conv := rfl
@[simp] theorem Dev.shut_wrInt (d : Dev) (r : Row) (ix : List Nat) (v : Int) : (d.wrInt r ix v).shut = d.shut := rfl
@[simp] theorem Dev.pins_wrInt (d : Dev) (r : Row) (ix : List Nat) (v : Int) : (d.wrInt r ix v).pins = d.pins := rfl
@[simp] theorem Dev.out_wrInt (d : Dev) (r : Row) (ix : List Nat) (v : Int) : (d.wrInt r ix v).out = d.out := rfl
@[simp] theorem Dev.begun_wrInt (d : Dev) (r : Row) (ix : List Nat) (v : Int) : (d.wrInt r ix v).begun = d.begun := rfl
@[simp] theorem Dev.free_wrInt (d : Dev) (r : Row) (ix : List Nat) (v : Int) : (d.wrInt r ix v).free = d.free := rfl

@[simp] theorem Dev.clk_bump (d : Dev) (r : Row) (ix : List Nat) : (d.bump r ix).clk = d.clk := rfl
@[simp] theorem Dev.ofs_bump (d : Dev) (r : Row) (ix : List Nat) : (d.bump r ix).ofs = d.ofs := rfl
@[simp] theorem Dev.slew_bump (d : Dev) (r : Row) (ix : List Nat) : (d.bump r ix).slew = d.slew := rfl
@[simp] theorem Dev.slewTick_bump (d : Dev) (r : Row) (ix : List Nat) : (d.bump r ix).slewTick = d.slewTick := rfl
@[simp] theorem Dev.tbl_bump (d : Dev) (r : Row) (ix : List Nat) : (d.bump r ix).tbl = d.tbl := rfl
@[simp] theorem Dev.kcp_bump (d : Dev) (r : Row) (ix : List Nat) : (d.bump r ix).kcp = d.kcp := rfl
@[simp] theorem Dev.evt_bump (d : Dev) (r : Row) (ix : List Nat) : (d.bump r ix).evt = d.evt := rfl
@[simp] theorem Dev.nv_bump (d : Dev) (r : Row) (ix : List Nat) : (d.bump r ix).nv = d.nv := rfl
@[simp] theorem Dev.boot_bump (d : Dev) (r : Row) (ix : List Nat) : (d.bump r ix).boot = d.boot := rfl
@[simp] theorem Dev.plc_bump (d : Dev) (r : Row) (ix : List Nat) : (d.bump r ix).plc = d.plc := rfl
@[simp] theorem Dev.ing_bump (d : Dev) (r : Row) (ix : List Nat) : (d.bump r ix).ing = d.ing := rfl
@[simp] theorem Dev.pipe_bump (d : Dev) (r : Row) (ix : List Nat) : (d.bump r ix).pipe = d.pipe := rfl
@[simp] theorem Dev.cal_bump (d : Dev) (r : Row) (ix : List Nat) : (d.bump r ix).cal = d.cal := rfl
@[simp] theorem Dev.fus_bump (d : Dev) (r : Row) (ix : List Nat) : (d.bump r ix).fus = d.fus := rfl
@[simp] theorem Dev.mem_bump (d : Dev) (r : Row) (ix : List Nat) : (d.bump r ix).mem = d.mem := rfl
@[simp] theorem Dev.conv_bump (d : Dev) (r : Row) (ix : List Nat) : (d.bump r ix).conv = d.conv := rfl
@[simp] theorem Dev.shut_bump (d : Dev) (r : Row) (ix : List Nat) : (d.bump r ix).shut = d.shut := rfl
@[simp] theorem Dev.pins_bump (d : Dev) (r : Row) (ix : List Nat) : (d.bump r ix).pins = d.pins := rfl
@[simp] theorem Dev.out_bump (d : Dev) (r : Row) (ix : List Nat) : (d.bump r ix).out = d.out := rfl
@[simp] theorem Dev.begun_bump (d : Dev) (r : Row) (ix : List Nat) : (d.bump r ix).begun = d.begun := rfl
@[simp] theorem Dev.free_bump (d : Dev) (r : Row) (ix : List Nat) : (d.bump r ix).free = d.free := rfl

@[simp] theorem Dev.clk_raiseTo (d : Dev) (r : Row) (ix : List Nat) (v : Nat) : (d.raiseTo r ix v).clk = d.clk := by
  unfold Dev.raiseTo; split <;> rfl
@[simp] theorem Dev.ofs_raiseTo (d : Dev) (r : Row) (ix : List Nat) (v : Nat) : (d.raiseTo r ix v).ofs = d.ofs := by
  unfold Dev.raiseTo; split <;> rfl
@[simp] theorem Dev.slew_raiseTo (d : Dev) (r : Row) (ix : List Nat) (v : Nat) : (d.raiseTo r ix v).slew = d.slew := by
  unfold Dev.raiseTo; split <;> rfl
@[simp] theorem Dev.slewTick_raiseTo (d : Dev) (r : Row) (ix : List Nat) (v : Nat) : (d.raiseTo r ix v).slewTick = d.slewTick := by
  unfold Dev.raiseTo; split <;> rfl
@[simp] theorem Dev.tbl_raiseTo (d : Dev) (r : Row) (ix : List Nat) (v : Nat) : (d.raiseTo r ix v).tbl = d.tbl := by
  unfold Dev.raiseTo; split <;> rfl
@[simp] theorem Dev.kcp_raiseTo (d : Dev) (r : Row) (ix : List Nat) (v : Nat) : (d.raiseTo r ix v).kcp = d.kcp := by
  unfold Dev.raiseTo; split <;> rfl
@[simp] theorem Dev.evt_raiseTo (d : Dev) (r : Row) (ix : List Nat) (v : Nat) : (d.raiseTo r ix v).evt = d.evt := by
  unfold Dev.raiseTo; split <;> rfl
@[simp] theorem Dev.nv_raiseTo (d : Dev) (r : Row) (ix : List Nat) (v : Nat) : (d.raiseTo r ix v).nv = d.nv := by
  unfold Dev.raiseTo; split <;> rfl
@[simp] theorem Dev.boot_raiseTo (d : Dev) (r : Row) (ix : List Nat) (v : Nat) : (d.raiseTo r ix v).boot = d.boot := by
  unfold Dev.raiseTo; split <;> rfl
@[simp] theorem Dev.plc_raiseTo (d : Dev) (r : Row) (ix : List Nat) (v : Nat) : (d.raiseTo r ix v).plc = d.plc := by
  unfold Dev.raiseTo; split <;> rfl
@[simp] theorem Dev.ing_raiseTo (d : Dev) (r : Row) (ix : List Nat) (v : Nat) : (d.raiseTo r ix v).ing = d.ing := by
  unfold Dev.raiseTo; split <;> rfl
@[simp] theorem Dev.pipe_raiseTo (d : Dev) (r : Row) (ix : List Nat) (v : Nat) : (d.raiseTo r ix v).pipe = d.pipe := by
  unfold Dev.raiseTo; split <;> rfl
@[simp] theorem Dev.cal_raiseTo (d : Dev) (r : Row) (ix : List Nat) (v : Nat) : (d.raiseTo r ix v).cal = d.cal := by
  unfold Dev.raiseTo; split <;> rfl
@[simp] theorem Dev.fus_raiseTo (d : Dev) (r : Row) (ix : List Nat) (v : Nat) : (d.raiseTo r ix v).fus = d.fus := by
  unfold Dev.raiseTo; split <;> rfl
@[simp] theorem Dev.mem_raiseTo (d : Dev) (r : Row) (ix : List Nat) (v : Nat) : (d.raiseTo r ix v).mem = d.mem := by
  unfold Dev.raiseTo; split <;> rfl
@[simp] theorem Dev.conv_raiseTo (d : Dev) (r : Row) (ix : List Nat) (v : Nat) : (d.raiseTo r ix v).conv = d.conv := by
  unfold Dev.raiseTo; split <;> rfl
@[simp] theorem Dev.shut_raiseTo (d : Dev) (r : Row) (ix : List Nat) (v : Nat) : (d.raiseTo r ix v).shut = d.shut := by
  unfold Dev.raiseTo; split <;> rfl
@[simp] theorem Dev.pins_raiseTo (d : Dev) (r : Row) (ix : List Nat) (v : Nat) : (d.raiseTo r ix v).pins = d.pins := by
  unfold Dev.raiseTo; split <;> rfl
@[simp] theorem Dev.out_raiseTo (d : Dev) (r : Row) (ix : List Nat) (v : Nat) : (d.raiseTo r ix v).out = d.out := by
  unfold Dev.raiseTo; split <;> rfl
@[simp] theorem Dev.begun_raiseTo (d : Dev) (r : Row) (ix : List Nat) (v : Nat) : (d.raiseTo r ix v).begun = d.begun := by
  unfold Dev.raiseTo; split <;> rfl
@[simp] theorem Dev.free_raiseTo (d : Dev) (r : Row) (ix : List Nat) (v : Nat) : (d.raiseTo r ix v).free = d.free := by
  unfold Dev.raiseTo; split <;> rfl

@[simp] theorem Dev.clk_lowerTo (d : Dev) (r : Row) (ix : List Nat) (v : Nat) : (d.lowerTo r ix v).clk = d.clk := by
  unfold Dev.lowerTo; split <;> rfl
@[simp] theorem Dev.ofs_lowerTo (d : Dev) (r : Row) (ix : List Nat) (v : Nat) : (d.lowerTo r ix v).ofs = d.ofs := by
  unfold Dev.lowerTo; split <;> rfl
@[simp] theorem Dev.slew_lowerTo (d : Dev) (r : Row) (ix : List Nat) (v : Nat) : (d.lowerTo r ix v).slew = d.slew := by
  unfold Dev.lowerTo; split <;> rfl
@[simp] theorem Dev.slewTick_lowerTo (d : Dev) (r : Row) (ix : List Nat) (v : Nat) : (d.lowerTo r ix v).slewTick = d.slewTick := by
  unfold Dev.lowerTo; split <;> rfl
@[simp] theorem Dev.tbl_lowerTo (d : Dev) (r : Row) (ix : List Nat) (v : Nat) : (d.lowerTo r ix v).tbl = d.tbl := by
  unfold Dev.lowerTo; split <;> rfl
@[simp] theorem Dev.kcp_lowerTo (d : Dev) (r : Row) (ix : List Nat) (v : Nat) : (d.lowerTo r ix v).kcp = d.kcp := by
  unfold Dev.lowerTo; split <;> rfl
@[simp] theorem Dev.evt_lowerTo (d : Dev) (r : Row) (ix : List Nat) (v : Nat) : (d.lowerTo r ix v).evt = d.evt := by
  unfold Dev.lowerTo; split <;> rfl
@[simp] theorem Dev.nv_lowerTo (d : Dev) (r : Row) (ix : List Nat) (v : Nat) : (d.lowerTo r ix v).nv = d.nv := by
  unfold Dev.lowerTo; split <;> rfl
@[simp] theorem Dev.boot_lowerTo (d : Dev) (r : Row) (ix : List Nat) (v : Nat) : (d.lowerTo r ix v).boot = d.boot := by
  unfold Dev.lowerTo; split <;> rfl
@[simp] theorem Dev.plc_lowerTo (d : Dev) (r : Row) (ix : List Nat) (v : Nat) : (d.lowerTo r ix v).plc = d.plc := by
  unfold Dev.lowerTo; split <;> rfl
@[simp] theorem Dev.ing_lowerTo (d : Dev) (r : Row) (ix : List Nat) (v : Nat) : (d.lowerTo r ix v).ing = d.ing := by
  unfold Dev.lowerTo; split <;> rfl
@[simp] theorem Dev.pipe_lowerTo (d : Dev) (r : Row) (ix : List Nat) (v : Nat) : (d.lowerTo r ix v).pipe = d.pipe := by
  unfold Dev.lowerTo; split <;> rfl
@[simp] theorem Dev.cal_lowerTo (d : Dev) (r : Row) (ix : List Nat) (v : Nat) : (d.lowerTo r ix v).cal = d.cal := by
  unfold Dev.lowerTo; split <;> rfl
@[simp] theorem Dev.fus_lowerTo (d : Dev) (r : Row) (ix : List Nat) (v : Nat) : (d.lowerTo r ix v).fus = d.fus := by
  unfold Dev.lowerTo; split <;> rfl
@[simp] theorem Dev.mem_lowerTo (d : Dev) (r : Row) (ix : List Nat) (v : Nat) : (d.lowerTo r ix v).mem = d.mem := by
  unfold Dev.lowerTo; split <;> rfl
@[simp] theorem Dev.conv_lowerTo (d : Dev) (r : Row) (ix : List Nat) (v : Nat) : (d.lowerTo r ix v).conv = d.conv := by
  unfold Dev.lowerTo; split <;> rfl
@[simp] theorem Dev.shut_lowerTo (d : Dev) (r : Row) (ix : List Nat) (v : Nat) : (d.lowerTo r ix v).shut = d.shut := by
  unfold Dev.lowerTo; split <;> rfl
@[simp] theorem Dev.pins_lowerTo (d : Dev) (r : Row) (ix : List Nat) (v : Nat) : (d.lowerTo r ix v).pins = d.pins := by
  unfold Dev.lowerTo; split <;> rfl
@[simp] theorem Dev.out_lowerTo (d : Dev) (r : Row) (ix : List Nat) (v : Nat) : (d.lowerTo r ix v).out = d.out := by
  unfold Dev.lowerTo; split <;> rfl
@[simp] theorem Dev.begun_lowerTo (d : Dev) (r : Row) (ix : List Nat) (v : Nat) : (d.lowerTo r ix v).begun = d.begun := by
  unfold Dev.lowerTo; split <;> rfl
@[simp] theorem Dev.free_lowerTo (d : Dev) (r : Row) (ix : List Nat) (v : Nat) : (d.lowerTo r ix v).free = d.free := by
  unfold Dev.lowerTo; split <;> rfl

@[simp] theorem Dev.clk_wrs (d : Dev) (l : List (Row × List Nat × Nat)) : (d.wrs l).clk = d.clk := by
  induction l generalizing d with
  | nil => rfl
  | cons x t ih => obtain ⟨r, ix, v⟩ := x; simp [Dev.wrs, ih]
@[simp] theorem Dev.ofs_wrs (d : Dev) (l : List (Row × List Nat × Nat)) : (d.wrs l).ofs = d.ofs := by
  induction l generalizing d with
  | nil => rfl
  | cons x t ih => obtain ⟨r, ix, v⟩ := x; simp [Dev.wrs, ih]
@[simp] theorem Dev.slew_wrs (d : Dev) (l : List (Row × List Nat × Nat)) : (d.wrs l).slew = d.slew := by
  induction l generalizing d with
  | nil => rfl
  | cons x t ih => obtain ⟨r, ix, v⟩ := x; simp [Dev.wrs, ih]
@[simp] theorem Dev.slewTick_wrs (d : Dev) (l : List (Row × List Nat × Nat)) : (d.wrs l).slewTick = d.slewTick := by
  induction l generalizing d with
  | nil => rfl
  | cons x t ih => obtain ⟨r, ix, v⟩ := x; simp [Dev.wrs, ih]
@[simp] theorem Dev.tbl_wrs (d : Dev) (l : List (Row × List Nat × Nat)) : (d.wrs l).tbl = d.tbl := by
  induction l generalizing d with
  | nil => rfl
  | cons x t ih => obtain ⟨r, ix, v⟩ := x; simp [Dev.wrs, ih]
@[simp] theorem Dev.kcp_wrs (d : Dev) (l : List (Row × List Nat × Nat)) : (d.wrs l).kcp = d.kcp := by
  induction l generalizing d with
  | nil => rfl
  | cons x t ih => obtain ⟨r, ix, v⟩ := x; simp [Dev.wrs, ih]
@[simp] theorem Dev.evt_wrs (d : Dev) (l : List (Row × List Nat × Nat)) : (d.wrs l).evt = d.evt := by
  induction l generalizing d with
  | nil => rfl
  | cons x t ih => obtain ⟨r, ix, v⟩ := x; simp [Dev.wrs, ih]
@[simp] theorem Dev.nv_wrs (d : Dev) (l : List (Row × List Nat × Nat)) : (d.wrs l).nv = d.nv := by
  induction l generalizing d with
  | nil => rfl
  | cons x t ih => obtain ⟨r, ix, v⟩ := x; simp [Dev.wrs, ih]
@[simp] theorem Dev.boot_wrs (d : Dev) (l : List (Row × List Nat × Nat)) : (d.wrs l).boot = d.boot := by
  induction l generalizing d with
  | nil => rfl
  | cons x t ih => obtain ⟨r, ix, v⟩ := x; simp [Dev.wrs, ih]
@[simp] theorem Dev.plc_wrs (d : Dev) (l : List (Row × List Nat × Nat)) : (d.wrs l).plc = d.plc := by
  induction l generalizing d with
  | nil => rfl
  | cons x t ih => obtain ⟨r, ix, v⟩ := x; simp [Dev.wrs, ih]
@[simp] theorem Dev.ing_wrs (d : Dev) (l : List (Row × List Nat × Nat)) : (d.wrs l).ing = d.ing := by
  induction l generalizing d with
  | nil => rfl
  | cons x t ih => obtain ⟨r, ix, v⟩ := x; simp [Dev.wrs, ih]
@[simp] theorem Dev.pipe_wrs (d : Dev) (l : List (Row × List Nat × Nat)) : (d.wrs l).pipe = d.pipe := by
  induction l generalizing d with
  | nil => rfl
  | cons x t ih => obtain ⟨r, ix, v⟩ := x; simp [Dev.wrs, ih]
@[simp] theorem Dev.cal_wrs (d : Dev) (l : List (Row × List Nat × Nat)) : (d.wrs l).cal = d.cal := by
  induction l generalizing d with
  | nil => rfl
  | cons x t ih => obtain ⟨r, ix, v⟩ := x; simp [Dev.wrs, ih]
@[simp] theorem Dev.fus_wrs (d : Dev) (l : List (Row × List Nat × Nat)) : (d.wrs l).fus = d.fus := by
  induction l generalizing d with
  | nil => rfl
  | cons x t ih => obtain ⟨r, ix, v⟩ := x; simp [Dev.wrs, ih]
@[simp] theorem Dev.mem_wrs (d : Dev) (l : List (Row × List Nat × Nat)) : (d.wrs l).mem = d.mem := by
  induction l generalizing d with
  | nil => rfl
  | cons x t ih => obtain ⟨r, ix, v⟩ := x; simp [Dev.wrs, ih]
@[simp] theorem Dev.conv_wrs (d : Dev) (l : List (Row × List Nat × Nat)) : (d.wrs l).conv = d.conv := by
  induction l generalizing d with
  | nil => rfl
  | cons x t ih => obtain ⟨r, ix, v⟩ := x; simp [Dev.wrs, ih]
@[simp] theorem Dev.shut_wrs (d : Dev) (l : List (Row × List Nat × Nat)) : (d.wrs l).shut = d.shut := by
  induction l generalizing d with
  | nil => rfl
  | cons x t ih => obtain ⟨r, ix, v⟩ := x; simp [Dev.wrs, ih]
@[simp] theorem Dev.pins_wrs (d : Dev) (l : List (Row × List Nat × Nat)) : (d.wrs l).pins = d.pins := by
  induction l generalizing d with
  | nil => rfl
  | cons x t ih => obtain ⟨r, ix, v⟩ := x; simp [Dev.wrs, ih]
@[simp] theorem Dev.out_wrs (d : Dev) (l : List (Row × List Nat × Nat)) : (d.wrs l).out = d.out := by
  induction l generalizing d with
  | nil => rfl
  | cons x t ih => obtain ⟨r, ix, v⟩ := x; simp [Dev.wrs, ih]
@[simp] theorem Dev.begun_wrs (d : Dev) (l : List (Row × List Nat × Nat)) : (d.wrs l).begun = d.begun := by
  induction l generalizing d with
  | nil => rfl
  | cons x t ih => obtain ⟨r, ix, v⟩ := x; simp [Dev.wrs, ih]
@[simp] theorem Dev.free_wrs (d : Dev) (l : List (Row × List Nat × Nat)) : (d.wrs l).free = d.free := by
  induction l generalizing d with
  | nil => rfl
  | cons x t ih => obtain ⟨r, ix, v⟩ := x; simp [Dev.wrs, ih]

@[simp] theorem Dev.clk_tblWrite (d : Dev) (t o : Nat) (bs : List Byte) : (d.tblWrite t o bs).clk = d.clk := rfl
@[simp] theorem Dev.ofs_tblWrite (d : Dev) (t o : Nat) (bs : List Byte) : (d.tblWrite t o bs).ofs = d.ofs := rfl
@[simp] theorem Dev.slew_tblWrite (d : Dev) (t o : Nat) (bs : List Byte) : (d.tblWrite t o bs).slew = d.slew := rfl
@[simp] theorem Dev.slewTick_tblWrite (d : Dev) (t o : Nat) (bs : List Byte) : (d.tblWrite t o bs).slewTick = d.slewTick := rfl
@[simp] theorem Dev.kcp_tblWrite (d : Dev) (t o : Nat) (bs : List Byte) : (d.tblWrite t o bs).kcp = d.kcp := rfl
@[simp] theorem Dev.evt_tblWrite (d : Dev) (t o : Nat) (bs : List Byte) : (d.tblWrite t o bs).evt = d.evt := rfl
@[simp] theorem Dev.nv_tblWrite (d : Dev) (t o : Nat) (bs : List Byte) : (d.tblWrite t o bs).nv = d.nv := rfl
@[simp] theorem Dev.boot_tblWrite (d : Dev) (t o : Nat) (bs : List Byte) : (d.tblWrite t o bs).boot = d.boot := rfl
@[simp] theorem Dev.plc_tblWrite (d : Dev) (t o : Nat) (bs : List Byte) : (d.tblWrite t o bs).plc = d.plc := rfl
@[simp] theorem Dev.ing_tblWrite (d : Dev) (t o : Nat) (bs : List Byte) : (d.tblWrite t o bs).ing = d.ing := rfl
@[simp] theorem Dev.pipe_tblWrite (d : Dev) (t o : Nat) (bs : List Byte) : (d.tblWrite t o bs).pipe = d.pipe := rfl
@[simp] theorem Dev.cal_tblWrite (d : Dev) (t o : Nat) (bs : List Byte) : (d.tblWrite t o bs).cal = d.cal := rfl
@[simp] theorem Dev.fus_tblWrite (d : Dev) (t o : Nat) (bs : List Byte) : (d.tblWrite t o bs).fus = d.fus := rfl
@[simp] theorem Dev.mem_tblWrite (d : Dev) (t o : Nat) (bs : List Byte) : (d.tblWrite t o bs).mem = d.mem := rfl
@[simp] theorem Dev.conv_tblWrite (d : Dev) (t o : Nat) (bs : List Byte) : (d.tblWrite t o bs).conv = d.conv := rfl
@[simp] theorem Dev.shut_tblWrite (d : Dev) (t o : Nat) (bs : List Byte) : (d.tblWrite t o bs).shut = d.shut := rfl
@[simp] theorem Dev.pins_tblWrite (d : Dev) (t o : Nat) (bs : List Byte) : (d.tblWrite t o bs).pins = d.pins := rfl
@[simp] theorem Dev.out_tblWrite (d : Dev) (t o : Nat) (bs : List Byte) : (d.tblWrite t o bs).out = d.out := rfl
@[simp] theorem Dev.begun_tblWrite (d : Dev) (t o : Nat) (bs : List Byte) : (d.tblWrite t o bs).begun = d.begun := rfl
@[simp] theorem Dev.free_tblWrite (d : Dev) (t o : Nat) (bs : List Byte) : (d.tblWrite t o bs).free = d.free := rfl
@[simp] theorem Dev.prm_tblWrite (d : Dev) (t o : Nat) (bs : List Byte) : (d.tblWrite t o bs).prm = d.prm := rfl

@[simp] theorem Dev.ofs_reach (d : Dev) (t : Nat) : (d.reach t).ofs = d.ofs := rfl
@[simp] theorem Dev.slew_reach (d : Dev) (t : Nat) : (d.reach t).slew = d.slew := rfl
@[simp] theorem Dev.slewTick_reach (d : Dev) (t : Nat) : (d.reach t).slewTick = d.slewTick := rfl
@[simp] theorem Dev.tbl_reach (d : Dev) (t : Nat) : (d.reach t).tbl = d.tbl := rfl
@[simp] theorem Dev.kcp_reach (d : Dev) (t : Nat) : (d.reach t).kcp = d.kcp := rfl
@[simp] theorem Dev.evt_reach (d : Dev) (t : Nat) : (d.reach t).evt = d.evt := rfl
@[simp] theorem Dev.nv_reach (d : Dev) (t : Nat) : (d.reach t).nv = d.nv := rfl
@[simp] theorem Dev.boot_reach (d : Dev) (t : Nat) : (d.reach t).boot = d.boot := rfl
@[simp] theorem Dev.plc_reach (d : Dev) (t : Nat) : (d.reach t).plc = d.plc := rfl
@[simp] theorem Dev.ing_reach (d : Dev) (t : Nat) : (d.reach t).ing = d.ing := rfl
@[simp] theorem Dev.pipe_reach (d : Dev) (t : Nat) : (d.reach t).pipe = d.pipe := rfl
@[simp] theorem Dev.cal_reach (d : Dev) (t : Nat) : (d.reach t).cal = d.cal := rfl
@[simp] theorem Dev.fus_reach (d : Dev) (t : Nat) : (d.reach t).fus = d.fus := rfl
@[simp] theorem Dev.mem_reach (d : Dev) (t : Nat) : (d.reach t).mem = d.mem := rfl
@[simp] theorem Dev.conv_reach (d : Dev) (t : Nat) : (d.reach t).conv = d.conv := rfl
@[simp] theorem Dev.shut_reach (d : Dev) (t : Nat) : (d.reach t).shut = d.shut := rfl
@[simp] theorem Dev.pins_reach (d : Dev) (t : Nat) : (d.reach t).pins = d.pins := rfl
@[simp] theorem Dev.out_reach (d : Dev) (t : Nat) : (d.reach t).out = d.out := rfl
@[simp] theorem Dev.begun_reach (d : Dev) (t : Nat) : (d.reach t).begun = d.begun := rfl
@[simp] theorem Dev.free_reach (d : Dev) (t : Nat) : (d.reach t).free = d.free := rfl
@[simp] theorem Dev.prm_reach (d : Dev) (t : Nat) : (d.reach t).prm = d.prm := rfl

@[simp] theorem Dev.clk_emit (d : Dev) (o : Out) : (d.emit o).clk = d.clk := rfl
@[simp] theorem Dev.ofs_emit (d : Dev) (o : Out) : (d.emit o).ofs = d.ofs := rfl
@[simp] theorem Dev.slew_emit (d : Dev) (o : Out) : (d.emit o).slew = d.slew := rfl
@[simp] theorem Dev.slewTick_emit (d : Dev) (o : Out) : (d.emit o).slewTick = d.slewTick := rfl
@[simp] theorem Dev.tbl_emit (d : Dev) (o : Out) : (d.emit o).tbl = d.tbl := rfl
@[simp] theorem Dev.kcp_emit (d : Dev) (o : Out) : (d.emit o).kcp = d.kcp := rfl
@[simp] theorem Dev.evt_emit (d : Dev) (o : Out) : (d.emit o).evt = d.evt := rfl
@[simp] theorem Dev.nv_emit (d : Dev) (o : Out) : (d.emit o).nv = d.nv := rfl
@[simp] theorem Dev.boot_emit (d : Dev) (o : Out) : (d.emit o).boot = d.boot := rfl
@[simp] theorem Dev.plc_emit (d : Dev) (o : Out) : (d.emit o).plc = d.plc := rfl
@[simp] theorem Dev.ing_emit (d : Dev) (o : Out) : (d.emit o).ing = d.ing := rfl
@[simp] theorem Dev.pipe_emit (d : Dev) (o : Out) : (d.emit o).pipe = d.pipe := rfl
@[simp] theorem Dev.cal_emit (d : Dev) (o : Out) : (d.emit o).cal = d.cal := rfl
@[simp] theorem Dev.fus_emit (d : Dev) (o : Out) : (d.emit o).fus = d.fus := rfl
@[simp] theorem Dev.mem_emit (d : Dev) (o : Out) : (d.emit o).mem = d.mem := rfl
@[simp] theorem Dev.conv_emit (d : Dev) (o : Out) : (d.emit o).conv = d.conv := rfl
@[simp] theorem Dev.shut_emit (d : Dev) (o : Out) : (d.emit o).shut = d.shut := rfl
@[simp] theorem Dev.pins_emit (d : Dev) (o : Out) : (d.emit o).pins = d.pins := rfl
@[simp] theorem Dev.free_emit (d : Dev) (o : Out) : (d.emit o).free = d.free := rfl
@[simp] theorem Dev.prm_emit (d : Dev) (o : Out) : (d.emit o).prm = d.prm := rfl

@[simp] theorem Dev.clk_reach (d : Dev) (t : Nat) : (d.reach t).clk = max d.clk t := rfl

@[simp] theorem Dev.out_emit (d : Dev) (o : Out) : (d.emit o).out = d.out ++ [o] := rfl
@[simp] theorem Dev.begun_emit (d : Dev) (o : Out) : (d.emit o).begun = d.begun := rfl

theorem Dev.get?_wrs_other (d : Dev) (l : List (Row × List Nat × Nat)) (k : Nat) (h : ∀ x ∈ l, k ≠ x.1.key x.2.1) :
    (d.wrs l).prm.get? k = d.prm.get? k := by
  induction l generalizing d with
  | nil => rfl
  | cons x t ih =>
    obtain ⟨r, ix, v⟩ := x
    simp only [List.mem_cons, forall_eq_or_imp] at h
    simp only [Dev.wrs, ih _ h.2, Dev.get?_wr_other _ _ _ _ _ h.1]

theorem Dev.get?_raiseTo_other (d : Dev) (r : Row) (ix : List Nat) (v k : Nat) (h : k ≠ r.key ix) :
    (d.raiseTo r ix v).prm.get? k = d.prm.get? k := by
  unfold Dev.raiseTo
  split
  · exact Dev.get?_wr_other d r ix v k h
  · rfl

/-! ## Steps over a list -/

/-- What every step over a list keeps, the whole keeps. -/
theorem Dev.each_keeps {α : Type} (rel : Dev → Dev → Prop) (refl : ∀ a, rel a a) (trans : ∀ {a b c}, rel a b → rel b c → rel a c)
    (l : List α) (f : α → Dev → Dev) (d : Dev) (h : ∀ a ∈ l, ∀ e, rel e (f a e)) : rel d (d.each l f) := by
  unfold Dev.each
  induction l generalizing d with
  | nil => exact refl d
  | cons a t ih =>
    exact trans (h a (List.mem_cons_self ..) d) (ih (f a d) fun b hb => h b (List.mem_cons_of_mem _ hb))

end Sys2Proof.Machine
end

