-- ==== Sys2Proof/Laws/Run.lean ====
section
/-!
SUPPORT. Sys2Proof/Laws/Run.lean: what follows a command's own effect: the advertisement, the VIEWs and the pins, and that they
change nothing else.
-/
namespace Sys2Proof.Machine

theorem Trails.refl (d : Dev) : Trails d d where
  parts := by intro p _; cases p <;> simp [DevPart.same]
  fields := fun _ _ => rfl
  engine := rfl
  array := rfl
  inputs := ⟨rfl, rfl⟩
  outputs := List.prefix_refl _

theorem Untouched.trans {l : List DevPart} {a b c : Dev} (h : Untouched l a b) (g : Untouched l b c) : Untouched l a c := by
  intro p hp
  have h1 := h p hp
  have h2 := g p hp
  cases p <;> simp only [DevPart.same] at * <;> simp_all

theorem OnlyFields.trans {l : List (Row × List Nat)} {a b c : Dev} (h : OnlyFields l a b) (g : OnlyFields l b c) :
    OnlyFields l a c := fun k hk => (g k hk).trans (h k hk)

theorem Trails.trans {a b c : Dev} (h : Trails a b) (g : Trails b c) : Trails a c where
  parts := h.parts.trans g.parts
  fields := h.fields.trans g.fields
  engine := by rw [g.engine, h.engine]
  array := by rw [g.array, h.array]
  inputs := ⟨g.inputs.1.trans h.inputs.1, g.inputs.2.trans h.inputs.2⟩
  outputs := h.outputs.trans g.outputs

/-- A device whose packet engine, array and outputs alone differ as `Trails` allows. -/
theorem Trails.of_parts {e t : Dev} (f s : KMap Nat) (fl : List Flood) (ls vs : Nat) (as : List Asked) (ds : KMap Directed)
    (o : List Out)
    (h : t = { e with kcp := { e.kcp with rseqTx := s, floods := fl, fseq := f },
                      plc := { e.plc with asked := as, lsaSeq := ls, dirs := ds, viewScore := vs }, out := e.out ++ o }) :
    Trails e t := by
  subst h
  exact ⟨by intro p _; cases p <;> simp [DevPart.same] at *, fun _ _ => rfl, rfl, rfl, ⟨rfl, rfl⟩, List.prefix_append ..⟩

theorem emit_trails (d : Dev) (o : Out) : Trails d (d.emit o) := .of_parts d.kcp.fseq d.kcp.rseqTx d.kcp.floods d.plc.lsaSeq d.plc.viewScore d.plc.asked d.plc.dirs [o] rfl

theorem chainSend_trails (d : Dev) (p t : Nat) (b : List Byte) : Trails d (d.chainSend p t b) := emit_trails d _

theorem nextFseq_trails (d : Dev) (k : Nat) : Trails d (d.nextFseq k).2 :=
  .of_parts (d.nextFseq k).2.kcp.fseq d.kcp.rseqTx d.kcp.floods d.plc.lsaSeq d.plc.viewScore d.plc.asked d.plc.dirs []
    (by simp [Dev.nextFseq])

theorem sendTo_trails (d : Dev) (k a : Nat) (b : List Byte) (al : Bool) : Trails d (d.sendTo k a b al) := by
  unfold Dev.sendTo
  split
  · exact .refl d
  · exact (nextFseq_trails d k).trans (emit_trails _ _)

theorem each_trails {α : Type} (l : List α) (f : α → Dev → Dev) (d : Dev) (h : ∀ a e, Trails e (f a e)) : Trails d (d.each l f) :=
  Dev.each_keeps Trails .refl .trans l f d fun a _ e => h a e

theorem flood_trails (d : Dev) (k : Nat) (b : List Byte) : Trails d (d.flood k b) := by
  unfold Dev.flood
  refine (nextFseq_trails d k).trans (.trans (b := { (d.nextFseq k).2 with kcp := { (d.nextFseq k).2.kcp with floods := _ } }) ?_ (each_trails _ _ _ fun m e => emit_trails e _))
  exact ⟨by intro p _; cases p <;> simp [DevPart.same] at *, fun _ _ => rfl, rfl, rfl, ⟨rfl, rfl⟩, List.prefix_refl _⟩

theorem sendLsa_trails (d : Dev) : Trails d d.sendLsa := by
  unfold Dev.sendLsa
  refine .trans (b := { d with plc := { d.plc with lsaSeq := (d.plc.lsaSeq + 1) % 2 ^ 32 } }) ?_ (flood_trails _ 1 _)
  exact .of_parts d.kcp.fseq d.kcp.rseqTx d.kcp.floods ((d.plc.lsaSeq + 1) % 2 ^ 32) d.plc.viewScore d.plc.asked d.plc.dirs [] (by simp)

theorem ask_trails (d : Dev) (op dest : Nat) (p : List Byte) : Trails d (d.ask op dest p) := by
  unfold Dev.ask
  extract_lets k n r e
  refine .trans (b := { d with kcp := { d.kcp with rseqTx := _ }, plc := { d.plc with asked := _ } }) ?_ (sendTo_trails _ 3 dest _ _)
  exact ⟨by intro p _; cases p <;> simp [DevPart.same] at *, fun _ _ => rfl, rfl, rfl, ⟨rfl, rfl⟩, List.prefix_refl _⟩

theorem takeView_trails (d : Dev) (p : Nat) (c : Cand) : Trails d (d.takeView p c) :=
  .of_parts d.kcp.fseq d.kcp.rseqTx d.kcp.floods d.plc.lsaSeq d.plc.viewScore d.plc.asked (d.takeView p c).plc.dirs []
    (by simp [Dev.takeView, Dev.setDir])

theorem sendView_trails (d : Dev) (p : Nat) : Trails d (d.sendView p) := by
  unfold Dev.sendView
  split
  · exact .refl d
  · dsimp only
    split
    · exact .refl d
    · split
      · exact takeView_trails d p _
      · exact ask_trails d _ _ _

/-- Fields of `Trails` written. -/
theorem wr_trails (d : Dev) (r : Row) (v : Nat) (h : (r, ([] : List Nat)) ∈ [(P.SCORE, []), (P.H_PEN, []), (P.ALARM_PIN, [])]) :
    Trails d (d.wr r [] v) where
  parts := by intro p _; cases p <;> simp [DevPart.same]
  fields := fun k hk => Dev.get?_wr_other d r [] v k (hk _ h)
  engine := rfl
  array := rfl
  inputs := ⟨rfl, rfl⟩
  outputs := List.prefix_refl _

theorem sendViews_trails (d : Dev) : Trails d d.sendViews := by
  unfold Dev.sendViews
  split
  · exact .refl d
  · dsimp only [Dev.wrs]
    refine ((wr_trails d P.SCORE d.score (by simp)).trans (wr_trails _ P.H_PEN d.healthPen (by simp))).trans
      (.trans (b := { ((d.wr P.SCORE [] d.score).wr P.H_PEN [] d.healthPen) with plc := { d.plc with viewScore := d.score } }) ?_
        (each_trails _ _ _ fun p e => sendView_trails e p))
    exact .of_parts d.kcp.fseq d.kcp.rseqTx d.kcp.floods d.plc.lsaSeq d.score d.plc.asked d.plc.dirs [] (by simp [Dev.wr])

theorem advertise_trails (old d : Dev) : Trails d (Dev.advertise old d) := by
  unfold Dev.advertise
  split
  · exact sendLsa_trails d
  · exact .refl d

theorem review_trails (old d : Dev) : Trails d (Dev.review old d) := by
  unfold Dev.review
  split
  · exact sendViews_trails d
  · exact .refl d

theorem settle_trails (d : Dev) : Trails d d.settle where
  parts := by intro p _; cases p <;> simp [DevPart.same, Dev.settle]
  fields := fun k hk => Dev.get?_wr_other d P.ALARM_PIN [] _ k (hk (P.ALARM_PIN, []) (by simp))
  engine := rfl
  array := rfl
  inputs := ⟨rfl, rfl⟩
  outputs := List.prefix_refl _

/-! ## Pins -/

/-- Devices that differ in their pins and ALARM_PIN alone agree on what drives the pins. -/
theorem pins_congr {a b : Dev} (hb : a.boot = b.boot) (hc : a.cal = b.cal) (hs : a.shut = b.shut)
    (hk : ∀ k, k ≠ P.ALARM_PIN.key [] → a.prm.get? k = b.prm.get? k) (hp : a.pipe = b.pipe) :
    a.faultN = b.faultN ∧ a.alarmN = b.alarmN ∧ a.awake = b.awake ∧ a.ulTxOn = b.ulTxOn := by
  have hr : ∀ (r : Row) ix, r.key ix ≠ P.ALARM_PIN.key [] → a.rd r ix = b.rd r ix := fun r ix h => Dev.rd_congr (hk _ h)
  have hf : ∀ f : Flag, a.flag f = b.flag f := by
    intro f
    have : f.home.row.key [] ≠ P.ALARM_PIN.key [] := by
      cases f <;> simp only [Flag.home] <;> (try split) <;> (try split) <;> (try split) <;> decide
    unfold Dev.flag
    rw [hr _ _ this]
  have hroute : ∀ i, a.rd P.ROUTE [i] = b.rd P.ROUTE [i] := fun i => hr _ _ (by simp [Row.key, Row.addr, P.ROUTE, P.ALARM_PIN]; omega)
  have hrouted : ∀ n, a.routed n = b.routed n := by
    intro n
    unfold Dev.routed
    simp only [hroute, hf]
  have hstate : a.rd P.DEV_STATE = b.rd P.DEV_STATE := hr _ _ (by decide)
  have hlive : a.alive = b.alive := by simp only [Dev.alive, hb]
  have hawake : a.awake = b.awake := by simp only [Dev.awake, Dev.dozing, hlive, hstate]
  have hmr : ∀ n, a.rd P.MR4_CODE [n] = b.rd P.MR4_CODE [n] := fun n => hr _ _ (by simp [Row.key, Row.addr, P.MR4_CODE, P.ALARM_PIN]; omega)
  have hrank : ∀ n, a.rankState n = b.rankState n := by
    intro n
    simp only [Dev.rankState, hr P.RANK_STATE_LO [] (by decide), hr P.RANK_STATE_HI [] (by decide)]
  have hth : ∀ n, a.is P.TH_ALARM [n] = b.is P.TH_ALARM [n] := fun n => Dev.is_congr (hk _ (by simp [Row.key, Row.addr, P.TH_ALARM, P.ALARM_PIN]; omega))
  have hts : ∀ n, a.rd P.TH_STATE [n] = b.rd P.TH_STATE [n] := fun n => hr _ _ (by simp [Row.key, Row.addr, P.TH_STATE, P.ALARM_PIN]; omega)
  have hul : ∀ n, a.is P.UL_EN [n] = b.is P.UL_EN [n] := fun n => Dev.is_congr (hk _ (by simp [Row.key, Row.addr, P.UL_EN, P.ALARM_PIN]; omega))
  have hi : ∀ r : Row, r.key [] ≠ P.ALARM_PIN.key [] → a.is r = b.is r := fun r h => Dev.is_congr (hk _ h)
  refine ⟨?_, ?_, hawake, ?_⟩
  · simp only [Dev.faultN, Dev.faultCause, hi P.BRIDGE_FAIL (by decide), hi P.LINE_DIE (by decide), hc, hmr, hrank, hs, hb,
      Dev.inRecovery, hstate, hrouted]
  · simp only [Dev.alarmN, Dev.alarmStands, Dev.anyHit, hr P.ALARM_HIT_LO [] (by decide), hr P.ALARM_HIT_HI [] (by decide),
      hi P.TEST_GO (by decide), hr P.LINE_DIE [] (by decide), hrouted, Dev.convAlarm, hth, hts, hb, hp]
  · simp only [Dev.ulTxOn, hawake, hul]

theorem settle_pins (d : Dev) : PinsAgree d.settle := by
  have h := pins_congr (a := d.settle) (b := d) rfl rfl rfl
    (fun k hk => Dev.get?_wr_other d P.ALARM_PIN [] _ k hk) rfl
  refine ⟨?_, ?_, ?_, ?_, ?_, rfl⟩
  · rw [h.1]; rfl
  · rw [h.2.1]; rfl
  · rw [h.2.1]; exact Dev.is_put_same d P.ALARM_PIN [] d.alarmN (by decide)
  · rw [h.2.2.1]; rfl
  · rw [h.2.2.2]; rfl

/-! ## A row run -/

/-- What a row makes of the device is what the command leaves, but for the advertisement, the VIEWs and the pins. -/
theorem run_follows (d : Dev) (f : Dev → Dev) : Follows (f { d with out := [], begun := none }) (d.run f) where
  toTrails := ((advertise_trails d _).trans (review_trails d _)).trans (settle_trails _)
  pins := settle_pins _

/-- A command whose meaning runs a row completes with what follows that row's effect. -/
theorem completes_of_run {c : Instr} {s : State} {f : Dev → Dev} {post : Dev → Prop} (h : exec c s = .next (s.run f))
    (hp : ∀ t, Follows (f s.here) t → post t) : Completes c s post :=
  ⟨s.run f, h, rfl, hp _ (run_follows s.dev f)⟩

/-- A command completes with its row's effect, named. -/
theorem completes_with {c : Instr} {s : State} {f : Dev → Dev} {e : Dev} (h : exec c s = .next (s.run f)) (he : f s.here = e) :
    Completes c s (Follows e) :=
  completes_of_run h fun _ ht => he ▸ ht

/-- A command whose row leaves the device as it was has no effect of its own. -/
theorem idle_of_same {c : Instr} {s : State} {f : Dev → Dev} (h : exec c s = .next (s.run f)) (he : f s.here = s.here) : Idle c s :=
  completes_with h he

end Sys2Proof.Machine
end

