-- ==== Sys2Proof/Laws/Kcp.lean ====
section
/-!
SUPPORT. Sys2Proof/Laws/Kcp.lean: what the packet engine makes of a request it serves: the request's counter, the queue, the
opcode's own part, and the one reply.
-/
namespace Sys2Proof.Machine

/-! ## The counter and the queue -/

/-- An accepted counter changes freshness, and the stored ceiling's record where it is raised (R61); nothing else. -/
theorem takeCounter_eq (d : Dev) (r : Req) :
    ∃ fr im n, d.takeCounter r =
      { d with boot := { d.boot with fresh := fr }, nv := { d.nv with imm := im, immNum := n } } := by
  unfold Dev.takeCounter
  split
  · rename_i a _
    unfold Dev.acceptCounter
    extract_lets f up ceil ceil2 e
    split
    · exact ⟨_, _, _, rfl⟩
    · exact ⟨_, _, _, rfl⟩
  · exact ⟨_, _, _, rfl⟩

theorem queued_with (e : Dev) (b : Boot) (nv : Nv) :
    ({ e with boot := b, nv := nv } : Dev).queued = { e.queued with boot := b, nv := nv } := by
  unfold Dev.queued Dev.raiseTo
  have h : ({ e with boot := b, nv := nv } : Dev).rd P.Q_PEAK [] = e.rd P.Q_PEAK [] := rfl
  have hi : ({ e with boot := b, nv := nv } : Dev).inHand = e.inHand := rfl
  simp only [h, hi]
  split <;> rfl

/-- What taking a request in changes before its effect: the outputs of the last command, Q_PEAK, freshness, and the immediate
record of a raised ceiling. -/
theorem taken_eq (d : Dev) (r : Req) :
    ∃ fr im n, d.taken r =
      { ({ d with out := [], begun := none } : Dev).queued with
        boot := { d.boot with fresh := fr }, nv := { d.nv with imm := im, immNum := n } } := by
  obtain ⟨fr, im, n, h⟩ := takeCounter_eq ({ d with out := [], begun := none } : Dev) r
  refine ⟨fr, im, n, ?_⟩
  unfold Dev.taken
  rw [h, queued_with]

theorem prm_taken (d : Dev) (r : Req) (k : Nat) (h : k ≠ P.Q_PEAK.key []) : (d.taken r).prm.get? k = d.prm.get? k := by
  obtain ⟨fr, im, n, e⟩ := taken_eq d r
  rw [e]
  exact Dev.get?_raiseTo_other ({ d with out := [], begun := none } : Dev) P.Q_PEAK [] _ k h

theorem rd_taken (d : Dev) (r : Req) (q : Row) (ix : List Nat) (h : q.key ix ≠ P.Q_PEAK.key []) :
    (d.taken r).rd q ix = d.rd q ix := Dev.rd_congr (prm_taken d r _ h)

theorem is_taken (d : Dev) (r : Req) (q : Row) (ix : List Nat) (h : q.key ix ≠ P.Q_PEAK.key []) :
    (d.taken r).is q ix = d.is q ix := Dev.is_congr (prm_taken d r _ h)

@[simp] theorem clk_taken (d : Dev) (r : Req) : (d.taken r).clk = d.clk := by
  obtain ⟨fr, im, n, e⟩ := taken_eq d r
  rw [e]; simp [Dev.queued]

@[simp] theorem ofs_taken (d : Dev) (r : Req) : (d.taken r).ofs = d.ofs := by
  obtain ⟨fr, im, n, e⟩ := taken_eq d r
  rw [e]; simp [Dev.queued]

@[simp] theorem slew_taken (d : Dev) (r : Req) : (d.taken r).slew = d.slew := by
  obtain ⟨fr, im, n, e⟩ := taken_eq d r
  rw [e]; simp [Dev.queued]

@[simp] theorem slewTick_taken (d : Dev) (r : Req) : (d.taken r).slewTick = d.slewTick := by
  obtain ⟨fr, im, n, e⟩ := taken_eq d r
  rw [e]; simp [Dev.queued]

@[simp] theorem tbl_taken (d : Dev) (r : Req) : (d.taken r).tbl = d.tbl := by
  obtain ⟨fr, im, n, e⟩ := taken_eq d r
  rw [e]; simp [Dev.queued]

@[simp] theorem kcp_taken (d : Dev) (r : Req) : (d.taken r).kcp = d.kcp := by
  obtain ⟨fr, im, n, e⟩ := taken_eq d r
  rw [e]; simp [Dev.queued]

@[simp] theorem evt_taken (d : Dev) (r : Req) : (d.taken r).evt = d.evt := by
  obtain ⟨fr, im, n, e⟩ := taken_eq d r
  rw [e]; simp [Dev.queued]

@[simp] theorem plc_taken (d : Dev) (r : Req) : (d.taken r).plc = d.plc := by
  obtain ⟨fr, im, n, e⟩ := taken_eq d r
  rw [e]; simp [Dev.queued]

@[simp] theorem ing_taken (d : Dev) (r : Req) : (d.taken r).ing = d.ing := by
  obtain ⟨fr, im, n, e⟩ := taken_eq d r
  rw [e]; simp [Dev.queued]

@[simp] theorem pipe_taken (d : Dev) (r : Req) : (d.taken r).pipe = d.pipe := by
  obtain ⟨fr, im, n, e⟩ := taken_eq d r
  rw [e]; simp [Dev.queued]

@[simp] theorem cal_taken (d : Dev) (r : Req) : (d.taken r).cal = d.cal := by
  obtain ⟨fr, im, n, e⟩ := taken_eq d r
  rw [e]; simp [Dev.queued]

@[simp] theorem fus_taken (d : Dev) (r : Req) : (d.taken r).fus = d.fus := by
  obtain ⟨fr, im, n, e⟩ := taken_eq d r
  rw [e]; simp [Dev.queued]

@[simp] theorem mem_taken (d : Dev) (r : Req) : (d.taken r).mem = d.mem := by
  obtain ⟨fr, im, n, e⟩ := taken_eq d r
  rw [e]; simp [Dev.queued]

@[simp] theorem conv_taken (d : Dev) (r : Req) : (d.taken r).conv = d.conv := by
  obtain ⟨fr, im, n, e⟩ := taken_eq d r
  rw [e]; simp [Dev.queued]

@[simp] theorem shut_taken (d : Dev) (r : Req) : (d.taken r).shut = d.shut := by
  obtain ⟨fr, im, n, e⟩ := taken_eq d r
  rw [e]; simp [Dev.queued]

@[simp] theorem pins_taken (d : Dev) (r : Req) : (d.taken r).pins = d.pins := by
  obtain ⟨fr, im, n, e⟩ := taken_eq d r
  rw [e]; simp [Dev.queued]

@[simp] theorem free_taken (d : Dev) (r : Req) : (d.taken r).free = d.free := by
  obtain ⟨fr, im, n, e⟩ := taken_eq d r
  rw [e]; simp [Dev.queued]

@[simp] theorem out_taken (d : Dev) (r : Req) : (d.taken r).out = [] := by
  obtain ⟨fr, im, n, e⟩ := taken_eq d r
  rw [e]; simp [Dev.queued]

@[simp] theorem begun_taken (d : Dev) (r : Req) : (d.taken r).begun = none := by
  obtain ⟨fr, im, n, e⟩ := taken_eq d r
  rw [e]; simp [Dev.queued]

theorem boot_taken (d : Dev) (r : Req) : (d.taken r).boot = { d.boot with fresh := (d.taken r).boot.fresh } := by
  obtain ⟨fr, im, n, e⟩ := taken_eq d r
  rw [e]

theorem nv_taken (d : Dev) (r : Req) :
    (d.taken r).nv = { d.nv with imm := (d.taken r).nv.imm, immNum := (d.taken r).nv.immNum } := by
  obtain ⟨fr, im, n, e⟩ := taken_eq d r
  rw [e]

/-! ## The order of checks -/

theorem serves_here {op : Op} {r : Req} {s : State} (h : Serves op r s.dev) : Serves op r s.here :=
  ⟨h.arrives, h.here, h.early, h.auth, h.gate, h.source, h.size, h.space, h.turn, h.whole⟩

/-- A request the engine serves is begun, with what its own checks and its effect make of it. -/
theorem serve_begins {op : Op} {r : Req} {d : Dev} {chk : Dev → Req → Option Answer} {act : Dev → Req → Dev × Option Answer}
    (h : Serves op r d) (hb : d.begun = none) :
    serve op chk act r d =
      ((d.takeCounter r).begin_ op chk act r ((d.takeCounter r).backOf r)).passOn op.code r ∨
    (∃ a, chk (d.takeCounter r) r = some a ∧ serve op chk act r d =
      ((d.takeCounter r).answer op.code r a ((d.takeCounter r).backOf r)).passOn op.code r) := by
  obtain ⟨fr, im, n, e⟩ := takeCounter_eq d r
  have hg : (d.takeCounter r).stateGate op.code r = none := by rw [e]; exact h.gate
  have hq : (d.takeCounter r).queueCheck r = none := by rw [e]; exact h.space
  have ht : (d.takeCounter r).mustWait op r = false := by rw [e]; exact h.turn
  have h1 : (op.cls = .device && decide (r.host.via ≠ .device)) = false := by
    by_cases hd : op.cls = .device
    · simp [h.source hd]
    · simp [hd]
  unfold serve
  rw [hb]
  dsimp only
  unfold Dev.serveArriving
  rw [h.arrives]
  dsimp only
  rw [h.here]
  dsimp only
  unfold Dev.serveHere
  rw [h.early, h.auth]
  dsimp only
  unfold Dev.execute
  rw [hg]
  dsimp only
  unfold Dev.lateChecks
  rw [h1, hq, ht]
  simp only [Nat.not_lt.2 h.size, Bool.false_eq_true, if_false, Option.or_none]
  cases hc : chk (d.takeCounter r) r with
  | none => exact .inl rfl
  | some a =>
    rw [Option.filter_some]
    by_cases hn : stepNine op.code a = true
    · rw [if_pos hn]; exact .inr ⟨a, rfl, rfl⟩
    · rw [if_neg hn]; exact .inl rfl

/-- A request the engine serves and whose own checks pass takes effect, and its answer follows. -/
theorem serve_acts {op : Op} {r : Req} {d : Dev} {chk : Dev → Req → Option Answer} {act : Dev → Req → Dev × Option Answer}
    (h : Serves op r d) (hb : d.begun = none) (hc : chk (d.takeCounter r) r = none) :
    serve op chk act r d =
      match act (d.takeCounter r).queued r with
      | (e, some a) => (e.answer op.code r a ((d.takeCounter r).backOf r)).passOn op.code r
      | (e, none) => e.passOn op.code r := by
  obtain ⟨fr, im, n, e⟩ := takeCounter_eq d r
  have hw : (d.takeCounter r).cutOff op.code r = false := by rw [e]; exact h.whole
  rcases serve_begins (chk := chk) (act := act) h hb with hs | ⟨a, ha, -⟩
  · rw [hs]
    unfold Dev.begin_
    rw [hc, hw]
    simp only [Bool.false_eq_true, if_false]
    split <;> simp_all
  · rw [hc] at ha; cases ha

/-- A request the engine serves and whose own checks refuse it is answered, and nothing else. -/
theorem serve_refuses {op : Op} {r : Req} {d : Dev} {chk : Dev → Req → Option Answer} {act : Dev → Req → Dev × Option Answer} {a : Answer}
    (h : Serves op r d) (hb : d.begun = none) (hc : chk (d.takeCounter r) r = some a) :
    serve op chk act r d = ((d.takeCounter r).answer op.code r a ((d.takeCounter r).backOf r)).passOn op.code r := by
  rcases serve_begins (chk := chk) (act := act) h hb with hs | ⟨b, hb', hs⟩
  · rw [hs]
    unfold Dev.begin_
    rw [hc]
  · rw [hs]
    rw [hc] at hb'
    cases hb'
    rfl

/-! ## The reply -/

theorem passOn_trails (d : Dev) (op : Nat) (r : Req) : Trails d (d.passOn op r) := by
  unfold Dev.passOn
  split
  · exact .refl d
  · split
    · split
      · exact chainSend_trails ..
      · exact .refl d
    · split
      · exact chainSend_trails ..
      · exact .refl d
    · exact flood_trails ..
    · exact flood_trails ..
    · exact .refl d

theorem statusFlags_none {d : Dev} {h : HostId} {s : Status} (h1 : s ≠ .auth) (h2 : s ≠ .overrun) : d.statusFlags h s = d := by
  simp [Dev.statusFlags, h1, h2]

/-- A frame sent takes an FSEQ and leaves, or nothing happens where no route exists. -/
theorem sendTo_eq (d : Dev) (k a : Nat) (b : List Byte) :
    (d.route a = none ∧ d.sendTo k a b = d) ∨
    (∃ m, d.route a = some m ∧ d.sendTo k a b = { d with
      kcp := { d.kcp with fseq := d.kcp.fseq.put k ((d.kcp.fseq.get k 0 + 1) % 2 ^ 32) },
      out := d.out ++ [.frame (40 + m) k (seamFrame k (frameClass k false) 32 a d.addr (d.kcp.fseq.get k 0) b)] }) := by
  unfold Dev.sendTo
  cases h : d.route a with
  | none => exact .inl ⟨rfl, rfl⟩
  | some m => exact .inr ⟨m, rfl, rfl⟩

/-- What sending a packet may change: an uplink's queue, the service port's, its drop counter, an FSEQ, the outputs. -/
theorem send_cases (d : Dev) (p : Reply) :
    (d.send p).kcp = { d.kcp with replyQ := (d.send p).kcp.replyQ, fseq := (d.send p).kcp.fseq } ∧
    (d.send p).boot = { d.boot with svcOut := (d.send p).boot.svcOut } ∧
    (∀ k, k ≠ P.SVC_DROP.key [] → (d.send p).prm.get? k = d.prm.get? k) ∧
    Untouched [.clk, .time, .tbl, .evt, .nv, .plc, .ing, .pipe, .cal, .fus, .mem, .conv, .shut, .free] d (d.send p) ∧
    (d.send p).pins = d.pins ∧ d.out <+: (d.send p).out := by
  have same : ∀ e : Dev, e = d → e.kcp = { d.kcp with replyQ := e.kcp.replyQ, fseq := e.kcp.fseq } ∧
      e.boot = { d.boot with svcOut := e.boot.svcOut } ∧ (∀ k, k ≠ P.SVC_DROP.key [] → e.prm.get? k = d.prm.get? k) ∧
      Untouched [.clk, .time, .tbl, .evt, .nv, .plc, .ing, .pipe, .cal, .fus, .mem, .conv, .shut, .free] d e ∧
      e.pins = d.pins ∧ d.out <+: e.out := by
    rintro e rfl
    exact ⟨rfl, rfl, fun _ _ => rfl, by intro x _; cases x <;> simp [DevPart.same], rfl, List.prefix_refl _⟩
  have frame : ∀ a b, (d.sendTo 3 a b).kcp = { d.kcp with replyQ := (d.sendTo 3 a b).kcp.replyQ, fseq := (d.sendTo 3 a b).kcp.fseq } ∧
      (d.sendTo 3 a b).boot = { d.boot with svcOut := (d.sendTo 3 a b).boot.svcOut } ∧
      (∀ k, k ≠ P.SVC_DROP.key [] → (d.sendTo 3 a b).prm.get? k = d.prm.get? k) ∧
      Untouched [.clk, .time, .tbl, .evt, .nv, .plc, .ing, .pipe, .cal, .fus, .mem, .conv, .shut, .free] d (d.sendTo 3 a b) ∧
      (d.sendTo 3 a b).pins = d.pins ∧ d.out <+: (d.sendTo 3 a b).out := by
    intro a b
    rcases sendTo_eq d 3 a b with ⟨-, h⟩ | ⟨m, -, h⟩
    · exact same _ h
    · rw [h]
      exact ⟨rfl, rfl, fun _ _ => rfl, by intro x _; cases x <;> simp [DevPart.same] at *, rfl, List.prefix_append ..⟩
  unfold Dev.send
  cases p.host.via <;> dsimp only
  case uplink =>
    split
    · exact ⟨rfl, rfl, fun _ _ => rfl, by intro x _; cases x <;> simp [DevPart.same], rfl, List.prefix_append ..⟩
    · exact ⟨rfl, rfl, fun _ _ => rfl, by intro x _; cases x <;> simp [DevPart.same] at *, rfl, List.prefix_refl _⟩
  case service =>
    split
    · exact ⟨rfl, rfl, fun _ _ => rfl, by intro x _; cases x <;> simp [DevPart.same] at *, rfl, List.prefix_refl _⟩
    · exact ⟨rfl, rfl, fun k hk => Dev.get?_wr_other _ _ _ _ _ hk, by intro x _; cases x <;> simp [DevPart.same], rfl, List.prefix_refl _⟩
  case chain => exact ⟨rfl, rfl, fun _ _ => rfl, by intro x _; cases x <;> simp [DevPart.same], rfl, List.prefix_append ..⟩
  case relay => exact frame _ _
  case device => exact frame _ _
  all_goals exact same _ rfl

theorem send_leaves (d : Dev) (p : Reply) : Leaves p d (d.send p) := by
  have frame : ∀ m, d.route p.host.ingress = some m → Out.frame (40 + m) 3 (backFrame p d) ∈
      (d.sendTo 3 p.host.ingress (envelope p.host.ingress p.host.hid p.rseq true ++ replyPacket p)).out := by
    intro m hm
    rcases sendTo_eq d 3 p.host.ingress (envelope p.host.ingress p.host.hid p.rseq true ++ replyPacket p) with ⟨h, -⟩ | ⟨n, h, e⟩
    · rw [hm] at h; cases h
    · rw [hm] at h; cases h
      rw [e]
      exact List.mem_append_right _ (List.mem_singleton.2 rfl)
  unfold Leaves Dev.send
  cases hv : p.host.via <;> dsimp only
  case uplink =>
    split
    · simp
    · simp [KMap.upd]
  case chain => simp
  case service => intro g; simp [g]
  case relay => exact frame
  case device => exact frame

/-- A packet sent, and what follows a command. -/
theorem carried_of_trails {p : Reply} {e t : Dev} (ht : Trails (e.send p) t) (hp : PinsAgree t) : Carried p e t := by
  obtain ⟨sk, sb, sp, su, spins, so⟩ := send_cases e p
  have hb : (e.send p).boot = t.boot := ht.parts .boot (by simp)
  have hplc : (e.send p).plc = e.plc := (su .plc (by simp)).symm
  have hout : ∀ o, o ∈ (e.send p).out → o ∈ t.out := fun o h => ht.outputs.subset h
  exact {
    leaves := by
      have h := send_leaves e p
      have hq : t.kcp.replyQ = (e.send p).kcp.replyQ := by rw [ht.engine]
      unfold Leaves at h ⊢
      cases hv : p.host.via <;> rw [hv] at h <;> dsimp only at h ⊢
      case uplink =>
        split
        · rename_i g; rw [if_pos g] at h; exact hout _ h
        · rename_i g; rw [if_neg g] at h; rw [hq]; exact h
      case service =>
        rw [← hb]
        exact h
      case chain => exact hout _ h
      all_goals first | trivial | exact fun m hm => hout _ (h m hm)
    parts := by
      intro x hx
      have a1 := su x (by revert hx; cases x <;> simp)
      have a2 := ht.parts x (by revert hx; cases x <;> simp)
      cases x <;> first
        | exact Eq.trans a1 a2
        | exact ⟨Eq.trans a1.1 a2.1, Eq.trans a1.2.1 a2.2.1, Eq.trans a1.2.2 a2.2.2⟩
        | (exfalso; revert hx; simp)
    fields := by
      intro k hk
      rw [ht.fields k fun f hf => hk f (List.mem_append_left [(P.SVC_DROP, [])] hf), sp k (hk (P.SVC_DROP, []) (by simp))]
    service := by rw [← hb, sb]
    engine := by rw [ht.engine, sk]
    array := by rw [ht.array, hplc]
    inputs := by rw [ht.inputs.1, ht.inputs.2, spins]; exact ⟨rfl, rfl⟩
    outputs := so.trans ht.outputs
    pins := hp }

theorem formReply_isReply (d : Dev) (op : Nat) (r : Req) (a : Answer) (k : Back) :
    IsReply op r a (d.formReply op r a k) := by
  unfold Dev.formReply
  dsimp only
  split <;> exact ⟨rfl, rfl, rfl, rfl, rfl, rfl, rfl⟩

/-- One answer, kept and sent, and what follows a command; ST_AUTH and ST_OVERRUN set their flags first. -/
theorem replied_of_follows {op : Nat} {r : Req} {a : Answer} {key : Back} {e t : Dev}
    (h : Follows ((e.answer op r a key).passOn op r) t) : Replied op r a (e.statusFlags r.host a.status) t :=
  ⟨_, formReply_isReply _ op r a key, carried_of_trails ((passOn_trails _ op r).trans h.toTrails) h.pins⟩

/-- One answer, sent and not kept. -/
theorem turned_of_follows {op : Nat} {r : Req} {a : Answer} {key : Back} {e t : Dev}
    (h : Follows (e.answerOnly op r a key) t) : Turned op r a (e.statusFlags r.host a.status) t :=
  ⟨_, formReply_isReply _ op r a key, carried_of_trails h.toTrails h.pins⟩

/-- A request that is served, whose own checks pass and whose effect answers, completes with that effect and that answer. -/
theorem request_completes {c : Instr} {s : State} {f : Dev → Dev} {op : Op} {chk : Dev → Req → Option Answer}
    {act : Dev → Req → Dev × Option Answer} {r : Req} {e : Dev} {a : Answer} (hx : exec c s = .next (s.run f))
    (hf : f s.here = serve op chk act r s.here) (h : Serves op r s.dev) (hc : chk (s.here.takeCounter r) r = none)
    (ha : act (s.dev.taken r) r = (e, some a)) (h1 : a.status ≠ .auth) (h2 : a.status ≠ .overrun) :
    Completes c s (Replied op.code r a e) := by
  refine completes_of_run hx fun t ht => ?_
  rw [hf, serve_acts (serves_here h) rfl hc] at ht
  have ha' : act (s.here.takeCounter r).queued r = (e, some a) := ha
  rw [ha'] at ht
  have := replied_of_follows ht
  rwa [statusFlags_none h1 h2] at this

/-- A request that is served and whose own checks refuse it completes with that answer and no effect. -/
theorem request_refused {c : Instr} {s : State} {f : Dev → Dev} {op : Op} {chk : Dev → Req → Option Answer}
    {act : Dev → Req → Dev × Option Answer} {r : Req} {a : Answer} (hx : exec c s = .next (s.run f))
    (hf : f s.here = serve op chk act r s.here) (h : Serves op r s.dev) (hc : chk (s.here.takeCounter r) r = some a)
    (h1 : a.status ≠ .auth) (h2 : a.status ≠ .overrun) : Completes c s (Replied op.code r a (s.here.takeCounter r)) := by
  refine completes_of_run hx fun t ht => ?_
  rw [hf, serve_refuses (serves_here h) rfl hc] at ht
  have := replied_of_follows ht
  rwa [statusFlags_none h1 h2] at this

/-- A request that is served, whose own checks pass and whose reply is held, completes with its effect. -/
theorem request_holds {c : Instr} {s : State} {f : Dev → Dev} {op : Op} {chk : Dev → Req → Option Answer}
    {act : Dev → Req → Dev × Option Answer} {r : Req} {e : Dev} (hx : exec c s = .next (s.run f))
    (hf : f s.here = serve op chk act r s.here) (h : Serves op r s.dev) (hc : chk (s.here.takeCounter r) r = none)
    (ha : act (s.dev.taken r) r = (e, none)) : Completes c s (Follows e) := by
  refine completes_of_run hx fun t ht => ?_
  rw [hf, serve_acts (serves_here h) rfl hc] at ht
  have ha' : act (s.here.takeCounter r).queued r = (e, none) := ha
  rw [ha'] at ht
  exact ⟨(passOn_trails e op.code r).trans ht.toTrails, ht.pins⟩

/-! ## The rows -/

theorem run_congr {s : State} {f g : Dev → Dev} (h : f s.here = g s.here) : s.run f = s.run g := by
  unfold State.run Dev.run
  have h' : f { s.dev with out := [], begun := none } = g { s.dev with out := [], begun := none } := h
  rw [h']

theorem debugReq_serves (q : Req) : ∃ chk act, debugReq q =
    serve ⟨0x8006, if q.host.via = .service && q.auth.isNone then .open_ else .service, false⟩ chk act q := ⟨_, _, rfl⟩

theorem debugUnlock_serves (s : State) (r : Req) {op q} (h : requestOf s.here (.debugUnlock r) = some (op, q)) :
    ∃ chk act, exec (.debugUnlock r) s = .next (s.run (serve op chk act q)) := by
  simp only [requestOf, Option.some.injEq, Prod.mk.injEq] at h
  obtain ⟨rfl, rfl⟩ := h
  obtain ⟨chk, act, e⟩ := debugReq_serves (if r.params.length ≤ 4 then { r with params := fitTo 132 0 r.params } else r)
  refine ⟨chk, act, ?_⟩
  show Host.Outcome.next (s.run (debugReq _)) = _
  rw [e]
  split <;> rfl

theorem seqGo_serves (s : State) (r : Req) (m : Nat) {op q} (h : requestOf s.here (.seqGo r m) = some (op, q)) :
    ∃ chk act, exec (.seqGo r m) s = .next (s.run (serve op chk act q)) := by
  simp only [requestOf, Option.some.injEq, Prod.mk.injEq] at h
  obtain ⟨rfl, rfl⟩ := h
  obtain ⟨chk, act, e⟩ : ∃ chk act, ∀ q, prmWrite q = serve ⟨0x4001, .operator, true⟩ chk act q := ⟨_, _, fun _ => rfl⟩
  refine ⟨chk, act, ?_⟩
  rw [← e]
  show Host.Outcome.next (s.run (seqGoWrite r m)) = _
  exact congrArg _ (run_congr (by unfold seqGoWrite; rfl))

/-- Every command that carries a request runs the packet engine on it, under checks and an effect of its own. -/
theorem requestOf_serves {c : Instr} {s : State} {op : Op} {q : Req} (h : requestOf s.here c = some (op, q)) :
    ∃ chk act, exec c s = .next (s.run (serve op chk act q)) := by
  cases c
  case debugUnlock r => exact debugUnlock_serves s r h
  case seqGo r m => exact seqGo_serves s r m h
  all_goals
    simp only [requestOf, Option.some.injEq, Prod.mk.injEq, reduceCtorEq] at h
  all_goals
    obtain ⟨rfl, rfl⟩ := h
    exact ⟨_, _, rfl⟩

end Sys2Proof.Machine
end

