-- ==== Sys2Proof/Laws/Mem.lean ====
section
/-!
SUPPORT. Sys2Proof/Laws/Mem.lean: what the operations of the table memory do: every one keeps the canonical form, a byte written
reads back, and every other byte reads as before.
-/
namespace Sys2Proof.Machine

/-- Every table memory is in canonical form: the write operations keep it (`Mem.writeCells_wf`). -/
theorem Mem.cells_wf (m : Mem) : Memory.wf m.cells = true := m.ok

theorem Mem.cells_rising (m : Mem) : rising m.cells = true := by
  have h := m.ok
  simp only [Memory.wf, Bool.and_eq_true] at h
  exact h.1

@[simp] theorem Mem.read_write_same (m : Mem) (a : Nat) (b : Byte) : (m.write a b).read a = b := by
  unfold Mem.write Mem.read Mem.writeCells
  split
  · rename_i h
    simp [findKey_eraseKey_same a m.cells m.cells_rising, h]
  · simp [findKey_insertKey_same]

theorem Mem.read_write_other (m : Mem) {a c : Nat} (b : Byte) (h : c ≠ a) : (m.write a b).read c = m.read c := by
  unfold Mem.write Mem.read Mem.writeCells
  split
  · simp [findKey_eraseKey_other m.cells m.cells_rising h]
  · simp [findKey_insertKey_other b m.cells h]

/-- A byte outside the written ones reads as before. -/
theorem Mem.read_writes_outside (bs : List Byte) (m : Mem) (a c : Nat) (h : c < a ∨ a + bs.length ≤ c) :
    (m.writes a bs).read c = m.read c := by
  induction bs generalizing m a with
  | nil => rfl
  | cons b t ih =>
    have hc : c ≠ a := by simp only [List.length_cons] at h; omega
    simp only [Mem.writes]
    rw [ih (m.write a b) (a + 1) (by simp only [List.length_cons] at h; omega), Mem.read_write_other m b hc]

/-- Byte `i` of the written ones reads back. -/
theorem Mem.read_writes_inside (bs : List Byte) (m : Mem) (a i : Nat) (h : i < bs.length) :
    (m.writes a bs).read (a + i) = bs[i] := by
  induction bs generalizing m a i with
  | nil => simp at h
  | cons b t ih =>
    simp only [Mem.writes]
    cases i with
    | zero => rw [Mem.read_writes_outside t _ (a + 1) (a + 0) (by omega)]; simp
    | succ i =>
      have := ih (m.write a b) (a + 1) i (by simpa using h)
      rw [show a + (i + 1) = a + 1 + i by omega, this]
      simp

/-- The bytes written read back together. -/
theorem Mem.reads_writes (bs : List Byte) (m : Mem) (a : Nat) : (m.writes a bs).reads a bs.length = bs := by
  apply List.ext_getElem
  · simp [Mem.reads]
  · intro i h1 h2
    simp only [Mem.reads, List.getElem_map, List.getElem_range]
    exact Mem.read_writes_inside bs m a i h2

end Sys2Proof.Machine
end

