-- ==== Sys2Proof/WellFormed.lean ====
section
/-!
DEFINITION. Sys2Proof/WellFormed.lean: the commands whose operands fit the fields that carry them: the widths of a KCP header
(Table 2-1), of a relay envelope (R228), of a Seamlink header (Table 7-5), and the ranges of unit numbers.
-/
namespace Sys2Proof

/-- A number fits in `w` bits. -/
def fits (w n : Nat) : Bool := decide (n < 2 ^ w)

/-- A VLAN ID has 12 bits. -/
def vlanWf (v : Option Nat) : Bool := v.all (fits 12)

/-- A host identity's fields fit (R55). -/
def hostWf (h : HostId) : Bool :=
  decide (h.uplink < 4) && vlanWf h.vlan && fits (if h.v6 then 128 else 32) h.ip && fits 16 h.port && fits 10 h.ingress &&
  fits 16 h.hid

/-- The authentication prefix of Table 2-6 and a tag of 16 bytes. -/
def authWf (a : Auth) : Bool := fits 8 a.slot && fits 48 a.counter && decide (a.tag.length = 16)

/-- A request fits its header, and its payload the 1,400 bytes of LEN (Table 2-1). -/
def reqWf (r : Req) : Bool :=
  hostWf r.host && fits 4 r.version && fits 10 r.dest && fits 10 r.source && fits 16 r.seq && fits 16 r.gen && fits 16 r.rseq &&
  r.auth.all authWf && decide (r.params.length + (if r.auth.isSome then 8 else 0) ≤ 1400)

/-- A reply fits its header. -/
def answerWf (a : RelayAnswer) : Bool :=
  fits 10 a.source && fits 16 a.opcode && fits 16 a.seq && fits 8 a.status && fits 16 a.detail && fits 16 a.gen &&
  a.auth.all authWf && decide (a.data.length + 4 + (if a.auth.isSome then 8 else 0) ≤ 1400)

/-- A Seamlink header's fields fit (Table 7-5). -/
def seamWf (h : SeamHdr) : Bool :=
  decide (h.link < 8) && fits 8 h.hops && fits 10 h.dest && fits 10 h.src && fits 32 h.fseq

/-- A Seamlink frame's header and length fit. -/
def seamMsgWf (m : SeamMsg) : Bool := seamWf m.hdr && decide (m.body.length ≤ 2048)

/-- Characters of ten bits, at most 1,024 (R195). -/
def charsWf (l : List Nat) : Bool := decide (l.length ≤ 1024) && l.all (fits 10)

/-- A read-back returns at most four bytes (Table 3-5). -/
def writeEndWf (e : WriteEnd) : Bool :=
  match e with
  | .readBack data => decide (data.length ≤ 4)
  | _ => true

/-- A block has 64 bytes and its four code bytes (R269). -/
def dramErrWf (e : DramErr) : Bool :=
  match e with
  | .bytes n => decide (n ≤ 68)
  | _ => true

/-- A relay envelope's fields fit (R228). -/
def envelopeWf (e : Envelope) : Bool := fits 10 e.ingress && fits 16 e.hid && fits 16 e.rseq

/-- What a relay frame carries fits its payload. -/
def relayedWf (m : Relayed) : Bool :=
  match m with
  | .request op r => fits 16 op && reqWf r
  | .reply b => decide (b.length ≤ 1444)

/-- A grandmaster dataset's fields fit. -/
def offerWf (o : Offer) : Bool :=
  fits 8 o.prio1 && fits 8 o.cls && fits 8 o.acc && fits 16 o.var && fits 8 o.prio2 && fits 64 o.gm && fits 16 o.steps

/-- An advertisement's fields fit, one neighbour a link. -/
def lsaWf (l : Lsa) : Bool :=
  fits 64 l.uid && fits 10 l.addr && fits 8 l.state && fits 32 l.seq && decide (l.links.length = 8) && l.links.all (fits 10) &&
  l.offer.all offerWf && fits 64 l.since

/-- A modulator's raw result lies within 32 bits in two's complement. -/
def intWf (i : Int) : Bool := decide (-2147483648 ≤ i ∧ i ≤ 2147483647)

/-- A command is well formed. -/
def Instr.wf (i : Instr) : Bool :=
  match i with
  | .ping r => reqWf r
  | .deviceStatus r => reqWf r
  | .fabricStatus r => reqWf r
  | .fabricProfile r => reqWf r
  | .coreStatus r => reqWf r
  | .coreSetting r => reqWf r
  | .coreEnable r => reqWf r
  | .coreDisable r => reqWf r
  | .frameStats r => reqWf r
  | .pipeStatus r => reqWf r
  | .pipeProfile r => reqWf r
  | .shutterProfile r => reqWf r
  | .shutterNow r => reqWf r
  | .seamSolve r => reqWf r
  | .calStatus r => reqWf r
  | .calReload r => reqWf r
  | .tileStatus r => reqWf r
  | .patchStatus r => reqWf r
  | .blinkRegister r => reqWf r
  | .outputProfile r => reqWf r
  | .enumerate r => reqWf r
  | .addressSet r => reqWf r
  | .census r => reqWf r
  | .censusRead r => reqWf r
  | .configStage r => reqWf r
  | .configActivate r => reqWf r
  | .configDiscard r => reqWf r
  | .placementStatus r => reqWf r
  | .timeStatus r => reqWf r
  | .memStatus r => reqWf r
  | .memProfile r => reqWf r
  | .convSeqStart r => reqWf r
  | .convStatus r => reqWf r
  | .convCalibrateZero r => reqWf r
  | .convCalibrateFullScale r => reqWf r
  | .convCalibrateFactory r => reqWf r
  | .convCalibrateAbandon r => reqWf r
  | .shutterDriveStatus r => reqWf r
  | .shutterTestDiagnose r => reqWf r
  | .shutterTestClose r => reqWf r
  | .shutterTestRelease r => reqWf r
  | .shutterTestClear r => reqWf r
  | .shutterTestApplyProfile r => reqWf r
  | .nvCommit r => reqWf r
  | .nvStatus r => reqWf r
  | .doze r => reqWf r
  | .wake r => reqWf r
  | .workroomRestart r => reqWf r
  | .eventRead r => reqWf r
  | .eventRoute r => reqWf r
  | .logRead r => reqWf r
  | .healthStatus r => reqWf r
  | .prmRead r => reqWf r
  | .prmWrite r => reqWf r
  | .prmBulkRead r => reqWf r
  | .prmBulkWrite r => reqWf r
  | .prmModify r => reqWf r
  | .tapSet r => reqWf r
  | .tapStream r => reqWf r
  | .tapStreamStop r => reqWf r
  | .tableRead r => reqWf r
  | .tableWrite r => reqWf r
  | .marginScan r => reqWf r
  | .marginAbort r => reqWf r
  | .view r => reqWf r
  | .withdraw r => reqWf r
  | .commit r => reqWf r
  | .query r => reqWf r
  | .ready r => reqWf r
  | .state r => reqWf r
  | .done r => reqWf r
  | .reserve r => reqWf r
  | .grant r => reqWf r
  | .release r => reqWf r
  | .sums r => reqWf r
  | .nodes r => reqWf r
  | .censusGather r => reqWf r
  | .configExchange r => reqWf r
  | .keyStatus r => reqWf r
  | .keyRotate r => reqWf r
  | .fwBegin r => reqWf r
  | .fwData r => reqWf r
  | .fwCommit r => reqWf r
  | .fwSelectTrial r => reqWf r
  | .fwSelectConfirm r => reqWf r
  | .debugChallenge r => reqWf r
  | .debugUnlock r => reqWf r
  | .authSet r => reqWf r
  | .parameterWrite r a v => reqWf r && decide (a < 2 ^ 24) && decide (v < 2 ^ 32)
  | .seqGo r m => reqWf r && decide (m < 4)
  | .injGo r ch => reqWf r && decide (ch < 128)
  | .testGo r lane => reqWf r && decide (lane < 128)
  | .directData r v => reqWf r && decide (v < 2 ^ 32)
  | .data r m => reqWf r && decide (m < 4)
  | .timeLo r => reqWf r
  | .fspSel r f => reqWf r && decide (f < 2)
  | .badPacket => true
  | .unmatchedReply => true
  | .kcpForward op r => decide (op < 65536) && reqWf r
  | .relay h e m => seamWf h && envelopeWf e && relayedWf m
  | .relayReply hid x => decide (hid < 65536) && answerWf x
  | .relayTimeout => true
  | .relayGapTimeout ingress hid => decide (ingress < 1024) && decide (hid < 65536)
  | .duplicateCacheExpiry => true
  | .broadcastKcp h op r => seamWf h && decide (op < 65536) && reqWf r
  | .arpRequest u vlan mac ip target => decide (u < 4) && vlanWf vlan && decide (mac < 2 ^ 48) && decide (ip < 2 ^ 32) && decide (target < 2 ^ 32)
  | .icmpEcho u vlan _ src dst body => decide (u < 4) && vlanWf vlan && decide (src < 2 ^ 128) && decide (dst < 2 ^ 128) && decide (body.length ≤ 9216)
  | .neighbourSolicitation u vlan src target => decide (u < 4) && vlanWf vlan && decide (src < 2 ^ 128) && decide (target < 2 ^ 128)
  | .pauseFrame u quanta => decide (u < 4) && decide (quanta < 65536)
  | .pauseEnd u => decide (u < 4)
  | .unservedFrame u _ => decide (u < 4)
  | .sync u _ addr domain seq _ => decide (u < 4) && decide (addr < 2 ^ 128) && decide (domain < 256) && decide (seq < 65536)
  | .followUp u domain seq origin => decide (u < 4) && decide (domain < 256) && decide (seq < 65536) && decide (origin < 2 ^ 64)
  | .delayResp u domain seq received => decide (u < 4) && decide (domain < 256) && decide (seq < 65536) && decide (received < 2 ^ 64)
  | .announce u domain o => decide (u < 4) && decide (domain < 256) && offerWf o
  | .delayReq u => decide (u < 4)
  | .chainFrame _ frame _ _ _ => decide (frame.length ≤ 1449)
  | .enumerationToken frame _ => decide (frame.length ≤ 1449)
  | .noSignal _ => true
  | .signalReturn _ => true
  | .syncCharacter => true
  | .fsync _ => true
  | .syncPeriod => true
  | .heartbeat m b => decide (m < 8) && decide (b.length = 48)
  | .heartbeatSend => true
  | .linkStateAdvertisement h l => seamWf h && lsaWf l
  | .lsaRefresh => true
  | .topologyExpiry uid => decide (uid < 2 ^ 64)
  | .thirdMissedHeartbeat m => decide (m < 8)
  | .lossReport h uid addr => seamWf h && decide (uid < 2 ^ 64) && decide (addr < 1024)
  | .linkUp m _ => decide (m < 8)
  | .contribution m => seamMsgWf m
  | .tileRecordCarriage m => seamMsgWf m
  | .handoverData m => seamMsgWf m
  | .configurationBlock m => seamMsgWf m
  | .svcSend frame _ => decide (frame.length ≤ 1449)
  | .svcReceive => true
  | .svcStatus _ => true
  | .hold => true
  | .debugRequest m => decide (m.length ≤ 1444)
  | .frameStart l vc fn _ => decide (l < 32) && decide (vc < 4) && decide (fn < 65536)
  | .frameEnd l vc n _ => decide (l < 32) && decide (vc < 4) && decide (n < 65536)
  | .lineStart l vc n _ => decide (l < 32) && decide (vc < 4) && decide (n < 65536)
  | .lineEnd l vc _ => decide (l < 32) && decide (vc < 4)
  | .imageLine l vc dt payload _ _ => decide (l < 32) && decide (vc < 4) && decide (dt < 64) && decide (payload.length ≤ 65535)
  | .telemetry l vc dt payload _ _ => decide (l < 32) && decide (vc < 4) && decide (dt < 64) && decide (payload.length ≤ 65535)
  | .genericShortPacket l vc _ => decide (l < 32) && decide (vc < 4)
  | .frameTimeout strm => decide (strm < 128)
  | .coreWrite b e => decide (b < 8) && writeEndWf e
  | .laneGrant lane => decide (lane < 128)
  | .passA lane errs => decide (lane < 128) && errs.all fun e => decide (e.block < 1024)
  | .passB lane => decide (lane < 128)
  | .recordRepair _ => true
  | .alarmHold => true
  | .selftest _ => true
  | .alarmLineFault bridge _ => decide (bridge < 2)
  | .tapDatagram t => decide (t < 16)
  | .rateWindow r rate => decide (r < 4) && decide (rate < 65536)
  | .bridgeTransferError x => decide (x.bridge < 2)
  | .cycleRequest k => decide (k < 64)
  | .retry k => decide (k < 64)
  | .grantStartLimit k => decide (k < 64)
  | .maxDefer k => decide (k < 64)
  | .grantVoid p => decide (p < 2 ^ 22)
  | .openSettleEnd k => decide (k < 64)
  | .openConfirmation k => decide (k < 64)
  | .openConfirmationTimeout k => decide (k < 64)
  | .flagClosedFault k => decide (k < 64)
  | .gatherResult k => decide (k < 64)
  | .learnedSetStore _ => true
  | .seamSample => true
  | .seamPeriod => true
  | .solveEnd r => decide (r < 4)
  | .publication p => decide (p < 2 ^ 22)
  | .holdPeriod p => decide (p < 2 ^ 22)
  | .hitRecord => true
  | .tileRecordSend b => decide (b < 200)
  | .heldNoticeRepeat t => decide (t < 2 ^ 18)
  | .tileSilent t => decide (t < 2 ^ 18)
  | .healthQuery b => decide (b < 200)
  | .healthReply b lead codes rest => decide (b < 200) && charsWf lead && charsWf codes && charsWf rest
  | .replyWindowClose b => decide (b < 200)
  | .registrationSession => true
  | .registrationEnd => true
  | .directoryDecision p => decide (p < 2 ^ 22)
  | .rebalPeriod => true
  | .rateMove r => decide (r < 4)
  | .directoryTakeover p => decide (p < 2 ^ 22)
  | .commitRepeat p => decide (p < 2 ^ 22)
  | .viewRefresh => true
  | .configExchangeSend => true
  | .stagingComplete => true
  | .activation => true
  | .censusWait => true
  | .refreshDue n b _ => decide (n < 16) && decide (b < 8)
  | .mr4Poll codes => decide (codes.length = 16) && codes.all (fits 3)
  | .zqCalibration c => decide (c < 8)
  | .powerDownEntry n => decide (n < 16)
  | .setPointSwitch => true
  | .dramReadError n bank row col x e => decide (n < 16) && decide (bank < 8) && decide (row < 65536) && decide (col < 1024) && decide (x.port < 26) && dramErrWf e
  | .migrateDone => true
  | .marginScanStep c errors => decide (c < 8) && decide (errors < 65536)
  | .conversionEnd m raw _ up down => decide (m < 4) && intWf raw && intWf up && intWf down
  | .calStepDone m => decide (m < 4)
  | .watchPeriod => true
  | .pullInEnd n mA => decide (n < 64) && decide (mA < 65536)
  | .maxOn n => decide (n < 64)
  | .releaseDecayEnd n => decide (n < 64)
  | .onStateFault n _ => decide (n < 64)
  | .offStateDiagnosis n mv hs _ => decide (n < 64) && decide (mv < 65536) && decide (hs < 65536)
  | .diagPeriod n => decide (n < 64)
  | .stuckOn j => decide (j < 32)
  | .vshutLow mv => decide (mv < 65536)
  | .idleCommit => true
  | .commitEnd _ => true
  | .immediateRecord _ => true
  | .compaction a => decide (a < 8)
  | .refreshScan weak bulk prog => decide (weak.length ≤ 65536) && decide (bulk.length ≤ 65536) && decide (prog < 101)
  | .recallEnd part => part.all fun p => decide (p.1 < 2 ^ 64)
  | .bulkLost => true
  | .bulkRecordWrite _ => true
  | .powerOn _ => true
  | .resetN low _ => decide (low < 2 ^ 64)
  | .supervisorTrip rail _ _ => decide (rail < 16)
  | .thimbleFatal _ => true
  | .resetRelease _ => true
  | .memoryTestEnd failed => failed.all (fits 4)
  | .imageVerified => true
  | .started => true
  | .configRecalled => true
  | .watchdog => true
  | .fwViolation addr => decide (addr < 2 ^ 32)
  | .fatalException => true
  | .wrRestart => true
  | .trialTime => true
  | .sessionTimeout => true
  | .challengeExpiry => true
  | .dozeEntry _ => true
  | .wakePin _ => true
  | .wakeComplete => true
  | .evtHoldoff src => decide (src < 512)
  | .eventDelivery dst => decide (dst < 4)
  | .logWrite _ => true
  | .supplyGrade => true
  | .baselineStore => true
  | .linkHealth => true
  | .coreHealth => true
  | .tjHistogram tj => decide (tj < 65536)
  | .powerOnHours => true
  | .unallocatedOpcode op r => decide (op < 65536) && reqWf r
  | .csiLinkUp l _ => decide (l < 32)
  | .uplinkLinkUp u _ => decide (u < 4)
  | .ulModabs u _ => decide (u < 4)
  | .releasePhaseEnd k => decide (k < 64)
  | .silentRecordRepeat t => decide (t < 2 ^ 18)

end Sys2Proof
end

