-- ==== Sys2Proof/Laws/PerInstr.lean ====
section
/-!
SUPPORT. Sys2Proof/Laws/PerInstr.lean: one statement for each command as syntax: a well-formed command that carries a request carries
one that fits its header (Table 2-1), command by command.
-/
namespace Sys2Proof.Laws.Fits

/-- The request a command carries. -/
def requestOf (i : Instr) : Option Req :=
  match i with
  | .ping r => some r
  | .deviceStatus r => some r
  | .fabricStatus r => some r
  | .fabricProfile r => some r
  | .coreStatus r => some r
  | .coreSetting r => some r
  | .coreEnable r => some r
  | .coreDisable r => some r
  | .frameStats r => some r
  | .pipeStatus r => some r
  | .pipeProfile r => some r
  | .shutterProfile r => some r
  | .shutterNow r => some r
  | .seamSolve r => some r
  | .calStatus r => some r
  | .calReload r => some r
  | .tileStatus r => some r
  | .patchStatus r => some r
  | .blinkRegister r => some r
  | .outputProfile r => some r
  | .enumerate r => some r
  | .addressSet r => some r
  | .census r => some r
  | .censusRead r => some r
  | .configStage r => some r
  | .configActivate r => some r
  | .configDiscard r => some r
  | .placementStatus r => some r
  | .timeStatus r => some r
  | .memStatus r => some r
  | .memProfile r => some r
  | .convSeqStart r => some r
  | .convStatus r => some r
  | .convCalibrateZero r => some r
  | .convCalibrateFullScale r => some r
  | .convCalibrateFactory r => some r
  | .convCalibrateAbandon r => some r
  | .shutterDriveStatus r => some r
  | .shutterTestDiagnose r => some r
  | .shutterTestClose r => some r
  | .shutterTestRelease r => some r
  | .shutterTestClear r => some r
  | .shutterTestApplyProfile r => some r
  | .nvCommit r => some r
  | .nvStatus r => some r
  | .doze r => some r
  | .wake r => some r
  | .workroomRestart r => some r
  | .eventRead r => some r
  | .eventRoute r => some r
  | .logRead r => some r
  | .healthStatus r => some r
  | .prmRead r => some r
  | .prmWrite r => some r
  | .prmBulkRead r => some r
  | .prmBulkWrite r => some r
  | .prmModify r => some r
  | .tapSet r => some r
  | .tapStream r => some r
  | .tapStreamStop r => some r
  | .tableRead r => some r
  | .tableWrite r => some r
  | .marginScan r => some r
  | .marginAbort r => some r
  | .view r => some r
  | .withdraw r => some r
  | .commit r => some r
  | .query r => some r
  | .ready r => some r
  | .state r => some r
  | .done r => some r
  | .reserve r => some r
  | .grant r => some r
  | .release r => some r
  | .sums r => some r
  | .nodes r => some r
  | .censusGather r => some r
  | .configExchange r => some r
  | .keyStatus r => some r
  | .keyRotate r => some r
  | .fwBegin r => some r
  | .fwData r => some r
  | .fwCommit r => some r
  | .fwSelectTrial r => some r
  | .fwSelectConfirm r => some r
  | .debugChallenge r => some r
  | .debugUnlock r => some r
  | .authSet r => some r
  | .parameterWrite r _ _ => some r
  | .seqGo r _ => some r
  | .injGo r _ => some r
  | .testGo r _ => some r
  | .directData r _ => some r
  | .data r _ => some r
  | .timeLo r => some r
  | .fspSel r _ => some r
  | .badPacket => none
  | .unmatchedReply => none
  | .kcpForward _ r => some r
  | .relay _ _ _ => none
  | .relayReply _ _ => none
  | .relayTimeout => none
  | .relayGapTimeout _ _ => none
  | .duplicateCacheExpiry => none
  | .broadcastKcp _ _ r => some r
  | .arpRequest _ _ _ _ _ => none
  | .icmpEcho _ _ _ _ _ _ => none
  | .neighbourSolicitation _ _ _ _ => none
  | .pauseFrame _ _ => none
  | .pauseEnd _ => none
  | .unservedFrame _ _ => none
  | .sync _ _ _ _ _ _ => none
  | .followUp _ _ _ _ => none
  | .delayResp _ _ _ _ => none
  | .announce _ _ _ => none
  | .delayReq _ => none
  | .chainFrame _ _ _ _ _ => none
  | .enumerationToken _ _ => none
  | .noSignal _ => none
  | .signalReturn _ => none
  | .syncCharacter => none
  | .fsync _ => none
  | .syncPeriod => none
  | .heartbeat _ _ => none
  | .heartbeatSend => none
  | .linkStateAdvertisement _ _ => none
  | .lsaRefresh => none
  | .topologyExpiry _ => none
  | .thirdMissedHeartbeat _ => none
  | .lossReport _ _ _ => none
  | .linkUp _ _ => none
  | .contribution _ => none
  | .tileRecordCarriage _ => none
  | .handoverData _ => none
  | .configurationBlock _ => none
  | .svcSend _ _ => none
  | .svcReceive => none
  | .svcStatus _ => none
  | .hold => none
  | .debugRequest _ => none
  | .frameStart _ _ _ _ => none
  | .frameEnd _ _ _ _ => none
  | .lineStart _ _ _ _ => none
  | .lineEnd _ _ _ => none
  | .imageLine _ _ _ _ _ _ => none
  | .telemetry _ _ _ _ _ _ => none
  | .genericShortPacket _ _ _ => none
  | .frameTimeout _ => none
  | .coreWrite _ _ => none
  | .laneGrant _ => none
  | .passA _ _ => none
  | .passB _ => none
  | .recordRepair _ => none
  | .alarmHold => none
  | .selftest _ => none
  | .alarmLineFault _ _ => none
  | .tapDatagram _ => none
  | .rateWindow _ _ => none
  | .bridgeTransferError _ => none
  | .cycleRequest _ => none
  | .retry _ => none
  | .grantStartLimit _ => none
  | .maxDefer _ => none
  | .grantVoid _ => none
  | .openSettleEnd _ => none
  | .openConfirmation _ => none
  | .openConfirmationTimeout _ => none
  | .flagClosedFault _ => none
  | .gatherResult _ => none
  | .learnedSetStore _ => none
  | .seamSample => none
  | .seamPeriod => none
  | .solveEnd _ => none
  | .publication _ => none
  | .holdPeriod _ => none
  | .hitRecord => none
  | .tileRecordSend _ => none
  | .heldNoticeRepeat _ => none
  | .tileSilent _ => none
  | .healthQuery _ => none
  | .healthReply _ _ _ _ => none
  | .replyWindowClose _ => none
  | .registrationSession => none
  | .registrationEnd => none
  | .directoryDecision _ => none
  | .rebalPeriod => none
  | .rateMove _ => none
  | .directoryTakeover _ => none
  | .commitRepeat _ => none
  | .viewRefresh => none
  | .configExchangeSend => none
  | .stagingComplete => none
  | .activation => none
  | .censusWait => none
  | .refreshDue _ _ _ => none
  | .mr4Poll _ => none
  | .zqCalibration _ => none
  | .powerDownEntry _ => none
  | .setPointSwitch => none
  | .dramReadError _ _ _ _ _ _ => none
  | .migrateDone => none
  | .marginScanStep _ _ => none
  | .conversionEnd _ _ _ _ _ => none
  | .calStepDone _ => none
  | .watchPeriod => none
  | .pullInEnd _ _ => none
  | .maxOn _ => none
  | .releaseDecayEnd _ => none
  | .onStateFault _ _ => none
  | .offStateDiagnosis _ _ _ _ => none
  | .diagPeriod _ => none
  | .stuckOn _ => none
  | .vshutLow _ => none
  | .idleCommit => none
  | .commitEnd _ => none
  | .immediateRecord _ => none
  | .compaction _ => none
  | .refreshScan _ _ _ => none
  | .recallEnd _ => none
  | .bulkLost => none
  | .bulkRecordWrite _ => none
  | .powerOn _ => none
  | .resetN _ _ => none
  | .supervisorTrip _ _ _ => none
  | .thimbleFatal _ => none
  | .resetRelease _ => none
  | .memoryTestEnd _ => none
  | .imageVerified => none
  | .started => none
  | .configRecalled => none
  | .watchdog => none
  | .fwViolation _ => none
  | .fatalException => none
  | .wrRestart => none
  | .trialTime => none
  | .sessionTimeout => none
  | .challengeExpiry => none
  | .dozeEntry _ => none
  | .wakePin _ => none
  | .wakeComplete => none
  | .evtHoldoff _ => none
  | .eventDelivery _ => none
  | .logWrite _ => none
  | .supplyGrade => none
  | .baselineStore => none
  | .linkHealth => none
  | .coreHealth => none
  | .tjHistogram _ => none
  | .powerOnHours => none
  | .unallocatedOpcode _ r => some r
  | .csiLinkUp _ _ => none
  | .uplinkLinkUp _ _ => none
  | .ulModabs _ _ => none
  | .releasePhaseEnd _ => none
  | .silentRecordRepeat _ => none

/-- A well-formed command's request fits. -/
def Statement (i : Instr) : Prop := i.wf = true → (requestOf i).all reqWf = true

theorem first {a b : Bool} (h : (a && b) = true) : a = true := by cases a <;> simp_all

theorem second {a b : Bool} (h : (a && b) = true) : b = true := by cases a <;> simp_all

theorem ping (r : Req) : Statement (.ping r) := fun h => h
theorem deviceStatus (r : Req) : Statement (.deviceStatus r) := fun h => h
theorem fabricStatus (r : Req) : Statement (.fabricStatus r) := fun h => h
theorem fabricProfile (r : Req) : Statement (.fabricProfile r) := fun h => h
theorem coreStatus (r : Req) : Statement (.coreStatus r) := fun h => h
theorem coreSetting (r : Req) : Statement (.coreSetting r) := fun h => h
theorem coreEnable (r : Req) : Statement (.coreEnable r) := fun h => h
theorem coreDisable (r : Req) : Statement (.coreDisable r) := fun h => h
theorem frameStats (r : Req) : Statement (.frameStats r) := fun h => h
theorem pipeStatus (r : Req) : Statement (.pipeStatus r) := fun h => h
theorem pipeProfile (r : Req) : Statement (.pipeProfile r) := fun h => h
theorem shutterProfile (r : Req) : Statement (.shutterProfile r) := fun h => h
theorem shutterNow (r : Req) : Statement (.shutterNow r) := fun h => h
theorem seamSolve (r : Req) : Statement (.seamSolve r) := fun h => h
theorem calStatus (r : Req) : Statement (.calStatus r) := fun h => h
theorem calReload (r : Req) : Statement (.calReload r) := fun h => h
theorem tileStatus (r : Req) : Statement (.tileStatus r) := fun h => h
theorem patchStatus (r : Req) : Statement (.patchStatus r) := fun h => h
theorem blinkRegister (r : Req) : Statement (.blinkRegister r) := fun h => h
theorem outputProfile (r : Req) : Statement (.outputProfile r) := fun h => h
theorem enumerate (r : Req) : Statement (.enumerate r) := fun h => h
theorem addressSet (r : Req) : Statement (.addressSet r) := fun h => h
theorem census (r : Req) : Statement (.census r) := fun h => h
theorem censusRead (r : Req) : Statement (.censusRead r) := fun h => h
theorem configStage (r : Req) : Statement (.configStage r) := fun h => h
theorem configActivate (r : Req) : Statement (.configActivate r) := fun h => h
theorem configDiscard (r : Req) : Statement (.configDiscard r) := fun h => h
theorem placementStatus (r : Req) : Statement (.placementStatus r) := fun h => h
theorem timeStatus (r : Req) : Statement (.timeStatus r) := fun h => h
theorem memStatus (r : Req) : Statement (.memStatus r) := fun h => h
theorem memProfile (r : Req) : Statement (.memProfile r) := fun h => h
theorem convSeqStart (r : Req) : Statement (.convSeqStart r) := fun h => h
theorem convStatus (r : Req) : Statement (.convStatus r) := fun h => h
theorem convCalibrateZero (r : Req) : Statement (.convCalibrateZero r) := fun h => h
theorem convCalibrateFullScale (r : Req) : Statement (.convCalibrateFullScale r) := fun h => h
theorem convCalibrateFactory (r : Req) : Statement (.convCalibrateFactory r) := fun h => h
theorem convCalibrateAbandon (r : Req) : Statement (.convCalibrateAbandon r) := fun h => h
theorem shutterDriveStatus (r : Req) : Statement (.shutterDriveStatus r) := fun h => h
theorem shutterTestDiagnose (r : Req) : Statement (.shutterTestDiagnose r) := fun h => h
theorem shutterTestClose (r : Req) : Statement (.shutterTestClose r) := fun h => h
theorem shutterTestRelease (r : Req) : Statement (.shutterTestRelease r) := fun h => h
theorem shutterTestClear (r : Req) : Statement (.shutterTestClear r) := fun h => h
theorem shutterTestApplyProfile (r : Req) : Statement (.shutterTestApplyProfile r) := fun h => h
theorem nvCommit (r : Req) : Statement (.nvCommit r) := fun h => h
theorem nvStatus (r : Req) : Statement (.nvStatus r) := fun h => h
theorem doze (r : Req) : Statement (.doze r) := fun h => h
theorem wake (r : Req) : Statement (.wake r) := fun h => h
theorem workroomRestart (r : Req) : Statement (.workroomRestart r) := fun h => h
theorem eventRead (r : Req) : Statement (.eventRead r) := fun h => h
theorem eventRoute (r : Req) : Statement (.eventRoute r) := fun h => h
theorem logRead (r : Req) : Statement (.logRead r) := fun h => h
theorem healthStatus (r : Req) : Statement (.healthStatus r) := fun h => h
theorem prmRead (r : Req) : Statement (.prmRead r) := fun h => h
theorem prmWrite (r : Req) : Statement (.prmWrite r) := fun h => h
theorem prmBulkRead (r : Req) : Statement (.prmBulkRead r) := fun h => h
theorem prmBulkWrite (r : Req) : Statement (.prmBulkWrite r) := fun h => h
theorem prmModify (r : Req) : Statement (.prmModify r) := fun h => h
theorem tapSet (r : Req) : Statement (.tapSet r) := fun h => h
theorem tapStream (r : Req) : Statement (.tapStream r) := fun h => h
theorem tapStreamStop (r : Req) : Statement (.tapStreamStop r) := fun h => h
theorem tableRead (r : Req) : Statement (.tableRead r) := fun h => h
theorem tableWrite (r : Req) : Statement (.tableWrite r) := fun h => h
theorem marginScan (r : Req) : Statement (.marginScan r) := fun h => h
theorem marginAbort (r : Req) : Statement (.marginAbort r) := fun h => h
theorem view (r : Req) : Statement (.view r) := fun h => h
theorem withdraw (r : Req) : Statement (.withdraw r) := fun h => h
theorem commit (r : Req) : Statement (.commit r) := fun h => h
theorem query (r : Req) : Statement (.query r) := fun h => h
theorem ready (r : Req) : Statement (.ready r) := fun h => h
theorem state (r : Req) : Statement (.state r) := fun h => h
theorem done (r : Req) : Statement (.done r) := fun h => h
theorem reserve (r : Req) : Statement (.reserve r) := fun h => h
theorem grant (r : Req) : Statement (.grant r) := fun h => h
theorem release (r : Req) : Statement (.release r) := fun h => h
theorem sums (r : Req) : Statement (.sums r) := fun h => h
theorem nodes (r : Req) : Statement (.nodes r) := fun h => h
theorem censusGather (r : Req) : Statement (.censusGather r) := fun h => h
theorem configExchange (r : Req) : Statement (.configExchange r) := fun h => h
theorem keyStatus (r : Req) : Statement (.keyStatus r) := fun h => h
theorem keyRotate (r : Req) : Statement (.keyRotate r) := fun h => h
theorem fwBegin (r : Req) : Statement (.fwBegin r) := fun h => h
theorem fwData (r : Req) : Statement (.fwData r) := fun h => h
theorem fwCommit (r : Req) : Statement (.fwCommit r) := fun h => h
theorem fwSelectTrial (r : Req) : Statement (.fwSelectTrial r) := fun h => h
theorem fwSelectConfirm (r : Req) : Statement (.fwSelectConfirm r) := fun h => h
theorem debugChallenge (r : Req) : Statement (.debugChallenge r) := fun h => h
theorem debugUnlock (r : Req) : Statement (.debugUnlock r) := fun h => h
theorem authSet (r : Req) : Statement (.authSet r) := fun h => h
theorem parameterWrite (r : Req) (a : Nat) (v : Nat) : Statement (.parameterWrite r a v) := fun h => first (first h)
theorem seqGo (r : Req) (m : Nat) : Statement (.seqGo r m) := fun h => first h
theorem injGo (r : Req) (ch : Nat) : Statement (.injGo r ch) := fun h => first h
theorem testGo (r : Req) (lane : Nat) : Statement (.testGo r lane) := fun h => first h
theorem directData (r : Req) (v : Nat) : Statement (.directData r v) := fun h => first h
theorem data (r : Req) (m : Nat) : Statement (.data r m) := fun h => first h
theorem timeLo (r : Req) : Statement (.timeLo r) := fun h => h
theorem fspSel (r : Req) (f : Nat) : Statement (.fspSel r f) := fun h => first h
theorem badPacket : Statement (.badPacket) := fun _ => rfl
theorem unmatchedReply : Statement (.unmatchedReply) := fun _ => rfl
theorem kcpForward (op : Nat) (r : Req) : Statement (.kcpForward op r) := fun h => second h
theorem relay (h : SeamHdr) (e : Envelope) (m : Relayed) : Statement (.relay h e m) := fun _ => rfl
theorem relayReply (hid : Nat) (x : RelayAnswer) : Statement (.relayReply hid x) := fun _ => rfl
theorem relayTimeout : Statement (.relayTimeout) := fun _ => rfl
theorem relayGapTimeout (ingress : Nat) (hid : Nat) : Statement (.relayGapTimeout ingress hid) := fun _ => rfl
theorem duplicateCacheExpiry : Statement (.duplicateCacheExpiry) := fun _ => rfl
theorem broadcastKcp (h : SeamHdr) (op : Nat) (r : Req) : Statement (.broadcastKcp h op r) := fun h => second h
theorem arpRequest (u : Nat) (vlan : Option Nat) (mac : Nat) (ip : Nat) (target : Nat) : Statement (.arpRequest u vlan mac ip target) := fun _ => rfl
theorem icmpEcho (u : Nat) (vlan : Option Nat) (v6 : Bool) (src : Nat) (dst : Nat) (body : List Byte) : Statement (.icmpEcho u vlan v6 src dst body) := fun _ => rfl
theorem neighbourSolicitation (u : Nat) (vlan : Option Nat) (src : Nat) (target : Nat) : Statement (.neighbourSolicitation u vlan src target) := fun _ => rfl
theorem pauseFrame (u : Nat) (quanta : Nat) : Statement (.pauseFrame u quanta) := fun _ => rfl
theorem pauseEnd (u : Nat) : Statement (.pauseEnd u) := fun _ => rfl
theorem unservedFrame (u : Nat) (damaged : Bool) : Statement (.unservedFrame u damaged) := fun _ => rfl
theorem sync (u : Nat) (v6 : Bool) (addr : Nat) (domain : Nat) (seq : Nat) (twoStep : Bool) : Statement (.sync u v6 addr domain seq twoStep) := fun _ => rfl
theorem followUp (u : Nat) (domain : Nat) (seq : Nat) (origin : Nat) : Statement (.followUp u domain seq origin) := fun _ => rfl
theorem delayResp (u : Nat) (domain : Nat) (seq : Nat) (received : Nat) : Statement (.delayResp u domain seq received) := fun _ => rfl
theorem announce (u : Nat) (domain : Nat) (o : Offer) : Statement (.announce u domain o) := fun _ => rfl
theorem delayReq (u : Nat) : Statement (.delayReq u) := fun _ => rfl
theorem chainFrame (fromUp : Bool) (frame : List Byte) (aborted : Bool) (room : Bool) (passed : Bool) : Statement (.chainFrame fromUp frame aborted room passed) := fun _ => rfl
theorem enumerationToken (frame : List Byte) (aborted : Bool) : Statement (.enumerationToken frame aborted) := fun _ => rfl
theorem noSignal (up : Bool) : Statement (.noSignal up) := fun _ => rfl
theorem signalReturn (up : Bool) : Statement (.signalReturn up) := fun _ => rfl
theorem syncCharacter : Statement (.syncCharacter) := fun _ => rfl
theorem fsync (level : Bool) : Statement (.fsync level) := fun _ => rfl
theorem syncPeriod : Statement (.syncPeriod) := fun _ => rfl
theorem heartbeat (m : Nat) (b : List Byte) : Statement (.heartbeat m b) := fun _ => rfl
theorem heartbeatSend : Statement (.heartbeatSend) := fun _ => rfl
theorem linkStateAdvertisement (h : SeamHdr) (l : Lsa) : Statement (.linkStateAdvertisement h l) := fun _ => rfl
theorem lsaRefresh : Statement (.lsaRefresh) := fun _ => rfl
theorem topologyExpiry (uid : Nat) : Statement (.topologyExpiry uid) := fun _ => rfl
theorem thirdMissedHeartbeat (m : Nat) : Statement (.thirdMissedHeartbeat m) := fun _ => rfl
theorem lossReport (h : SeamHdr) (uid : Nat) (addr : Nat) : Statement (.lossReport h uid addr) := fun _ => rfl
theorem linkUp (m : Nat) (locked : Bool) : Statement (.linkUp m locked) := fun _ => rfl
theorem contribution (m : SeamMsg) : Statement (.contribution m) := fun _ => rfl
theorem tileRecordCarriage (m : SeamMsg) : Statement (.tileRecordCarriage m) := fun _ => rfl
theorem handoverData (m : SeamMsg) : Statement (.handoverData m) := fun _ => rfl
theorem configurationBlock (m : SeamMsg) : Statement (.configurationBlock m) := fun _ => rfl
theorem svcSend (frame : List Byte) (space : Bool) : Statement (.svcSend frame space) := fun _ => rfl
theorem svcReceive : Statement (.svcReceive) := fun _ => rfl
theorem svcStatus (space : Bool) : Statement (.svcStatus space) := fun _ => rfl
theorem hold : Statement (.hold) := fun _ => rfl
theorem debugRequest (m : List Byte) : Statement (.debugRequest m) := fun _ => rfl
theorem frameStart (l : Nat) (vc : Nat) (fn : Nat) (h : Hdr) : Statement (.frameStart l vc fn h) := fun _ => rfl
theorem frameEnd (l : Nat) (vc : Nat) (n : Nat) (h : Hdr) : Statement (.frameEnd l vc n h) := fun _ => rfl
theorem lineStart (l : Nat) (vc : Nat) (n : Nat) (h : Hdr) : Statement (.lineStart l vc n h) := fun _ => rfl
theorem lineEnd (l : Nat) (vc : Nat) (h : Hdr) : Statement (.lineEnd l vc h) := fun _ => rfl
theorem imageLine (l : Nat) (vc : Nat) (dt : Nat) (payload : List Byte) (crcOk : Bool) (h : Hdr) : Statement (.imageLine l vc dt payload crcOk h) := fun _ => rfl
theorem telemetry (l : Nat) (vc : Nat) (dt : Nat) (payload : List Byte) (crcOk : Bool) (h : Hdr) : Statement (.telemetry l vc dt payload crcOk h) := fun _ => rfl
theorem genericShortPacket (l : Nat) (vc : Nat) (h : Hdr) : Statement (.genericShortPacket l vc h) := fun _ => rfl
theorem frameTimeout (strm : Nat) : Statement (.frameTimeout strm) := fun _ => rfl
theorem coreWrite (b : Nat) (e : WriteEnd) : Statement (.coreWrite b e) := fun _ => rfl
theorem laneGrant (lane : Nat) : Statement (.laneGrant lane) := fun _ => rfl
theorem passA (lane : Nat) (errs : List BlockErr) : Statement (.passA lane errs) := fun _ => rfl
theorem passB (lane : Nat) : Statement (.passB lane) := fun _ => rfl
theorem recordRepair (ok : Bool) : Statement (.recordRepair ok) := fun _ => rfl
theorem alarmHold : Statement (.alarmHold) := fun _ => rfl
theorem selftest (seen : Bool) : Statement (.selftest seen) := fun _ => rfl
theorem alarmLineFault (bridge : Nat) (sync : Bool) : Statement (.alarmLineFault bridge sync) := fun _ => rfl
theorem tapDatagram (t : Nat) : Statement (.tapDatagram t) := fun _ => rfl
theorem rateWindow (r : Nat) (rate : Nat) : Statement (.rateWindow r rate) := fun _ => rfl
theorem bridgeTransferError (x : BridgeFault) : Statement (.bridgeTransferError x) := fun _ => rfl
theorem cycleRequest (k : Nat) : Statement (.cycleRequest k) := fun _ => rfl
theorem retry (k : Nat) : Statement (.retry k) := fun _ => rfl
theorem grantStartLimit (k : Nat) : Statement (.grantStartLimit k) := fun _ => rfl
theorem maxDefer (k : Nat) : Statement (.maxDefer k) := fun _ => rfl
theorem grantVoid (p : Nat) : Statement (.grantVoid p) := fun _ => rfl
theorem openSettleEnd (k : Nat) : Statement (.openSettleEnd k) := fun _ => rfl
theorem openConfirmation (k : Nat) : Statement (.openConfirmation k) := fun _ => rfl
theorem openConfirmationTimeout (k : Nat) : Statement (.openConfirmationTimeout k) := fun _ => rfl
theorem flagClosedFault (k : Nat) : Statement (.flagClosedFault k) := fun _ => rfl
theorem gatherResult (k : Nat) : Statement (.gatherResult k) := fun _ => rfl
theorem learnedSetStore (ok : Bool) : Statement (.learnedSetStore ok) := fun _ => rfl
theorem seamSample : Statement (.seamSample) := fun _ => rfl
theorem seamPeriod : Statement (.seamPeriod) := fun _ => rfl
theorem solveEnd (r : Nat) : Statement (.solveEnd r) := fun _ => rfl
theorem publication (p : Nat) : Statement (.publication p) := fun _ => rfl
theorem holdPeriod (p : Nat) : Statement (.holdPeriod p) := fun _ => rfl
theorem hitRecord : Statement (.hitRecord) := fun _ => rfl
theorem tileRecordSend (b : Nat) : Statement (.tileRecordSend b) := fun _ => rfl
theorem heldNoticeRepeat (t : Nat) : Statement (.heldNoticeRepeat t) := fun _ => rfl
theorem tileSilent (t : Nat) : Statement (.tileSilent t) := fun _ => rfl
theorem healthQuery (b : Nat) : Statement (.healthQuery b) := fun _ => rfl
theorem healthReply (b : Nat) (lead codes rest : List Nat) : Statement (.healthReply b lead codes rest) := fun _ => rfl
theorem replyWindowClose (b : Nat) : Statement (.replyWindowClose b) := fun _ => rfl
theorem registrationSession : Statement (.registrationSession) := fun _ => rfl
theorem registrationEnd : Statement (.registrationEnd) := fun _ => rfl
theorem directoryDecision (p : Nat) : Statement (.directoryDecision p) := fun _ => rfl
theorem rebalPeriod : Statement (.rebalPeriod) := fun _ => rfl
theorem rateMove (r : Nat) : Statement (.rateMove r) := fun _ => rfl
theorem directoryTakeover (p : Nat) : Statement (.directoryTakeover p) := fun _ => rfl
theorem commitRepeat (p : Nat) : Statement (.commitRepeat p) := fun _ => rfl
theorem viewRefresh : Statement (.viewRefresh) := fun _ => rfl
theorem configExchangeSend : Statement (.configExchangeSend) := fun _ => rfl
theorem stagingComplete : Statement (.stagingComplete) := fun _ => rfl
theorem activation : Statement (.activation) := fun _ => rfl
theorem censusWait : Statement (.censusWait) := fun _ => rfl
theorem refreshDue (n : Nat) (b : Nat) (busy : Bool) : Statement (.refreshDue n b busy) := fun _ => rfl
theorem mr4Poll (codes : List Nat) : Statement (.mr4Poll codes) := fun _ => rfl
theorem zqCalibration (c : Nat) : Statement (.zqCalibration c) := fun _ => rfl
theorem powerDownEntry (n : Nat) : Statement (.powerDownEntry n) := fun _ => rfl
theorem setPointSwitch : Statement (.setPointSwitch) := fun _ => rfl
theorem dramReadError (n : Nat) (bank : Nat) (row : Nat) (col : Nat) (x : DramReader) (e : DramErr) : Statement (.dramReadError n bank row col x e) := fun _ => rfl
theorem migrateDone : Statement (.migrateDone) := fun _ => rfl
theorem marginScanStep (c : Nat) (errors : Nat) : Statement (.marginScanStep c errors) := fun _ => rfl
theorem conversionEnd (m : Nat) (raw : Int) (isOver : Bool) (up : Int) (down : Int) : Statement (.conversionEnd m raw isOver up down) := fun _ => rfl
theorem calStepDone (m : Nat) : Statement (.calStepDone m) := fun _ => rfl
theorem watchPeriod : Statement (.watchPeriod) := fun _ => rfl
theorem pullInEnd (n : Nat) (mA : Nat) : Statement (.pullInEnd n mA) := fun _ => rfl
theorem maxOn (n : Nat) : Statement (.maxOn n) := fun _ => rfl
theorem releaseDecayEnd (n : Nat) : Statement (.releaseDecayEnd n) := fun _ => rfl
theorem onStateFault (n : Nat) (f : ShFault) : Statement (.onStateFault n f) := fun _ => rfl
theorem offStateDiagnosis (n : Nat) (mv : Nat) (hs : Nat) (lowCur : Bool) : Statement (.offStateDiagnosis n mv hs lowCur) := fun _ => rfl
theorem diagPeriod (n : Nat) : Statement (.diagPeriod n) := fun _ => rfl
theorem stuckOn (j : Nat) : Statement (.stuckOn j) := fun _ => rfl
theorem vshutLow (mv : Nat) : Statement (.vshutLow mv) := fun _ => rfl
theorem idleCommit : Statement (.idleCommit) := fun _ => rfl
theorem commitEnd (p : Prog) : Statement (.commitEnd p) := fun _ => rfl
theorem immediateRecord (p : Prog) : Statement (.immediateRecord p) := fun _ => rfl
theorem compaction (a : Nat) : Statement (.compaction a) := fun _ => rfl
theorem refreshScan (weak : List Nat) (bulk : List Nat) (prog : Nat) : Statement (.refreshScan weak bulk prog) := fun _ => rfl
theorem recallEnd (part : Option (Nat × Nat × Bool)) : Statement (.recallEnd part) := fun _ => rfl
theorem bulkLost : Statement (.bulkLost) := fun _ => rfl
theorem bulkRecordWrite (p : Prog) : Statement (.bulkRecordWrite p) := fun _ => rfl
theorem powerOn (c : Cut) : Statement (.powerOn c) := fun _ => rfl
theorem resetN (low : Nat) (c : Cut) : Statement (.resetN low c) := fun _ => rfl
theorem supervisorTrip (rail : Nat) (isOver : Bool) (c : Cut) : Statement (.supervisorTrip rail isOver c) := fun _ => rfl
theorem thimbleFatal (c : Cut) : Statement (.thimbleFatal c) := fun _ => rfl
theorem resetRelease (fuseOk : Bool) : Statement (.resetRelease fuseOk) := fun _ => rfl
theorem memoryTestEnd (failed : List Nat) : Statement (.memoryTestEnd failed) := fun _ => rfl
theorem imageVerified : Statement (.imageVerified) := fun _ => rfl
theorem started : Statement (.started) := fun _ => rfl
theorem configRecalled : Statement (.configRecalled) := fun _ => rfl
theorem watchdog : Statement (.watchdog) := fun _ => rfl
theorem fwViolation (addr : Nat) : Statement (.fwViolation addr) := fun _ => rfl
theorem fatalException : Statement (.fatalException) := fun _ => rfl
theorem wrRestart : Statement (.wrRestart) := fun _ => rfl
theorem trialTime : Statement (.trialTime) := fun _ => rfl
theorem sessionTimeout : Statement (.sessionTimeout) := fun _ => rfl
theorem challengeExpiry : Statement (.challengeExpiry) := fun _ => rfl
theorem dozeEntry (p : Prog) : Statement (.dozeEntry p) := fun _ => rfl
theorem wakePin (level : Bool) : Statement (.wakePin level) := fun _ => rfl
theorem wakeComplete : Statement .wakeComplete := fun _ => rfl
theorem evtHoldoff (src : Nat) : Statement (.evtHoldoff src) := fun _ => rfl
theorem eventDelivery (dst : Nat) : Statement (.eventDelivery dst) := fun _ => rfl
theorem logWrite (p : Prog) : Statement (.logWrite p) := fun _ => rfl
theorem supplyGrade : Statement (.supplyGrade) := fun _ => rfl
theorem baselineStore : Statement (.baselineStore) := fun _ => rfl
theorem linkHealth : Statement (.linkHealth) := fun _ => rfl
theorem coreHealth : Statement (.coreHealth) := fun _ => rfl
theorem tjHistogram (tj : Nat) : Statement (.tjHistogram tj) := fun _ => rfl
theorem powerOnHours : Statement (.powerOnHours) := fun _ => rfl
theorem unallocatedOpcode (op : Nat) (r : Req) : Statement (.unallocatedOpcode op r) := fun h => second h
theorem csiLinkUp (l : Nat) (up : Bool) : Statement (.csiLinkUp l up) := fun _ => rfl
theorem uplinkLinkUp (u : Nat) (up : Bool) : Statement (.uplinkLinkUp u up) := fun _ => rfl
theorem ulModabs (u : Nat) (high : Bool) : Statement (.ulModabs u high) := fun _ => rfl
theorem releasePhaseEnd (k : Nat) : Statement (.releasePhaseEnd k) := fun _ => rfl
theorem silentRecordRepeat (t : Nat) : Statement (.silentRecordRepeat t) := fun _ => rfl

end Sys2Proof.Laws.Fits
end

