-- ==== Sys2Proof/Tests/Slice0.lean ====
section
/-!
SUPPORT. Sys2Proof/Tests/Slice0.lean: the model's own tests: ill-formed terms that WellFormed refuses, states and operands that
meet the hypotheses of every obligation, and small checks against the spec's numbers.
-/
namespace Sys2Proof.Tests
set_option Elab.async false
open Sys2Proof.Machine

/-! ## A running device and requests it serves -/

/-- A running device: addressed 5, recalled, a key in slot 8. -/
def dev0 : Dev :=
  let d := State.reset.dev.wrs [(P.ADDR, [], 5), (P.DEV_STATE, [], 1), (P.NV_STATE, [], 1), (P.MEM_MODE, [], 1)]
  { d with clk := 5000000000,
           boot := { d.boot with running := true, started := true, verified := true, memTested := true, confRecalled := true,
                                 keys := d.boot.keys.set 8 (some (List.replicate 32 7)) } }

/-- The device with nothing waiting. -/
def st (d : Dev) : State := ⟨d, []⟩

/-- A host on the chain. -/
def onChain : HostId := ⟨.chain, 0, none, false, 0, 0, 0, 0⟩

/-- A request without a tag. -/
def untagged (h : HostId) (p : List Byte) : Req := ⟨h, 1, 5, 0, 1, 0, false, none, p, 0⟩

/-- A request tagged under slot 8, counter 1. -/
def tagged (h : HostId) (code : Nat) (p : List Byte) : Req :=
  let r : Req := ⟨h, 1, 5, 0, 1, 0, false, some ⟨8, 1, []⟩, p, 0⟩
  { r with auth := some ⟨8, 1, tagFor (List.replicate 32 7) 0 (reqBody code r false)⟩ }

/-- A host's request. -/
def ask (code : Nat) (p : List Byte) : Req := tagged onChain code p

/-- A request of the device at address 6 in its own right. -/
def tell (code : Nat) (p : List Byte) : Req := { tagged (deviceHost 6) code p with source := 6, auth := none }

/-- What makes the packet engine of a device serve the requests above, whatever else it holds. -/
def ready (d : Dev) : Bool :=
  !d.boot.inReset && decide (d.rd P.ADDR = 5) && decide (d.rd P.DEV_STATE = 1) && decide (d.rd P.NV_STATE = 1) &&
    d.boot.running && d.boot.started && decide (d.keyOf 8 = some (List.replicate 32 7)) && decide (d.boot.fuses.uid = 0) &&
    decide (d.fresh 8 = ⟨0, 0, 0⟩) && d.kcp.held.isEmpty &&
    d.kcp.queue.isEmpty && decide (d.rd P.BRIDGE_FAIL = 0)

/-- The conditions of `ready` by name. -/
structure Ready (d : Dev) : Prop where
  alive : d.boot.inReset = false
  addr : d.rd P.ADDR = 5
  state : d.rd P.DEV_STATE = 1
  recalled : d.rd P.NV_STATE = 1
  running : d.boot.running = true ∧ d.boot.started = true
  key : d.keyOf 8 = some (List.replicate 32 7) ∧ d.boot.fuses.uid = 0 ∧ d.fresh 8 = ⟨0, 0, 0⟩
  free : d.kcp.held = [] ∧ d.kcp.queue = []
  whole : d.rd P.BRIDGE_FAIL = 0

theorem ready_iff {d : Dev} (h : ready d = true) : Ready d := by
  simp only [ready, Bool.and_eq_true, Bool.not_eq_true', decide_eq_true_eq, List.isEmpty_iff] at h
  obtain ⟨⟨⟨⟨⟨⟨⟨⟨⟨⟨⟨h1, h2⟩, h3⟩, h4⟩, h5⟩, h6⟩, h7⟩, h8⟩, h9⟩, h10⟩, h11⟩, h12⟩ := h
  exact ⟨h1, h2, h3, h4, ⟨h5, h6⟩, ⟨h7, h8, h9⟩, ⟨h10, h11⟩, h12⟩

theorem gate_open {d : Dev} (h0 : ready d = true) (op : Nat) (r : Req) : d.stateGate op r = none := by
  have h := ready_iff h0
  have hr : d.recalling = false := by simp [Dev.recalling, h.recalled]
  simp [Dev.stateGate, h.state, hr, h.running]

theorem serves_ask {d : Dev} (h0 : ready d = true) (op : Op) (p : List Byte) (hc : op.cls ≠ .device) (hl : p.length ≤ 1392) :
    Serves op (ask op.code p) d where
  arrives := by simp [Dev.arrives, ask, tagged, onChain, Dev.alive, (ready_iff h0).alive]
  here := by simp [Dev.destOf, Dev.addressed, Dev.addr, (ready_iff h0).addr, ask, tagged]
  early := by simp [earlyChecks, ask, tagged]
  auth := by
    have h := ready_iff h0
    have hk : d.noKey 8 = false := by simp [Dev.noKey, h.key]
    have hg : d.tagGood op.code (ask op.code p) ⟨8, 1, tagFor (List.replicate 32 7) 0 (reqBody op.code (ask op.code p) false)⟩ = true := by
      unfold Dev.tagGood
      simp only [h.key.1, Dev.uid, h.key.2.1, ask, tagged]
      simp
    have ha : (d.fresh 8).accepts 1 = true := by rw [h.key.2.2]; decide
    have hs : slotServes 8 op.cls = true := by unfold slotServes; split <;> decide
    have e : (ask op.code p).auth = some ⟨8, 1, tagFor (List.replicate 32 7) 0 (reqBody op.code (ask op.code p) false)⟩ := rfl
    have er : (ask op.code p).rtx = false := rfl
    unfold Dev.authStep
    rw [e]
    simp only [hk, hg, er, ha, hs]
    rfl
  gate := gate_open h0 _ _
  source := fun hd => absurd hd hc
  size := by simp [payloadLen, ask, tagged]; omega
  space := by simp [Dev.queueCheck, Dev.inHand, (ready_iff h0).free]
  turn := by simp [Dev.mustWait, Dev.hostBusy, (ready_iff h0).free]
  whole := by simp [Dev.cutOff, (ready_iff h0).whole]

theorem serves_tell {d : Dev} (h0 : ready d = true) (code : Nat) (p : List Byte) (hl : p.length ≤ 1400) :
    Serves ⟨code, .device, false⟩ (tell code p) d where
  arrives := by simp [Dev.arrives, tell, tagged, deviceHost, Dev.alive, (ready_iff h0).alive]
  here := by simp [Dev.destOf, Dev.addressed, Dev.addr, (ready_iff h0).addr, tell, tagged]
  early := by simp [earlyChecks, tell, tagged]
  auth := by simp [Dev.authStep, tell, tagged]
  gate := gate_open h0 _ _
  source := fun _ => rfl
  size := by simp [payloadLen, tell, tagged]; omega
  space := by simp [Dev.queueCheck, Dev.inHand, (ready_iff h0).free]
  turn := by simp [Dev.mustWait, Dev.hostBusy, (ready_iff h0).free]
  whole := by simp [Dev.cutOff, (ready_iff h0).whole]

/-- A request that an engine serves, as a test. -/
def serves (op : Op) (r : Req) (d : Dev) : Bool :=
  decide (d.arrives r = (true, true)) && decide (d.destOf r = .here) && decide (earlyChecks op r = none) &&
    decide (d.authStep op r = .pass) && decide (d.stateGate op.code r = none) &&
    decide (op.cls = .device → r.host.via = .device) && decide (payloadLen r ≤ 1400) && decide (d.queueCheck r = none) &&
    decide (d.mustWait op r = false) && decide (d.cutOff op.code r = false)

theorem serves_of {op : Op} {r : Req} {d : Dev} (h : serves op r d = true) : Serves op r d := by
  simp only [serves, Bool.and_eq_true, decide_eq_true_eq] at h
  obtain ⟨⟨⟨⟨⟨⟨⟨⟨⟨h1, h2⟩, h3⟩, h4⟩, h5⟩, h6⟩, h7⟩, h8⟩, h9⟩, h10⟩ := h
  exact ⟨h1, h2, h3, h4, h5, h6, h7, h8, h9, h10⟩

/-- A device receives a frame, as a test. -/
def receives (h : SeamHdr) (d : Dev) : Bool :=
  d.alive && d.is P.SL_LINK_UP [h.link] && d.addressed && decide (h.dest = d.addr) && h.ok

theorem received {h : SeamHdr} {d : Dev} (e : receives h d = true) : Receives h d := by
  simp only [receives, Bool.and_eq_true, decide_eq_true_eq] at e
  obtain ⟨⟨⟨⟨h1, h2⟩, h3⟩, h4⟩, h5⟩ := e
  exact ⟨h1, h2, h3, h4, h5⟩

/-- A Seamlink frame from the device at address 6, by link 7. -/
def hdr (hops dest : Nat) (ok : Bool) : SeamHdr := ⟨7, hops, dest, 6, 1, ok⟩

/-- A service tool. -/
def onService : HostId := ⟨.service, 0, none, false, 0, 0, 0, 0⟩

/-- A host on uplink 3. -/
def onUplink3 : HostId := ⟨.uplink, 3, none, false, 0x0A000001, 4000, 0, 0⟩

/-- A host's request under slot 7, an Operator slot. -/
def ask7 (code : Nat) (p : List Byte) : Req :=
  let r : Req := ⟨onChain, 1, 5, 0, 1, 0, false, some ⟨7, 1, []⟩, p, 0⟩
  { r with auth := some ⟨7, 1, tagFor (List.replicate 32 7) 0 (reqBody code r false)⟩ }

/-- A device that holds the same key in slot 7. -/
def dev7 : Dev := { dev0 with boot := { dev0.boot with keys := dev0.boot.keys.set 7 (some (List.replicate 32 7)) } }

/-- A reply kept in the duplicate cache. -/
def seen : DupEntry := ⟨4000000000, ⟨onChain, 0, 1, 0, 0, 5, 0, false, none, okWith [], 0, 0⟩⟩

theorem tag_good_ask (d : Dev) (code : Nat) (p : List Byte) (hk : d.keyOf 8 = some (List.replicate 32 7)) (hu : d.uid = 0) :
    d.tagGood code (ask code p) ⟨8, 1, tagFor (List.replicate 32 7) 0 (reqBody code (ask code p) false)⟩ = true := by
  unfold Dev.tagGood
  simp only [hk, hu]
  simp [ask, tagged]

theorem tag_good_ask7 (d : Dev) (code : Nat) (p : List Byte) (hk : d.keyOf 7 = some (List.replicate 32 7)) (hu : d.uid = 0) :
    d.tagGood code (ask7 code p) ⟨7, 1, tagFor (List.replicate 32 7) 0 (reqBody code (ask7 code p) false)⟩ = true := by
  unfold Dev.tagGood
  simp only [hk, hu]
  simp [ask7]

theorem ask_auth (code : Nat) (p : List Byte) :
    (ask code p).auth = some ⟨8, 1, tagFor (List.replicate 32 7) 0 (reqBody code (ask code p) false)⟩ := rfl

theorem ask7_auth (code : Nat) (p : List Byte) :
    (ask7 code p).auth = some ⟨7, 1, tagFor (List.replicate 32 7) 0 (reqBody code (ask7 code p) false)⟩ := rfl

/-! ## Pieces of states -/

/-- A ticket. -/
def tick0 : Ticket := ⟨0x0401, 3, onChain⟩

/-- The tag of a core's frame. -/
def tag0 (k flags : Nat) : Tag := ⟨k, false, flags, 1, 0, 1, 4900000000, 0, 0, 0, 0, 0, 0⟩

/-- An open frame of a core that has no line yet. -/
def frame0 (k flags : Nat) : Frame :=
  ⟨tag0 k flags, true, 4900000000, 0, none, .empty, .empty, 0, 0, .empty, [], ⟨0, 0, 0, 0, 0, .empty, 0⟩, [], [], (0, 0, 0),
    ⟨0, 0, 0, 0, false, 3, false, 0, 0, 0, 0⟩, 0, none, false, [], [], 0, 0, false, 0, .empty⟩

/-- A running shutter cycle. -/
def cycle0 : Cycle :=
  ⟨some tick0, false, [], 4000000000, none, false, 0, 0, 0, 0, 0, 0, [], [], .empty, [], false, false, 4000000000, false, false,
    false⟩

/-- A device with a core enabled. -/
def enabled (k : Nat) : Dev := dev0.wr P.CORE_EN [k] 1

/-- A device whose core has an open frame. -/
def opened (k flags : Nat) : Dev := (enabled k).setStrm k { (enabled k).strm k with frames := [frame0 k flags] }

/-- A device whose core can be enabled: the bulk store holds its factory set. -/
def enableable (k : Nat) : Dev :=
  let d := dev0.wr P.BULK_PRESENT [] 1
  { d with nv := { d.nv with bulk := [⟨factoryRid k, 8, 0, [1], true, false⟩] } }

/-- A device whose core is enabled and whose setting profile is filled. -/
def profiled (k p : Nat) : Dev := (enabled k).tblWrite (0x2010 + p) 0 [1, 0, 60]

/-- A device whose core gathers. -/
def gatherer (k p : Nat) : Dev := ((profiled k p).wr P.CYC_STATE [k] 3).setCycle k (some cycle0)

/-- A running margin scan of channel 7. -/
def scan0 : Scan := ⟨1, 0, [1], [], false, tick0⟩

/-- A device whose channel 7 is scanned. -/
def scanning : Dev := { dev0 with mem := { dev0.mem with scans := dev0.mem.scans.put 7 scan0 } }

/-- A buffered record of a parameter. -/
def rec0 : BufRec := ⟨0x10, 0, [1, 2, 3, 4]⟩

/-- A device with a record in its write buffer. -/
def buffered : Dev := { dev0 with nv := { dev0.nv with buf := [rec0] } }

/-- A running batch commit. -/
def commit0 : Commit := ⟨1, [rec0], [tick0], false⟩

/-- A device that commits a batch. -/
def committing : Dev := { dev0 with nv := { dev0.nv with commit := some commit0 } }

/-- The header of a configuration image of two blocks. -/
def header0 : List Byte := leBytes 4 0x10000 ++ leBytes 2 2 ++ List.replicate 10 0

/-- A staging area that holds block 0. -/
def stage0 (complete : Bool) : Stage := ⟨List.replicate 8 0, 0, KMap.ofList [(0, header0)], complete, none, [tick0], false⟩

/-- A device with a staging area. -/
def staged (complete : Bool) : Dev := { dev0 with plc := { dev0.plc with stage := some (stage0 complete) } }

/-- A device with a neighbour at address 6 on link 7. -/
def linked : Dev := dev0.wrs [(P.SL_LINK_EN, [7], 1), (P.SL_LINK_UP, [7], 1), (P.NEIGH, [7], 6)]

/-- A small configuration image of 8 by 8 cells: one tile, 0, of patch 9 on bus 199 of the device at `a`. -/
def image0 (a : Nat) : List Byte :=
  leBytes 4 0x10000 ++ leBytes 2 1 ++ List.replicate 6 0 ++ [3, 0, 0, 0] ++ ([1, 0] ++ leBytes 4 40 ++ leBytes 2 1) ++
    ([3, 0] ++ leBytes 4 84 ++ leBytes 2 1) ++ ([2, 0] ++ leBytes 4 44 ++ leBytes 2 1) ++ leBytes 4 0x8108 ++
    (leBytes 4 9 ++ leBytes 4 (a + 199 * 1024) ++ leBytes 8 0 ++ List.replicate 24 0xFF) ++
    (leBytes 4 9 ++ leBytes 2 9000 ++ leBytes 6 0)

/-- A device with that configuration. -/
def tiled (a : Nat) : Dev := { dev0 with plc := { dev0.plc with image := image0 a } }

/-- Patch 9 placed at an address under epoch 2, from time 4. -/
def placed (a owner : Nat) : Dev := (tiled a).setPlace 9 ⟨owner, 2, 4, 0x3FF, none, false, none, none⟩

/-- The prefix of a request of patch 9 under an epoch. -/
def prefix9 (e : Nat) : List Byte := leBytes 4 9 ++ leBytes 4 e

/-- A device whose shutter channel 63 is enabled. -/
def shut63 : Dev := dev0.wrs [(P.CH_EN, [63], 1), (P.CAL_CH, [3], 63)]

/-- A device whose channel 63 may close. -/
def closable : Dev := shut63.setSh 63 { shut63.sh 63 with reserve := true }

/-- An update session of the host on the chain. -/
def session0 : Session := ⟨onChain, 512, 1, .empty, 4000000000, false⟩

/-- A trial of bank 1. -/
def trial0 : Trial := ⟨1, 0, 4000000000, 0⟩

/-- A device with an owner hash. -/
def owned : Dev := { dev0 with boot := { dev0.boot with fuses := { dev0.boot.fuses with ownerHash := List.replicate 32 1 } } }

/-- A device with an immediate record on its way. -/
def pendingRec (body : BufRec) (after : Then) : Dev := { dev0 with nv := { dev0.nv with imm := [⟨1, body, after⟩] } }

/-- A debug challenge. -/
def chal0 : Challenge := ⟨List.replicate 48 0, 3, 4000000000⟩

/-- A device that holds a Service key in slot 9 too. -/
def dev9 : Dev := { dev0 with boot := { dev0.boot with keys := dev0.boot.keys.set 9 (some (List.replicate 32 9)) } }

theorem one_id (r : Req) (x : Nat) (h : idAt r 0 = x) : ∀ i a : Nat, [x][i]? = some a → idAt r (4 * i) = a := by
  intro i a e
  cases i with
  | zero => simp at e; subst e; simpa using h
  | succ n => simp at e

/-- A handover in progress of patch 9. -/
def hand0 : Handover := ⟨9, 6, 2, .empty, 0⟩

/-- A cycle that awaits the grant of patch 9. -/
def waitCycle : Cycle := { cycle0 with grants := [⟨9, 6, none, 4000000000⟩] }

/-- A device whose core awaits that grant. -/
def awaiting (k : Nat) : Dev := ((placed 5 6).wr P.CYC_STATE [k] 1).setCycle k (some waitCycle)

/-- A request this device relayed. -/
def relay0 : InRelay := ⟨1, { untagged onUplink3 [] with dest := 6, seq := 7 }, 3, 7, 4800000000, 0x0A000005⟩

/-- The reply of device 6 to it. -/
def relayAns : RelayAnswer := ⟨6, 1, 7, 0, 0, [1], 0, false, none⟩

/-- A request of this device that awaits that reply. -/
def asked0 : Asked := ⟨6, 7, 1, [], 4800000000⟩

/-- A relayed request that waits for an earlier one. -/
def gap0 : GapWait := ⟨6, 3, 65535, 1, untagged onChain [], 4800000000⟩

/-- A device held in reset. -/
def held : Dev := { dev0 with boot := { dev0.boot with inReset := true } }

/-- A device whose uplink 3 is up. -/
def upped : Dev := dev0.wrs [(P.UL_EN, [3], 1), (P.UL_LINK_UP, [3], 1), (P.IPV4_ADDR, [3], 0x0A000005)]

/-- That uplink under PAUSE. -/
def paused : Dev := { upped with kcp := { upped.kcp with paused := upped.kcp.paused.put 3 6000000000 } }

/-- Its reply queue full. -/
def fullUp : Dev :=
  { paused with kcp := { paused.kcp with replyQ := paused.kcp.replyQ.put 3 (List.replicate 64 (.lowReply 3 0 7 [])) } }

/-- A grandmaster. -/
def offer0 : Offer := ⟨128, 6, 0x20, 0x4E5D, 128, 77, 0⟩

/-- A device that takes time from uplink 3, between a Sync and its Delay_Resp. -/
def timed (gm : Option Offer) : Dev :=
  (upped.wr P.PTP_UL_EN [] 8).setPtp 3 ⟨gm, some (7, 4900000000), some 5900000000, some (9, 4950000000), (false, 1), 10⟩

/-- A device whose link 7 is locked. -/
def locked (heard : Bool) : Dev := linked.setLink 7 ⟨true, heard, 6, 1, 0xFF, 0, 0, 0, 4900000000, [], [], 0, false, true⟩

/-- A heartbeat of the device at address 6. -/
def beat0 : List Byte := leBytes 8 6 ++ leBytes 2 6 ++ leBytes 38 1

/-- The advertisement of the device at address 6. -/
def lsa0 : Lsa := ⟨6, 6, 1, 1, [5, 0x3FF, 0x3FF, 0x3FF, 0x3FF, 0x3FF, 0x3FF, 0x3FF], none, 0⟩

/-- A staging whose one block is an image. -/
def stageOf (img digest : List Byte) : Stage := ⟨digest, 0, KMap.ofList [(0, img)], false, none, [tick0], false⟩

/-- A device that stages it. -/
def staging (img digest : List Byte) : Dev :=
  let d := dev0.wr P.BULK_PRESENT [] 1
  { d with plc := { d.plc with stage := some (stageOf img digest) } }

/-- A directed patch that waits for two answers to its COMMIT. -/
def waits0 (sent : Nat) : Directed := ⟨[], 3, 6, 1, 5, 4, [6, 7], sent, none, true⟩

/-- The directory of patch 9 while it waits. -/
def directing (sent : Nat) : Dev := (placed 5 6).setDir 9 (waits0 sent)

/-- A core whose sensor link 31 is up, with frames. -/
def seeing (x : Nat) (fs : List Frame) : Dev :=
  let d := dev0.wrs [(P.CORE_EN, [63], 1), (P.COMP_EN, [63], 1), (P.CSI_LINK_EN, [31], 1), (P.VC, [63], 0), (P.COMP_VC, [63], 1),
    (P.LINE_NUM, [63], 1), (P.WIDTH, [63], 640), (P.HEIGHT, [63], 512)]
  d.setStrm x { d.strm x with frames := fs }

/-- A line in a line buffer. -/
def line0 : Line := ⟨[1, 2, 3], 3, false, true, 4950000000⟩

/-- A frame of core 63 with 32 lines in buffers. -/
def full63 (isOpen : Bool) : Frame :=
  { frame0 63 0 with isOpen := isOpen, tag := { tag0 63 0 with cnt := 0 }, top := 32, lines := KMap.ofList ((List.range 32).map fun y => (y + 1, line0)) }

/-- A core whose line buffers are full. -/
def crowded (fs : List Frame) : Dev := (seeing 63 fs).wr P.LINE_NUM [63] 0

/-- A setting change with its writes begun. -/
def change0 (ops : List BusOp) : Change := ⟨2, ops, 0, 0, true, 4900000000, none⟩

/-- A core whose setting change is being written. -/
def writing (ops : List BusOp) (tries : Nat) : Dev :=
  (enabled 63).setSetting 63 ⟨[change0 ops], tries, [], false, false⟩

/-- A census that runs. -/
def census0 : CensusRun := ⟨1, tick0, [(6, 6)], [(7, 7)], [leBytes 22 5], 4900000000⟩

/-- A core of one pixel, bound to cluster 15. -/
def tiny : Dev :=
  let d := dev0.wrs [(P.CORE_EN, [63], 1), (P.WIDTH, [63], 1), (P.HEIGHT, [63], 1), (P.CORE_STATE, [63], 3), (P.SHUT_CH, [63], 5),
    (P.FLAG_CH, [63], 6), (P.AUTO_EN, [63], 1)]
  { d with pipe := { d.pipe with bind := d.pipe.bind.put 63 15 } }

/-- Its line between the passes. -/
def win0 (begun : Bool) : WinLine := ⟨1, 1, 4950000000, line0, [⟨100, 100, 0, 100, 0, 0, 0, 0, 0, 0, 0, 0, false, false⟩], begun, false, []⟩

/-- It waits for pass B. -/
def ready63 (begun : Bool) : Dev := tiny.setWindow 63 [win0 begun]

/-- That core with frames. -/
def tinyFrames (fs : List Frame) : Dev := tiny.setStrm 63 { tiny.strm 63 with frames := fs }

/-- A lane at work. -/
def laned (d : Dev) (j : Job) : Dev := { d with pipe := { d.pipe with lanes := d.pipe.lanes.put 127 j } }

/-- A record block that failed. -/
def bad0 : Repair := ⟨⟨63, 0, false, 0, 1⟩, 0⟩

/-- A device that repairs it. -/
def repairing (d : Dev) : Dev := { d with pipe := { d.pipe with bad := [bad0] } }

/-- A device whose alarm hold runs. -/
def alarming : Dev := { dev0 with pipe := { dev0.pipe with alarmAt := some 4950000000 } }

/-- A tap that streams from its ring. -/
def streaming : Dev :=
  upped.wrs [(P.TAP_EN, [15], 1), (P.STREAMING, [15], 1), (P.ST_UPLINK, [15], 3), (P.TAP_SIZE, [15], 16), (P.TAP_PROD, [15], 4)]

/-- A core's cycle at a phase. -/
def phase (n : Nat) (c : Cycle) : Dev := (tiny.wr P.CYC_STATE [63] n).setCycle 63 (some c)

/-- A grant given to core 63 of device 6. -/
def given0 : Given := ⟨9, 6, 63, 4900000000, 200000000, false⟩

/-- A learned set that is being stored. -/
def job0 : BulkJob := ⟨0x09003F, 9, [1], .learned 63⟩


/-- A running solve of region 2. -/
def solving (t : Option Ticket) : Dev := { dev0 with cal := { dev0.cal with solves := dev0.cal.solves.put 2 ⟨t, [], .empty⟩ } }

/-- A view of core 63 whose latest frame has this CAPTURE. -/
def view0 (c : Nat) : View := ⟨5, 63, .empty, some c, c, false, 10000000, .empty, 0, none, []⟩

/-- A patch's fusion with that view in the lead. -/
def slot0 (c : Nat) : Slot := ⟨0, none, [], [view0 c], some 0, false, 0, 0, 0, 0, 0, .empty, none, none, false, false, false⟩

/-- A device that fuses patch 9. -/
def fusing (x : Slot) : Dev := (placed 5 5).setSlot 9 x

/-- A registration session. -/
def reg0 (cores : List Nat) (blinking : Bool) : Session6 := ⟨5100000000, cores, tick0, blinking⟩

/-- A device that runs it. -/
def registering (g : Session6) : Dev := { enabled 63 with fus := { (enabled 63).fus with regs := [g] } }

/-- A device that attaches tile 0 on bus 199. -/
def bused : Dev := (tiled 5).wr P.BUS_EN [199] 1

/-- A reply window open for tile 0 after so many missed replies. -/
def windowed (missed : Nat) : Dev :=
  (bused.setBus 199 { bused.bus 199 with window := some 0 }).setAttach 0 { bused.attach 0 with missed := missed }

/-- A temperature record. -/
def trec0 : TRec := ⟨0, 1, false, [0, 0, 0, 0, 0], [1, 2], 4990000000, 0⟩

/-- Patch 9 placed; a core of one pixel, 63, sees cell 0 of its tile 0. -/
def gridded (a owner : Nat) : Dev :=
  ((placed a owner).wrs [(P.WIDTH, [63], 1), (P.HEIGHT, [63], 1), (P.CELLS_X, [], 8), (P.CELLS_Y, [], 8)]).tblWrite 0x233F 0
    (List.replicate 4 (leBytes 8 (2 ^ 52))).flatten

/-- A device with one hit of that core waiting. -/
def hitting (d : Dev) (h : List Nat) : Dev := { d with fus := { d.fus with hits := [h] } }

/-- A hit of that pixel in the frame of a CAPTURE. -/
def hit0 (c : Nat) : List Nat := [63, 0, 0, 1, 30000, 5, 7, 4990000000, c]

/-- The characters of a record, behind its SOF. -/
def codes0 (b : List Byte) : List Nat := (encodeChrs false (k28_5 :: b.map fun x => ⟨false, x⟩)).1

/-- A health reply of tile 0. -/
def reply0 : List Byte := tileRecord ⟨0, 6, false, [], List.replicate 30 1, 0, 0⟩

/-- A device whose rank 15 migrates to rank 14. -/
def migrating : Dev :=
  dev0.wrs [(P.MIG_ACTIVE, [], 1), (P.MIG_SRC, [], 15), (P.MIG_DST, [], 14), (P.N_SVC, [], 1), (P.RANK_MAP_LO, [], 15)]

/-- A margin scan with steps already counted. -/
def scanned (counts todo : List Nat) (stopping : Bool) : Dev :=
  { dev0 with mem := { dev0.mem with scans := dev0.mem.scans.put 7 { scan0 with counts := counts, todo := todo, stopping := stopping } } }

/-- A calibration step with its eight results. -/
def calStep0 (step : Nat) (raw : Int) : CalStep := ⟨step, 7, List.replicate 8 raw, false, tick0⟩

/-- A converter in that step. -/
def calibrating (c : CalStep) : Dev := dev0.setMod 3 { dev0.mod 3 with cal := some c }

/-- A device whose channel 62 is in a driver state, its partner waiting. -/
def driven (s : Nat) : Dev := shut63.wrs [(P.DRV_STATE, [62], s), (P.CH_EN, [62], 1)]

/-- A device whose channel 62 is being diagnosed. -/
def diagnosed (w : DiagWhy) : Dev := shut63.setSh 62 { shut63.sh 62 with diag := some w }

/-- A record of the event log. -/
def ev0 : EvRec := ⟨1, 133, 0, 1, 4900000000, true, 1, 0, 0, [1, 2, 3, 4, 5, 6, 7, 8]⟩

/-! ## The spec's own numbers -/

/-- The check value of R44, over the ASCII string "123456789". -/
theorem test_crc32_check_value : crc32 [0x31, 0x32, 0x33, 0x34, 0x35, 0x36, 0x37, 0x38, 0x39] = 0xCBF43926 := by decide +kernel

/-- The check value of R196, over the same string. -/
theorem test_crc16_check_value : crc16 [0x31, 0x32, 0x33, 0x34, 0x35, 0x36, 0x37, 0x38, 0x39] = 0x29B1 := by decide +kernel

/-- Bytes 0 to 39 of the authenticated parameter write in the example of chapter 2. -/
theorem test_request_example : reqBody 0x4001 ⟨onChain, 1, 0x25, 0x3FF, 0x0102, 0, false, some ⟨2, 0x1A2B, []⟩,
      [0x18, 0x00, 0x10, 0x00, 0x08, 0x00, 0x00, 0x00], 0⟩ false =
    [0x21, 0x00, 0x01, 0x40, 0x25, 0x00, 0xFF, 0x03, 0x02, 0x01, 0x10, 0x00, 0x00, 0x00, 0, 0, 0, 0, 0, 0, 0, 0, 0, 0,
      0x02, 0x00, 0x2B, 0x1A, 0, 0, 0, 0, 0x18, 0x00, 0x10, 0x00, 0x08, 0, 0, 0] := by decide +kernel

/-- Stage 2 of the pixel example of chapter 4: row 200, column 320 of frame 5,001. -/
theorem test_temporal_example :
    temporal ⟨16, 400, 384, 0, false, 1, false, 0, 0, 0, 0⟩ 29648 29640 200 320 5001 = (false, 29642) := by decide +kernel

/-- Stage 4 of the same pixel, with its drift sum of −147. -/
theorem test_correct_example :
    correct ⟨1234560, 33423, -640, 256, 128, 29640, 0, 15, false⟩ (27, -50, 6) 29642 = 2610930 := by decide +kernel

/-- Stage 6 of the same pixel: knots 20 and 21 of its curve. -/
theorem test_curve_example :
    Curve.eval ⟨1280000, 9, List.replicate 20 0 ++ [31500, 31742] ++ List.replicate 43 0⟩ 2610686 = (31574, 20, false) := by
  decide +kernel

/-- Offsets 1 to 11 of the temperature record in the example of chapter 6. -/
theorem test_tile_record_example :
    (tileRecord ⟨0x0A5C3, 1, false, [0x2C, 0x05, 0x01, 0x06, 0x03], List.replicate 128 0, 0, 0⟩).take 11 =
    [0x8E, 0x00, 0xC3, 0xA5, 0x00, 0x11, 0x2C, 0x05, 0x01, 0x06, 0x03] := by decide +kernel

/-- Map C hashes the bank with the lowest three row bits, map B puts the bank at RA[8:6] (R268, Table 8-1). -/
theorem test_rank_place : rankPlace 2 0x16802 = (1, 0, 5) ∧ rankPlace 0 0x16802 = (1, 5, 5) ∧ rankPlace 1 0x2C2 = (33, 3, 0) := by
  decide +kernel

/-- K28.5 and D10.2 as IEEE 802.3 lists them under each disparity: the code R195 names (log 63). -/
theorem test_8b10b : encodeChr false k28_5 = (0b0011111010, true) ∧ encodeChr true k28_5 = (0b1100000101, false) ∧
    encodeChr false ⟨false, 0x4A⟩ = (0b0101010101, false) ∧ encodeChr true ⟨false, 0x4A⟩ = (0b0101010101, true) ∧
    decodeChrs false [0b0011111010, 0b0011111010] = none := by decide +kernel

/-! ## The table gives no bits, so no word spells a command -/

theorem test_no_word_spells_a_command : decodeTableWord 64 5 = none ∧ (st dev0).withFetchWord 64 5 = st dev0 := by decide +kernel

/-- HEALTH_STATUS of scope 0 is 42 bytes (R415). -/
theorem test_health_summary_size : dev0.healthSummary.length = 42 := by decide +kernel

/-- RAMP_I of the seam ramp reads what the ramp holds (Table 5-10). -/
theorem test_ramp_reads : (dev0.wr P.RAMP_I [63] 7).field P.RAMP_I [63] = 7 := by decide +kernel

/-! ## Ill-formed terms, which WellFormed refuses -/

/-- A request that is well formed. -/
def good : Req := untagged onChain []

/-- A request whose DEST does not fit. -/
def bad : Req := { good with dest := 1024 }

/-- A Seamlink header. -/
def seamHdr : SeamHdr := ⟨7, 4, 5, 6, 1, true⟩

/-- An envelope. -/
def envelope : Envelope := ⟨6, 1, 2⟩

/-- Each field of a host identity and of an authentication prefix out of its range is refused. -/
theorem test_wf_refuses_hosts : ([{ onChain with uplink := 4 }, { onChain with vlan := some 4096 }, { onChain with ip := 2 ^ 32 },
      { onChain with v6 := true, ip := 2 ^ 128 }, { onChain with port := 65536 }, { onChain with ingress := 1024 },
      { onChain with hid := 65536 }] : List HostId).all (fun h => !hostWf h) = true ∧
    ([⟨256, 0, List.replicate 16 0⟩, ⟨0, 2 ^ 48, List.replicate 16 0⟩, ⟨0, 0, []⟩] : List Auth).all (fun a => !authWf a) = true := by
  decide +kernel

/-- Each field of a request, a reply, an envelope and a relayed message out of its range is refused. -/
theorem test_wf_refuses_headers : ([{ good with host := { onChain with uplink := 4 } }, { good with version := 16 }, { good with dest := 1024 },
      { good with source := 1024 }, { good with seq := 65536 }, { good with gen := 65536 }, { good with rseq := 65536 },
      { good with auth := some ⟨0, 0, []⟩ },
      { good with params := List.replicate 1401 0 },
      { good with auth := some ⟨0, 0, List.replicate 16 0⟩, params := List.replicate 1393 0 }] : List Req).all (fun r => !reqWf r) = true ∧
    ([{ relayAns with source := 1024 }, { relayAns with opcode := 65536 }, { relayAns with seq := 65536 },
      { relayAns with status := 256 }, { relayAns with detail := 65536 }, { relayAns with gen := 65536 },
      { relayAns with auth := some ⟨0, 0, []⟩ },
      { relayAns with data := List.replicate 1397 0 }] : List RelayAnswer).all (fun a => !answerWf a) = true ∧
    ([⟨1024, 0, 0⟩, ⟨0, 65536, 0⟩, ⟨0, 0, 65536⟩] : List Envelope).all (fun e => !envelopeWf e) = true ∧
    ([.request 65536 good, .request 0 bad, .reply (List.replicate 1445 0)] : List Relayed).all (fun m => !relayedWf m) = true := by
  decide +kernel

/-- Each field of a Seamlink header, a grandmaster dataset and an advertisement out of its range is refused. -/
theorem test_wf_refuses_mesh_fields : ([{ seamHdr with link := 8 }, { seamHdr with hops := 256 }, { seamHdr with dest := 1024 },
      { seamHdr with src := 1024 }, { seamHdr with fseq := 2 ^ 32 }] : List SeamHdr).all (fun h => !seamWf h) = true ∧
    ([{ offer0 with prio1 := 256 }, { offer0 with cls := 256 }, { offer0 with acc := 256 }, { offer0 with var := 65536 },
      { offer0 with prio2 := 256 }, { offer0 with gm := 2 ^ 64 }, { offer0 with steps := 65536 }] : List Offer).all
      (fun o => !offerWf o) = true ∧
    ([{ lsa0 with uid := 2 ^ 64 }, { lsa0 with addr := 1024 }, { lsa0 with state := 256 }, { lsa0 with seq := 2 ^ 32 },
      { lsa0 with links := [] }, { lsa0 with links := List.replicate 8 1024 }, { lsa0 with offer := some { offer0 with cls := 256 } },
      { lsa0 with since := 2 ^ 64 }] : List Lsa).all (fun l => !lsaWf l) = true ∧ intWf 2147483648 = false ∧
    intWf (-2147483649) = false := by decide +kernel

/-- Every request whose header does not fit is refused. -/
theorem test_wf_refuses_requests : ([
    .ping bad, .deviceStatus bad, .fabricStatus bad, .fabricProfile bad, .coreStatus bad, .coreSetting bad, .coreEnable bad,
    .coreDisable bad, .frameStats bad, .pipeStatus bad, .pipeProfile bad, .shutterProfile bad, .shutterNow bad,
    .seamSolve bad, .calStatus bad, .calReload bad, .tileStatus bad, .patchStatus bad, .blinkRegister bad,
    .outputProfile bad, .enumerate bad, .addressSet bad, .census bad, .censusRead bad, .configStage bad, .configActivate bad,
    .configDiscard bad, .placementStatus bad, .timeStatus bad, .memStatus bad, .memProfile bad, .convSeqStart bad,
    .convStatus bad, .convCalibrateZero bad, .convCalibrateFullScale bad, .convCalibrateFactory bad,
    .convCalibrateAbandon bad, .shutterDriveStatus bad, .shutterTestDiagnose bad, .shutterTestClose bad,
    .shutterTestRelease bad, .shutterTestClear bad, .shutterTestApplyProfile bad, .nvCommit bad, .nvStatus bad, .doze bad,
    .wake bad, .workroomRestart bad, .eventRead bad, .eventRoute bad, .logRead bad, .healthStatus bad, .prmRead bad,
    .prmWrite bad, .prmBulkRead bad, .prmBulkWrite bad, .prmModify bad, .tapSet bad, .tapStream bad, .tapStreamStop bad,
    .tableRead bad, .tableWrite bad, .marginScan bad, .marginAbort bad, .view bad, .withdraw bad, .commit bad, .query bad,
    .ready bad, .state bad, .done bad, .reserve bad, .grant bad, .release bad, .sums bad, .nodes bad, .censusGather bad,
    .configExchange bad, .keyStatus bad, .keyRotate bad, .fwBegin bad, .fwData bad, .fwCommit bad, .fwSelectTrial bad,
    .fwSelectConfirm bad, .debugChallenge bad, .debugUnlock bad, .authSet bad, .timeLo bad] : List Instr).all (fun i => !i.wf) = true := by decide +kernel

/-- Each operand out of its range is refused (part 1). -/
theorem test_wf_refuses_operands_a : ([
    .parameterWrite bad 0 0, .parameterWrite good (2 ^ 24) 0, .parameterWrite good 0 (2 ^ 32), .seqGo bad 0, .seqGo good 4,
    .injGo bad 0, .injGo good 128, .testGo bad 0, .testGo good 128, .directData bad 0, .directData good (2 ^ 32),
    .data bad 0, .data good 4, .fspSel bad 0, .fspSel good 2, .kcpForward 65536 good, .kcpForward 0 bad,
    .relay { seamHdr with hops := 256 } envelope (.reply []), .relay seamHdr ⟨1024, 0, 0⟩ (.reply []),
    .relay seamHdr envelope (.request 65536 good), .relayReply 65536 relayAns,
    .relayReply 0 { relayAns with source := 1024 }, .relayGapTimeout 1024 0, .relayGapTimeout 0 65536,
    .broadcastKcp { seamHdr with hops := 256 } 0 good, .broadcastKcp seamHdr 65536 good, .broadcastKcp seamHdr 0 bad,
    .arpRequest 4 none 0 0 0, .arpRequest 0 (some 4096) 0 0 0, .arpRequest 0 none (2 ^ 48) 0 0,
    .arpRequest 0 none 0 (2 ^ 32) 0, .arpRequest 0 none 0 0 (2 ^ 32), .icmpEcho 4 none true 0 0 [],
    .icmpEcho 0 (some 4096) true 0 0 [], .icmpEcho 0 none true (2 ^ 128) 0 [], .icmpEcho 0 none true 0 (2 ^ 128) [],
    .neighbourSolicitation 4 none 0 0, .neighbourSolicitation 0 (some 4096) 0 0, .neighbourSolicitation 0 none (2 ^ 128) 0,
    .neighbourSolicitation 0 none 0 (2 ^ 128), .pauseFrame 4 0, .pauseFrame 0 65536, .pauseEnd 4, .unservedFrame 4 true,
    .sync 4 true 0 0 0 true, .sync 0 true (2 ^ 128) 0 0 true, .sync 0 true 0 256 0 true, .sync 0 true 0 0 65536 true,
    .followUp 4 0 0 0, .followUp 0 256 0 0, .followUp 0 0 65536 0, .followUp 0 0 0 (2 ^ 64), .delayResp 4 0 0 0,
    .delayResp 0 256 0 0, .delayResp 0 0 65536 0, .delayResp 0 0 0 (2 ^ 64), .announce 4 0 offer0, .announce 0 256 offer0,
    .announce 0 0 { offer0 with cls := 256 }, .delayReq 4] : List Instr).all (fun i => !i.wf) = true := by decide +kernel

/-- Each operand out of its range is refused (part 2). -/
theorem test_wf_refuses_operands_b : ([
    .heartbeat 8 (List.replicate 48 0), .heartbeat 0 [], .linkStateAdvertisement { seamHdr with hops := 256 } lsa0,
    .linkStateAdvertisement seamHdr { lsa0 with links := [] }, .topologyExpiry (2 ^ 64), .thirdMissedHeartbeat 8,
    .lossReport { seamHdr with hops := 256 } 0 0, .lossReport seamHdr (2 ^ 64) 0, .lossReport seamHdr 0 1024, .linkUp 8 true,
    .contribution ⟨{ seamHdr with hops := 256 }, []⟩, .tileRecordCarriage ⟨{ seamHdr with hops := 256 }, []⟩,
    .handoverData ⟨{ seamHdr with hops := 256 }, []⟩, .configurationBlock ⟨{ seamHdr with hops := 256 }, []⟩,
    .frameStart 32 0 0 .good, .frameStart 0 4 0 .good, .frameStart 0 0 65536 .good, .frameEnd 32 0 0 .good,
    .frameEnd 0 4 0 .good, .frameEnd 0 0 65536 .good, .lineStart 32 0 0 .good, .lineStart 0 4 0 .good,
    .lineStart 0 0 65536 .good, .lineEnd 32 0 .good, .lineEnd 0 4 .good, .imageLine 32 0 0 [] true .good,
    .imageLine 0 4 0 [] true .good, .imageLine 0 0 64 [] true .good, .telemetry 32 0 0 [] true .good,
    .telemetry 0 4 0 [] true .good, .telemetry 0 0 64 [] true .good, .genericShortPacket 32 0 .good,
    .genericShortPacket 0 4 .good, .frameTimeout 128, .coreWrite 8 .done, .coreWrite 0 (.readBack [1, 2, 3, 4, 5]),
    .laneGrant 128, .passA 128 [], .passA 0 [⟨false, false, 1024⟩], .passB 128, .alarmLineFault 2 true, .tapDatagram 16,
    .rateWindow 4 0, .rateWindow 0 65536, .bridgeTransferError ⟨2, true⟩, .cycleRequest 64, .retry 64, .grantStartLimit 64,
    .maxDefer 64, .grantVoid (2 ^ 22), .openSettleEnd 64, .openConfirmation 64, .openConfirmationTimeout 64,
    .flagClosedFault 64, .gatherResult 64, .solveEnd 4, .publication (2 ^ 22), .holdPeriod (2 ^ 22), .tileRecordSend 200,
    .heldNoticeRepeat (2 ^ 18)] : List Instr).all (fun i => !i.wf) = true := by decide +kernel

/-- Each operand out of its range is refused (part 3). -/
theorem test_wf_refuses_operands_c : ([
    .tileSilent (2 ^ 18), .healthQuery 200, .healthReply 200 [] [] [], .healthReply 0 [1024] [] [], .healthReply 0 [] [1024] [], .healthReply 0 [] [] [1024], .replyWindowClose 200,
    .directoryDecision (2 ^ 22), .rateMove 4, .directoryTakeover (2 ^ 22), .commitRepeat (2 ^ 22), .refreshDue 16 0 true,
    .refreshDue 0 8 true, .mr4Poll [], .mr4Poll (List.replicate 16 8), .zqCalibration 8, .powerDownEntry 16,
    .dramReadError 16 0 0 0 ⟨0, true⟩ .parity, .dramReadError 0 8 0 0 ⟨0, true⟩ .parity, .dramReadError 0 0 65536 0 ⟨0, true⟩ .parity,
    .dramReadError 0 0 0 1024 ⟨0, true⟩ .parity, .dramReadError 0 0 0 0 ⟨26, true⟩ .parity,
    .dramReadError 0 0 0 0 ⟨0, true⟩ (.bytes 69), .marginScanStep 8 0, .marginScanStep 0 65536, .conversionEnd 4 0 true 0 0,
    .conversionEnd 0 2147483648 true 0 0, .conversionEnd 0 0 true 2147483648 0, .conversionEnd 0 0 true 0 2147483648,
    .calStepDone 4, .pullInEnd 64 0, .pullInEnd 0 65536, .maxOn 64, .releaseDecayEnd 64, .onStateFault 64 .openLoad,
    .offStateDiagnosis 64 0 0 true, .offStateDiagnosis 0 65536 0 true, .offStateDiagnosis 0 0 65536 true, .diagPeriod 64,
    .stuckOn 32, .vshutLow 65536, .compaction 8, .refreshScan [] [] 101, .recallEnd (some (2 ^ 64, 0, true)),
    .resetN (2 ^ 64) ⟨0, 0⟩, .supervisorTrip 16 true ⟨0, 0⟩, .memoryTestEnd [16], .fwViolation (2 ^ 32),
    .evtHoldoff 512, .eventDelivery 4, .tjHistogram 65536,
    .unallocatedOpcode 65536 good, .unallocatedOpcode 0 bad, .csiLinkUp 32 true, .uplinkLinkUp 4 true, .ulModabs 4 true,
    .releasePhaseEnd 64, .silentRecordRepeat (2 ^ 18)] : List Instr).all (fun i => !i.wf) = true := by decide +kernel

/-- A body longer than its frame, or a scan of more records than there are, is refused. -/
theorem test_wf_refuses_long_bodies (b : List Byte) (w : List Nat) (hb : 65535 < b.length) (hw : 65536 < w.length) : ([
    .icmpEcho 0 none true 0 0 b, .chainFrame true b true true true, .enumerationToken b false, .contribution ⟨seamHdr, b⟩,
    .tileRecordCarriage ⟨seamHdr, b⟩, .handoverData ⟨seamHdr, b⟩, .configurationBlock ⟨seamHdr, b⟩, .svcSend b true, .debugRequest b,
    .imageLine 0 0 0 b true .good, .telemetry 0 0 0 b true .good,
    .healthReply 0 w [] [], .healthReply 0 [] w [], .healthReply 0 [] [] w,
    .refreshScan w [] 0, .refreshScan [] w 0] : List Instr).all (fun i => !i.wf) = true := by
  simp [Instr.wf, charsWf, seamMsgWf]; and_intros <;> omega

/-- The same commands with operands in range are accepted (part 1). -/
theorem test_wf_accepts_a : ([
    .parameterWrite good 0 0, .seqGo good 0, .injGo good 0, .testGo good 0, .directData good 0, .data good 0, .fspSel good 0,
    .kcpForward 0 good, .relay seamHdr envelope (.reply []), .relayReply 0 relayAns, .relayGapTimeout 0 0,
    .broadcastKcp seamHdr 0 good, .arpRequest 0 none 0 0 0, .icmpEcho 0 none true 0 0 [], .neighbourSolicitation 0 none 0 0,
    .pauseFrame 0 0, .pauseEnd 0, .unservedFrame 0 true, .sync 0 true 0 0 0 true, .followUp 0 0 0 0, .delayResp 0 0 0 0,
    .announce 0 0 offer0, .delayReq 0, .chainFrame true [] true true true, .enumerationToken [] false,
    .heartbeat 0 (List.replicate 48 0), .linkStateAdvertisement seamHdr lsa0, .topologyExpiry 0, .thirdMissedHeartbeat 0,
    .lossReport seamHdr 0 0, .linkUp 0 true, .contribution ⟨seamHdr, []⟩, .tileRecordCarriage ⟨seamHdr, []⟩,
    .handoverData ⟨seamHdr, []⟩, .configurationBlock ⟨seamHdr, []⟩, .svcSend [] true, .debugRequest [], .frameStart 0 0 0 .good,
    .frameEnd 0 0 0 .good, .lineStart 0 0 0 .good, .lineEnd 0 0 .good, .imageLine 0 0 0 [] true .good,
    .telemetry 0 0 0 [] true .good, .genericShortPacket 0 0 .good, .frameTimeout 0, .coreWrite 0 .done, .laneGrant 0,
    .passA 0 [], .passB 0, .alarmLineFault 0 true, .tapDatagram 0, .rateWindow 0 0, .bridgeTransferError ⟨0, true⟩,
    .cycleRequest 0, .retry 0, .grantStartLimit 0, .maxDefer 0, .grantVoid 0, .openSettleEnd 0, .openConfirmation 0] : List Instr).all (fun i => i.wf) = true := by decide +kernel

/-- The same commands with operands in range are accepted (part 2). -/
theorem test_wf_accepts_b : ([
    .openConfirmationTimeout 0, .flagClosedFault 0, .gatherResult 0, .solveEnd 0, .publication 0, .holdPeriod 0,
    .tileRecordSend 0, .heldNoticeRepeat 0, .tileSilent 0, .healthQuery 0, .healthReply 0 [] [] [], .replyWindowClose 0,
    .directoryDecision 0, .rateMove 0, .directoryTakeover 0, .commitRepeat 0, .refreshDue 0 0 true,
    .mr4Poll (List.replicate 16 0), .zqCalibration 0, .powerDownEntry 0, .dramReadError 0 0 0 0 ⟨0, true⟩ .parity,
    .marginScanStep 0 0, .conversionEnd 0 0 true 0 0, .calStepDone 0, .pullInEnd 0 0, .maxOn 0, .releaseDecayEnd 0,
    .onStateFault 0 .openLoad, .offStateDiagnosis 0 0 0 true, .diagPeriod 0, .stuckOn 0, .vshutLow 0, .compaction 0,
    .refreshScan [] [] 0, .recallEnd none, .resetN 0 ⟨0, 0⟩, .supervisorTrip 0 true ⟨0, 0⟩, .memoryTestEnd [],
    .fwViolation 0, .wakeComplete, .evtHoldoff 0, .eventDelivery 0, .tjHistogram 0,
    .unallocatedOpcode 0 good, .csiLinkUp 0 true, .uplinkLinkUp 0 true, .ulModabs 0 true, .releasePhaseEnd 0,
    .silentRecordRepeat 0] : List Instr).all (fun i => i.wf) = true := by decide +kernel

/-! ## What the obligations assume is met -/

/-- What `Obligations.StepRunsFrontCommand` assumes is met. -/
theorem meets_StepRunsFrontCommand :
    (∃ s : State, ∃ c : Instr, ∃ q : List Instr, s.pending = c :: q) :=
  ⟨{ st dev0 with pending := [.ping (untagged onChain [])] }, .ping (untagged onChain []), [], by decide +kernel⟩

/-- What `Obligations.EmptyQueueTicks` assumes is met. -/
theorem meets_EmptyQueueTicks :
    (∃ s : State, s.pending = []) :=
  ⟨st dev0, by decide +kernel⟩

/-- What `Obligations.PinsFollowState` assumes is met. -/
theorem meets_PinsFollowState :
    (∃ s : State, ∃ t : State, step s = .next t) :=
  ⟨st dev0, State.run (st dev0) Dev.tick, by rfl⟩

/-- What `Obligations.WritesReadBack` assumes is met. -/
theorem meets_WritesReadBack :
    (∃ r : Row, ∃ ix : List Nat, ∃ q : Row, ∃ jx : List Nat, q.key jx ≠ r.key ix) ∧
    (∃ t : Nat, ∃ o : Nat, ∃ bs : List Byte, ∃ a, ((a < tblAddr t o ∨ tblAddr t o + bs.length ≤ a))) :=
  ⟨⟨P.ADDR, [], P.NEIGH, [7], by decide +kernel⟩,
   ⟨0x2010, 4, [1, 2], tblAddr 0x2010 4 + 2, by decide +kernel⟩⟩

/-- What `Obligations.RequestsThatDoNotArrive` assumes is met. -/
theorem meets_RequestsThatDoNotArrive :
    (∃ c : Instr, ∃ s : State, ∃ op : Op, ∃ r : Req, requestOf s.here c = some (op, r) ∧ (s.dev.arrives r).1 = false) ∧
    (∃ c : Instr, ∃ s : State, ∃ op : Op, ∃ r : Req, requestOf s.here c = some (op, r) ∧ s.dev.arrives r = (true, false)) :=
  ⟨⟨.ping (untagged onChain []), st { dev0 with boot := { dev0.boot with inReset := true } }, ⟨0, .open_, true⟩,
     untagged onChain [], by decide +kernel, by decide +kernel⟩,
   ⟨.ping (untagged { onUplink3 with vlan := some 7 } []), st (dev0.wrs [(P.UL_EN, [3], 1), (P.UL_LINK_UP, [3], 1)]),
     ⟨0, .open_, true⟩, untagged { onUplink3 with vlan := some 7 } [], by decide +kernel, by decide +kernel⟩⟩

/-- What `Obligations.EngineRefusals` assumes is met. -/
theorem meets_EngineRefusals :
    (∃ c : Instr, ∃ s : State, ∃ op : Op, ∃ r : Req, requestOf s.here c = some (op, r) ∧ s.dev.arrives r = (true, true) ∧
      s.dev.destOf r = .here ∧ r.version ≠ 1) ∧
    (∃ c : Instr, ∃ s : State, ∃ op : Op, ∃ r : Req, requestOf s.here c = some (op, r) ∧ s.dev.arrives r = (true, true) ∧
      s.dev.destOf r = .here ∧ r.version = 1 ∧ r.dest = 0x3FF ∧ op.bcast = false ∧ op.code ≠ 0x0600) ∧
    (∃ c : Instr, ∃ s : State, ∃ op : Op, ∃ r : Req, requestOf s.here c = some (op, r) ∧ s.dev.arrives r = (true, true) ∧
      s.dev.destOf r = .here ∧ earlyChecks op r = none ∧ s.dev.authStep op r = .pass ∧ s.dev.stateGate op.code r = none ∧
      op.cls = .device ∧ r.host.via ≠ .device) ∧
    (∃ c : Instr, ∃ s : State, ∃ op : Op, ∃ r : Req, requestOf s.here c = some (op, r) ∧ s.dev.arrives r = (true, true) ∧
      s.dev.destOf r = .here ∧ earlyChecks op r = none ∧ s.dev.authStep op r = .pass ∧ s.dev.stateGate op.code r = none ∧
      ((op.cls = .device → r.host.via = .device)) ∧ 1400 < payloadLen r) ∧
    (∃ c : Instr, ∃ s : State, ∃ op : Op, ∃ r : Req, requestOf s.here c = some (op, r) ∧ s.dev.rd P.ADDR = 0x3FF ∧
      s.dev.arrives r = (true, true) ∧ ((r.host.via = .uplink ∨ (r.host.via = .service ∧ r.dest ≠ 0x3FF)))) ∧
    (∃ s : State, ∃ r : Req, s.dev.arrives r = (true, true) ∧ s.dev.destOf r = .here ∧ r.version = 1) :=
  ⟨⟨.ping ({ untagged onChain [] with version := 2 }), st dev0, ⟨0, .open_, true⟩, { untagged onChain [] with version := 2 },
     by decide +kernel, by decide +kernel, by decide +kernel, by decide +kernel⟩,
   ⟨.deviceStatus ({ untagged onChain [] with dest := 0x3FF }), st dev0, ⟨1, .open_, false⟩,
     { untagged onChain [] with dest := 0x3FF }, by decide +kernel, by decide +kernel, by decide +kernel, by decide +kernel,
     by decide +kernel, by decide +kernel, by decide +kernel⟩,
   ⟨.view (untagged onChain (List.replicate 32 0)), st dev0, ⟨0x4400, .device, false⟩,
     withByte 8 1 (untagged onChain (List.replicate 32 0)), by decide +kernel, by decide +kernel, by decide +kernel,
     by decide +kernel, by decide +kernel, by decide +kernel, by decide +kernel, by decide +kernel⟩,
   ⟨.deviceStatus (untagged onChain (List.replicate 1401 0)), st dev0, ⟨1, .open_, false⟩,
     untagged onChain (List.replicate 1401 0), by decide +kernel, by decide +kernel, by decide +kernel, by decide +kernel,
     by decide +kernel, by decide +kernel, by decide +kernel, by decide +kernel⟩,
   ⟨.ping (untagged onService []), st (dev0.wr P.ADDR [] 0x3FF), ⟨0, .open_, true⟩, untagged onService [], by decide +kernel,
     by decide +kernel, by decide +kernel, by decide +kernel⟩,
   ⟨st dev0, untagged onChain [], by decide +kernel, by decide +kernel, by decide +kernel⟩⟩

/-- What `Obligations.TagsKeysAndReplay` assumes is met. -/
theorem meets_TagsKeysAndReplay :
    (∃ c : Instr, ∃ s : State, ∃ op : Op, ∃ r : Req, requestOf s.here c = some (op, r) ∧ s.dev.arrives r = (true, true) ∧
      s.dev.destOf r = .here ∧ earlyChecks op r = none ∧ r.auth = none ∧ ((op.cls = .service ∨ (op.cls = .operator ∧
      s.dev.relaxed r.host.via = false)))) ∧
    (∃ c : Instr, ∃ s : State, ∃ op : Op, ∃ r : Req, requestOf s.here c = some (op, r) ∧ s.dev.arrives r = (true, true) ∧
      s.dev.destOf r = .here ∧ earlyChecks op r = none ∧ ∃ a, r.auth = some a ∧ ((12 ≤ a.slot ∨ s.dev.keyOf a.slot = none ∨
      (s.dev.fresh a.slot).high = 0xFFFFFFFFFFFF))) ∧
    (∃ c : Instr, ∃ s : State, ∃ op : Op, ∃ r : Req, requestOf s.here c = some (op, r) ∧ s.dev.arrives r = (true, true) ∧
      s.dev.destOf r = .here ∧ earlyChecks op r = none ∧ ∃ a, r.auth = some a ∧ s.dev.noKey a.slot = false ∧ s.dev.tagGood
      op.code r a = false) ∧
    (∃ c : Instr, ∃ s : State, ∃ op : Op, ∃ r : Req, ∃ a : Auth, requestOf s.here c = some (op, r) ∧ s.dev.arrives r = (true,
      true) ∧ s.dev.destOf r = .here ∧ earlyChecks op r = none ∧ r.auth = some a ∧ r.rtx = false ∧ s.dev.noKey a.slot = false
      ∧ s.dev.tagGood op.code r a = true ∧ (s.dev.fresh a.slot).accepts a.counter = false) ∧
    (∃ c : Instr, ∃ s : State, ∃ op : Op, ∃ r : Req, ∃ a : Auth, requestOf s.here c = some (op, r) ∧ s.dev.arrives r = (true,
      true) ∧ s.dev.destOf r = .here ∧ earlyChecks op r = none ∧ r.auth = some a ∧ r.rtx = false ∧ s.dev.noKey a.slot = false
      ∧ s.dev.tagGood op.code r a = true ∧ (s.dev.fresh a.slot).accepts a.counter = true ∧ op.cls = .service ∧ a.slot < 8) :=
  ⟨⟨.calReload (untagged onChain [0]), st dev0, ⟨0x0404, .service, false⟩, untagged onChain [0], by decide +kernel,
     by decide +kernel, by decide +kernel, by decide +kernel, by decide +kernel, by decide +kernel⟩,
   ⟨.ping ({ untagged onChain [] with auth := some ⟨12, 1, []⟩ }), st dev0, ⟨0, .open_, true⟩,
     { untagged onChain [] with auth := some ⟨12, 1, []⟩ }, by decide +kernel, by decide +kernel, by decide +kernel,
     by decide +kernel, (⟨12, 1, []⟩ : Auth), by decide +kernel, by decide +kernel⟩,
   ⟨.ping ({ untagged onChain [] with auth := some ⟨8, 1, []⟩ }), st dev0, ⟨0, .open_, true⟩,
     { untagged onChain [] with auth := some ⟨8, 1, []⟩ }, by decide +kernel, by decide +kernel, by decide +kernel,
     by decide +kernel, (⟨8, 1, []⟩ : Auth), by decide +kernel, by decide +kernel, by decide +kernel⟩,
   ⟨.ping (ask 0 []), st ({ dev0 with boot := { dev0.boot with fresh := dev0.boot.fresh.put 8 ⟨1, 1, 64⟩ } }),
     ⟨0, .open_, true⟩, ask 0 [], (⟨8, 1, tagFor (List.replicate 32 7) 0 (reqBody 0 (ask 0 []) false)⟩ : Auth),
     by decide +kernel, by decide +kernel, by decide +kernel, by decide +kernel, ask_auth _ _, by decide +kernel,
     by decide +kernel, tag_good_ask _ _ _ (by decide) (by decide), by decide +kernel⟩,
   ⟨.calReload (ask7 0x0404 [0]), st dev7, ⟨0x0404, .service, false⟩, ask7 0x0404 [0],
     (⟨7, 1, tagFor (List.replicate 32 7) 0 (reqBody 0x0404 (ask7 0x0404 [0]) false)⟩ : Auth), by decide +kernel,
     by decide +kernel, by decide +kernel, by decide +kernel, ask7_auth _ _, by decide +kernel, by decide +kernel,
     tag_good_ask7 _ _ _ (by decide) (by decide), by decide +kernel, by decide +kernel, by decide +kernel⟩⟩

/-- What `Obligations.RetransmissionResends` assumes is met. -/
theorem meets_RetransmissionResends :
    (∃ c : Instr, ∃ s : State, ∃ op : Op, ∃ r : Req, ∃ e : DupEntry, requestOf s.here c = some (op, r) ∧ s.dev.arrives r =
      (true, true) ∧ s.dev.destOf r = .here ∧ earlyChecks op r = none ∧ s.dev.authStep op r = .resend e) :=
  ⟨.ping ({ untagged onChain [] with rtx := true }), st ({ dev0 with kcp := { dev0.kcp with dup := [seen] } }),
     ⟨0, .open_, true⟩, { untagged onChain [] with rtx := true }, seen, by decide +kernel, by decide +kernel,
     by decide +kernel, by decide +kernel, by decide +kernel⟩

/-- What `Obligations.DozeDeniesRequests` assumes is met. -/
theorem meets_DozeDeniesRequests :
    (∃ c : Instr, ∃ s : State, ∃ op : Op, ∃ r : Req, requestOf s.here c = some (op, r) ∧ s.dev.arrives r = (true, true) ∧
      s.dev.destOf r = .here ∧ earlyChecks op r = none ∧ s.dev.authStep op r = .pass ∧ s.dev.rd P.DEV_STATE = 3 ∧ op.code ∉
      [0x0000, 0x0001, 0x8000, 0x0B01, 0x4403, 0x4404]) :=
  ⟨.coreStatus (untagged onChain [0]), st (dev0.wr P.DEV_STATE [] 3), ⟨0x0200, .open_, false⟩, untagged onChain [0],
     by decide +kernel, by decide +kernel, by decide +kernel, by decide +kernel, by decide +kernel, by decide +kernel,
     by decide +kernel⟩

/-- What `Obligations.StateGate` assumes is met. -/
theorem meets_StateGate :
    (∃ c : Instr, ∃ s : State, ∃ op : Op, ∃ r : Req, requestOf s.here c = some (op, r) ∧ s.dev.arrives r = (true, true) ∧
      s.dev.destOf r = .here ∧ earlyChecks op r = none ∧ s.dev.authStep op r = .pass ∧ 1 < op.code ∧ op.code < 0x8000 ∧
      s.dev.recalling = false ∧ s.dev.rd P.DEV_STATE = 7 ∧ recoverySet op.code r = false) ∧
    (∃ c : Instr, ∃ s : State, ∃ op : Op, ∃ r : Req, requestOf s.here c = some (op, r) ∧ s.dev.arrives r = (true, true) ∧
      s.dev.destOf r = .here ∧ earlyChecks op r = none ∧ s.dev.authStep op r = .pass ∧ 1 < op.code ∧ op.code < 0x8000 ∧
      s.dev.recalling = false ∧ s.dev.rd P.DEV_STATE ∉ [3, 5, 6, 7] ∧ s.dev.boot.started = false) ∧
    (∃ c : Instr, ∃ s : State, ∃ op : Op, ∃ r : Req, requestOf s.here c = some (op, r) ∧ s.dev.arrives r = (true, true) ∧
      s.dev.destOf r = .here ∧ earlyChecks op r = none ∧ s.dev.authStep op r = .pass ∧ 1 < op.code ∧ op.code < 0x8000 ∧
      s.dev.recalling = false ∧ s.dev.rd P.DEV_STATE ∉ [3, 5, 6, 7] ∧ s.dev.boot.started = true ∧ s.dev.boot.running = false) :=
  ⟨⟨.coreStatus (untagged onChain [0]), st (dev0.wr P.DEV_STATE [] 7), ⟨0x0200, .open_, false⟩, untagged onChain [0],
     by decide +kernel, by decide +kernel, by decide +kernel, by decide +kernel, by decide +kernel, by decide +kernel,
     by decide +kernel, by decide +kernel, by decide +kernel, by decide +kernel⟩,
   ⟨.coreStatus (untagged onChain [0]), st ({ dev0 with boot := { dev0.boot with started := false } }),
     ⟨0x0200, .open_, false⟩, untagged onChain [0], by decide +kernel, by decide +kernel, by decide +kernel,
     by decide +kernel, by decide +kernel, by decide +kernel, by decide +kernel, by decide +kernel, by decide +kernel,
     by decide +kernel⟩,
   ⟨.coreStatus (untagged onChain [0]), st ({ dev0 with boot := { dev0.boot with running := false } }),
     ⟨0x0200, .open_, false⟩, untagged onChain [0], by decide +kernel, by decide +kernel, by decide +kernel,
     by decide +kernel, by decide +kernel, by decide +kernel, by decide +kernel, by decide +kernel, by decide +kernel,
     by decide +kernel, by decide +kernel⟩⟩

/-- What `Obligations.TakenChangesNothingElse` assumes is met. -/
theorem meets_TakenChangesNothingElse :
    (∃ d : Dev, d.inHand.length < 64) ∧
    (∃ r : Req, r.auth = none) ∧
    (∃ r : Req, ∃ a, r.auth = some a) :=
  ⟨⟨{ dev0 with kcp := { dev0.kcp with held := List.replicate 63 ⟨0, untagged onChain [], .setPoint, ⟨none, 0⟩⟩ } },
     by decide +kernel⟩,
   ⟨untagged onChain [], by decide +kernel⟩,
   ⟨ask 0 [], (⟨8, 1, tagFor (List.replicate 32 7) 0 (reqBody 0 (ask 0 []) false)⟩ : Auth), ask_auth _ _⟩⟩

/-- What `Obligations.StatusRequests` assumes is met. -/
theorem meets_StatusRequests :
    (∃ s : State, ∃ r : Req, Serves ⟨0x0000, .open_, true⟩ r s.dev ∧ r.params = []) ∧
    (∃ s : State, ∃ r : Req, Serves ⟨0x0001, .open_, false⟩ r s.dev ∧ r.params = []) ∧
    (∃ s : State, ∃ r : Req, Serves ⟨0x0100, .open_, false⟩ r s.dev ∧ r.params = []) ∧
    (∃ s : State, ∃ r : Req, ∃ p : Nat, ∃ m : Nat, ∃ w : Nat, Serves ⟨0x0101, .operator, true⟩ r s.dev ∧ r.params =
      [BitVec.ofNat 8 p] ∧ (p, m, w) ∈ [(0, 16, 250), (1, 8, 100), (2, 32, 500)]) ∧
    (∃ s : State, ∃ r : Req, ∃ k : Nat, Serves ⟨0x0200, .open_, false⟩ r s.dev ∧ r.params = [BitVec.ofNat 8 k] ∧ k < 64) ∧
    (∃ s : State, ∃ r : Req, ∃ k : Nat, Serves ⟨0x0203, .open_, false⟩ r s.dev ∧ r.params = [BitVec.ofNat 8 k] ∧ k < 128) ∧
    (∃ s : State, ∃ r : Req, ∃ k : Nat, Serves ⟨0x0300, .open_, false⟩ r s.dev ∧ r.params = [BitVec.ofNat 8 k] ∧ k < 64) ∧
    (∃ s : State, ∃ r : Req, ∃ k : Nat, Serves ⟨0x0403, .open_, false⟩ r s.dev ∧ r.params = [BitVec.ofNat 8 k] ∧ k < 64) :=
  ⟨⟨st dev0, ask 0 [], serves_ask (by decide +kernel) ⟨0x0000, _, _⟩ _ nofun (by decide +kernel), by decide +kernel⟩,
   ⟨st dev0, ask 1 [], serves_ask (by decide +kernel) ⟨0x0001, _, _⟩ _ nofun (by decide +kernel), by decide +kernel⟩,
   ⟨st dev0, ask 0x0100 [], serves_ask (by decide +kernel) ⟨0x0100, _, _⟩ _ nofun (by decide +kernel), by decide +kernel⟩,
   ⟨st dev0, ask 0x0101 [2], 2, 32, 500, serves_ask (by decide +kernel) ⟨0x0101, _, _⟩ _ nofun (by decide +kernel),
     by decide +kernel, by decide +kernel⟩,
   ⟨st dev0, ask 0x0200 [63], 63, serves_ask (by decide +kernel) ⟨0x0200, _, _⟩ _ nofun (by decide +kernel),
     by decide +kernel, by decide +kernel⟩,
   ⟨st dev0, ask 0x0203 [127], 127, serves_ask (by decide +kernel) ⟨0x0203, _, _⟩ _ nofun (by decide +kernel),
     by decide +kernel, by decide +kernel⟩,
   ⟨st dev0, ask 0x0300 [63], 63, serves_ask (by decide +kernel) ⟨0x0300, _, _⟩ _ nofun (by decide +kernel),
     by decide +kernel, by decide +kernel⟩,
   ⟨st dev0, ask 0x0403 [63], 63, serves_ask (by decide +kernel) ⟨0x0403, _, _⟩ _ nofun (by decide +kernel),
     by decide +kernel, by decide +kernel⟩⟩

/-- What `Obligations.ProfileRequests` assumes is met. -/
theorem meets_ProfileRequests :
    (∃ s : State, ∃ r : Req, ∃ k : Nat, ∃ p : Nat, Serves ⟨0x0301, .operator, false⟩ r s.dev ∧ r.params = [BitVec.ofNat 8 k,
      BitVec.ofNat 8 p] ∧ ((k < 64 ∨ k = 0xFF)) ∧ p < 8) ∧
    (∃ s : State, ∃ r : Req, ∃ p : Nat, Serves ⟨0x0400, .operator, true⟩ r s.dev ∧ r.params = [BitVec.ofNat 8 p] ∧ p < 7) ∧
    (∃ s : State, ∃ r : Req, ∃ p : Nat, Serves ⟨0x0503, .operator, true⟩ r s.dev ∧ r.params = [BitVec.ofNat 8 p] ∧ p < 7) :=
  ⟨⟨st dev0, ask 0x0301 [0xFF, 7], 0xFF, 7, serves_ask (by decide +kernel) ⟨0x0301, _, _⟩ _ nofun (by decide +kernel),
     by decide +kernel, by decide +kernel, by decide +kernel⟩,
   ⟨st dev0, ask 0x0400 [6], 6, serves_ask (by decide +kernel) ⟨0x0400, _, _⟩ _ nofun (by decide +kernel), by decide +kernel,
     by decide +kernel⟩,
   ⟨st dev0, ask 0x0503 [6], 6, serves_ask (by decide +kernel) ⟨0x0503, _, _⟩ _ nofun (by decide +kernel), by decide +kernel,
     by decide +kernel⟩⟩

/-- What `Obligations.CoreRequests` assumes is met. -/
theorem meets_CoreRequests :
    (∃ s : State, ∃ r : Req, ∃ k : Nat, Serves ⟨0x0202, .operator, false⟩ r s.dev ∧ r.params = [BitVec.ofNat 8 k, 0] ∧ k < 64
      ∧ s.dev.is P.CORE_EN [k] = false) ∧
    (∃ s : State, ∃ r : Req, ∃ k : Nat, Serves ⟨0x0202, .operator, false⟩ r s.dev ∧ r.params = [BitVec.ofNat 8 k, 0] ∧ k < 64
      ∧ s.dev.is P.CORE_EN [k] = true ∧ (s.dev.strm k).openFrame = none) ∧
    (∃ s : State, ∃ r : Req, ∃ k : Nat, Serves ⟨0x0202, .operator, false⟩ r s.dev ∧ r.params = [BitVec.ofNat 8 k, 0] ∧ k < 64
      ∧ s.dev.is P.CORE_EN [k] = true ∧ (s.dev.strm k).openFrame ≠ none) ∧
    (∃ s : State, ∃ r : Req, ∃ k : Nat, Serves ⟨0x0202, .operator, false⟩ r s.dev ∧ r.params = [BitVec.ofNat 8 k, 1] ∧ k < 64
      ∧ (s.dev.setting k).disabling = false ∧ s.dev.is P.CORE_EN [k] = true) ∧
    (∃ s : State, ∃ r : Req, ∃ k : Nat, Serves ⟨0x0202, .operator, false⟩ r s.dev ∧ r.params = [BitVec.ofNat 8 k, 1] ∧ k < 64
      ∧ (s.dev.setting k).disabling = false ∧ s.dev.is P.CORE_EN [k] = false ∧ s.dev.enableCheck k = none ∧ (s.dev.nv.bulkRec
      (factoryRid k)).any (·.damaged) = false) ∧
    (∃ s : State, ∃ r : Req, ∃ k : Nat, ∃ p : Nat, Serves ⟨0x0201, .operator, false⟩ r s.dev ∧ r.params = [BitVec.ofNat 8 k,
      BitVec.ofNat 8 p] ∧ k < 64 ∧ p < 16 ∧ ¬ (byteAt (s.dev.tblRead (0x2010 + p) 0 8) 0 = 0 ∧ leAt (s.dev.tblRead (0x2010 +
      p) 0 8) 2 2 = 0 ∧ leAt (s.dev.tblRead (0x2010 + p) 0 8) 4 2 = 0) ∧ s.dev.changeCheck k (leAt (s.dev.tblRead (0x2010 + p)
      0 8) 2 2) (leAt (s.dev.tblRead (0x2010 + p) 0 8) 4 2) = none ∧ s.dev.gathering k = false) ∧
    (∃ s : State, ∃ r : Req, ∃ k : Nat, ∃ p : Nat, Serves ⟨0x0201, .operator, false⟩ r s.dev ∧ r.params = [BitVec.ofNat 8 k,
      BitVec.ofNat 8 p] ∧ k < 64 ∧ p < 16 ∧ ¬ (byteAt (s.dev.tblRead (0x2010 + p) 0 8) 0 = 0 ∧ leAt (s.dev.tblRead (0x2010 +
      p) 0 8) 2 2 = 0 ∧ leAt (s.dev.tblRead (0x2010 + p) 0 8) 4 2 = 0) ∧ s.dev.changeCheck k (leAt (s.dev.tblRead (0x2010 + p)
      0 8) 2 2) (leAt (s.dev.tblRead (0x2010 + p) 0 8) 4 2) = none ∧ s.dev.gathering k = true) :=
  ⟨⟨st dev0, ask 0x0202 [63, 0], 63, serves_ask (by decide +kernel) ⟨0x0202, _, _⟩ _ nofun (by decide +kernel),
     by decide +kernel, by decide +kernel, by decide +kernel⟩,
   ⟨st (dev0.wrs [(P.CORE_EN, [63], 1)]), ask 0x0202 [63, 0], 63,
     serves_ask (by decide +kernel) ⟨0x0202, _, _⟩ _ nofun (by decide +kernel), by decide +kernel, by decide +kernel,
     by decide +kernel, by decide +kernel⟩,
   ⟨st (opened 63 0), ask 0x0202 [63, 0], 63, serves_ask (by decide +kernel) ⟨0x0202, _, _⟩ _ nofun (by decide +kernel),
     by decide +kernel, by decide +kernel, by decide +kernel, by decide +kernel⟩,
   ⟨st (dev0.wrs [(P.CORE_EN, [63], 1)]), ask 0x0202 [63, 1], 63,
     serves_ask (by decide +kernel) ⟨0x0202, _, _⟩ _ nofun (by decide +kernel), by decide +kernel, by decide +kernel,
     by decide +kernel, by decide +kernel⟩,
   ⟨st (enableable 63), ask 0x0202 [63, 1], 63, serves_ask (by decide +kernel) ⟨0x0202, _, _⟩ _ nofun (by decide +kernel),
     by decide +kernel, by decide +kernel, by decide +kernel, by decide +kernel, by decide +kernel, by decide +kernel⟩,
   ⟨st (profiled 63 15), ask 0x0201 [63, 15], 63, 15,
     serves_ask (by decide +kernel) ⟨0x0201, _, _⟩ _ nofun (by decide +kernel), by decide +kernel, by decide +kernel,
     by decide +kernel, by decide +kernel, by decide +kernel, by decide +kernel⟩,
   ⟨st (gatherer 63 15), ask 0x0201 [63, 15], 63, 15,
     serves_ask (by decide +kernel) ⟨0x0201, _, _⟩ _ nofun (by decide +kernel), by decide +kernel, by decide +kernel,
     by decide +kernel, by decide +kernel, by decide +kernel, by decide +kernel⟩⟩

/-- What `Obligations.CalibrationRequests` assumes is met. -/
theorem meets_CalibrationRequests :
    (∃ s : State, ∃ r : Req, ∃ k : Nat, Serves ⟨0x0401, .operator, false⟩ r s.dev ∧ r.params = [BitVec.ofNat 8 k] ∧ k < 64 ∧
      s.dev.rd P.CORE_STATE [k] = 3 ∧ s.dev.rd P.CYC_STATE [k] ∈ [0, 8] ∧ s.dev.rd P.SHUT_CH [k] ≠ 0x7F ∧ s.dev.rd P.FLAG_CH
      [k] ≠ 0x7F) ∧
    (∃ s : State, ∃ r : Req, ∃ m : Nat, Serves ⟨0x0402, .operator, false⟩ r s.dev ∧ r.params = [BitVec.ofNat 8 m] ∧ m < 16 ∧
      ((∀ g, g < 4 → m / 2 ^ g % 2 = 1 → s.dev.cal.solves.get? g = none)) ∧ m = 0) ∧
    (∃ s : State, ∃ r : Req, ∃ m : Nat, Serves ⟨0x0402, .operator, false⟩ r s.dev ∧ r.params = [BitVec.ofNat 8 m] ∧ m < 16 ∧
      ((∀ g, g < 4 → m / 2 ^ g % 2 = 1 → s.dev.cal.solves.get? g = none)) ∧ m ≠ 0) ∧
    (∃ s : State, ∃ r : Req, ∃ k : Nat, Serves ⟨0x0404, .service, false⟩ r s.dev ∧ r.params = [BitVec.ofNat 8 k] ∧ k < 64 ∧
      s.dev.is P.CORE_EN [k] = true) ∧
    (∃ s : State, ∃ r : Req, Serves ⟨0x0404, .service, false⟩ r s.dev ∧ r.params = [0xFF] ∧ s.dev.enabledCores = []) ∧
    (∃ s : State, ∃ r : Req, Serves ⟨0x0404, .service, false⟩ r s.dev ∧ r.params = [0xFF] ∧ s.dev.enabledCores ≠ []) :=
  ⟨⟨st (dev0.wrs [(P.CORE_STATE, [63], 3), (P.SHUT_CH, [63], 5), (P.FLAG_CH, [63], 6), (P.CYC_STATE, [63], 8)]),
     ask 0x0401 [63], 63, serves_ask (by decide +kernel) ⟨0x0401, _, _⟩ _ nofun (by decide +kernel), by decide +kernel,
     by decide +kernel, by decide +kernel, by decide +kernel, by decide +kernel, by decide +kernel⟩,
   ⟨st dev0, ask 0x0402 [0], 0, serves_ask (by decide +kernel) ⟨0x0402, _, _⟩ _ nofun (by decide +kernel), by decide +kernel,
     by decide +kernel, by decide +kernel, by decide +kernel⟩,
   ⟨st dev0, ask 0x0402 [15], 15, serves_ask (by decide +kernel) ⟨0x0402, _, _⟩ _ nofun (by decide +kernel),
     by decide +kernel, by decide +kernel, by decide +kernel, by decide +kernel⟩,
   ⟨st (dev0.wrs [(P.CORE_EN, [63], 1)]), ask 0x0404 [63], 63,
     serves_ask (by decide +kernel) ⟨0x0404, _, _⟩ _ nofun (by decide +kernel), by decide +kernel, by decide +kernel,
     by decide +kernel⟩,
   ⟨st dev0, ask 0x0404 [0xFF], serves_ask (by decide +kernel) ⟨0x0404, _, _⟩ _ nofun (by decide +kernel), by decide +kernel,
     by decide +kernel⟩,
   ⟨st (dev0.wrs [(P.CORE_EN, [63], 1)]), ask 0x0404 [0xFF],
     serves_ask (by decide +kernel) ⟨0x0404, _, _⟩ _ nofun (by decide +kernel), by decide +kernel, by decide +kernel⟩⟩

/-- What `Obligations.OutputRequests` assumes is met. -/
theorem meets_OutputRequests :
    (∃ s : State, ∃ r : Req, ∃ p : Nat, ∃ t : Nat, ∃ i : Nat, Serves ⟨0x0500, .open_, false⟩ r s.dev ∧ r.params.length = 12 ∧
      patchOf r = p ∧ leAt r.params 8 4 = t ∧ (s.dev.patch? p).isSome = true ∧ s.dev.owns p = true ∧ ((epochOf r = 0 ∨ epochOf
      r = (s.dev.place p).epoch)) ∧ s.dev.tileIndex p t = some i) ∧
    (∃ s : State, ∃ r : Req, ∃ p : Nat, Serves ⟨0x0501, .open_, false⟩ r s.dev ∧ r.params.length = 8 ∧ patchOf r = p ∧
      (s.dev.patch? p).isSome = true ∧ s.dev.owns p = true ∧ ((epochOf r = 0 ∨ epochOf r = (s.dev.place p).epoch))) ∧
    (∃ s : State, ∃ r : Req, Serves ⟨0x0502, .operator, false⟩ r s.dev ∧ r.params.length = 8 ∧ s.dev.rd P.TIME_SRC ≠ 0 ∧ ((∀
      k, k < 64 → leAt r.params 0 8 / 2 ^ k % 2 = 1 → s.dev.is P.COMP_EN [k] = true ∧ ∀ g ∈ s.dev.fus.regs, k ∉ g.cores))) ∧
    (∃ s : State, ∃ r : Req, ∃ p : Nat, Serves ⟨0x0501, .open_, false⟩ r s.dev ∧ r.params.length = 8 ∧ patchOf r = p ∧
      s.dev.patch? p = none) ∧
    (∃ s : State, ∃ r : Req, ∃ p : Nat, Serves ⟨0x0501, .open_, false⟩ r s.dev ∧ r.params.length = 8 ∧ patchOf r = p ∧
      (s.dev.patch? p).isSome = true ∧ s.dev.owns p = true ∧ 0 < epochOf r ∧ epochOf r < (s.dev.place p).epoch) ∧
    (∃ s : State, ∃ r : Req, ∃ p : Nat, Serves ⟨0x0501, .open_, false⟩ r s.dev ∧ r.params.length = 8 ∧ patchOf r = p ∧
      (s.dev.patch? p).isSome = true ∧ s.dev.owns p = true ∧ (s.dev.place p).epoch < epochOf r) ∧
    (∃ s : State, ∃ r : Req, ∃ p : Nat, Serves ⟨0x0501, .open_, false⟩ r s.dev ∧ r.params.length = 8 ∧ patchOf r = p ∧
      (s.dev.patch? p).isSome = true ∧ s.dev.owns p = false ∧ (s.dev.place p).forwards = false ∧ (s.dev.place p).withdrawn =
      false ∧ (s.dev.place p).owner ≠ 0x3FF) :=
  ⟨⟨st (placed 5 5), ask 0x0500 (prefix9 2 ++ leBytes 4 0), 9, 0, 0,
     serves_ask (by decide +kernel) ⟨0x0500, _, _⟩ _ nofun (by decide +kernel), by decide +kernel, by decide +kernel,
     by decide +kernel, by decide +kernel, by decide +kernel, by decide +kernel, by decide +kernel⟩,
   ⟨st (placed 5 5), ask 0x0501 (prefix9 0), 9, serves_ask (by decide +kernel) ⟨0x0501, _, _⟩ _ nofun (by decide +kernel),
     by decide +kernel, by decide +kernel, by decide +kernel, by decide +kernel, by decide +kernel⟩,
   ⟨st (dev0.wrs [(P.TIME_SRC, [], 1), (P.COMP_EN, [63], 1)]), ask 0x0502 (leBytes 8 (2 ^ 63)),
     serves_ask (by decide +kernel) ⟨0x0502, _, _⟩ _ nofun (by decide +kernel), by decide +kernel, by decide +kernel,
     by decide +kernel⟩,
   ⟨st dev0, ask 0x0501 (prefix9 0), 9, serves_ask (by decide +kernel) ⟨0x0501, _, _⟩ _ nofun (by decide +kernel),
     by decide +kernel, by decide +kernel, by decide +kernel⟩,
   ⟨st (placed 5 5), ask 0x0501 (prefix9 1), 9, serves_ask (by decide +kernel) ⟨0x0501, _, _⟩ _ nofun (by decide +kernel),
     by decide +kernel, by decide +kernel, by decide +kernel, by decide +kernel, by decide +kernel, by decide +kernel⟩,
   ⟨st (placed 5 5), ask 0x0501 (prefix9 3), 9, serves_ask (by decide +kernel) ⟨0x0501, _, _⟩ _ nofun (by decide +kernel),
     by decide +kernel, by decide +kernel, by decide +kernel, by decide +kernel, by decide +kernel⟩,
   ⟨st (placed 5 6), ask 0x0501 (prefix9 2), 9, serves_ask (by decide +kernel) ⟨0x0501, _, _⟩ _ nofun (by decide +kernel),
     by decide +kernel, by decide +kernel, by decide +kernel, by decide +kernel, by decide +kernel, by decide +kernel,
     by decide +kernel⟩⟩

/-- What `Obligations.ChainAndArrayRequests` assumes is met. -/
theorem meets_ChainAndArrayRequests :
    (∃ s : State, ∃ r : Req, Serves ⟨0x0600, .operator, false⟩ r s.dev ∧ r.params.length = 2 ∧ leAt r.params 0 2 % 1024 ≠
      0x3FF ∧ r.host.via = .chain ∧ r.dest = 0x3FF) ∧
    (∃ s : State, ∃ r : Req, ∃ a : Nat, Serves ⟨0x0601, .operator, false⟩ r s.dev ∧ r.params.length = 2 ∧ leAt r.params 0 2 %
      1024 = a ∧ a ≠ 0x3FF ∧ (s.dev.taken r).knownAddr a = false) ∧
    (∃ s : State, ∃ r : Req, Serves ⟨0x0607, .open_, false⟩ r s.dev ∧ r.params = []) ∧
    (∃ s : State, ∃ r : Req, Serves ⟨0x0608, .open_, false⟩ r s.dev ∧ r.params = []) ∧
    (∃ s : State, ∃ r : Req, ∃ l : List (List Byte), ∃ n : Nat, Serves ⟨0x0603, .open_, false⟩ r s.dev ∧ r.params.length = 4 ∧
      leAt r.params 0 2 = n ∧ s.dev.plc.censuses.find? (fun c => decide (c.num = n)) = some ⟨n, l⟩) ∧
    (∃ s : State, ∃ r : Req, Serves ⟨0x4403, .device, false⟩ r s.dev ∧ 2 ≤ r.params.length) ∧
    (∃ s : State, ∃ r : Req, Serves ⟨0x0602, .open_, false⟩ r s.dev ∧ r.params = [] ∧ s.dev.plc.census = none ∧
      s.dev.plc.topo.vals = []) ∧
    (∃ s : State, ∃ r : Req, Serves ⟨0x0602, .open_, false⟩ r s.dev ∧ r.params = [] ∧ s.dev.plc.census = none ∧
      s.dev.plc.topo.vals ≠ []) :=
  ⟨⟨st dev0, { untagged onChain (leBytes 2 9) with dest := 0x3FF }, serves_of (by decide +kernel), by decide +kernel,
     by decide +kernel, by decide +kernel, by decide +kernel⟩,
   ⟨st dev0, ask 0x0601 (leBytes 2 0x3FE), 0x3FE, serves_ask (by decide +kernel) ⟨0x0601, _, _⟩ _ nofun (by decide +kernel),
     by decide +kernel, by decide +kernel, by decide +kernel, by decide +kernel⟩,
   ⟨st dev0, ask 0x0607 [], serves_ask (by decide +kernel) ⟨0x0607, _, _⟩ _ nofun (by decide +kernel), by decide +kernel⟩,
   ⟨st dev0, ask 0x0608 [], serves_ask (by decide +kernel) ⟨0x0608, _, _⟩ _ nofun (by decide +kernel), by decide +kernel⟩,
   ⟨st { dev0 with plc := { dev0.plc with censuses := [⟨7, [leBytes 22 1]⟩] } }, ask 0x0603 [7, 0, 0, 0], [leBytes 22 1], 7,
     serves_ask (by decide +kernel) ⟨0x0603, _, _⟩ _ nofun (by decide +kernel), by decide +kernel, by decide +kernel,
     by decide +kernel⟩,
   ⟨st dev0, tell 0x4403 [0, 0], serves_tell (by decide +kernel) 0x4403 _ (by decide +kernel), by decide +kernel⟩,
   ⟨st dev0, ask 0x0602 [], serves_ask (by decide +kernel) ⟨0x0602, _, _⟩ _ nofun (by decide +kernel), by decide +kernel,
     by decide +kernel, by decide +kernel⟩,
   ⟨st { dev0 with plc := { dev0.plc with topo := dev0.plc.topo.put 9 ⟨9, 6, 1, 1, [0x3FF, 0x3FF, 0x3FF, 0x3FF, 0x3FF, 0x3FF, 0x3FF, 0x3FF], none, 0⟩ } },
     ask 0x0602 [], serves_ask (by decide +kernel) ⟨0x0602, _, _⟩ _ nofun (by decide +kernel), by decide +kernel,
     by decide +kernel, by decide +kernel⟩⟩

/-- What `Obligations.ConfigurationRequests` assumes is met. -/
theorem meets_ConfigurationRequests :
    (∃ s : State, ∃ r : Req, ∃ i : Nat, ∃ b : List Byte, Serves ⟨0x0604, .operator, true⟩ r s.dev ∧ r.params.length ≤ 1034 ∧
      r.params.drop 10 = b ∧ b ≠ [] ∧ leAt r.params 8 2 = i ∧
      let own := (s.dev.plc.stage.filter fun g => g.digest == r.params.take 8)
      ((own.bind fun g => g.blocks.get? 0).all fun h => decide (i < leAt h 4 2)) = true ∧ ((own = none → s.dev.plc.stage.any
      (·.act.isSome) = false)) ∧ ((i = 0 → leAt b 4 2 ≠ 0 ∧ leAt b 0 4 % 65536 = r.gen ∧ s.dev.rd P.CFG_GEN < leAt b 0 4 ∧
      (s.dev.bulkSize 11 = 0 ∨ 2 * 1024 * leAt b 4 2 ≤ s.dev.bulkSize 11))) ∧
      let g := own.getD ⟨r.params.take 8, r.gen, KMap.empty, false, none, [], false⟩
      own ≠ none ∧ g.put i b = g ∧ g.complete = true) ∧
    (∃ s : State, ∃ r : Req, ∃ i : Nat, ∃ b : List Byte, Serves ⟨0x0604, .operator, true⟩ r s.dev ∧ r.params.length ≤ 1034 ∧
      r.params.drop 10 = b ∧ b ≠ [] ∧ leAt r.params 8 2 = i ∧
      let own := (s.dev.plc.stage.filter fun g => g.digest == r.params.take 8)
      ((own.bind fun g => g.blocks.get? 0).all fun h => decide (i < leAt h 4 2)) = true ∧ ((own = none → s.dev.plc.stage.any
      (·.act.isSome) = false)) ∧ ((i = 0 → leAt b 4 2 ≠ 0 ∧ leAt b 0 4 % 65536 = r.gen ∧ s.dev.rd P.CFG_GEN < leAt b 0 4 ∧
      (s.dev.bulkSize 11 = 0 ∨ 2 * 1024 * leAt b 4 2 ≤ s.dev.bulkSize 11))) ∧
      let g := own.getD ⟨r.params.take 8, r.gen, KMap.empty, false, none, [], false⟩
      own ≠ none ∧ g.put i b = g ∧ g.complete = false) ∧
    (∃ s : State, ∃ r : Req, ∃ i : Nat, ∃ b : List Byte, Serves ⟨0x0604, .operator, true⟩ r s.dev ∧ r.params.length ≤ 1034 ∧
      r.params.drop 10 = b ∧ b ≠ [] ∧ leAt r.params 8 2 = i ∧
      let own := (s.dev.plc.stage.filter fun g => g.digest == r.params.take 8)
      ((own.bind fun g => g.blocks.get? 0).all fun h => decide (i < leAt h 4 2)) = true ∧ ((own = none → s.dev.plc.stage.any
      (·.act.isSome) = false)) ∧ ((i = 0 → leAt b 4 2 ≠ 0 ∧ leAt b 0 4 % 65536 = r.gen ∧ s.dev.rd P.CFG_GEN < leAt b 0 4 ∧
      (s.dev.bulkSize 11 = 0 ∨ 2 * 1024 * leAt b 4 2 ≤ s.dev.bulkSize 11))) ∧
      let g := own.getD ⟨r.params.take 8, r.gen, KMap.empty, false, none, [], false⟩
      (own = none ∨ g.put i b ≠ g)) ∧
    (∃ s : State, ∃ r : Req, ∃ g : Stage, ∃ t : Nat, Serves ⟨0x0605, .operator, true⟩ r s.dev ∧ r.params.length = 8 ∧ leAt
      r.params 0 8 = t ∧ s.dev.plc.stage = some g ∧ g.complete = true ∧ g.gen % 65536 = r.gen ∧ s.dev.now + ms 100 ≤ t ∧ t ≤
      s.dev.now + sec 60 ∧ s.dev.rd P.TIME_SRC ≠ 0) ∧
    (∃ s : State, ∃ r : Req, Serves ⟨0x0606, .operator, true⟩ r s.dev ∧ r.params = [] ∧ s.dev.plc.stage = none) ∧
    (∃ s : State, ∃ r : Req, Serves ⟨0x0606, .operator, true⟩ r s.dev ∧ r.params = [] ∧ s.dev.plc.stage ≠ none) ∧
    (∃ s : State, ∃ r : Req, Serves ⟨0x4404, .device, false⟩ r s.dev ∧ r.params.length = 40 ∧ s.dev.linkTo r.source = none) ∧
    (∃ s : State, ∃ r : Req, Serves ⟨0x4404, .device, false⟩ r s.dev ∧ r.params.length = 40 ∧ ∃ m, s.dev.linkTo r.source =
      some m) :=
  ⟨⟨st { dev0 with plc := { dev0.plc with stage := some ((stage0 true).put 0 header0) } },
     ask 0x0604 (leBytes 8 0 ++ leBytes 2 0 ++ header0), 0, header0,
     serves_ask (by decide +kernel) ⟨0x0604, _, _⟩ _ nofun (by decide +kernel), by decide +kernel, by decide +kernel,
     by decide +kernel, by decide +kernel, by decide +kernel, by decide +kernel, by decide +kernel, by decide +kernel,
     by decide +kernel, by decide +kernel⟩,
   ⟨st { dev0 with plc := { dev0.plc with stage := some ((stage0 false).put 0 header0) } },
     ask 0x0604 (leBytes 8 0 ++ leBytes 2 0 ++ header0), 0, header0,
     serves_ask (by decide +kernel) ⟨0x0604, _, _⟩ _ nofun (by decide +kernel), by decide +kernel, by decide +kernel,
     by decide +kernel, by decide +kernel, by decide +kernel, by decide +kernel, by decide +kernel, by decide +kernel,
     by decide +kernel, by decide +kernel⟩,
   ⟨st dev0, ask 0x0604 (leBytes 8 0 ++ leBytes 2 0 ++ header0), 0, header0,
     serves_ask (by decide +kernel) ⟨0x0604, _, _⟩ _ nofun (by decide +kernel), by decide +kernel, by decide +kernel,
     by decide +kernel, by decide +kernel, by decide +kernel, by decide +kernel, by decide +kernel, by decide +kernel⟩,
   ⟨st ((staged true).wr P.TIME_SRC [] 1), ask 0x0605 (leBytes 8 5100000000), stage0 true, 5100000000,
     serves_ask (by decide +kernel) ⟨0x0605, _, _⟩ _ nofun (by decide +kernel), by decide +kernel, by decide +kernel,
     by decide +kernel, by decide +kernel, by decide +kernel, by decide +kernel, by decide +kernel, by decide +kernel⟩,
   ⟨st dev0, ask 0x0606 [], serves_ask (by decide +kernel) ⟨0x0606, _, _⟩ _ nofun (by decide +kernel), by decide +kernel,
     by decide +kernel⟩,
   ⟨st (staged true), ask 0x0606 [], serves_ask (by decide +kernel) ⟨0x0606, _, _⟩ _ nofun (by decide +kernel),
     by decide +kernel, by decide +kernel⟩,
   ⟨st dev0, tell 0x4404 (List.replicate 40 0), serves_tell (by decide +kernel) 0x4404 _ (by decide +kernel),
     by decide +kernel, by decide +kernel⟩,
   ⟨st linked, tell 0x4404 (List.replicate 40 0), serves_tell (by decide +kernel) 0x4404 _ (by decide +kernel),
     by decide +kernel, 7, by decide +kernel⟩⟩

/-- What `Obligations.MemStatusLayout` assumes is met. -/
theorem meets_MemStatusLayout :
    (∃ s : State, ∃ r : Req, Serves ⟨0x0700, .open_, false⟩ r s.dev ∧ r.params = []) :=
  ⟨st dev0, ask 0x0700 [], serves_ask (by decide +kernel) ⟨0x0700, _, _⟩ _ nofun (by decide +kernel), by decide +kernel⟩

/-- What `Obligations.NvStatusLayout` assumes is met. -/
theorem meets_NvStatusLayout :
    (∃ s : State, ∃ r : Req, Serves ⟨0x0A01, .open_, false⟩ r s.dev ∧ r.params = []) :=
  ⟨st dev0, ask 0x0A01 [], serves_ask (by decide +kernel) ⟨0x0A01, _, _⟩ _ nofun (by decide +kernel), by decide +kernel⟩

/-- What `Obligations.MemoryRequests` assumes is met. -/
theorem meets_MemoryRequests :
    (∃ s : State, ∃ r : Req, ∃ p : Nat, Serves ⟨0x0701, .operator, false⟩ r s.dev ∧ r.params = [BitVec.ofNat 8 p] ∧ p < 7 ∧
      let t := s.dev.tblRead (0x30C0 + p) 0 16
      let f := byteAt t 0 % 2
      s.dev.rd P.FSP_CUR = f ∧ s.dev.is P.FSP_BUSY = false) ∧
    (∃ s : State, ∃ r : Req, ∃ p : Nat, Serves ⟨0x0701, .operator, false⟩ r s.dev ∧ r.params = [BitVec.ofNat 8 p] ∧ p < 7 ∧
      let t := s.dev.tblRead (0x30C0 + p) 0 16
      let f := byteAt t 0 % 2
      s.dev.rd P.FSP_CUR ≠ f ∧ s.dev.pointCheck f = none) ∧
    (∃ s : State, ∃ r : Req, Serves ⟨0x4300, .service, false⟩ r s.dev ∧ scanCheck s.dev r = none) ∧
    (∃ s : State, ∃ r : Req, ∃ c : Nat, ∃ x : Scan, Serves ⟨0x4301, .service, false⟩ r s.dev ∧ r.params = [BitVec.ofNat 8 c] ∧
      c < 8 ∧ s.dev.mem.scans.get? c = some x) ∧
    (∃ s : State, ∃ r : Req, Serves ⟨0x0A00, .operator, false⟩ r s.dev ∧ r.params = [] ∧ s.dev.nv.commit ≠ none) ∧
    (∃ s : State, ∃ r : Req, Serves ⟨0x0A00, .operator, false⟩ r s.dev ∧ r.params = [] ∧ s.dev.nv.commit = none ∧ s.dev.nv.buf
      = []) ∧
    (∃ s : State, ∃ r : Req, Serves ⟨0x0A00, .operator, false⟩ r s.dev ∧ r.params = [] ∧ s.dev.nv.commit = none ∧ s.dev.nv.buf
      ≠ []) :=
  ⟨⟨st dev0, ask 0x0701 [6], 6, serves_ask (by decide +kernel) ⟨0x0701, _, _⟩ _ nofun (by decide +kernel), by decide +kernel,
     by decide +kernel, by decide +kernel, by decide +kernel⟩,
   ⟨st (dev0.wrs [(P.FSP_CUR, [], 1)]), ask 0x0701 [6], 6,
     serves_ask (by decide +kernel) ⟨0x0701, _, _⟩ _ nofun (by decide +kernel), by decide +kernel, by decide +kernel,
     by decide +kernel, by decide +kernel⟩,
   ⟨st dev0, ask 0x4300 [7, 0xFF, 1, 0], serves_ask (by decide +kernel) ⟨0x4300, _, _⟩ _ nofun (by decide +kernel),
     by decide +kernel⟩,
   ⟨st scanning, ask 0x4301 [7], 7, scan0, serves_ask (by decide +kernel) ⟨0x4301, _, _⟩ _ nofun (by decide +kernel),
     by decide +kernel, by decide +kernel, by decide +kernel⟩,
   ⟨st committing, ask 0x0A00 [], serves_ask (by decide +kernel) ⟨0x0A00, _, _⟩ _ nofun (by decide +kernel),
     by decide +kernel, by decide +kernel⟩,
   ⟨st dev0, ask 0x0A00 [], serves_ask (by decide +kernel) ⟨0x0A00, _, _⟩ _ nofun (by decide +kernel), by decide +kernel,
     by decide +kernel, by decide +kernel⟩,
   ⟨st buffered, ask 0x0A00 [], serves_ask (by decide +kernel) ⟨0x0A00, _, _⟩ _ nofun (by decide +kernel), by decide +kernel,
     by decide +kernel, by decide +kernel⟩⟩

/-- What `Obligations.ConverterRequests` assumes is met. -/
theorem meets_ConverterRequests :
    (∃ s : State, ∃ r : Req, ∃ m : Nat, Serves ⟨0x0800, .operator, false⟩ r s.dev ∧ r.params = [BitVec.ofNat 8 m] ∧ m < 4 ∧
      s.dev.startCheck m = none) ∧
    (∃ s : State, ∃ r : Req, ∃ m : Nat, Serves ⟨0x0801, .open_, false⟩ r s.dev ∧ r.params = [BitVec.ofNat 8 m] ∧ m < 4) ∧
    (∃ s : State, ∃ r : Req, ∃ m : Nat, ∃ st : Nat, Serves ⟨0x0802, .service, false⟩ r s.dev ∧ r.params = [BitVec.ofNat 8 m,
      BitVec.ofNat 8 st] ∧ m < 4 ∧ s.dev.recalling = false ∧ (s.dev.mod m).cal = none ∧
      let ch := s.dev.rd P.CAL_CH [m]
      let free := (s.dev.mod m).inj = []
      st = 0 ∧ ch ≠ 0x7F ∧ free) ∧
    (∃ s : State, ∃ r : Req, ∃ m : Nat, ∃ st : Nat, Serves ⟨0x0802, .service, false⟩ r s.dev ∧ r.params = [BitVec.ofNat 8 m,
      BitVec.ofNat 8 st] ∧ m < 4 ∧ s.dev.recalling = false ∧ (s.dev.mod m).cal = none ∧
      let ch := s.dev.rd P.CAL_CH [m]
      let free := (s.dev.mod m).inj = []
      st = 0 ∧ ch ≠ 0x7F ∧ ¬free) ∧
    (∃ s : State, ∃ r : Req, ∃ m : Nat, ∃ st : Nat, Serves ⟨0x0802, .service, false⟩ r s.dev ∧ r.params = [BitVec.ofNat 8 m,
      BitVec.ofNat 8 st] ∧ m < 4 ∧ s.dev.recalling = false ∧ (s.dev.mod m).cal = none ∧
      let ch := s.dev.rd P.CAL_CH [m]
      let free := (s.dev.mod m).inj = []
      st = 1 ∧ ch ≠ 0x7F ∧ s.dev.zeroKept m = true ∧ free) ∧
    (∃ s : State, ∃ r : Req, ∃ m : Nat, ∃ st : Nat, Serves ⟨0x0802, .service, false⟩ r s.dev ∧ r.params = [BitVec.ofNat 8 m,
      BitVec.ofNat 8 st] ∧ m < 4 ∧ s.dev.recalling = false ∧ (s.dev.mod m).cal = none ∧
      let ch := s.dev.rd P.CAL_CH [m]
      let free := (s.dev.mod m).inj = []
      st = 1 ∧ ch ≠ 0x7F ∧ s.dev.zeroKept m = true ∧ ¬free) ∧
    (∃ s : State, ∃ r : Req, ∃ m : Nat, ∃ st : Nat, Serves ⟨0x0802, .service, false⟩ r s.dev ∧ r.params = [BitVec.ofNat 8 m,
      BitVec.ofNat 8 st] ∧ m < 4 ∧ s.dev.recalling = false ∧ (s.dev.mod m).cal = none ∧
      let ch := s.dev.rd P.CAL_CH [m]
      let free := (s.dev.mod m).inj = []
      st = 2 ∧ ch ≠ 0x7F ∧ free) ∧
    (∃ s : State, ∃ r : Req, ∃ m : Nat, ∃ st : Nat, Serves ⟨0x0802, .service, false⟩ r s.dev ∧ r.params = [BitVec.ofNat 8 m,
      BitVec.ofNat 8 st] ∧ m < 4 ∧ s.dev.recalling = false ∧ (s.dev.mod m).cal = none ∧
      let ch := s.dev.rd P.CAL_CH [m]
      let free := (s.dev.mod m).inj = []
      st = 2 ∧ ch ≠ 0x7F ∧ ¬free) ∧
    (∃ s : State, ∃ r : Req, ∃ m : Nat, ∃ st : Nat, Serves ⟨0x0802, .service, false⟩ r s.dev ∧ r.params = [BitVec.ofNat 8 m,
      BitVec.ofNat 8 st] ∧ m < 4 ∧ s.dev.recalling = false ∧ (s.dev.mod m).cal = none ∧
      let free := (s.dev.mod m).inj = []
      st = 3 ∧ free) ∧
    (∃ s : State, ∃ r : Req, ∃ m : Nat, ∃ st : Nat, Serves ⟨0x0802, .service, false⟩ r s.dev ∧ r.params = [BitVec.ofNat 8 m,
      BitVec.ofNat 8 st] ∧ m < 4 ∧ s.dev.recalling = false ∧ (s.dev.mod m).cal = none ∧
      let free := (s.dev.mod m).inj = []
      st = 3 ∧ ¬free) :=
  ⟨⟨st (dev0.wrs [(P.SEQ_LEN, [3], 1)]), ask 0x0800 [3], 3,
     serves_ask (by decide +kernel) ⟨0x0800, _, _⟩ _ nofun (by decide +kernel), by decide +kernel, by decide +kernel,
     by decide +kernel⟩,
   ⟨st dev0, ask 0x0801 [3], 3, serves_ask (by decide +kernel) ⟨0x0801, _, _⟩ _ nofun (by decide +kernel), by decide +kernel,
     by decide +kernel⟩,
   ⟨st shut63, ask 0x0802 [3, 0], 3, 0, serves_ask (by decide +kernel) ⟨0x0802, _, _⟩ _ nofun (by decide +kernel),
     by decide +kernel, by decide +kernel, by decide +kernel, by decide +kernel, by decide +kernel, by decide +kernel,
     by decide +kernel⟩,
   ⟨st (shut63.setMod 3 { shut63.mod 3 with inj := [⟨96, true, []⟩] }), ask 0x0802 [3, 0], 3, 0,
     serves_ask (by decide +kernel) ⟨0x0802, _, _⟩ _ nofun (by decide +kernel), by decide +kernel, by decide +kernel,
     by decide +kernel, by decide +kernel, by decide +kernel, by decide +kernel, by decide +kernel⟩,
   ⟨st (shut63.setMod 3 { shut63.mod 3 with zero := some ⟨63, 0, 5, 4000000000⟩ }), ask 0x0802 [3, 1], 3, 1,
     serves_ask (by decide +kernel) ⟨0x0802, _, _⟩ _ nofun (by decide +kernel), by decide +kernel, by decide +kernel,
     by decide +kernel, by decide +kernel, by decide +kernel, by decide +kernel, by decide +kernel, by decide +kernel⟩,
   ⟨st (shut63.setMod 3 { shut63.mod 3 with inj := [⟨96, true, []⟩], zero := some ⟨63, 0, 5, 4000000000⟩ }),
     ask 0x0802 [3, 1], 3, 1, serves_ask (by decide +kernel) ⟨0x0802, _, _⟩ _ nofun (by decide +kernel), by decide +kernel,
     by decide +kernel, by decide +kernel, by decide +kernel, by decide +kernel, by decide +kernel, by decide +kernel,
     by decide +kernel⟩,
   ⟨st shut63, ask 0x0802 [3, 2], 3, 2, serves_ask (by decide +kernel) ⟨0x0802, _, _⟩ _ nofun (by decide +kernel),
     by decide +kernel, by decide +kernel, by decide +kernel, by decide +kernel, by decide +kernel, by decide +kernel,
     by decide +kernel⟩,
   ⟨st (shut63.setMod 3 { shut63.mod 3 with inj := [⟨96, true, []⟩] }), ask 0x0802 [3, 2], 3, 2,
     serves_ask (by decide +kernel) ⟨0x0802, _, _⟩ _ nofun (by decide +kernel), by decide +kernel, by decide +kernel,
     by decide +kernel, by decide +kernel, by decide +kernel, by decide +kernel, by decide +kernel⟩,
   ⟨st shut63, ask 0x0802 [3, 3], 3, 3, serves_ask (by decide +kernel) ⟨0x0802, _, _⟩ _ nofun (by decide +kernel),
     by decide +kernel, by decide +kernel, by decide +kernel, by decide +kernel, by decide +kernel, by decide +kernel⟩,
   ⟨st (shut63.setMod 3 { shut63.mod 3 with inj := [⟨96, true, []⟩] }), ask 0x0802 [3, 3], 3, 3,
     serves_ask (by decide +kernel) ⟨0x0802, _, _⟩ _ nofun (by decide +kernel), by decide +kernel, by decide +kernel,
     by decide +kernel, by decide +kernel, by decide +kernel, by decide +kernel⟩⟩

/-- What `Obligations.ShutterRequests` assumes is met. -/
theorem meets_ShutterRequests :
    (∃ s : State, ∃ r : Req, ∃ n : Nat, Serves ⟨0x0900, .open_, false⟩ r s.dev ∧ r.params = [BitVec.ofNat 8 n] ∧ n < 64) ∧
    (∃ s : State, ∃ r : Req, ∃ n : Nat, Serves ⟨0x0901, .service, false⟩ r s.dev ∧ r.params = [BitVec.ofNat 8 n, 0] ∧ n < 64 ∧
      s.dev.is P.CH_EN [n] = true) ∧
    (∃ s : State, ∃ r : Req, ∃ n : Nat, Serves ⟨0x0901, .service, false⟩ r s.dev ∧ r.params = [BitVec.ofNat 8 n, 0] ∧ n =
      0xFF) ∧
    (∃ s : State, ∃ r : Req, ∃ n : Nat, Serves ⟨0x0901, .service, false⟩ r s.dev ∧ r.params = [BitVec.ofNat 8 n, 1] ∧ n < 64 ∧
      s.dev.recalling = false ∧ s.dev.is P.CH_EN [n] = true ∧ (s.dev.taken r).inUse n = false ∧
      let a := (s.dev.taken r).closeCheck n false false
      a.status = .ok) ∧
    (∃ s : State, ∃ r : Req, ∃ n : Nat, Serves ⟨0x0901, .service, false⟩ r s.dev ∧ r.params = [BitVec.ofNat 8 n, 1] ∧ n < 64 ∧
      s.dev.recalling = false ∧ s.dev.is P.CH_EN [n] = true ∧ (s.dev.taken r).inUse n = false ∧
      let a := (s.dev.taken r).closeCheck n false false
      a.status = .deferred) ∧
    (∃ s : State, ∃ r : Req, ∃ n : Nat, Serves ⟨0x0901, .service, false⟩ r s.dev ∧ r.params = [BitVec.ofNat 8 n, 1] ∧ n < 64 ∧
      s.dev.recalling = false ∧ s.dev.is P.CH_EN [n] = true ∧ (s.dev.taken r).inUse n = false ∧
      let a := (s.dev.taken r).closeCheck n false false
      a.status ∈ [.duty, .denied, .busy, .busyNv]) ∧
    (∃ s : State, ∃ r : Req, ∃ n : Nat, Serves ⟨0x0901, .service, false⟩ r s.dev ∧ r.params = [BitVec.ofNat 8 n, 2] ∧ n < 64 ∧
      s.dev.is P.CH_EN [n] = true ∧ s.dev.drv n = 1) ∧
    (∃ s : State, ∃ r : Req, ∃ n : Nat, Serves ⟨0x0901, .service, false⟩ r s.dev ∧ r.params = [BitVec.ofNat 8 n, 2] ∧ n < 64 ∧
      s.dev.is P.CH_EN [n] = true ∧ s.dev.drv n ≠ 1 ∧ ((s.dev.energised n = false ∨ s.dev.rd P.OWNER [n] ≠ 1))) ∧
    (∃ s : State, ∃ r : Req, ∃ n : Nat, Serves ⟨0x0901, .service, false⟩ r s.dev ∧ r.params = [BitVec.ofNat 8 n, 3] ∧ n < 64 ∧
      s.dev.is P.CH_EN [n] = true ∧ s.dev.chActive n = false) ∧
    (∃ s : State, ∃ r : Req, ∃ n : Nat, ∃ p : Nat, Serves ⟨0x0901, .service, false⟩ r s.dev ∧ r.params = [BitVec.ofNat 8 n,
      BitVec.ofNat 8 (16 * p + 4)] ∧ p < 7 ∧ n < 64 ∧ s.dev.drv n ∉ [1, 2, 3] ∧ s.dev.storeBusy = none) ∧
    (∃ s : State, ∃ r : Req, ∃ p : Nat, Serves ⟨0x0901, .service, false⟩ r s.dev ∧ r.params = [0xFF, BitVec.ofNat 8 (16 * p +
      4)] ∧ p < 7 ∧ s.dev.storeBusy = none) :=
  ⟨⟨st dev0, ask 0x0900 [63], 63, serves_ask (by decide +kernel) ⟨0x0900, _, _⟩ _ nofun (by decide +kernel),
     by decide +kernel, by decide +kernel⟩,
   ⟨st shut63, ask 0x0901 [63, 0], 63, serves_ask (by decide +kernel) ⟨0x0901, _, _⟩ _ nofun (by decide +kernel),
     by decide +kernel, by decide +kernel, by decide +kernel⟩,
   ⟨st shut63, ask 0x0901 [0xFF, 0], 0xFF, serves_ask (by decide +kernel) ⟨0x0901, _, _⟩ _ nofun (by decide +kernel),
     by decide +kernel, by decide +kernel⟩,
   ⟨st closable, ask 0x0901 [63, 1], 63, serves_ask (by decide +kernel) ⟨0x0901, _, _⟩ _ nofun (by decide +kernel),
     by decide +kernel, by decide +kernel, by decide +kernel, by decide +kernel, by decide +kernel, by decide +kernel⟩,
   ⟨st (closable.wrs [(P.DRV_STATE, [62], 2)]), ask 0x0901 [63, 1], 63,
     serves_ask (by decide +kernel) ⟨0x0901, _, _⟩ _ nofun (by decide +kernel), by decide +kernel, by decide +kernel,
     by decide +kernel, by decide +kernel, by decide +kernel, by decide +kernel⟩,
   ⟨st shut63, ask 0x0901 [63, 1], 63, serves_ask (by decide +kernel) ⟨0x0901, _, _⟩ _ nofun (by decide +kernel),
     by decide +kernel, by decide +kernel, by decide +kernel, by decide +kernel, by decide +kernel, by decide +kernel⟩,
   ⟨st (closable.wrs [(P.DRV_STATE, [63], 1)]), ask 0x0901 [63, 2], 63,
     serves_ask (by decide +kernel) ⟨0x0901, _, _⟩ _ nofun (by decide +kernel), by decide +kernel, by decide +kernel,
     by decide +kernel, by decide +kernel⟩,
   ⟨st (closable.wrs [(P.DRV_STATE, [63], 3), (P.OWNER, [63], 2)]), ask 0x0901 [63, 2], 63,
     serves_ask (by decide +kernel) ⟨0x0901, _, _⟩ _ nofun (by decide +kernel), by decide +kernel, by decide +kernel,
     by decide +kernel, by decide +kernel, by decide +kernel⟩,
   ⟨st shut63, ask 0x0901 [63, 3], 63, serves_ask (by decide +kernel) ⟨0x0901, _, _⟩ _ nofun (by decide +kernel),
     by decide +kernel, by decide +kernel, by decide +kernel, by decide +kernel⟩,
   ⟨st shut63, ask 0x0901 [63, 0x64], 63, 6, serves_ask (by decide +kernel) ⟨0x0901, _, _⟩ _ nofun (by decide +kernel),
     by decide +kernel, by decide +kernel, by decide +kernel, by decide +kernel, by decide +kernel⟩,
   ⟨st (closable.wrs [(P.DRV_STATE, [0], 2)]), ask 0x0901 [0xFF, 0x64], 6,
     serves_ask (by decide +kernel) ⟨0x0901, _, _⟩ _ nofun (by decide +kernel), by decide +kernel, by decide +kernel,
     by decide +kernel⟩⟩

/-- What `Obligations.PowerRequests` assumes is met. -/
theorem meets_PowerRequests :
    (∃ s : State, ∃ r : Req, Serves ⟨0x0B00, .operator, true⟩ r s.dev ∧ r.params = [] ∧ s.dev.pins.wake = true) ∧
    (∃ s : State, ∃ r : Req, Serves ⟨0x0B00, .operator, true⟩ r s.dev ∧ r.params = [] ∧ s.dev.pins.wake = false ∧
      s.dev.boot.session ≠ none) ∧
    (∃ s : State, ∃ r : Req, Serves ⟨0x0B00, .operator, true⟩ r s.dev ∧ r.params = [] ∧ s.dev.pins.wake = false ∧
      s.dev.boot.session = none ∧ s.dev.boot.trial ≠ none) ∧
    (∃ s : State, ∃ r : Req, Serves ⟨0x0B00, .operator, true⟩ r s.dev ∧ r.params = [] ∧ s.dev.pins.wake = false ∧
      s.dev.boot.session = none ∧ s.dev.boot.trial = none) ∧
    (∃ s : State, ∃ r : Req, Serves ⟨0x0B01, .operator, true⟩ r s.dev ∧ r.params = [] ∧ s.dev.rd P.DEV_STATE = 3) ∧
    (∃ s : State, ∃ r : Req, Serves ⟨0x0B01, .operator, true⟩ r s.dev ∧ r.params = [] ∧ s.dev.rd P.DEV_STATE = 5 ∧
      s.dev.boot.wakeLatched = none) ∧
    (∃ s : State, ∃ r : Req, Serves ⟨0x0B01, .operator, true⟩ r s.dev ∧ r.params = [] ∧ s.dev.rd P.DEV_STATE ≠ 3 ∧ ((s.dev.rd
      P.DEV_STATE ≠ 5 ∨ s.dev.boot.wakeLatched ≠ none))) ∧
    (∃ s : State, ∃ r : Req, Serves ⟨0x0B02, .service, false⟩ r s.dev ∧ r.params = []) ∧
    (∃ s : State, s.dev.rd P.DEV_STATE ≠ 5) ∧
    (∃ s : State, ∃ p : Prog, s.dev.alive = true ∧ s.dev.rd P.DEV_STATE = 5 ∧
      let d := s.here.dozeNotices.dropFrames
      let d := if d.nv.commit.isSome then commitEnd p d else d
      let d := if d.nv.buf.isEmpty || d.nv.commit.isSome then d else d.beginCommit
      let d := if d.nv.commit.isSome then commitEnd p d else d
      let d := d.memDoze.each [0, 1, 2, 3] fun u d => d.put P.UL_LINK_UP [u] false
      let d : Dev := { d with kcp := { d.kcp with replyQ := KMap.empty, paused := KMap.empty } }
      let d := (d.wr P.DEV_STATE [] 3).count 132
      d.boot.wakeLatched = none) ∧
    (∃ s : State, ∃ p : Prog, s.dev.alive = true ∧ s.dev.rd P.DEV_STATE = 5 ∧
      let d := s.here.dozeNotices.dropFrames
      let d := if d.nv.commit.isSome then commitEnd p d else d
      let d := if d.nv.buf.isEmpty || d.nv.commit.isSome then d else d.beginCommit
      let d := if d.nv.commit.isSome then commitEnd p d else d
      let d := d.memDoze.each [0, 1, 2, 3] fun u d => d.put P.UL_LINK_UP [u] false
      let d : Dev := { d with kcp := { d.kcp with replyQ := KMap.empty, paused := KMap.empty } }
      let d := (d.wr P.DEV_STATE [] 3).count 132
      ∃ src, d.boot.wakeLatched = some src) ∧
    (∃ s : State, s.dev.alive = true ∧ s.dev.pins.wake = false) ∧
    (∃ s : State, s.dev.pins.wake = true) ∧
    (∃ s : State, s.dev.rd P.DEV_STATE ≠ 6) ∧
    (∃ s : State, s.dev.alive = true ∧ s.dev.rd P.DEV_STATE = 6) ∧
    (∃ u : Nat, u < 4) ∧
    (∃ s : State, ∃ u : Nat, u < 4 ∧ s.dev.awake = true ∧ s.dev.boot.started = true ∧ s.dev.rd P.DEV_STATE ≠ 7 ∧ s.dev.is
      P.UL_EN [u] = true ∧ s.dev.is P.UL_MODABS [u] = false) ∧
    (∃ s : State, ∃ u : Nat, u < 4 ∧ ((s.dev.awake = false ∨ s.dev.is P.UL_EN [u] = false ∨ s.dev.is P.UL_MODABS [u] = true))) :=
  ⟨⟨st { dev0 with pins := { dev0.pins with wake := true } }, ask 0x0B00 [],
     serves_ask (by decide +kernel) ⟨0x0B00, _, _⟩ _ nofun (by decide +kernel), by decide +kernel, by decide +kernel⟩,
   ⟨st { dev0 with boot := { dev0.boot with session := some session0 } }, ask 0x0B00 [],
     serves_ask (by decide +kernel) ⟨0x0B00, _, _⟩ _ nofun (by decide +kernel), by decide +kernel, by decide +kernel,
     by decide +kernel⟩,
   ⟨st { dev0 with boot := { dev0.boot with trial := some trial0 } }, ask 0x0B00 [],
     serves_ask (by decide +kernel) ⟨0x0B00, _, _⟩ _ nofun (by decide +kernel), by decide +kernel, by decide +kernel,
     by decide +kernel, by decide +kernel⟩,
   ⟨st dev0, ask 0x0B00 [], serves_ask (by decide +kernel) ⟨0x0B00, _, _⟩ _ nofun (by decide +kernel), by decide +kernel,
     by decide +kernel, by decide +kernel, by decide +kernel⟩,
   ⟨st (dev0.wr P.DEV_STATE [] 3), untagged onChain [], serves_of (by decide +kernel), by decide +kernel, by decide +kernel⟩,
   ⟨st (dev0.wr P.DEV_STATE [] 5), untagged onChain [], serves_of (by decide +kernel), by decide +kernel, by decide +kernel,
     by decide +kernel⟩,
   ⟨st dev0, ask 0x0B01 [], serves_ask (by decide +kernel) ⟨0x0B01, _, _⟩ _ nofun (by decide +kernel), by decide +kernel,
     by decide +kernel, by decide +kernel⟩,
   ⟨st dev0, ask 0x0B02 [], serves_ask (by decide +kernel) ⟨0x0B02, _, _⟩ _ nofun (by decide +kernel), by decide +kernel⟩,
   ⟨st dev0, by decide +kernel⟩,
   ⟨st (dev0.wrs [(P.DEV_STATE, [], 5)]), .good, by decide +kernel, by decide +kernel, by decide +kernel⟩,
   ⟨st ({ dev0 with boot := { dev0.boot with wakeLatched := some 2 } }.wr P.DEV_STATE [] 5), .good, by decide +kernel,
     by decide +kernel, 2, by decide +kernel⟩,
   ⟨st (dev0.wrs [(P.DEV_STATE, [], 3)]), by decide +kernel, by decide +kernel⟩,
   ⟨st { dev0 with pins := { dev0.pins with wake := true } }, by decide +kernel⟩,
   ⟨st dev0, by decide +kernel⟩,
   ⟨st (dev0.wrs [(P.DEV_STATE, [], 6)]), by decide +kernel, by decide +kernel⟩,
   ⟨3, by decide +kernel⟩,
   ⟨st (dev0.wrs [(P.UL_EN, [3], 1)]), 3, by decide +kernel, by decide +kernel, by decide +kernel, by decide +kernel,
     by decide +kernel, by decide +kernel⟩,
   ⟨st dev0, 3, by decide +kernel, by decide +kernel⟩⟩

/-- What `Obligations.EventRequests` assumes is met. -/
theorem meets_EventRequests :
    (∃ s : State, ∃ r : Req, Serves ⟨0x0C00, .open_, false⟩ r s.dev ∧ r.params.length = 6 ∧ 1 ≤ leAt r.params 4 2 ∧ leAt
      r.params 4 2 ≤ 21) ∧
    (∃ s : State, ∃ r : Req, Serves ⟨0x0C02, .open_, false⟩ r s.dev ∧ r.params.length = 6 ∧ 1 ≤ leAt r.params 4 2 ∧ leAt
      r.params 4 2 ≤ 19) ∧
    (∃ s : State, ∃ r : Req, ∃ x : Nat, Serves ⟨0x0C03, .open_, false⟩ r s.dev ∧ r.params.length = 2 ∧ leAt r.params 0 2 = x ∧
      x = 0) ∧
    (∃ s : State, ∃ r : Req, ∃ x : Nat, Serves ⟨0x0C03, .open_, false⟩ r s.dev ∧ r.params.length = 2 ∧ leAt r.params 0 2 = x ∧
      0x1000 ≤ x ∧ x < 0x1040) ∧
    (∃ s : State, ∃ r : Req, ∃ x : Nat, Serves ⟨0x0C03, .open_, false⟩ r s.dev ∧ r.params.length = 2 ∧ leAt r.params 0 2 = x ∧
      0x2000 ≤ x ∧ x < 0x2008) ∧
    (∃ s : State, ∃ r : Req, ∃ x : Nat, Serves ⟨0x0C03, .open_, false⟩ r s.dev ∧ r.params.length = 2 ∧ leAt r.params 0 2 = x ∧
      0x3000 ≤ x ∧ x < 0x30C8) ∧
    (∃ s : State, ∃ r : Req, ∃ x : Nat, ∃ w : Nat, Serves ⟨0x0C01, .operator, false⟩ r s.dev ∧ r.params.length = 4 ∧ leAt
      r.params 0 2 = x ∧ leAt r.params 2 2 = w ∧ x < 512 ∧ sourceKnown x = true ∧ (((flagOfSource x).isNone = true → w / 32 %
      4 = 0)) ∧ s.dev.storeBusy = none) ∧
    (∃ s : State, ∃ r : Req, ∃ w : Nat, Serves ⟨0x0C01, .operator, false⟩ r s.dev ∧ r.params.length = 4 ∧ leAt r.params 0 2 =
      0xFFFF ∧ leAt r.params 2 2 = w ∧ s.dev.storeBusy = none) :=
  ⟨⟨st dev0, ask 0x0C00 (leBytes 4 0 ++ leBytes 2 21),
     serves_ask (by decide +kernel) ⟨0x0C00, _, _⟩ _ nofun (by decide +kernel), by decide +kernel, by decide +kernel,
     by decide +kernel⟩,
   ⟨st dev0, ask 0x0C02 (leBytes 4 0 ++ leBytes 2 19),
     serves_ask (by decide +kernel) ⟨0x0C02, _, _⟩ _ nofun (by decide +kernel), by decide +kernel, by decide +kernel,
     by decide +kernel⟩,
   ⟨st dev0, ask 0x0C03 (leBytes 2 0), 0, serves_ask (by decide +kernel) ⟨0x0C03, _, _⟩ _ nofun (by decide +kernel),
     by decide +kernel, by decide +kernel, by decide +kernel⟩,
   ⟨st dev0, ask 0x0C03 (leBytes 2 0x103F), 0x103F, serves_ask (by decide +kernel) ⟨0x0C03, _, _⟩ _ nofun (by decide +kernel),
     by decide +kernel, by decide +kernel, by decide +kernel, by decide +kernel⟩,
   ⟨st dev0, ask 0x0C03 (leBytes 2 0x2007), 0x2007, serves_ask (by decide +kernel) ⟨0x0C03, _, _⟩ _ nofun (by decide +kernel),
     by decide +kernel, by decide +kernel, by decide +kernel, by decide +kernel⟩,
   ⟨st dev0, ask 0x0C03 (leBytes 2 0x30C7), 0x30C7, serves_ask (by decide +kernel) ⟨0x0C03, _, _⟩ _ nofun (by decide +kernel),
     by decide +kernel, by decide +kernel, by decide +kernel, by decide +kernel⟩,
   ⟨st dev0, ask 0x0C01 (leBytes 2 401 ++ leBytes 2 7), 401, 7,
     serves_ask (by decide +kernel) ⟨0x0C01, _, _⟩ _ nofun (by decide +kernel), by decide +kernel, by decide +kernel,
     by decide +kernel, by decide +kernel, by decide +kernel, by decide +kernel, by decide +kernel⟩,
   ⟨st dev0, ask 0x0C01 (leBytes 2 0xFFFF ++ leBytes 2 3), 3,
     serves_ask (by decide +kernel) ⟨0x0C01, _, _⟩ _ nofun (by decide +kernel), by decide +kernel, by decide +kernel,
     by decide +kernel, by decide +kernel⟩⟩

/-- What `Obligations.ParameterWrites` assumes is met. -/
theorem meets_ParameterWrites :
    (∃ s : State, ∃ r : Req, Serves ⟨0x4001, .operator, true⟩ r s.dev ∧ r.params.length % 8 = 0 ∧ r.params ≠ [] ∧
      r.params.length ≤ 1360) ∧
    (∃ s : State, ∃ r : Req, ∃ n : Nat, Serves ⟨0x4003, .operator, false⟩ r s.dev ∧ leAt r.params 4 2 = n ∧ 1 ≤ n ∧ n ≤ 340 ∧
      r.params.length = 8 + 4 * n ∧ idAt r 0 / 65536 = (idAt r 0 + n - 1) / 65536) ∧
    (∃ s : State, ∃ r : Req, Serves ⟨0x4004, .operator, false⟩ r s.dev ∧ r.params.length = 12 ∧ ((∀ p ∈ rowsAt (idAt r 0),
      p.1.acc ≠ .rws ∧ p.1.acc ≠ .w1c))) ∧
    (∃ s : State, ∃ r : Req, ∃ q : Req, ∃ c : Instr, ∃ a : Nat, ∃ v : Nat, ∃ m : Nat, ∃ f : Nat, m < 4 ∧ f < 128 ∧ (c, q) ∈
      [(Instr.parameterWrite r a v, oneEntry r a v), (.seqGo r m, oneEntry r (0x310010 + m) (setBit (s.here.view (0x310010 +
      m)) 0)), (.injGo r f, oneEntry r (0x310024 + f / 32) (f + 128)), (.testGo r f, oneEntry r 0x210013 (f + 256)),
      (.directData r v, oneEntry r 0x2000A1 v), (.fspSel r v, oneEntry r 0x300010 (v % 2))] ∧ Serves ⟨0x4001, .operator, true⟩
      q s.dev) :=
  ⟨⟨st dev0, ask 0x4001 (leBytes 4 0x240010 ++ leBytes 4 5),
     serves_ask (by decide +kernel) ⟨0x4001, _, _⟩ _ nofun (by decide +kernel), by decide +kernel, by decide +kernel,
     by decide +kernel⟩,
   ⟨st dev0, ask 0x4003 (leBytes 4 0x210010 ++ leBytes 2 2 ++ [0, 0] ++ leBytes 8 0), 2,
     serves_ask (by decide +kernel) ⟨0x4003, _, _⟩ _ nofun (by decide +kernel), by decide +kernel, by decide +kernel,
     by decide +kernel, by decide +kernel, by decide +kernel⟩,
   ⟨st dev0, ask 0x4004 (leBytes 4 0x100010 ++ leBytes 4 1 ++ leBytes 4 0),
     serves_ask (by decide +kernel) ⟨0x4004, _, _⟩ _ nofun (by decide +kernel), by decide +kernel, by decide +kernel⟩,
   ⟨st dev0, untagged onChain [], oneEntry (untagged onChain []) 0x210013 (127 + 256), .testGo (untagged onChain []) 127, 0,
     0, 3, 127, by decide +kernel, by decide +kernel, by decide +kernel, serves_of (by decide +kernel)⟩⟩

/-- What `Obligations.ParameterReads` assumes is met. -/
theorem meets_ParameterReads :
    (∃ s : State, ∃ r : Req, ∃ ids : List Nat, Serves ⟨0x4000, .open_, false⟩ r s.dev ∧ r.params.length = 4 * ids.length ∧ ids
      ≠ [] ∧ ids.length ≤ 340 ∧ ((∀ i a, ids[i]? = some a → idAt r (4 * i) = a)) ∧ ((∀ a ∈ ids, readable a = true))) ∧
    (∃ s : State, ∃ r : Req, ∃ ids : List Nat, Serves ⟨0x4000, .open_, false⟩ r s.dev ∧ r.params.length = 4 * ids.length ∧ ids
      ≠ [] ∧ ids.length ≤ 340 ∧ ((∀ i a, ids[i]? = some a → idAt r (4 * i) = a)) ∧ ∃ i, ∃ a, ids[i]? = some a ∧ readable a =
      false ∧ ((∀ b ∈ ids.take i, readable b = true))) ∧
    (∃ s : State, ∃ r : Req, ∃ a : Nat, ∃ n : Nat, Serves ⟨0x4002, .open_, false⟩ r s.dev ∧ r.params.length = 8 ∧ idAt r 0 = a
      ∧ leAt r.params 4 2 = n ∧ 1 ≤ n ∧ n ≤ 340 ∧ a / 65536 = (a + n - 1) / 65536 ∧ ((∀ i, i < n → readable (a + i) = true))) ∧
    (∃ s : State, ∃ r : Req, ∃ a : Nat, ∃ n : Nat, Serves ⟨0x4002, .open_, false⟩ r s.dev ∧ r.params.length = 8 ∧ idAt r 0 = a
      ∧ leAt r.params 4 2 = n ∧ 1 ≤ n ∧ n ≤ 340 ∧ a / 65536 = (a + n - 1) / 65536 ∧ ∃ i, i < n ∧ readable (a + i) = false ∧
      ((∀ j, j < i → readable (a + j) = true))) ∧
    (∃ s : State, ∃ r : Req, ∃ m : Nat, m < 4 ∧ Serves ⟨0x4000, .open_, false⟩ { r with params := leBytes 4 (0x310018 + m) }
      s.dev) ∧
    (∃ s : State, ∃ r : Req, Serves ⟨0x4000, .open_, false⟩ { r with params := leBytes 4 0x240063 } s.dev) :=
  ⟨⟨st dev0, ask 0x4000 (leBytes 4 0x100010), [0x100010],
     serves_ask (by decide +kernel) ⟨0x4000, _, _⟩ _ nofun (by decide +kernel), by decide +kernel, by decide +kernel,
     by decide +kernel, one_id _ _ (by decide), by decide +kernel⟩,
   ⟨st dev0, ask 0x4000 (leBytes 4 0x0F0000), [0x0F0000],
     serves_ask (by decide +kernel) ⟨0x4000, _, _⟩ _ nofun (by decide +kernel), by decide +kernel, by decide +kernel,
     by decide +kernel, one_id _ _ (by decide), 0, 0x0F0000, by decide +kernel, by decide +kernel, by decide +kernel⟩,
   ⟨st dev0, ask 0x4002 (leBytes 4 0x10FFFF ++ leBytes 2 1 ++ [0, 0]), 0x10FFFF, 1,
     serves_ask (by decide +kernel) ⟨0x4002, _, _⟩ _ nofun (by decide +kernel), by decide +kernel, by decide +kernel,
     by decide +kernel, by decide +kernel, by decide +kernel, by decide +kernel, by decide +kernel⟩,
   ⟨st dev0, ask 0x4002 (leBytes 4 0x0F0000 ++ leBytes 2 340 ++ [0, 0]), 0x0F0000, 340,
     serves_ask (by decide +kernel) ⟨0x4002, _, _⟩ _ nofun (by decide +kernel), by decide +kernel, by decide +kernel,
     by decide +kernel, by decide +kernel, by decide +kernel, by decide +kernel, 0, by decide +kernel, by decide +kernel,
     by decide +kernel⟩,
   ⟨st dev0, untagged onChain [], 3, by decide +kernel, serves_of (by decide +kernel)⟩,
   ⟨st dev0, untagged onChain [], serves_of (by decide +kernel)⟩⟩

/-- What `Obligations.TapAndTableRequests` assumes is met. -/
theorem meets_TapAndTableRequests :
    (∃ s : State, ∃ r : Req, ∃ t : Nat, Serves ⟨0x4100, .operator, false⟩ r s.dev ∧ r.params.length = 8 ∧ byteAt r.params 0 =
      t ∧ t < 16 ∧ boundaryOk (byteAt r.params 1) (bitOf (byteAt r.params 2) 6) = true ∧ 16 ≤ byteAt r.params 4 ∧ byteAt
      r.params 4 ≤ 30 ∧ bitOf (byteAt r.params 5) 0 = true ∧ s.dev.is P.TAP_EN [t] = true) ∧
    (∃ s : State, ∃ r : Req, ∃ t : Nat, Serves ⟨0x4100, .operator, false⟩ r s.dev ∧ r.params.length = 8 ∧ byteAt r.params 0 =
      t ∧ t < 16 ∧ boundaryOk (byteAt r.params 1) (bitOf (byteAt r.params 2) 6) = true ∧ 16 ≤ byteAt r.params 4 ∧ byteAt
      r.params 4 ≤ 30 ∧ bitOf (byteAt r.params 5) 0 = true ∧ s.dev.is P.TAP_EN [t] = false ∧ ((s.here.takeCounter r).tapFields
      r.params).tapEnableCheck t = none) ∧
    (∃ s : State, ∃ r : Req, ∃ t : Nat, Serves ⟨0x4100, .operator, false⟩ r s.dev ∧ r.params.length = 8 ∧ byteAt r.params 0 =
      t ∧ t < 16 ∧ boundaryOk (byteAt r.params 1) (bitOf (byteAt r.params 2) 6) = true ∧ 16 ≤ byteAt r.params 4 ∧ byteAt
      r.params 4 ≤ 30 ∧ bitOf (byteAt r.params 5) 0 = false ∧ s.dev.is P.TAP_EN [t] = true) ∧
    (∃ s : State, ∃ r : Req, ∃ t : Nat, Serves ⟨0x4100, .operator, false⟩ r s.dev ∧ r.params.length = 8 ∧ byteAt r.params 0 =
      t ∧ t < 16 ∧ boundaryOk (byteAt r.params 1) (bitOf (byteAt r.params 2) 6) = true ∧ 16 ≤ byteAt r.params 4 ∧ byteAt
      r.params 4 ≤ 30 ∧ bitOf (byteAt r.params 5) 0 = false ∧ s.dev.is P.TAP_EN [t] = false) ∧
    (∃ s : State, ∃ r : Req, ∃ t : Nat, ∃ u : Nat, Serves ⟨0x4101, .operator, false⟩ r s.dev ∧ r.params.length = 24 ∧ byteAt
      r.params 0 = t ∧ byteAt r.params 1 = u ∧ t < 16 ∧ u < 4 ∧ ((s.dev.is P.TAP_EN [t] = false ∨ s.dev.is P.UL_EN [u] =
      false))) ∧
    (∃ s : State, ∃ r : Req, ∃ t : Nat, ∃ u : Nat, Serves ⟨0x4101, .operator, false⟩ r s.dev ∧ r.params.length = 24 ∧ byteAt
      r.params 0 = t ∧ byteAt r.params 1 = u ∧ t < 16 ∧ u < 4 ∧ s.dev.is P.TAP_EN [t] = true ∧ s.dev.is P.UL_EN [u] = true ∧
      bitOf (byteAt r.params 2) 0 = false ∧ s.dev.is P.STREAMING [t] = true) ∧
    (∃ s : State, ∃ r : Req, ∃ t : Nat, Serves ⟨0x4101, .operator, false⟩ r s.dev ∧ r.params.length = 24 ∧ byteAt r.params 0 =
      t ∧ byteAt r.params 1 = 0xFF ∧ t < 16 ∧ s.dev.is P.TAP_EN [t] = false) ∧
    (∃ s : State, ∃ r : Req, ∃ t : Nat, Serves ⟨0x4101, .operator, false⟩ r s.dev ∧ r.params.length = 24 ∧ byteAt r.params 0 =
      t ∧ byteAt r.params 1 = 0xFF ∧ t < 16 ∧ s.dev.is P.TAP_EN [t] = true) ∧
    (∃ s : State, ∃ r : Req, ∃ t : Nat, ∃ o : Nat, ∃ n : Nat, ∃ z : Nat, Serves ⟨0x4200, .service, false⟩ r s.dev ∧
      r.params.length = 12 ∧ leAt r.params 0 2 = t ∧ leAt r.params 4 4 = o ∧ leAt r.params 8 2 = n ∧ 1 ≤ n ∧ n ≤ 1384 ∧
      (s.here.takeCounter r).tableSize t = some z ∧ o + n ≤ z) ∧
    (∃ s : State, ∃ r : Req, ∃ t : Nat, ∃ o : Nat, ∃ bs : List Byte, Serves ⟨0x4201, .service, false⟩ r s.dev ∧ leAt r.params
      0 2 = t ∧ leAt r.params 4 4 = o ∧ r.params.drop 8 = bs ∧ ∃ a, (s.here.takeCounter r).tableWriteCheck r = some a) ∧
    (∃ s : State, ∃ r : Req, ∃ t : Nat, ∃ o : Nat, ∃ bs : List Byte, Serves ⟨0x4201, .service, false⟩ r s.dev ∧ leAt r.params
      0 2 = t ∧ leAt r.params 4 4 = o ∧ r.params.drop 8 = bs ∧ (s.here.takeCounter r).tableWriteCheck r = none) :=
  ⟨⟨st (dev0.wrs [(P.TAP_EN, [15], 1)]), ask 0x4100 [15, 8, 0, 0, 16, 1, 0, 0], 15,
     serves_ask (by decide +kernel) ⟨0x4100, _, _⟩ _ nofun (by decide +kernel), by decide +kernel, by decide +kernel,
     by decide +kernel, by decide +kernel, by decide +kernel, by decide +kernel, by decide +kernel, by decide +kernel⟩,
   ⟨st (dev0.wrs [(P.N_SVC, [], 1)]), ask 0x4100 [15, 15, 64, 0, 16, 1, 0, 0], 15,
     serves_ask (by decide +kernel) ⟨0x4100, _, _⟩ _ nofun (by decide +kernel), by decide +kernel, by decide +kernel,
     by decide +kernel, by decide +kernel, by decide +kernel, by decide +kernel, by decide +kernel, by decide +kernel,
     by decide +kernel⟩,
   ⟨st (dev0.wrs [(P.TAP_EN, [15], 1)]), ask 0x4100 [15, 8, 0, 0, 30, 0, 0, 0], 15,
     serves_ask (by decide +kernel) ⟨0x4100, _, _⟩ _ nofun (by decide +kernel), by decide +kernel, by decide +kernel,
     by decide +kernel, by decide +kernel, by decide +kernel, by decide +kernel, by decide +kernel, by decide +kernel⟩,
   ⟨st dev0, ask 0x4100 [15, 8, 0, 0, 30, 0, 0, 0], 15,
     serves_ask (by decide +kernel) ⟨0x4100, _, _⟩ _ nofun (by decide +kernel), by decide +kernel, by decide +kernel,
     by decide +kernel, by decide +kernel, by decide +kernel, by decide +kernel, by decide +kernel, by decide +kernel⟩,
   ⟨st dev0, ask 0x4101 ([15, 3] ++ List.replicate 22 0), 15, 3,
     serves_ask (by decide +kernel) ⟨0x4101, _, _⟩ _ nofun (by decide +kernel), by decide +kernel, by decide +kernel,
     by decide +kernel, by decide +kernel, by decide +kernel, by decide +kernel⟩,
   ⟨st (dev0.wrs [(P.TAP_EN, [15], 1), (P.UL_EN, [3], 1), (P.STREAMING, [15], 1)]),
     ask 0x4101 ([15, 3] ++ List.replicate 22 0), 15, 3,
     serves_ask (by decide +kernel) ⟨0x4101, _, _⟩ _ nofun (by decide +kernel), by decide +kernel, by decide +kernel,
     by decide +kernel, by decide +kernel, by decide +kernel, by decide +kernel, by decide +kernel, by decide +kernel,
     by decide +kernel⟩,
   ⟨st dev0, ask 0x4101 ([15, 0xFF] ++ List.replicate 22 0), 15,
     serves_ask (by decide +kernel) ⟨0x4101, _, _⟩ _ nofun (by decide +kernel), by decide +kernel, by decide +kernel,
     by decide +kernel, by decide +kernel, by decide +kernel⟩,
   ⟨st (dev0.wr P.TAP_EN [15] 1), ask 0x4101 ([15, 0xFF] ++ List.replicate 22 0), 15,
     serves_ask (by decide +kernel) ⟨0x4101, _, _⟩ _ nofun (by decide +kernel), by decide +kernel, by decide +kernel,
     by decide +kernel, by decide +kernel, by decide +kernel⟩,
   ⟨st dev0, ask 0x4200 (leBytes 4 0x2010 ++ leBytes 4 263 ++ leBytes 4 1), 0x2010, 263, 1, 264,
     serves_ask (by decide +kernel) ⟨0x4200, _, _⟩ _ nofun (by decide +kernel), by decide +kernel, by decide +kernel,
     by decide +kernel, by decide +kernel, by decide +kernel, by decide +kernel, by decide +kernel, by decide +kernel⟩,
   ⟨st dev0, ask 0x4201 (leBytes 4 0x1000 ++ leBytes 4 0 ++ [1]), 0x1000, 0, [1],
     serves_ask (by decide +kernel) ⟨0x4201, _, _⟩ _ nofun (by decide +kernel), by decide +kernel, by decide +kernel,
     by decide +kernel, refuse .badParam 0x0019, by decide +kernel⟩,
   ⟨st dev0, ask 0x4201 (leBytes 4 0x2010 ++ leBytes 4 8 ++ [1]), 0x2010, 8, [1],
     serves_ask (by decide +kernel) ⟨0x4201, _, _⟩ _ nofun (by decide +kernel), by decide +kernel, by decide +kernel,
     by decide +kernel, by decide +kernel⟩⟩

/-- What `Obligations.PlacementMessages` assumes is met. -/
theorem meets_PlacementMessages :
    (∃ s : State, ∃ r : Req, ∃ p : Nat, ∃ op : Nat, ∃ kind : Nat, ∃ c : Instr, (c, op, kind) ∈ [(Instr.view r, 0x4400, 1),
      (.withdraw r, 0x4400, 2), (.commit r, 0x4400, 3), (.query r, 0x4400, 4), (.ready r, 0x4401, 1), (.state r, 0x4401, 2),
      (.done r, 0x4401, 3)] ∧ Serves ⟨op, .device, false⟩ r s.dev ∧ r.params.length = 32 ∧ byteAt r.params 8 = kind ∧ patchOf
      r = p ∧ s.dev.patch? p = none) ∧
    (∃ s : State, ∃ r : Req, ∃ p : Nat, ∃ op : Nat, ∃ kind : Nat, ∃ role : Bool, ∃ c : Instr, (c, op, kind, role) ∈
      [(Instr.view r, 0x4400, 1, s.dev.isDirectory p), (.withdraw r, 0x4400, 2, s.dev.isDirectory p), (.query r, 0x4400, 4,
      s.dev.isDirectory p), (.ready r, 0x4401, 1, s.dev.handsOver p), (.state r, 0x4401, 2, s.dev.owns p), (.done r, 0x4401,
      3, s.dev.handsOver p)] ∧ Serves ⟨op, .device, false⟩ r s.dev ∧ r.params.length = 32 ∧ byteAt r.params 8 = kind ∧ patchOf
      r = p ∧ (s.dev.patch? p).isSome = true ∧ role = false) ∧
    (∃ s : State, ∃ r : Req, ∃ p : Nat, Serves ⟨0x4400, .device, false⟩ r s.dev ∧ r.params.length = 32 ∧ patchOf r = p ∧
      (s.dev.patch? p).isSome = true ∧ byteAt r.params 8 = 1 ∧ s.dev.isDirectory p = true) ∧
    (∃ s : State, ∃ r : Req, ∃ p : Nat, Serves ⟨0x4400, .device, false⟩ r s.dev ∧ r.params.length = 32 ∧ patchOf r = p ∧
      (s.dev.patch? p).isSome = true ∧ byteAt r.params 8 = 2 ∧ s.dev.isDirectory p = true) ∧
    (∃ s : State, ∃ r : Req, ∃ p : Nat, Serves ⟨0x4400, .device, false⟩ r s.dev ∧ r.params.length = 32 ∧ patchOf r = p ∧
      (s.dev.patch? p).isSome = true ∧ byteAt r.params 8 = 4 ∧ s.dev.isDirectory p = true) ∧
    (∃ s : State, ∃ r : Req, ∃ p : Nat, Serves ⟨0x4400, .device, false⟩ r s.dev ∧ r.params.length = 32 ∧ patchOf r = p ∧
      (s.dev.patch? p).isSome = true ∧ byteAt r.params 8 = 3 ∧ (s.dev.place p).epoch < leAt r.params 16 4) ∧
    (∃ s : State, ∃ r : Req, ∃ p : Nat, Serves ⟨0x4400, .device, false⟩ r s.dev ∧ r.params.length = 32 ∧ patchOf r = p ∧
      (s.dev.patch? p).isSome = true ∧ byteAt r.params 8 = 3 ∧ (s.dev.place p).epoch = leAt r.params 16 4 ∧ (s.dev.place
      p).owner = leAt r.params 10 2 % 1024) ∧
    (∃ s : State, ∃ r : Req, ∃ p : Nat, Serves ⟨0x4400, .device, false⟩ r s.dev ∧ r.params.length = 32 ∧ patchOf r = p ∧
      (s.dev.patch? p).isSome = true ∧ byteAt r.params 8 = 3 ∧ leAt r.params 16 4 < (s.dev.place p).epoch) ∧
    (∃ s : State, ∃ r : Req, ∃ p : Nat, Serves ⟨0x4400, .device, false⟩ r s.dev ∧ r.params.length = 32 ∧ patchOf r = p ∧
      (s.dev.patch? p).isSome = true ∧ byteAt r.params 8 = 3 ∧ (s.dev.place p).epoch = leAt r.params 16 4 ∧ (s.dev.place
      p).owner ≠ leAt r.params 10 2 % 1024) ∧
    (∃ s : State, ∃ r : Req, ∃ p : Nat, Serves ⟨0x4401, .device, false⟩ r s.dev ∧ r.params.length = 32 ∧ patchOf r = p ∧
      (s.dev.patch? p).isSome = true ∧
      let pl := s.dev.place p
      let e := leAt r.params 16 4
      byteAt r.params 8 = 1 ∧ s.dev.handsOver p = true ∧ pl.epoch ≤ e) ∧
    (∃ s : State, ∃ r : Req, ∃ p : Nat, Serves ⟨0x4401, .device, false⟩ r s.dev ∧ r.params.length = 32 ∧ patchOf r = p ∧
      (s.dev.patch? p).isSome = true ∧
      let pl := s.dev.place p
      let e := leAt r.params 16 4
      byteAt r.params 8 = 1 ∧ s.dev.handsOver p = true ∧ e < pl.epoch) ∧
    (∃ s : State, ∃ r : Req, ∃ p : Nat, Serves ⟨0x4401, .device, false⟩ r s.dev ∧ r.params.length = 32 ∧ patchOf r = p ∧
      (s.dev.patch? p).isSome = true ∧
      let pl := s.dev.place p
      let e := leAt r.params 16 4
      byteAt r.params 8 = 2 ∧ s.dev.owns p = true ∧ e < pl.epoch) ∧
    (∃ s : State, ∃ r : Req, ∃ p : Nat, Serves ⟨0x4401, .device, false⟩ r s.dev ∧ r.params.length = 32 ∧ patchOf r = p ∧
      (s.dev.patch? p).isSome = true ∧
      let pl := s.dev.place p
      let e := leAt r.params 16 4
      byteAt r.params 8 = 3 ∧ s.dev.handsOver p = true ∧ e < pl.epoch) ∧
    (∃ s : State, ∃ r : Req, ∃ p : Nat, Serves ⟨0x4401, .device, false⟩ r s.dev ∧ r.params.length = 32 ∧ patchOf r = p ∧
      (s.dev.patch? p).isSome = true ∧
      let pl := s.dev.place p
      let e := leAt r.params 16 4
      byteAt r.params 8 = 2 ∧ s.dev.owns p = true ∧ pl.epoch ≤ e ∧ s.dev.plc.handovers.get? p = none) ∧
    (∃ s : State, ∃ r : Req, ∃ p : Nat, Serves ⟨0x4401, .device, false⟩ r s.dev ∧ r.params.length = 32 ∧ patchOf r = p ∧
      (s.dev.patch? p).isSome = true ∧
      let pl := s.dev.place p
      let e := leAt r.params 16 4
      ∃ h, byteAt r.params 8 = 2 ∧ s.dev.owns p = true ∧ pl.epoch ≤ e ∧ s.dev.plc.handovers.get? p = some h) ∧
    (∃ s : State, ∃ r : Req, ∃ p : Nat, Serves ⟨0x4401, .device, false⟩ r s.dev ∧ r.params.length = 32 ∧ patchOf r = p ∧
      (s.dev.patch? p).isSome = true ∧
      let pl := s.dev.place p
      let e := leAt r.params 16 4
      byteAt r.params 8 = 3 ∧ s.dev.handsOver p = true ∧ pl.epoch ≤ e) :=
  ⟨⟨st dev0, tell 0x4401 (placeBody 9 3 1 5 0x3FF 100 3 4900000000 0 1), 9, 0x4401, 3,
     .done (tell 0x4401 (placeBody 9 3 1 5 0x3FF 100 3 4900000000 0 1)), by decide +kernel,
     serves_tell (by decide +kernel) _ _ (by decide), by decide +kernel, by decide +kernel, by decide +kernel,
     by decide +kernel⟩,
   ⟨st (placed 6 6), tell 0x4400 (placeBody 9 4 1 5 0x3FF 100 3 4900000000 0 1), 9, 0x4400, 4,
     (st (placed 6 6)).dev.isDirectory 9, .query (tell 0x4400 (placeBody 9 4 1 5 0x3FF 100 3 4900000000 0 1)),
     .tail _ (.tail _ (.head _)), serves_tell (by decide +kernel) _ _ (by decide), by decide +kernel, by decide +kernel,
     by decide +kernel, by decide +kernel, by decide +kernel⟩,
   ⟨st (placed 5 5), tell 0x4400 (placeBody 9 1 1 6 0x3FF 100 3 4900000000 0 1), 9,
     serves_tell (by decide +kernel) 0x4400 _ (by decide +kernel), by decide +kernel, by decide +kernel, by decide +kernel,
     by decide +kernel, by decide +kernel⟩,
   ⟨st (placed 5 5), tell 0x4400 (placeBody 9 2 1 5 0x3FF 100 3 4900000000 0 1), 9,
     serves_tell (by decide +kernel) 0x4400 _ (by decide +kernel), by decide +kernel, by decide +kernel, by decide +kernel,
     by decide +kernel, by decide +kernel⟩,
   ⟨st (placed 5 5), tell 0x4400 (placeBody 9 4 1 5 0x3FF 100 3 4900000000 0 1), 9,
     serves_tell (by decide +kernel) 0x4400 _ (by decide +kernel), by decide +kernel, by decide +kernel, by decide +kernel,
     by decide +kernel, by decide +kernel⟩,
   ⟨st (placed 5 5), tell 0x4400 (placeBody 9 3 1 6 5 100 3 4900000000 0 1), 9,
     serves_tell (by decide +kernel) 0x4400 _ (by decide +kernel), by decide +kernel, by decide +kernel, by decide +kernel,
     by decide +kernel, by decide +kernel⟩,
   ⟨st (placed 5 5), tell 0x4400 (placeBody 9 3 1 5 0x3FF 100 2 4900000000 0 1), 9,
     serves_tell (by decide +kernel) 0x4400 _ (by decide +kernel), by decide +kernel, by decide +kernel, by decide +kernel,
     by decide +kernel, by decide +kernel, by decide +kernel⟩,
   ⟨st (placed 5 5), tell 0x4400 (placeBody 9 3 1 5 0x3FF 100 1 4900000000 0 1), 9,
     serves_tell (by decide +kernel) 0x4400 _ (by decide +kernel), by decide +kernel, by decide +kernel, by decide +kernel,
     by decide +kernel, by decide +kernel⟩,
   ⟨st (placed 5 5), tell 0x4400 (placeBody 9 3 1 6 0x3FF 100 2 4900000000 0 1), 9,
     serves_tell (by decide +kernel) 0x4400 _ (by decide +kernel), by decide +kernel, by decide +kernel, by decide +kernel,
     by decide +kernel, by decide +kernel, by decide +kernel⟩,
   ⟨st (placed 5 5), tell 0x4401 (placeBody 9 1 1 5 0x3FF 100 2 4900000000 0 1), 9,
     serves_tell (by decide +kernel) 0x4401 _ (by decide +kernel), by decide +kernel, by decide +kernel, by decide +kernel,
     by decide +kernel, by decide +kernel, by decide +kernel⟩,
   ⟨st (placed 5 5), tell 0x4401 (placeBody 9 1 1 5 0x3FF 100 1 4900000000 0 1), 9,
     serves_tell (by decide +kernel) 0x4401 _ (by decide +kernel), by decide +kernel, by decide +kernel, by decide +kernel,
     by decide +kernel, by decide +kernel, by decide +kernel⟩,
   ⟨st (placed 5 5), tell 0x4401 (placeBody 9 2 1 5 0x3FF 100 1 4900000000 0 1), 9,
     serves_tell (by decide +kernel) 0x4401 _ (by decide +kernel), by decide +kernel, by decide +kernel, by decide +kernel,
     by decide +kernel, by decide +kernel, by decide +kernel⟩,
   ⟨st ((placed 5 6).setPlace 9 ⟨6, 2, 4, 5, none, false, none, none⟩),
     tell 0x4401 (placeBody 9 3 1 6 0x3FF 100 1 4900000000 0 1), 9,
     serves_tell (by decide +kernel) 0x4401 _ (by decide +kernel), by decide +kernel, by decide +kernel, by decide +kernel,
     by decide +kernel, by decide +kernel, by decide +kernel⟩,
   ⟨st (placed 5 5), tell 0x4401 (placeBody 9 2 1 5 0x3FF 100 2 4900000000 0 1), 9,
     serves_tell (by decide +kernel) 0x4401 _ (by decide +kernel), by decide +kernel, by decide +kernel, by decide +kernel,
     by decide +kernel, by decide +kernel, by decide +kernel, by decide +kernel⟩,
   ⟨st { placed 5 5 with plc := { (placed 5 5).plc with handovers := KMap.ofList [(9, hand0)] } },
     tell 0x4401 (placeBody 9 2 1 5 0x3FF 100 2 4900000000 7 1), 9,
     serves_tell (by decide +kernel) 0x4401 _ (by decide +kernel), by decide +kernel, by decide +kernel, by decide +kernel,
     hand0, by decide +kernel, by decide +kernel, by decide +kernel, by decide +kernel⟩,
   ⟨st ((placed 5 6).setPlace 9 ⟨6, 2, 4, 5, none, false, none, none⟩),
     tell 0x4401 (placeBody 9 3 1 6 0x3FF 100 2 4900000000 0 1), 9,
     serves_tell (by decide +kernel) 0x4401 _ (by decide +kernel), by decide +kernel, by decide +kernel, by decide +kernel,
     by decide +kernel, by decide +kernel, by decide +kernel⟩⟩

/-- What `Obligations.SeamMessages` assumes is met. -/
theorem meets_SeamMessages :
    (∃ s : State, ∃ r : Req, ∃ e : List Byte, Serves ⟨0x4402, .device, false⟩ r s.dev ∧ r.params.drop 4 = e ∧ byteAt r.params
      1 = 1 ∧ byteAt r.params 0 = 1 ∧ e.length = 12) ∧
    (∃ s : State, ∃ r : Req, ∃ e : List Byte, Serves ⟨0x4402, .device, false⟩ r s.dev ∧ r.params.drop 4 = e ∧ byteAt r.params
      1 = 1 ∧
      let p := leAt e 0 4 % 2 ^ 22
      byteAt r.params 0 = 2 ∧ e.length = 12 ∧ s.dev.awaits p = none) ∧
    (∃ s : State, ∃ r : Req, ∃ e : List Byte, Serves ⟨0x4402, .device, false⟩ r s.dev ∧ r.params.drop 4 = e ∧ byteAt r.params
      1 = 1 ∧
      let p := leAt e 0 4 % 2 ^ 22
      ∃ k, ∃ c, byteAt r.params 0 = 2 ∧ e.length = 12 ∧ s.dev.awaits p = some k ∧ (s.dev.calCore k).cycle = some c ∧ byteAt e
      8 ≠ 3) ∧
    (∃ s : State, ∃ r : Req, ∃ e : List Byte, Serves ⟨0x4402, .device, false⟩ r s.dev ∧ r.params.drop 4 = e ∧ byteAt r.params
      1 = 1 ∧
      let p := leAt e 0 4 % 2 ^ 22
      ∃ k, ∃ c, byteAt r.params 0 = 2 ∧ e.length = 12 ∧ s.dev.awaits p = some k ∧ (s.dev.calCore k).cycle = some c ∧ byteAt e
      8 = 3) ∧
    (∃ s : State, ∃ r : Req, ∃ e : List Byte, Serves ⟨0x4402, .device, false⟩ r s.dev ∧ r.params.drop 4 = e ∧ byteAt r.params
      1 = 1 ∧ byteAt r.params 0 = 3 ∧ e.length = 8) ∧
    (∃ s : State, ∃ r : Req, ∃ e : List Byte, Serves ⟨0x4402, .device, false⟩ r s.dev ∧ r.params.drop 4 = e ∧ byteAt r.params
      1 = 1 ∧ byteAt r.params 0 = 4 ∧ e.length = 24) ∧
    (∃ s : State, ∃ r : Req, ∃ e : List Byte, Serves ⟨0x4402, .device, false⟩ r s.dev ∧ r.params.drop 4 = e ∧ byteAt r.params
      1 = 1 ∧ byteAt r.params 0 = 5 ∧ e.length = 12) :=
  ⟨⟨st (placed 5 5), tell 0x4402 ([1, 1, 0, 0] ++ (leBytes 4 9 ++ leBytes 4 2 ++ leBytes 4 63)),
     (leBytes 4 9 ++ leBytes 4 2 ++ leBytes 4 63), serves_tell (by decide +kernel) 0x4402 _ (by decide +kernel),
     by decide +kernel, by decide +kernel, by decide +kernel, by decide +kernel⟩,
   ⟨st dev0, tell 0x4402 ([2, 1, 0, 0] ++ (leBytes 4 9 ++ leBytes 4 2 ++ leBytes 4 0)),
     (leBytes 4 9 ++ leBytes 4 2 ++ leBytes 4 0), serves_tell (by decide +kernel) 0x4402 _ (by decide +kernel),
     by decide +kernel, by decide +kernel, by decide +kernel, by decide +kernel, by decide +kernel⟩,
   ⟨st (awaiting 63), tell 0x4402 ([2, 1, 0, 0] ++ (leBytes 4 9 ++ leBytes 4 2 ++ leBytes 4 0)),
     (leBytes 4 9 ++ leBytes 4 2 ++ leBytes 4 0), serves_tell (by decide +kernel) 0x4402 _ (by decide +kernel),
     by decide +kernel, by decide +kernel, 63, waitCycle, by decide +kernel, by decide +kernel, by decide +kernel,
     by decide +kernel, by decide +kernel⟩,
   ⟨st (awaiting 63), tell 0x4402 ([2, 1, 0, 0] ++ (leBytes 4 9 ++ leBytes 4 3 ++ leBytes 4 0x60003)),
     (leBytes 4 9 ++ leBytes 4 3 ++ leBytes 4 0x60003), serves_tell (by decide +kernel) 0x4402 _ (by decide +kernel),
     by decide +kernel, by decide +kernel, 63, waitCycle, by decide +kernel, by decide +kernel, by decide +kernel,
     by decide +kernel, by decide +kernel⟩,
   ⟨st (placed 5 5), tell 0x4402 ([3, 1, 0, 0] ++ (leBytes 4 9 ++ leBytes 4 63)), (leBytes 4 9 ++ leBytes 4 63),
     serves_tell (by decide +kernel) 0x4402 _ (by decide +kernel), by decide +kernel, by decide +kernel, by decide +kernel,
     by decide +kernel⟩,
   ⟨st dev0, tell 0x4402 ([4, 1, 0, 0] ++ (leBytes 4 0xC0000F ++ leBytes 4 2 ++ leBytes 8 7 ++ leBytes 8 25)),
     (leBytes 4 0xC0000F ++ leBytes 4 2 ++ leBytes 8 7 ++ leBytes 8 25),
     serves_tell (by decide +kernel) 0x4402 _ (by decide +kernel), by decide +kernel, by decide +kernel, by decide +kernel,
     by decide +kernel⟩,
   ⟨st dev0, tell 0x4402 ([5, 1, 0, 0] ++ (leBytes 4 0x10003F ++ leBytes 4 0xFFFFFFFF ++ leBytes 4 0x10)),
     (leBytes 4 0x10003F ++ leBytes 4 0xFFFFFFFF ++ leBytes 4 0x10),
     serves_tell (by decide +kernel) 0x4402 _ (by decide +kernel), by decide +kernel, by decide +kernel, by decide +kernel,
     by decide +kernel⟩⟩

/-- What `Obligations.KeyRequests` assumes is met. -/
theorem meets_KeyRequests :
    (∃ s : State, ∃ r : Req, Serves ⟨0x8000, .open_, false⟩ r s.dev ∧ r.params = []) ∧
    (∃ s : State, ∃ r : Req, ∃ k : Option (List Byte), Serves ⟨0x8001, .service, false⟩ r s.dev ∧ (s.here.takeCounter
      r).rotateKey r = .inr k ∧ (s.dev.taken r).rotateKey r = .inr k) ∧
    (∃ s : State, ∃ r : Req, ∃ b : Nat, Serves ⟨0x8007, .service, false⟩ r s.dev ∧ r.params = [BitVec.ofNat 8 b] ∧ b < 256 ∧ b
      < 16) ∧
    (∃ s : State, ∃ r : Req, ∃ b : Nat, Serves ⟨0x8007, .service, false⟩ r s.dev ∧ r.params = [BitVec.ofNat 8 b] ∧ b < 256 ∧
      16 ≤ b) ∧
    (∃ s : State, ∃ m : ImmRec, ∃ rest : List ImmRec, ∃ p : Prog, s.dev.nv.imm = m :: rest ∧ s.dev.alive = true ∧
      let b : Dev := { s.here with nv := { s.dev.nv with imm := rest } }
      let b := if p = .retired then b.retireFor m.body else b
      let done := match m.after with
          | .counter i => b.nv.countBit i
          | _ => b.nv.write m.body 0 true
      ((p = .failed ∨ done = none))) ∧
    (∃ s : State, ∃ m : ImmRec, ∃ rest : List ImmRec, ∃ p : Prog, s.dev.nv.imm = m :: rest ∧ s.dev.alive = true ∧
      let b : Dev := { s.here with nv := { s.dev.nv with imm := rest } }
      let b := if p = .retired then b.retireFor m.body else b
      let done := match m.after with
          | .counter i => b.nv.countBit i
          | _ => b.nv.write m.body 0 true
      ∃ nv, p ≠ .failed ∧ done = some nv ∧ ((m.after = .none ∨ m.after = .activation ∨ (∃ i, m.after = .ceiling i) ∨ ∃ i, 64 ≤
      i ∧ m.after = .counter i))) ∧
    (∃ s : State, ∃ m : ImmRec, ∃ rest : List ImmRec, ∃ p : Prog, s.dev.nv.imm = m :: rest ∧ s.dev.alive = true ∧
      let b : Dev := { s.here with nv := { s.dev.nv with imm := rest } }
      let b := if p = .retired then b.retireFor m.body else b
      let done := match m.after with
          | .counter i => b.nv.countBit i
          | _ => b.nv.write m.body 0 true
      ∃ nv, p ≠ .failed ∧ done = some nv ∧ ∃ i, m.after = .counter i ∧ i < 64) ∧
    (∃ s : State, ∃ m : ImmRec, ∃ rest : List ImmRec, ∃ p : Prog, s.dev.nv.imm = m :: rest ∧ s.dev.alive = true ∧
      let b : Dev := { s.here with nv := { s.dev.nv with imm := rest } }
      let b := if p = .retired then b.retireFor m.body else b
      let done := match m.after with
          | .counter i => b.nv.countBit i
          | _ => b.nv.write m.body 0 true
      ∃ nv, p ≠ .failed ∧ done = some nv ∧ ∃ t, m.after = .patch t) ∧
    (∃ s : State, ∃ m : ImmRec, ∃ rest : List ImmRec, ∃ p : Prog, s.dev.nv.imm = m :: rest ∧ s.dev.alive = true ∧
      let b : Dev := { s.here with nv := { s.dev.nv with imm := rest } }
      let b := if p = .retired then b.retireFor m.body else b
      let done := match m.after with
          | .counter i => b.nv.countBit i
          | _ => b.nv.write m.body 0 true
      ∃ nv, p ≠ .failed ∧ done = some nv ∧ m.after = .authRelax) ∧
    (∃ s : State, ∃ m : ImmRec, ∃ rest : List ImmRec, ∃ p : Prog, s.dev.nv.imm = m :: rest ∧ s.dev.alive = true ∧
      let b : Dev := { s.here with nv := { s.dev.nv with imm := rest } }
      let b := if p = .retired then b.retireFor m.body else b
      let done := match m.after with
          | .counter i => b.nv.countBit i
          | _ => b.nv.write m.body 0 true
      ∃ nv, p ≠ .failed ∧ done = some nv ∧ ∃ bank, m.after = .confirmed bank) ∧
    (∃ s : State, ∃ m : ImmRec, ∃ rest : List ImmRec, ∃ p : Prog, s.dev.nv.imm = m :: rest ∧ s.dev.alive = true ∧
      let b : Dev := { s.here with nv := { s.dev.nv with imm := rest } }
      let b := if p = .retired then b.retireFor m.body else b
      let done := match m.after with
          | .counter i => b.nv.countBit i
          | _ => b.nv.write m.body 0 true
      ∃ nv, p ≠ .failed ∧ done = some nv ∧ ∃ slot, ∃ k, m.after = .key slot k) :=
  ⟨⟨st dev0, ask 0x8000 [], serves_ask (by decide +kernel) ⟨0x8000, _, _⟩ _ nofun (by decide +kernel), by decide +kernel⟩,
   ⟨st dev9, ask 0x8001 [8, 0, 0, 0], none, serves_ask (by decide +kernel) ⟨0x8001, _, _⟩ _ nofun (by decide +kernel),
     by decide +kernel, by decide +kernel⟩,
   ⟨st dev0, ask 0x8007 [15], 15, serves_ask (by decide +kernel) ⟨0x8007, _, _⟩ _ nofun (by decide +kernel),
     by decide +kernel, by decide +kernel, by decide +kernel⟩,
   ⟨st dev0, ask 0x8007 [16], 16, serves_ask (by decide +kernel) ⟨0x8007, _, _⟩ _ nofun (by decide +kernel),
     by decide +kernel, by decide +kernel, by decide +kernel⟩,
   ⟨st (pendingRec rec0 .none), ⟨1, rec0, .none⟩, [], .failed, by decide +kernel, by decide +kernel, by decide +kernel⟩,
   ⟨st (pendingRec rec0 (.counter 64)), ⟨1, rec0, (.counter 64)⟩, [], .good, by decide +kernel, by decide +kernel,
     (dev0.nv.countBit 64).getD dev0.nv, by decide +kernel, by decide +kernel, .inr (.inr (.inr ⟨64, by decide, rfl⟩))⟩,
   ⟨st (pendingRec rec0 (.counter 63)), ⟨1, rec0, (.counter 63)⟩, [], .good, by decide +kernel, by decide +kernel,
     (dev0.nv.countBit 63).getD dev0.nv, by decide +kernel, by decide +kernel, 63, by decide +kernel, by decide +kernel⟩,
   ⟨st (pendingRec rec0 (.patch tick0)), ⟨1, rec0, (.patch tick0)⟩, [], .good, by decide +kernel, by decide +kernel,
     (dev0.nv.write rec0 0 true).getD dev0.nv, by decide +kernel, by decide +kernel, tick0, by decide +kernel⟩,
   ⟨st (pendingRec ⟨1, 0, [15]⟩ .authRelax), ⟨1, ⟨1, 0, [15]⟩, .authRelax⟩, [], .good, by decide +kernel, by decide +kernel,
     (dev0.nv.write ⟨1, 0, [15]⟩ 0 true).getD dev0.nv, by decide +kernel, by decide +kernel, by decide +kernel⟩,
   ⟨st (pendingRec rec0 (.confirmed 1)), ⟨1, rec0, (.confirmed 1)⟩, [], .good, by decide +kernel, by decide +kernel,
     (dev0.nv.write rec0 0 true).getD dev0.nv, by decide +kernel, by decide +kernel, 1, by decide +kernel⟩,
   ⟨st (pendingRec rec0 (.key 11 (some []))), ⟨1, rec0, (.key 11 (some []))⟩, [], .good, by decide +kernel, by decide +kernel,
     (dev0.nv.write rec0 0 true).getD dev0.nv, by decide +kernel, by decide +kernel, 11, some [], by decide +kernel⟩⟩

/-- What `Obligations.UpdateAndDebugRequests` assumes is met. -/
theorem meets_UpdateAndDebugRequests :
    (∃ s : State, ∃ r : Req, Serves ⟨0x8002, .service, false⟩ r s.dev ∧ r.params.length = 12 ∧ 512 ≤ leAt r.params 0 4 ∧ leAt
      r.params 0 4 ≤ (if byteAt r.params 8 = 0 then 16777216 else 16384) ∧ byteAt r.params 8 ≤ 1 ∧ s.dev.boot.trial = none ∧
      s.dev.boot.session = none) ∧
    (∃ s : State, ∃ r : Req, Serves ⟨0x8002, .service, false⟩ r s.dev ∧ r.params.length = 12 ∧ 512 ≤ leAt r.params 0 4 ∧ leAt
      r.params 0 4 ≤ (if byteAt r.params 8 = 0 then 16777216 else 16384) ∧ byteAt r.params 8 ≤ 1 ∧ s.dev.boot.trial = none ∧
      let d := s.dev.taken r
      let x : Session := ⟨r.host, leAt r.params 0 4, byteAt r.params 8, KMap.empty, d.clk, false⟩
      ∃ x, s.dev.boot.session = some x ∧ x.host ≠ r.host) ∧
    (∃ s : State, ∃ r : Req, Serves ⟨0x8003, .service, false⟩ r s.dev ∧ 5 ≤ r.params.length ∧ r.params.length ≤ 1388 ∧
      s.dev.boot.session = none) ∧
    (∃ s : State, ∃ r : Req, Serves ⟨0x8003, .service, false⟩ r s.dev ∧ 5 ≤ r.params.length ∧ r.params.length ≤ 1388 ∧ ∃ x,
      s.dev.boot.session = some x ∧ leAt r.params 0 4 + (r.params.length - 4) ≤ x.len) ∧
    (∃ s : State, ∃ r : Req, Serves ⟨0x8004, .service, false⟩ r s.dev ∧ r.params.length = 32 ∧ s.dev.boot.session = none) ∧
    (∃ s : State, ∃ r : Req, Serves ⟨0x8004, .service, false⟩ r s.dev ∧ r.params.length = 32 ∧ ∃ x, s.dev.boot.session = some
      x ∧ x.committing = false) ∧
    (∃ s : State, ∃ r : Req, ∃ b : Nat, Serves ⟨0x8005, .service, false⟩ r s.dev ∧ r.params = [BitVec.ofNat 8 b] ∧ b < 2 ∧
      s.dev.boot.trial = none ∧ s.dev.halted = false ∧ s.dev.rd P.DEV_STATE ≠ 7 ∧ s.dev.rd P.BOOT_BANK = b) ∧
    (∃ s : State, ∃ r : Req, ∃ b : Nat, Serves ⟨0x8005, .service, false⟩ r s.dev ∧ r.params = [BitVec.ofNat 8 b] ∧ b < 2 ∧
      s.dev.boot.trial = none ∧ s.dev.halted = false ∧ s.dev.rd P.DEV_STATE ≠ 7 ∧ s.dev.rd P.BOOT_BANK ≠ b) ∧
    (∃ s : State, ∃ r : Req, ∃ b : Nat, Serves ⟨0x8005, .service, false⟩ r s.dev ∧ r.params = [BitVec.ofNat 8 (b + 2)] ∧ b < 2
      ∧ s.dev.boot.trial = none) ∧
    (∃ s : State, ∃ r : Req, ∃ b : Nat, Serves ⟨0x8005, .service, false⟩ r s.dev ∧ r.params = [BitVec.ofNat 8 (b + 2)] ∧ b < 2
      ∧ ∃ x, s.dev.boot.trial = some x ∧ x.bank = b) ∧
    (∃ s : State, ∃ r : Req, ∃ l : Nat, Serves ⟨0x8006, if r.host.via = .service && r.auth.isNone then .open_ else .service,
      false⟩ r s.dev ∧ byteAt r.params 0 = l ∧ 1 ≤ l ∧ l ≤ 3 ∧ s.dev.ownerSet = true ∧ ((l = 2 → s.dev.boot.fuses.dbg2Off =
      false)) ∧ r.params.length = 4) ∧
    (∃ s : State, ∃ r : Req, ∃ l : Nat, Serves ⟨0x8006, if r.host.via = .service && r.auth.isNone then .open_ else .service,
      false⟩ r s.dev ∧ byteAt r.params 0 = l ∧ 1 ≤ l ∧ l ≤ 3 ∧ s.dev.ownerSet = true ∧ ((l = 2 → s.dev.boot.fuses.dbg2Off =
      false)) ∧ r.params.length = 132 ∧ ∃ c, s.dev.boot.challenge = some c) ∧
    (∃ s : State, ∃ r : Req, ∃ l : Nat, Serves ⟨0x8006, if r.host.via = .service && r.auth.isNone then .open_ else .service,
      false⟩ r s.dev ∧ byteAt r.params 0 = l ∧ 1 ≤ l ∧ l ≤ 3 ∧ s.dev.ownerSet = true ∧ ((l = 2 → s.dev.boot.fuses.dbg2Off =
      false)) ∧ r.params.length = 132 ∧ s.dev.boot.challenge = none) :=
  ⟨⟨st dev0, ask 0x8002 (leBytes 4 16384 ++ leBytes 4 0 ++ [1, 0, 0, 0]),
     serves_ask (by decide +kernel) ⟨0x8002, _, _⟩ _ nofun (by decide +kernel), by decide +kernel, by decide +kernel,
     by decide +kernel, by decide +kernel, by decide +kernel, by decide +kernel⟩,
   ⟨st { dev0 with boot := { dev0.boot with session := some { session0 with host := onService } } },
     ask 0x8002 (leBytes 4 512 ++ leBytes 4 0 ++ [0, 0, 0, 0]),
     serves_ask (by decide +kernel) ⟨0x8002, _, _⟩ _ nofun (by decide +kernel), by decide +kernel, by decide +kernel,
     by decide +kernel, by decide +kernel, by decide +kernel, { session0 with host := onService }, by decide +kernel,
     by decide +kernel⟩,
   ⟨st dev0, ask 0x8003 (leBytes 4 0 ++ [1]), serves_ask (by decide +kernel) ⟨0x8003, _, _⟩ _ nofun (by decide +kernel),
     by decide +kernel, by decide +kernel, by decide +kernel⟩,
   ⟨st { dev0 with boot := { dev0.boot with session := some session0 } }, ask 0x8003 (leBytes 4 511 ++ [1]),
     serves_ask (by decide +kernel) ⟨0x8003, _, _⟩ _ nofun (by decide +kernel), by decide +kernel, by decide +kernel,
     session0, by decide +kernel, by decide +kernel⟩,
   ⟨st dev0, ask 0x8004 (List.replicate 32 0), serves_ask (by decide +kernel) ⟨0x8004, _, _⟩ _ nofun (by decide +kernel),
     by decide +kernel, by decide +kernel⟩,
   ⟨st { dev0 with boot := { dev0.boot with session := some session0 } }, ask 0x8004 (List.replicate 32 0),
     serves_ask (by decide +kernel) ⟨0x8004, _, _⟩ _ nofun (by decide +kernel), by decide +kernel, session0,
     by decide +kernel, by decide +kernel⟩,
   ⟨st dev0, ask 0x8005 [0], 0, serves_ask (by decide +kernel) ⟨0x8005, _, _⟩ _ nofun (by decide +kernel), by decide +kernel,
     by decide +kernel, by decide +kernel, by decide +kernel, by decide +kernel, by decide +kernel⟩,
   ⟨st dev0, ask 0x8005 [1], 1, serves_ask (by decide +kernel) ⟨0x8005, _, _⟩ _ nofun (by decide +kernel), by decide +kernel,
     by decide +kernel, by decide +kernel, by decide +kernel, by decide +kernel, by decide +kernel⟩,
   ⟨st dev0, ask 0x8005 [3], 1, serves_ask (by decide +kernel) ⟨0x8005, _, _⟩ _ nofun (by decide +kernel), by decide +kernel,
     by decide +kernel, by decide +kernel⟩,
   ⟨st { dev0 with boot := { dev0.boot with trial := some trial0 } }, ask 0x8005 [3], 1,
     serves_ask (by decide +kernel) ⟨0x8005, _, _⟩ _ nofun (by decide +kernel), by decide +kernel, by decide +kernel, trial0,
     by decide +kernel, by decide +kernel⟩,
   ⟨st owned, ask 0x8006 [2, 0, 0, 0], 2,
     serves_ask (by decide +kernel) ⟨0x8006, _, _⟩ _ (by decide +kernel) (by decide +kernel), by decide +kernel,
     by decide +kernel, by decide +kernel, by decide +kernel, by decide +kernel, by decide +kernel⟩,
   ⟨st { owned with boot := { owned.boot with challenge := some chal0 } }, ask 0x8006 (fitTo 132 0 [3]), 3,
     serves_ask (by decide +kernel) ⟨0x8006, _, _⟩ _ (by decide +kernel) (by decide +kernel), by decide +kernel,
     by decide +kernel, by decide +kernel, by decide +kernel, by decide +kernel, by decide +kernel, chal0, by decide +kernel⟩,
   ⟨st owned, untagged onService (fitTo 132 0 [1]), 1, serves_of (by decide +kernel), by decide +kernel, by decide +kernel,
     by decide +kernel, by decide +kernel, by decide +kernel, by decide +kernel, by decide +kernel⟩⟩

/-- What `Obligations.PacketsAndRelays` assumes is met. -/
theorem meets_PacketsAndRelays :
    (∃ s : State, s.dev.alive = true) ∧
    (∃ s : State, s.dev.alive = false) ∧
    (∃ s : State, s.dev.kcp.dup = []) ∧
    (∃ s : State, ∃ e : DupEntry, ∃ l : List DupEntry, s.dev.kcp.dup = e :: l ∧ ((∀ x ∈ l, e.sent ≤ x.sent))) ∧
    (∃ s : State, ∃ r : Req, s.dev.arrives r = (true, true) ∧ s.dev.destOf r = .away ∧ r.host.via ∈ [.chain, .passed] ∧
      s.dev.is P.DOWN_SIG = true) ∧
    (∃ s : State, ∃ r : Req, s.dev.arrives r = (true, true) ∧ s.dev.destOf r = .away ∧ r.host.via ∈ [.chain, .passed] ∧
      s.dev.is P.DOWN_SIG = false) ∧
    (∃ s : State, ∃ r : Req, s.dev.arrives r = (true, true) ∧ s.dev.destOf r = .away ∧ r.host.via ∈ [.uplink, .service] ∧
      s.dev.route r.dest = none) ∧
    (∃ s : State, ∃ r : Req, s.dev.arrives r = (true, true) ∧ s.dev.destOf r = .away ∧ r.host.via ∈ [.uplink, .service] ∧
      (s.dev.route r.dest).isSome = true) ∧
    (∃ s : State, ∃ h : SeamHdr, ∃ c : Instr, ∃ kind : Nat, ∃ alarm : Bool, ∃ b : List Byte, s.dev.alive = true ∧ s.dev.is
      P.SL_LINK_UP [h.link] = true ∧ Brings h c kind alarm b ∧ ((h.dest ≠ s.dev.addr ∨ s.dev.addressed = false)) ∧ h.hops ≤ 1) ∧
    (∃ s : State, ∃ h : SeamHdr, ∃ c : Instr, ∃ kind : Nat, ∃ alarm : Bool, ∃ b : List Byte, s.dev.alive = true ∧ s.dev.is
      P.SL_LINK_UP [h.link] = true ∧ Brings h c kind alarm b ∧ ((h.dest ≠ s.dev.addr ∨ s.dev.addressed = false)) ∧ ∃ n, 1 <
      h.hops ∧ s.dev.route h.dest = some n ∧ h.ok = true) ∧
    (∃ s : State, ∃ h : SeamHdr, ∃ c : Instr, ∃ kind : Nat, ∃ alarm : Bool, ∃ b : List Byte, s.dev.alive = true ∧ s.dev.is
      P.SL_LINK_UP [h.link] = true ∧ Brings h c kind alarm b ∧ ((h.dest ≠ s.dev.addr ∨ s.dev.addressed = false)) ∧ ∃ n, 1 <
      h.hops ∧ s.dev.route h.dest = some n ∧ h.ok = false) ∧
    (∃ s : State, ∃ h : SeamHdr, ∃ c : Instr, ∃ kind : Nat, ∃ alarm : Bool, ∃ b : List Byte, s.dev.alive = true ∧ s.dev.is
      P.SL_LINK_UP [h.link] = true ∧ Brings h c kind alarm b ∧ ((h.dest ≠ s.dev.addr ∨ s.dev.addressed = false)) ∧ 1 < h.hops
      ∧ s.dev.route h.dest = none ∧ h.ok = true) ∧
    (∃ s : State, ∃ h : SeamHdr, ∃ c : Instr, ∃ kind : Nat, ∃ alarm : Bool, ∃ b : List Byte, s.dev.alive = true ∧ s.dev.is
      P.SL_LINK_UP [h.link] = true ∧ Brings h c kind alarm b ∧ h.dest = s.dev.addr ∧ s.dev.addressed = true ∧ h.ok = false) ∧
    (∃ s : State, ∃ h : SeamHdr, ∃ e : Envelope, Receives h s.dev ∧
      let d := s.here
      let k := rseqKey e.ingress e.hid
      let want := d.kcp.rseqRx.get k 0
      e.rseq = want ∧ want < 65536 ∧ s.dev.kcp.rseqWait = []) ∧
    (∃ s : State, ∃ h : SeamHdr, ∃ e : Envelope, Receives h s.dev ∧
      let d := s.here
      let k := rseqKey e.ingress e.hid
      let want := d.kcp.rseqRx.get k 0
      want < e.rseq ∧ e.rseq < want + 32768 ∧ e.rseq < 65536) ∧
    (∃ s : State, ∃ hid : Nat, ∃ x : RelayAnswer, s.dev.alive = true ∧ hid ≠ ownHid ∧
      let found := s.dev.kcp.relays.find? fun q =>
          decide (q.hid = hid ∧ q.opcode = x.opcode ∧ q.req.seq = x.seq ∧ q.req.dest = x.source)
      found = none) ∧
    (∃ s : State, ∃ hid : Nat, ∃ x : RelayAnswer, s.dev.alive = true ∧ hid ≠ ownHid ∧
      let found := s.dev.kcp.relays.find? fun q =>
          decide (q.hid = hid ∧ q.opcode = x.opcode ∧ q.req.seq = x.seq ∧ q.req.dest = x.source)
      ∃ q, found = some q) ∧
    (∃ s : State, ∃ x : RelayAnswer, ∃ a : Asked, s.dev.alive = true ∧ (s.dev.awaited.find? fun a => decide (a.dest = x.source
      ∧ a.rseq = x.seq ∧ a.opcode = x.opcode)) = some a) ∧
    (∃ s : State, ∃ q : InRelay, ∃ l : List InRelay, s.dev.alive = true ∧ s.dev.kcp.relays = q :: l) ∧
    (∃ s : State, ∃ i : Nat, ∃ hid : Nat, ∃ w : GapWait, (s.dev.kcp.rseqWait.filter fun x => decide (x.ingress = i ∧ x.hid =
      hid)) = [w] ∧ s.dev.kcp.rseqRx.get (rseqKey i hid) 0 ≤ w.rseq ∧ w.rseq < 65536) ∧
    (∃ s : State, ∃ i : Nat, ∃ hid : Nat, ((∀ x ∈ s.dev.kcp.rseqWait, x.ingress ≠ i ∨ x.hid ≠ hid))) ∧
    (∃ s : State, ∃ h : SeamHdr, ∃ op : Nat, ∃ r : Req, ∃ e : Dev, s.dev.alive = true ∧ s.dev.is P.SL_LINK_UP [h.link] = true
      ∧ s.here.floodNew 4 h (reqPacket op r) = (e, false)) ∧
    (∃ s : State, ∃ h : SeamHdr, ∃ op : Nat, ∃ r : Req, ∃ e : Dev, s.dev.alive = true ∧ s.dev.is P.SL_LINK_UP [h.link] = true
      ∧ s.here.floodNew 4 h (reqPacket op r) = (e, true)) :=
  ⟨⟨st dev0, by decide +kernel⟩,
   ⟨st held, by decide +kernel⟩,
   ⟨st dev0, by decide +kernel⟩,
   ⟨st { dev0 with kcp := { dev0.kcp with dup := [seen] } }, seen, [], by decide +kernel, by decide +kernel⟩,
   ⟨st (dev0.wrs [(P.DOWN_SIG, [], 1)]), { untagged onChain [] with dest := 6 }, by decide +kernel, by decide +kernel,
     by decide +kernel, by decide +kernel⟩,
   ⟨st dev0, { untagged onChain [] with dest := 6 }, by decide +kernel, by decide +kernel, by decide +kernel,
     by decide +kernel⟩,
   ⟨st dev0, { untagged onService [] with dest := 6 }, by decide +kernel, by decide +kernel, by decide +kernel,
     by decide +kernel⟩,
   ⟨st linked, { untagged onService [] with dest := 6 }, by decide +kernel, by decide +kernel, by decide +kernel,
     by decide +kernel⟩,
   ⟨st linked, hdr 1 8 true, .relay (hdr 1 8 true) ⟨6, 3, 0⟩ (.request 0 (untagged onChain [])), 3, false,
     relayPayload ⟨6, 3, 0⟩ (.request 0 (untagged onChain [])), by decide +kernel, by decide +kernel,
     .inl ⟨_, _, rfl, rfl, rfl, rfl⟩, by decide +kernel, by decide +kernel⟩,
   ⟨st linked, hdr 2 6 true, .relay (hdr 2 6 true) ⟨6, 3, 0⟩ (.request 0 (untagged onChain [])), 3, false,
     relayPayload ⟨6, 3, 0⟩ (.request 0 (untagged onChain [])), by decide +kernel, by decide +kernel,
     .inl ⟨_, _, rfl, rfl, rfl, rfl⟩, by decide +kernel, 7, by decide +kernel, by decide +kernel, by decide +kernel⟩,
   ⟨st linked, hdr 2 6 false, .relay (hdr 2 6 false) ⟨6, 3, 0⟩ (.request 0 (untagged onChain [])), 3, false,
     relayPayload ⟨6, 3, 0⟩ (.request 0 (untagged onChain [])), by decide +kernel, by decide +kernel,
     .inl ⟨_, _, rfl, rfl, rfl, rfl⟩, by decide +kernel, 7, by decide +kernel, by decide +kernel, by decide +kernel⟩,
   ⟨st linked, hdr 2 8 true, .relay (hdr 2 8 true) ⟨6, 3, 0⟩ (.request 0 (untagged onChain [])), 3, false,
     relayPayload ⟨6, 3, 0⟩ (.request 0 (untagged onChain [])), by decide +kernel, by decide +kernel,
     .inl ⟨_, _, rfl, rfl, rfl, rfl⟩, by decide +kernel, by decide +kernel, by decide +kernel, by decide +kernel⟩,
   ⟨st linked, hdr 2 5 false, .relay (hdr 2 5 false) ⟨6, 3, 0⟩ (.request 0 (untagged onChain [])), 3, false,
     relayPayload ⟨6, 3, 0⟩ (.request 0 (untagged onChain [])), by decide +kernel, by decide +kernel,
     .inl ⟨_, _, rfl, rfl, rfl, rfl⟩, by decide +kernel, by decide +kernel, by decide +kernel⟩,
   ⟨st linked, hdr 2 5 true, ⟨6, 3, 0⟩, received (by decide +kernel), by decide +kernel, by decide +kernel, by decide +kernel⟩,
   ⟨st linked, hdr 2 5 true, ⟨6, 3, 32767⟩, received (by decide +kernel), by decide +kernel, by decide +kernel,
     by decide +kernel⟩,
   ⟨st dev0, 0, relayAns, by decide +kernel, by decide +kernel, by decide +kernel⟩,
   ⟨st { dev0 with kcp := { dev0.kcp with relays := [relay0] } }, 3, relayAns, by decide +kernel, by decide +kernel, relay0,
     by decide +kernel⟩,
   ⟨st { dev0 with plc := { dev0.plc with asked := [asked0] } }, relayAns, asked0, by decide +kernel, by decide +kernel⟩,
   ⟨st { dev0 with kcp := { dev0.kcp with relays := [relay0] } }, relay0, [], by decide +kernel, by decide +kernel⟩,
   ⟨st { dev0 with kcp := { dev0.kcp with rseqWait := [gap0] } }, 6, 3, gap0, by decide +kernel, by decide +kernel,
     by decide +kernel⟩,
   ⟨st dev0, 6, 3, by decide +kernel⟩,
   ⟨st { linked with kcp := { linked.kcp with floods := [⟨4, 6, 1, 4900000000⟩] } }, hdr 2 0x3FF true, 0x0602,
     untagged onChain [], { linked with kcp := { linked.kcp with floods := [⟨4, 6, 1, 4900000000⟩] } }, by decide +kernel,
     by decide +kernel, by decide +kernel⟩,
   ⟨st linked, hdr 2 0x3FF true, 0x0602, untagged onChain [],
     (linked.floodNew 4 (hdr 2 0x3FF true) (reqPacket 0x0602 (untagged onChain []))).1, by decide +kernel, by decide +kernel,
     by decide +kernel⟩⟩

/-- What `Obligations.UplinkFrames` assumes is met. -/
theorem meets_UplinkFrames :
    (∃ s : State, ∃ u : Nat, ∃ vlan : Option Nat, ∃ o : Out, ∃ c : Instr, ∃ mine : Bool, s.dev.uplinkOn u = true ∧ ((∃ mac ip
      target, c = .arpRequest u vlan mac ip target ∧ mine = s.dev.ownIp u false target ∧ o = .lowReply u 0 ip ([0, 1, 8, 0, 6,
      4, 0, 2] ++ beBytes 6 (s.dev.mac u) ++ beBytes 4 target ++ beBytes 6 mac ++ beBytes 4 ip)) ∨ (∃ v6 src dst body, c =
      .icmpEcho u vlan v6 src dst body ∧ mine = s.dev.ownIp u v6 dst ∧ o = .lowReply u 1 src body) ∨ (∃ src target, c =
      .neighbourSolicitation u vlan src target ∧ mine = s.dev.ownIp u true target ∧ o = .lowReply u 2 src (beBytes 16 target
      ++ [2, 1] ++ beBytes 6 (s.dev.mac u)))) ∧ s.dev.vlanOk u vlan = true ∧ mine = true ∧ s.dev.kcp.paused.get u 0 = 0) ∧
    (∃ s : State, ∃ u : Nat, ∃ vlan : Option Nat, ∃ o : Out, ∃ c : Instr, ∃ mine : Bool, s.dev.uplinkOn u = true ∧ ((∃ mac ip
      target, c = .arpRequest u vlan mac ip target ∧ mine = s.dev.ownIp u false target ∧ o = .lowReply u 0 ip ([0, 1, 8, 0, 6,
      4, 0, 2] ++ beBytes 6 (s.dev.mac u) ++ beBytes 4 target ++ beBytes 6 mac ++ beBytes 4 ip)) ∨ (∃ v6 src dst body, c =
      .icmpEcho u vlan v6 src dst body ∧ mine = s.dev.ownIp u v6 dst ∧ o = .lowReply u 1 src body) ∨ (∃ src target, c =
      .neighbourSolicitation u vlan src target ∧ mine = s.dev.ownIp u true target ∧ o = .lowReply u 2 src (beBytes 16 target
      ++ [2, 1] ++ beBytes 6 (s.dev.mac u)))) ∧ s.dev.vlanOk u vlan = true ∧ mine = true ∧ s.dev.kcp.paused.get u 0 ≠ 0 ∧
      let q := s.dev.kcp.replyQ.get u []
      q.length < 64) ∧
    (∃ s : State, ∃ u : Nat, ∃ vlan : Option Nat, ∃ o : Out, ∃ c : Instr, ∃ mine : Bool, s.dev.uplinkOn u = true ∧ ((∃ mac ip
      target, c = .arpRequest u vlan mac ip target ∧ mine = s.dev.ownIp u false target ∧ o = .lowReply u 0 ip ([0, 1, 8, 0, 6,
      4, 0, 2] ++ beBytes 6 (s.dev.mac u) ++ beBytes 4 target ++ beBytes 6 mac ++ beBytes 4 ip)) ∨ (∃ v6 src dst body, c =
      .icmpEcho u vlan v6 src dst body ∧ mine = s.dev.ownIp u v6 dst ∧ o = .lowReply u 1 src body) ∨ (∃ src target, c =
      .neighbourSolicitation u vlan src target ∧ mine = s.dev.ownIp u true target ∧ o = .lowReply u 2 src (beBytes 16 target
      ++ [2, 1] ++ beBytes 6 (s.dev.mac u)))) ∧ s.dev.vlanOk u vlan = true ∧ mine = true ∧ s.dev.kcp.paused.get u 0 ≠ 0 ∧
      let q := s.dev.kcp.replyQ.get u []
      64 ≤ q.length) ∧
    (∃ s : State, ∃ u : Nat, ∃ vlan : Option Nat, ∃ o : Out, ∃ c : Instr, ∃ mine : Bool, s.dev.uplinkOn u = true ∧ ((∃ mac ip
      target, c = .arpRequest u vlan mac ip target ∧ mine = s.dev.ownIp u false target ∧ o = .lowReply u 0 ip ([0, 1, 8, 0, 6,
      4, 0, 2] ++ beBytes 6 (s.dev.mac u) ++ beBytes 4 target ++ beBytes 6 mac ++ beBytes 4 ip)) ∨ (∃ v6 src dst body, c =
      .icmpEcho u vlan v6 src dst body ∧ mine = s.dev.ownIp u v6 dst ∧ o = .lowReply u 1 src body) ∨ (∃ src target, c =
      .neighbourSolicitation u vlan src target ∧ mine = s.dev.ownIp u true target ∧ o = .lowReply u 2 src (beBytes 16 target
      ++ [2, 1] ++ beBytes 6 (s.dev.mac u)))) ∧ ((s.dev.vlanOk u vlan = false ∨ mine = false))) ∧
    (∃ s : State, ∃ u : Nat, s.dev.uplinkOn u = true) ∧
    (∃ s : State, ∃ u : Nat, ∃ n : Nat, s.dev.uplinkOn u = true ∧ n < 65536 ∧ n = 0) ∧
    (∃ s : State, ∃ u : Nat, ∃ n : Nat, s.dev.uplinkOn u = true ∧ n < 65536 ∧ n ≠ 0) ∧
    (∃ s : State, ∃ u : Nat, ∃ t : Nat, s.dev.kcp.paused.get? u = some t) ∧
    (∃ s : State, ∃ u : Nat, s.dev.uplinkOn u = false ∧ ∃ c : Instr, c ∈ [Instr.pauseFrame u 1, .unservedFrame u true]) :=
  ⟨⟨st upped, 3, none,
     (.lowReply 3 0 7 ([0, 1, 8, 0, 6, 4, 0, 2] ++ beBytes 6 (upped.mac 3) ++ beBytes 4 0x0A000005 ++ beBytes 6 8 ++ beBytes 4 7)),
     .arpRequest 3 none 8 7 0x0A000005, true, by decide +kernel, .inl ⟨8, 7, 0x0A000005, rfl, by decide +kernel, rfl⟩,
     by decide +kernel, by decide +kernel, by decide +kernel⟩,
   ⟨st paused, 3, none,
     (.lowReply 3 0 7 ([0, 1, 8, 0, 6, 4, 0, 2] ++ beBytes 6 ((paused).mac 3) ++ beBytes 4 0x0A000005 ++ beBytes 6 8 ++ beBytes 4 7)),
     .arpRequest 3 none 8 7 0x0A000005, true, by decide +kernel, .inl ⟨8, 7, 0x0A000005, rfl, by decide +kernel, rfl⟩,
     by decide +kernel, by decide +kernel, by decide +kernel, by decide +kernel⟩,
   ⟨st fullUp, 3, none,
     (.lowReply 3 0 7 ([0, 1, 8, 0, 6, 4, 0, 2] ++ beBytes 6 ((fullUp).mac 3) ++ beBytes 4 0x0A000005 ++ beBytes 6 8 ++ beBytes 4 7)),
     .arpRequest 3 none 8 7 0x0A000005, true, by decide +kernel, .inl ⟨8, 7, 0x0A000005, rfl, by decide +kernel, rfl⟩,
     by decide +kernel, by decide +kernel, by decide +kernel, by decide +kernel⟩,
   ⟨st upped, 3, none,
     (.lowReply 3 0 7 ([0, 1, 8, 0, 6, 4, 0, 2] ++ beBytes 6 (upped.mac 3) ++ beBytes 4 0x0A000006 ++ beBytes 6 8 ++ beBytes 4 7)),
     .arpRequest 3 none 8 7 0x0A000006, false, by decide +kernel, .inl ⟨8, 7, 0x0A000006, rfl, by decide +kernel, rfl⟩,
     by decide +kernel⟩,
   ⟨st upped, 3, by decide +kernel⟩,
   ⟨st upped, 3, 0, by decide +kernel, by decide +kernel, by decide +kernel⟩,
   ⟨st upped, 3, 65535, by decide +kernel, by decide +kernel, by decide +kernel⟩,
   ⟨st paused, 3, 6000000000, by decide +kernel⟩,
   ⟨st dev0, 3, by decide +kernel, .unservedFrame 3 true, .tail _ (.head _)⟩⟩

/-- What `Obligations.ChainAndSync` assumes is met. -/
theorem meets_ChainAndSync :
    (∃ s : State, ∃ f : List Byte, s.dev.alive = true ∧ byteAt f 0 ∉ [1, 2]) ∧
    (∃ s : State, ∃ f : List Byte, ∃ up : Bool, ∃ aborted : Bool, s.dev.alive = true ∧ byteAt f 0 = 1 ∧
      let b := framedPayload f
      let dest := leAt b 4 2 % 1024
      let reply := bitOf (byteAt b 0) 4
      let whole := chainOk f = true ∧ aborted = false
      let mine := s.dev.addressed = true ∧ dest = s.dev.addr
      let taken := (up = true ∧ (dest = 0x3FF ∨ mine ∨ s.dev.is P.DOWN_SIG = false)) ∨ (up = false ∧ reply = true ∧ mine)
      taken ∧ whole) ∧
    (∃ s : State, ∃ f : List Byte, ∃ up : Bool, ∃ aborted : Bool, s.dev.alive = true ∧ byteAt f 0 = 1 ∧
      let b := framedPayload f
      let dest := leAt b 4 2 % 1024
      let reply := bitOf (byteAt b 0) 4
      let whole := chainOk f = true ∧ aborted = false
      let mine := s.dev.addressed = true ∧ dest = s.dev.addr
      let taken := (up = true ∧ (dest = 0x3FF ∨ mine ∨ s.dev.is P.DOWN_SIG = false)) ∨ (up = false ∧ reply = true ∧ mine)
      taken ∧ ¬ whole) ∧
    (∃ s : State, ∃ f : List Byte, ∃ up : Bool, ∃ room : Bool, s.dev.alive = true ∧ byteAt f 0 = 1 ∧
      let b := framedPayload f
      let dest := leAt b 4 2 % 1024
      let reply := bitOf (byteAt b 0) 4
      let mine := s.dev.addressed = true ∧ dest = s.dev.addr
      let taken := (up = true ∧ (dest = 0x3FF ∨ mine ∨ s.dev.is P.DOWN_SIG = false)) ∨ (up = false ∧ reply = true ∧ mine)
      ¬ taken ∧ room = false) ∧
    (∃ s : State, ∃ f : List Byte, ∃ up : Bool, ∃ aborted : Bool, ∃ room : Bool, s.dev.alive = true ∧ byteAt f 0 = 1 ∧
      let b := framedPayload f
      let dest := leAt b 4 2 % 1024
      let reply := bitOf (byteAt b 0) 4
      let whole := chainOk f = true ∧ aborted = false
      let mine := s.dev.addressed = true ∧ dest = s.dev.addr
      let taken := (up = true ∧ (dest = 0x3FF ∨ mine ∨ s.dev.is P.DOWN_SIG = false)) ∨ (up = false ∧ reply = true ∧ mine)
      ¬ taken ∧ room = true ∧ whole) ∧
    (∃ s : State, ∃ f : List Byte, ∃ up : Bool, ∃ aborted : Bool, ∃ room : Bool, s.dev.alive = true ∧ byteAt f 0 = 1 ∧
      let b := framedPayload f
      let dest := leAt b 4 2 % 1024
      let reply := bitOf (byteAt b 0) 4
      let whole := chainOk f = true ∧ aborted = false
      let mine := s.dev.addressed = true ∧ dest = s.dev.addr
      let taken := (up = true ∧ (dest = 0x3FF ∨ mine ∨ s.dev.is P.DOWN_SIG = false)) ∨ (up = false ∧ reply = true ∧ mine)
      ¬ taken ∧ room = true ∧ ¬ whole) ∧
    (∃ s : State, ∃ f : List Byte, s.dev.alive = true ∧ byteAt f 0 = 2 ∧ chainOk f = true) ∧
    (∃ s : State, ∃ f : List Byte, s.dev.alive = true ∧ byteAt f 0 = 2 ∧ chainOk f = true) ∧
    (∃ s : State, ∃ f : List Byte, s.dev.alive = true ∧ byteAt f 0 = 2) ∧
    (∃ s : State, ∃ f : List Byte, s.dev.alive = true ∧ byteAt f 0 = 2) ∧
    (∃ s : State, ∃ f : List Byte, s.dev.alive = true ∧ ((byteAt f 0 ≠ 2 ∨ chainOk f = false))) ∧
    (∃ s : State, s.dev.alive = true) ∧
    (∃ s : State, s.dev.alive = true ∧ s.dev.rd P.SYNC_SRC = 2) ∧
    (∃ s : State, s.dev.alive = true ∧ s.dev.rd P.SYNC_SRC ≠ 2) ∧
    (∃ s : State, s.dev.alive = true ∧ s.dev.rd P.SYNC_SRC = 1 ∧ s.dev.pins.fsync = false) ∧
    (∃ s : State, s.dev.alive = true ∧ s.dev.rd P.SYNC_SRC = 3 ∧ s.dev.rd P.SYNC_PERIOD ≠ 0 ∧ s.dev.now + 1000 * s.dev.rd
      P.SYNC_PERIOD < 2 ^ 64) ∧
    (∃ s : State, s.dev.alive = true ∧ s.dev.rd P.SYNC_SRC ≠ 3) :=
  ⟨⟨st dev0, (framed 3 [7]), by decide +kernel, by decide +kernel⟩,
   ⟨st dev0, (framed 1 (leBytes 4 1 ++ leBytes 2 5 ++ leBytes 22 0)), true, false, by decide +kernel, by decide +kernel,
     by decide +kernel, by decide +kernel⟩,
   ⟨st dev0, (framed 1 (leBytes 4 1 ++ leBytes 2 5 ++ leBytes 22 0)), true, true, by decide +kernel, by decide +kernel,
     by decide +kernel, by decide +kernel⟩,
   ⟨st (dev0.wr P.DOWN_SIG [] 1), (framed 1 (leBytes 4 1 ++ leBytes 2 6 ++ leBytes 22 0)), true, false, by decide +kernel,
     by decide +kernel, by decide +kernel, by decide +kernel⟩,
   ⟨st (dev0.wr P.DOWN_SIG [] 1), (framed 1 (leBytes 4 1 ++ leBytes 2 6 ++ leBytes 22 0)), true, false, true,
     by decide +kernel, by decide +kernel, by decide +kernel, by decide +kernel, by decide +kernel⟩,
   ⟨st dev0, (framed 1 (leBytes 4 1 ++ leBytes 2 5 ++ leBytes 22 0)), false, true, true, by decide +kernel, by decide +kernel,
     by decide +kernel, by decide +kernel, by decide +kernel⟩,
   ⟨st dev0, (framed 2 (leBytes 16 0)), by decide +kernel, by decide +kernel, by decide +kernel⟩,
   ⟨st dev0, (framed 2 (leBytes 16 0)), by decide +kernel, by decide +kernel, by decide +kernel⟩,
   ⟨st dev0, (framed 2 (leBytes 16 0)), by decide +kernel, by decide +kernel⟩,
   ⟨st dev0, (framed 2 (leBytes 16 0)), by decide +kernel, by decide +kernel⟩,
   ⟨st dev0, (framed 1 (leBytes 4 1 ++ leBytes 2 5 ++ leBytes 22 0)), by decide +kernel, by decide +kernel⟩,
   ⟨st dev0, by decide +kernel⟩,
   ⟨st (dev0.wrs [(P.SYNC_SRC, [], 2)]), by decide +kernel, by decide +kernel⟩,
   ⟨st dev0, by decide +kernel, by decide +kernel⟩,
   ⟨st (dev0.wrs [(P.SYNC_SRC, [], 1)]), by decide +kernel, by decide +kernel, by decide +kernel⟩,
   ⟨st (dev0.wrs [(P.SYNC_SRC, [], 3), (P.SYNC_PERIOD, [], 33333)]), by decide +kernel, by decide +kernel, by decide +kernel,
     by decide +kernel⟩,
   ⟨st dev0, by decide +kernel, by decide +kernel⟩⟩

/-- What `Obligations.MeshLinks` assumes is met. -/
theorem meets_MeshLinks :
    (∃ s : State, ∃ m : Nat, ∃ uid : Nat, ∃ addr : Nat, ∃ b : List Byte, s.dev.alive = true ∧ m < 8 ∧ s.dev.is P.SL_LINK_EN
      [m] = true ∧ (s.dev.link m).locked = true ∧ b.length = 48 ∧ leAt b 0 8 = uid ∧ leAt b 8 2 % 1024 = addr ∧ ((s.dev.is
      P.SL_LINK_UP [m] = false ∨ s.dev.rd P.NEIGH [m] ≠ addr))) ∧
    (∃ s : State, ∃ m : Nat, ∃ uid : Nat, ∃ addr : Nat, ∃ b : List Byte, s.dev.alive = true ∧ m < 8 ∧ s.dev.is P.SL_LINK_EN
      [m] = true ∧ (s.dev.link m).locked = true ∧ b.length = 48 ∧ leAt b 0 8 = uid ∧ leAt b 8 2 % 1024 = addr ∧ s.dev.is
      P.SL_LINK_UP [m] = true ∧ s.dev.rd P.NEIGH [m] = addr) ∧
    (∃ s : State, ∃ m : Nat, ∃ b : List Byte, ((s.dev.alive = false ∨ (s.dev.link m).locked = false ∨ b.length ≠ 48))) ∧
    (∃ s : State, s.dev.alive = true) ∧
    (∃ s : State, ∃ m : Nat, s.dev.alive = true ∧ m < 8 ∧ s.dev.is P.SL_LINK_EN [m] = true) ∧
    (∃ s : State, ∃ m : Nat, s.dev.alive = true ∧ m < 8 ∧ s.dev.is P.SL_LINK_UP [m] = true) ∧
    (∃ s : State, ∃ h : SeamHdr, ∃ l : Lsa, ∃ e : Dev, s.dev.alive = true ∧ s.dev.is P.SL_LINK_UP [h.link] = true ∧ l.uid ≠
      s.dev.uid ∧ s.here.floodNew 1 h (lsaBytes l) = (e, false)) ∧
    (∃ s : State, ∃ h : SeamHdr, ∃ l : Lsa, ∃ e : Dev, s.dev.alive = true ∧ s.dev.is P.SL_LINK_UP [h.link] = true ∧ l.uid ≠
      s.dev.uid ∧ s.here.floodNew 1 h (lsaBytes l) = (e, true) ∧ s.dev.plc.topo.get? l.uid = none) ∧
    (∃ s : State, ∃ uid : Nat, ∃ t : Nat, s.dev.plc.topoAt.get? uid = some t) ∧
    (∃ s : State, ∃ m : Nat, s.dev.alive = true ∧ (s.dev.link m).met = true ∧ (s.dev.link m).reported = false) ∧
    (∃ s : State, ∃ h : SeamHdr, ∃ uid : Nat, ∃ addr : Nat, ∃ e : Dev, s.dev.alive = true ∧ s.dev.is P.SL_LINK_UP [h.link] =
      true ∧ uid ≠ s.dev.uid ∧ s.here.floodNew 2 h (leBytes 8 uid ++ leBytes 2 addr) = (e, true)) :=
  ⟨⟨st ((locked false).wr P.NEIGH [7] 0x3FF), 7, 6, 6, beat0, by decide +kernel, by decide +kernel, by decide +kernel,
     by decide +kernel, by decide +kernel, by decide +kernel, by decide +kernel, by decide +kernel⟩,
   ⟨st (locked true), 7, 6, 6, beat0, by decide +kernel, by decide +kernel, by decide +kernel, by decide +kernel,
     by decide +kernel, by decide +kernel, by decide +kernel, by decide +kernel, by decide +kernel⟩,
   ⟨st (locked true), 7, [], by decide +kernel⟩,
   ⟨st (locked true), by decide +kernel⟩,
   ⟨st (locked true), 7, by decide +kernel, by decide +kernel, by decide +kernel⟩,
   ⟨st (locked true), 7, by decide +kernel, by decide +kernel, by decide +kernel⟩,
   ⟨st { linked with kcp := { linked.kcp with floods := [⟨1, 6, 1, 4900000000⟩] } }, hdr 2 0x3FF true, lsa0,
     { linked with kcp := { linked.kcp with floods := [⟨1, 6, 1, 4900000000⟩] } }, by decide +kernel, by decide +kernel,
     by decide +kernel, by decide +kernel⟩,
   ⟨st linked, hdr 2 0x3FF true, lsa0, (linked.floodNew 1 (hdr 2 0x3FF true) (lsaBytes lsa0)).1, by decide +kernel,
     by decide +kernel, by decide +kernel, by decide +kernel, by decide +kernel⟩,
   ⟨st { linked with plc := { linked.plc with topo := linked.plc.topo.put 6 lsa0, topoAt := linked.plc.topoAt.put 6 4900000000 } },
     6, 4900000000, by decide +kernel⟩,
   ⟨st (locked true), 7, by decide +kernel, by decide +kernel, by decide +kernel⟩,
   ⟨st linked, hdr 2 0x3FF true, 8, 8, (linked.floodNew 2 (hdr 2 0x3FF true) (leBytes 8 8 ++ leBytes 2 8)).1,
     by decide +kernel, by decide +kernel, by decide +kernel, by decide +kernel⟩⟩

/-- What `Obligations.PtpMessages` assumes is met. -/
theorem meets_PtpMessages :
    (∃ s : State, ∃ u : Nat, ∃ dom : Nat, s.dev.ptpOn u = true ∧ s.dev.rd P.PTP_DOMAIN = dom) ∧
    (∃ s : State, ∃ u : Nat, ∃ dom : Nat, s.dev.ptpOn u = true ∧ s.dev.rd P.PTP_DOMAIN = dom ∧ s.dev.uplinkOn u = true) ∧
    (∃ s : State, ∃ u : Nat, ∃ dom : Nat, s.dev.ptpOn u = true ∧ s.dev.rd P.PTP_DOMAIN = dom ∧ ∃ other, other ≠ dom) ∧
    (∃ s : State, ∃ u : Nat, ∃ dom : Nat, ∃ seq : Nat, s.dev.ptpOn u = true ∧ s.dev.rd P.PTP_DOMAIN = dom ∧
      let x := s.dev.ptp u
      ∃ at_, x.sync = some (seq, at_)) ∧
    (∃ s : State, ∃ u : Nat, ∃ dom : Nat, ∃ seq : Nat, s.dev.ptpOn u = true ∧ s.dev.rd P.PTP_DOMAIN = dom ∧
      let x := s.dev.ptp u
      ∃ at_, ∃ other, x.sync = some (other, at_) ∧ other ≠ seq) ∧
    (∃ s : State, ∃ u : Nat, ∃ dom : Nat, s.dev.ptpOn u = true ∧ s.dev.rd P.PTP_DOMAIN = dom ∧
      let x := s.dev.ptp u
      ∃ y, x.sync = some y) ∧
    (∃ s : State, ∃ u : Nat, ∃ dom : Nat, ∃ seq : Nat, s.dev.ptpOn u = true ∧ s.dev.rd P.PTP_DOMAIN = dom ∧
      let d := s.here
      let x := s.dev.ptp u
      ∃ q : Nat, ∃ t1 : Nat, ∃ t2 : Nat, ∃ t3 : Nat, x.sync = some (q, t2) ∧ x.origin = some t1 ∧ x.delayReq = some (seq, t3)
      ∧
      let e := (d.setPtp u { x with delayReq := none }).refreshTime
      e.rd P.TIME_SRC ≠ 1) ∧
    (∃ s : State, ∃ u : Nat, ∃ dom : Nat, ∃ seq : Nat, s.dev.ptpOn u = true ∧ s.dev.rd P.PTP_DOMAIN = dom ∧
      let d := s.here
      let x := s.dev.ptp u
      ∃ q : Nat, ∃ t1 : Nat, ∃ t2 : Nat, ∃ t3 : Nat, x.sync = some (q, t2) ∧ x.origin = some t1 ∧ x.delayReq = some (seq, t3)
      ∧
      let e := (d.setPtp u { x with delayReq := none }).refreshTime
      e.rd P.TIME_SRC = 1 ∧ e.ownOffer.map (·.1) = some u) ∧
    (∃ s : State, ∃ u : Nat, ∃ dom : Nat, s.dev.ptpOn u = true ∧ s.dev.rd P.PTP_DOMAIN = dom ∧
      let x := s.dev.ptp u
      x.gm = none) ∧
    (∃ s : State, ∃ u : Nat, ∃ dom : Nat, s.dev.ptpOn u = true ∧ s.dev.rd P.PTP_DOMAIN = dom ∧
      let x := s.dev.ptp u
      ∃ o, ∃ g, x.gm = some g ∧ g.gm ≠ o.gm ∧ betterOffer (0, o) (0, g) = false) :=
  ⟨⟨st (timed (some offer0)), 3, 0, by decide +kernel, by decide +kernel⟩,
   ⟨st ((upped.wr P.PTP_UL_EN [] 8)), 3, 0, by decide +kernel, by decide +kernel, by decide +kernel⟩,
   ⟨st (timed (some offer0)), 3, 0, by decide +kernel, by decide +kernel, 1, by decide +kernel⟩,
   ⟨st (timed (some offer0)), 3, 0, 7, by decide +kernel, by decide +kernel, 4900000000, by decide +kernel⟩,
   ⟨st (timed (some offer0)), 3, 0, 8, by decide +kernel, by decide +kernel, 4900000000, 7, by decide +kernel,
     by decide +kernel⟩,
   ⟨st (timed (some offer0)), 3, 0, by decide +kernel, by decide +kernel, (7, 4900000000), by decide +kernel⟩,
   ⟨st (timed none), 3, 0, 9, by decide +kernel, by decide +kernel, 7, 5900000000, 4900000000, 4950000000, by decide +kernel,
     by decide +kernel, by decide +kernel, by decide +kernel⟩,
   ⟨st (timed (some offer0)), 3, 0, 9, by decide +kernel, by decide +kernel, 7, 5900000000, 4900000000, 4950000000,
     by decide +kernel, by decide +kernel, by decide +kernel, by decide +kernel, by decide +kernel⟩,
   ⟨st (timed none), 3, 0, by decide +kernel, by decide +kernel, by decide +kernel⟩,
   ⟨st (timed (some offer0)), 3, 0, by decide +kernel, by decide +kernel, { offer0 with prio1 := 200, gm := 78 }, offer0,
     by decide +kernel, by decide +kernel, by decide +kernel⟩⟩

/-- What `Obligations.ArrayProgress` assumes is met. -/
theorem meets_ArrayProgress :
    (∃ s : State, ∃ p : Nat, s.dev.awake = true ∧ s.dev.isDirectory p = true ∧ (s.dev.patch? p).isSome = true) ∧
    (∃ s : State, ∃ p : Nat, s.dev.awake = true ∧ s.dev.isDirectory p = true ∧ (s.dev.dir p).taking = true) ∧
    (∃ s : State, ∃ p : Nat, s.dev.isDirectory p = false) ∧
    (∃ s : State, ∃ p : Nat, s.dev.awake = true ∧ (s.dev.dir p).waiting ≠ [] ∧
      let x := s.dev.dir p
      s.dev.clk ≤ x.sent + sec 1) ∧
    (∃ s : State, ∃ p : Nat, s.dev.awake = true ∧ (s.dev.dir p).waiting ≠ [] ∧
      let x := s.dev.dir p
      x.sent + sec 1 < s.dev.clk) ∧
    (∃ s : State, s.dev.awake = true) ∧
    (∃ s : State, s.dev.awake = true ∧ s.dev.boot.running = true) ∧
    (∃ s : State, s.dev.awake = true ∧ s.dev.boot.running = false) ∧
    (∃ s : State, ∃ f : SeamHdr, ∃ m : List Byte, ∃ p : Nat, ∃ h : Handover, Receives f s.dev ∧ s.dev.awake = true ∧ leAt m 0
      4 % 2 ^ 22 = p ∧ s.dev.plc.handovers.get? p = some h ∧
      let got := h.got.put (leAt m 4 4) (m.drop 12)
      (got.vals.map List.length).sum < leAt m 8 4) ∧
    (∃ s : State, ∃ f : SeamHdr, ∃ m : List Byte, ∃ p : Nat, ∃ h : Handover, Receives f s.dev ∧ s.dev.awake = true ∧ leAt m 0
      4 % 2 ^ 22 = p ∧ s.dev.plc.handovers.get? p = some h ∧
      let got := h.got.put (leAt m 4 4) (m.drop 12)
      leAt m 8 4 ≤ (got.vals.map List.length).sum) ∧
    (∃ s : State, ∃ f : SeamHdr, ∃ m : List Byte, ∃ g : Stage, Receives f s.dev ∧ s.dev.plc.stage = some g ∧ g.complete =
      false ∧ g.blocks.get? (leAt m 0 2) = none ∧ 5 ≤ m.length) ∧
    (∃ s : State, s.dev.plc.stage = none) ∧
    (∃ s : State, s.dev.plc.stage = none ∧ ∃ f, Receives f s.dev) ∧
    (∃ s : State, ∃ g : Stage, s.dev.plc.stage = some g ∧ s.dev.awake = true ∧ g.complete = false ∧ g.full = true ∧ ((∀ j ∈
      s.dev.nv.bulkQ, j.why ≠ .config)) ∧ digestOf g.image ≠ g.digest) ∧
    (∃ s : State, ∃ g : Stage, s.dev.plc.stage = some g ∧ s.dev.awake = true ∧ g.complete = false ∧ g.full = true ∧ ((∀ j ∈
      s.dev.nv.bulkQ, j.why ≠ .config)) ∧ digestOf g.image = g.digest ∧ surfaceValid g.image = false) ∧
    (∃ s : State, ∃ g : Stage, s.dev.plc.stage = some g ∧ s.dev.awake = true ∧ g.complete = false ∧ g.full = true ∧ ((∀ j ∈
      s.dev.nv.bulkQ, j.why ≠ .config)) ∧ digestOf g.image = g.digest ∧ surfaceValid g.image = true ∧ s.dev.bulkUp = true) ∧
    (∃ s : State, ∃ g : Stage, ∃ t : Nat, s.dev.plc.stage = some g ∧ g.act = some t ∧ g.complete = true ∧ s.dev.awake = true) ∧
    (∃ s : State, s.dev.alive = true) ∧
    (∃ s : State, ∃ c : CensusRun, s.dev.plc.census = some c) :=
  ⟨⟨st (placed 5 5), 9, by decide +kernel, by decide +kernel, by decide +kernel⟩,
   ⟨st (directing 4995000000), 9, by decide +kernel, by decide +kernel, by decide +kernel⟩,
   ⟨st (placed 6 6), 9, by decide +kernel⟩,
   ⟨st (directing 4995000000), 9, by decide +kernel, by decide +kernel, by decide +kernel⟩,
   ⟨st (directing 3999999999), 9, by decide +kernel, by decide +kernel, by decide +kernel⟩,
   ⟨st dev0, by decide +kernel⟩,
   ⟨st dev0, by decide +kernel, by decide +kernel⟩,
   ⟨st { dev0 with boot := { dev0.boot with running := false } }, by decide +kernel, by decide +kernel⟩,
   ⟨st { linked with plc := { (placed 5 5).plc with handovers := KMap.ofList [(9, hand0)] } }, hdr 2 5 true,
     (leBytes 4 9 ++ leBytes 4 0 ++ leBytes 4 2 ++ [1]), 9, hand0, received (by decide +kernel), by decide +kernel,
     by decide +kernel, by decide +kernel, by decide +kernel⟩,
   ⟨st { linked with plc := { (placed 5 5).plc with handovers := KMap.ofList [(9, hand0)] } }, hdr 2 5 true,
     (leBytes 4 9 ++ leBytes 4 0 ++ leBytes 4 1 ++ [1]), 9, hand0, received (by decide +kernel), by decide +kernel,
     by decide +kernel, by decide +kernel, by decide +kernel⟩,
   ⟨st { linked with plc := (staged false).plc }, hdr 2 5 true, [1, 0, 1, 0, 7], stage0 false, received (by decide +kernel),
     by decide +kernel, by decide +kernel, by decide +kernel, by decide +kernel⟩,
   ⟨st dev0, by decide +kernel⟩,
   ⟨st linked, by decide +kernel, hdr 2 5 true, received (by decide +kernel)⟩,
   ⟨st (staging (image0 5) []), stageOf (image0 5) [], by decide +kernel, by decide +kernel, by decide +kernel,
     by decide +kernel, by decide +kernel, by decide +kernel⟩,
   ⟨st (staging (leBytes 6 0x100000000) (digestOf (leBytes 6 0x100000000))),
     stageOf (leBytes 6 0x100000000) (digestOf (leBytes 6 0x100000000)), by decide +kernel, by decide +kernel,
     by decide +kernel, by decide +kernel, by decide +kernel, by decide +kernel, by decide +kernel⟩,
   ⟨st (staging (image0 5) (digestOf (image0 5))), stageOf (image0 5) (digestOf (image0 5)), by decide +kernel,
     by decide +kernel, by decide +kernel, by decide +kernel, by decide +kernel, by decide +kernel, by decide +kernel,
     by decide +kernel⟩,
   ⟨st { dev0 with plc := { dev0.plc with stage := some { stage0 true with act := some 5100000000 } } },
     { stage0 true with act := some 5100000000 }, 5100000000, by decide +kernel, by decide +kernel, by decide +kernel,
     by decide +kernel⟩,
   ⟨st (locked true), by decide +kernel⟩,
   ⟨st { dev0 with plc := { dev0.plc with census := some census0 } }, census0, by decide +kernel⟩⟩

/-- What `Obligations.SensorPackets` assumes is met. -/
theorem meets_SensorPackets :
    (∃ s : State, ∃ l : Nat, ∃ vc : Nat,
      let all (h : Hdr) (n dt : Nat) (pay : List Byte) (ok : Bool) : List Instr :=
          [.frameStart l vc n h, .frameEnd l vc n h, .lineStart l vc n h, .lineEnd l vc h, .genericShortPacket l vc h,
            .imageLine l vc dt pay ok h, .telemetry l vc dt pay ok h]
      s.dev.linkOn l = false ∧ ∃ h, ∃ n, ∃ dt, ∃ pay, ∃ ok, ∃ c, c ∈ all h n dt pay ok) ∧
    (∃ s : State, ∃ l : Nat, ∃ vc : Nat,
      let all (h : Hdr) (n dt : Nat) (pay : List Byte) (ok : Bool) : List Instr :=
          [.frameStart l vc n h, .frameEnd l vc n h, .lineStart l vc n h, .lineEnd l vc h, .genericShortPacket l vc h,
            .imageLine l vc dt pay ok h, .telemetry l vc dt pay ok h]
      s.dev.linkOn l = true ∧ ∃ n, ∃ dt, ∃ pay, ∃ ok, ∃ c, c ∈ all .bad n dt pay ok) ∧
    (∃ s : State, ∃ l : Nat, ∃ vc : Nat,
      let all (h : Hdr) (n dt : Nat) (pay : List Byte) (ok : Bool) : List Instr :=
          [.frameStart l vc n h, .frameEnd l vc n h, .lineStart l vc n h, .lineEnd l vc h, .genericShortPacket l vc h,
            .imageLine l vc dt pay ok h, .telemetry l vc dt pay ok h]
      s.dev.linkOn l = true ∧ s.dev.streamAt l vc = none ∧ ∃ n, ∃ dt, ∃ pay, ∃ c, c ∈ all .good n dt pay true) ∧
    (∃ s : State, ∃ l : Nat, ∃ vc : Nat, s.dev.linkOn l = true ∧ s.dev.streamAt l vc = none ∧ ∃ dt, ∃ pay, ∃ c, c ∈
      [Instr.imageLine l vc dt pay false .good, .telemetry l vc dt pay false .good]) ∧
    (∃ s : State, ∃ l : Nat, ∃ vc : Nat, s.dev.linkOn l = true ∧ ∃ x, ∃ h, ∃ e, s.here.header l vc h = (some x, e)) ∧
    (∃ s : State, ∃ l : Nat, ∃ vc : Nat, s.dev.linkOn l = true ∧ ∃ x, ∃ h, ∃ e, s.here.header l vc h = (some x, e) ∧
      let d := e.fixFrame x h
      (d.strm x).openFrame = none) ∧
    (∃ s : State, ∃ l : Nat, ∃ vc : Nat, s.dev.linkOn l = true ∧ ∃ x, ∃ h, ∃ e, s.here.header l vc h = (some x, e) ∧
      let d := e.fixFrame x h
      (d.strm x).openFrame ≠ none ∧ isComp x = false) ∧
    (∃ s : State, ∃ l : Nat, ∃ vc : Nat, s.dev.linkOn l = true ∧ ∃ x, ∃ h, ∃ e, s.here.header l vc h = (some x, e) ∧
      let d := e.fixFrame x h
      (d.strm x).openFrame ≠ none ∧ isComp x = true) ∧
    (∃ s : State, ∃ l : Nat, ∃ vc : Nat, s.dev.linkOn l = true ∧ ∃ x, ∃ h, ∃ e, s.here.header l vc h = (some x, e) ∧
      let d := e.fixFrame x h
      ∃ f, (d.strm x).openFrame = some f ∧ d.is P.LINE_NUM [coreOf x] = true) ∧
    (∃ s : State, ∃ l : Nat, ∃ vc : Nat, s.dev.linkOn l = true ∧ ∃ x, ∃ h, ∃ e, s.here.header l vc h = (some x, e) ∧
      let d := e.fixFrame x h
      (((d.strm x).openFrame = none ∨ d.is P.LINE_NUM [coreOf x] = false))) ∧
    (∃ s : State, ∃ l : Nat, ∃ vc : Nat, s.dev.linkOn l = true ∧ ∃ x, ∃ h, ∃ e, s.here.header l vc h = (some x, e)) :=
  ⟨⟨st dev0, 31, 0, by decide +kernel, Hdr.good, 1, 0x2C, ([] : List Byte), true, .lineEnd 31 0 .good, by simp⟩,
   ⟨st (seeing 63 []), 31, 0, by decide +kernel, 1, 0x2C, ([] : List Byte), true, .lineEnd 31 0 .bad, by simp⟩,
   ⟨st (seeing 63 []), 31, 3, by decide +kernel, by decide +kernel, 1, 0x2C, ([] : List Byte), .lineEnd 31 3 .good, by simp⟩,
   ⟨st (seeing 63 []), 31, 3, by decide +kernel, by decide +kernel, 0x2C, ([] : List Byte),
     .telemetry 31 3 0x2C [] false .good, by simp⟩,
   ⟨st (seeing 63 []), 31, 0, by decide +kernel, 63, Hdr.good, ((seeing 63 []).header 31 0 .good).2, by decide +kernel⟩,
   ⟨st (seeing 63 []), 31, 0, by decide +kernel, 63, Hdr.good, ((seeing 63 []).header 31 0 .good).2, by decide +kernel,
     by decide +kernel⟩,
   ⟨st (seeing 63 [frame0 63 0]), 31, 0, by decide +kernel, 63, Hdr.good, ((seeing 63 [frame0 63 0]).header 31 0 .good).2,
     by decide +kernel, by decide +kernel, by decide +kernel⟩,
   ⟨st (seeing 127 [{ frame0 63 0 with tag := { tag0 63 0 with comp := true } }]), 31, 1, by decide +kernel, 127, Hdr.good,
     ((seeing 127 [{ frame0 63 0 with tag := { tag0 63 0 with comp := true } }]).header 31 1 .good).2, by decide +kernel,
     by decide +kernel, by decide +kernel⟩,
   ⟨st (seeing 63 [frame0 63 0]), 31, 0, by decide +kernel, 63, Hdr.good, ((seeing 63 [frame0 63 0]).header 31 0 .good).2,
     by decide +kernel, frame0 63 0, by decide +kernel, by decide +kernel⟩,
   ⟨st (seeing 63 []), 31, 0, by decide +kernel, 63, Hdr.good, ((seeing 63 []).header 31 0 .good).2, by decide +kernel,
     by decide +kernel⟩,
   ⟨st (seeing 63 [frame0 63 0]), 31, 0, by decide +kernel, 63, Hdr.good, ((seeing 63 [frame0 63 0]).header 31 0 .good).2,
     by decide +kernel⟩⟩

/-- What `Obligations.LinesAndTelemetry` assumes is met. -/
theorem meets_LinesAndTelemetry :
    (∃ s : State, ∃ l : Nat, ∃ vc : Nat, ∃ x : Nat, ∃ h : Hdr, ∃ e : Dev, ∃ ok : Bool, s.dev.linkOn l = true ∧ s.here.header l
      vc h = (some x, e) ∧
      let d := if ok then e.fixFrame x h else (e.fixFrame x h).payloadError l x
      ∃ dt, dt ≠ 0x2C + d.dataType x) ∧
    (∃ s : State, ∃ l : Nat, ∃ vc : Nat, ∃ x : Nat, ∃ h : Hdr, ∃ e : Dev, ∃ ok : Bool, s.dev.linkOn l = true ∧ s.here.header l
      vc h = (some x, e) ∧
      let d := if ok then e.fixFrame x h else (e.fixFrame x h).payloadError l x
      (d.strm x).openFrame = none) ∧
    (∃ s : State, ∃ l : Nat, ∃ vc : Nat, ∃ x : Nat, ∃ h : Hdr, ∃ e : Dev, ∃ ok : Bool, s.dev.linkOn l = true ∧ s.here.header l
      vc h = (some x, e) ∧
      let d := if ok then e.fixFrame x h else (e.fixFrame x h).payloadError l x
      ∃ f, (d.strm x).openFrame = some f ∧
      let y := if d.is P.LINE_NUM [coreOf x] then f.ls.getD 0 else f.top + 1
      let extra := decide (y ≤ f.top ∨ d.height x < y)
      ((extra = true ∨ f.tag.has 1 = true))) ∧
    (∃ s : State, ∃ l : Nat, ∃ vc : Nat, ∃ x : Nat, ∃ h : Hdr, ∃ e : Dev, ∃ ok : Bool, s.dev.linkOn l = true ∧ s.here.header l
      vc h = (some x, e) ∧
      let d := if ok then e.fixFrame x h else (e.fixFrame x h).payloadError l x
      ∃ f, (d.strm x).openFrame = some f ∧
      let y := if d.is P.LINE_NUM [coreOf x] then f.ls.getD 0 else f.top + 1
      let extra := decide (y ≤ f.top ∨ d.height x < y)
      extra = false ∧ f.tag.has 1 = false ∧ d.occupied x < d.buffers x) ∧
    (∃ s : State, ∃ l : Nat, ∃ vc : Nat, ∃ x : Nat, ∃ h : Hdr, ∃ e : Dev, ∃ ok : Bool, s.dev.linkOn l = true ∧ s.here.header l
      vc h = (some x, e) ∧
      let d := if ok then e.fixFrame x h else (e.fixFrame x h).payloadError l x
      ∃ f, (d.strm x).openFrame = some f ∧
      let y := if d.is P.LINE_NUM [coreOf x] then f.ls.getD 0 else f.top + 1
      let extra := decide (y ≤ f.top ∨ d.height x < y)
      ∃ z, extra = false ∧ f.tag.has 1 = false ∧ d.buffers x ≤ d.occupied x ∧ ((d.overrun x).strm x).openFrame = some z ∧
      z.tag.has 1 = true) ∧
    (∃ s : State, ∃ l : Nat, ∃ vc : Nat, ∃ x : Nat, ∃ h : Hdr, ∃ e : Dev, ∃ ok : Bool, s.dev.linkOn l = true ∧ s.here.header l
      vc h = (some x, e) ∧
      let d := if ok then e.fixFrame x h else (e.fixFrame x h).payloadError l x
      ∃ f, (d.strm x).openFrame = some f ∧
      let y := if d.is P.LINE_NUM [coreOf x] then f.ls.getD 0 else f.top + 1
      let extra := decide (y ≤ f.top ∨ d.height x < y)
      ∃ z, extra = false ∧ f.tag.has 1 = false ∧ d.buffers x ≤ d.occupied x ∧ ((d.overrun x).strm x).openFrame = some z ∧
      z.tag.has 1 = false) ∧
    (∃ s : State, ∃ l : Nat, ∃ vc : Nat, ∃ x : Nat, ∃ h : Hdr, ∃ e : Dev, s.dev.linkOn l = true ∧ s.here.header l vc h = (some
      x, e) ∧ ∃ dt, dt ≠ 0x12 ∧ ((dt < 0x30 ∨ 0x37 < dt))) ∧
    (∃ s : State, ∃ l : Nat, ∃ vc : Nat, ∃ x : Nat, ∃ h : Hdr, ∃ e : Dev, ∃ pay : List Byte, ∃ ok : Bool, s.dev.linkOn l =
      true ∧ s.here.header l vc h = (some x, e) ∧
      let d := if ok then e.fixFrame x h else (e.fixFrame x h).payloadError l x
      ∃ dt, ∃ f, ((dt = 0x12 ∨ (0x30 ≤ dt ∧ dt ≤ 0x37))) ∧ (d.strm x).openFrame = some f ∧
      let g := d.takeTelemetry x dt pay ok true (d.takeTelemetry x dt pay ok false f)
      ((g.tag.has 8 = false ∨ f.tag.has 8 = true))) ∧
    (∃ s : State, ∃ l : Nat, ∃ vc : Nat, ∃ x : Nat, ∃ h : Hdr, ∃ e : Dev, ∃ pay : List Byte, ∃ ok : Bool, s.dev.linkOn l =
      true ∧ s.here.header l vc h = (some x, e) ∧
      let d := if ok then e.fixFrame x h else (e.fixFrame x h).payloadError l x
      ∃ dt, ∃ f, ((dt = 0x12 ∨ (0x30 ≤ dt ∧ dt ≤ 0x37))) ∧ (d.strm x).openFrame = some f ∧
      let g := d.takeTelemetry x dt pay ok true (d.takeTelemetry x dt pay ok false f)
      g.tag.has 8 = true ∧ f.tag.has 8 = false) ∧
    (∃ s : State, ∃ x : Nat, s.dev.awake = true ∧ (s.dev.strm x).openFrame ≠ none ∧
      let d := (s.here.reach ((s.dev.strm x).heard + 4 * s.dev.period x)).endFrame x true
      d.rd P.CORE_STATE [coreOf x] = 3) ∧
    (∃ s : State, ∃ x : Nat, s.dev.awake = true ∧ (s.dev.strm x).openFrame ≠ none ∧
      let d := (s.here.reach ((s.dev.strm x).heard + 4 * s.dev.period x)).endFrame x true
      d.rd P.CORE_STATE [coreOf x] ≠ 3) ∧
    (∃ s : State, ∃ x : Nat, (s.dev.strm x).openFrame = none) ∧
    (∃ s : State, ∃ l : Nat, s.dev.awake = true ∧ l < 32) :=
  ⟨⟨st (seeing 63 []), 31, 0, 63, .good, ((seeing 63 []).header 31 0 .good).2, true, by decide +kernel, by decide +kernel,
     0x2A, by decide +kernel⟩,
   ⟨st (seeing 63 []), 31, 0, 63, .good, ((seeing 63 []).header 31 0 .good).2, true, by decide +kernel, by decide +kernel,
     by decide +kernel⟩,
   ⟨st (seeing 63 [frame0 63 2]), 31, 0, 63, .good, ((seeing 63 [frame0 63 2]).header 31 0 .good).2, true, by decide +kernel,
     by decide +kernel, frame0 63 2, by decide +kernel, by decide +kernel⟩,
   ⟨st (seeing 63 [{ frame0 63 0 with ls := some 1 }]), 31, 0, 63, .good,
     ((seeing 63 [{ frame0 63 0 with ls := some 1 }]).header 31 0 .good).2, true, by decide +kernel, by decide +kernel,
     { frame0 63 0 with ls := some 1 }, by decide +kernel, by decide +kernel, by decide +kernel, by decide +kernel⟩,
   ⟨st (crowded [full63 true]), 31, 0, 63, .good, ((crowded [full63 true]).header 31 0 .good).2, true, by decide +kernel,
     by decide +kernel, full63 true, by decide +kernel,
     (((crowded [full63 true]).overrun 63).strm 63).openFrame.getD (frame0 63 0), by decide +kernel, by decide +kernel,
     by decide +kernel, by decide +kernel, by decide +kernel⟩,
   ⟨st (crowded [full63 false, frame0 63 0]), 31, 0, 63, .good, ((crowded [full63 false, frame0 63 0]).header 31 0 .good).2,
     true, by decide +kernel, by decide +kernel, frame0 63 0, by decide +kernel,
     (((crowded [full63 false, frame0 63 0]).overrun 63).strm 63).openFrame.getD (frame0 63 0), by decide +kernel,
     by decide +kernel, by decide +kernel, by decide +kernel, by decide +kernel⟩,
   ⟨st (seeing 63 []), 31, 0, 63, .good, ((seeing 63 []).header 31 0 .good).2, by decide +kernel, by decide +kernel, 0x38,
     by decide +kernel, by decide +kernel⟩,
   ⟨st (seeing 63 [frame0 63 256]), 31, 0, 63, .good, ((seeing 63 [frame0 63 256]).header 31 0 .good).2, [1, 2], true,
     by decide +kernel, by decide +kernel, 0x37, frame0 63 256, by decide +kernel, by decide +kernel, by decide +kernel⟩,
   ⟨st (seeing 63 [frame0 63 0]), 31, 0, 63, .good, ((seeing 63 [frame0 63 0]).header 31 0 .good).2, [], true,
     by decide +kernel, by decide +kernel, 0x30, frame0 63 0, by decide +kernel, by decide +kernel, by decide +kernel,
     by decide +kernel⟩,
   ⟨st ((opened 63 0).wr P.CORE_STATE [63] 3), 63, by decide +kernel, by decide +kernel, by decide +kernel⟩,
   ⟨st (opened 63 0), 63, by decide +kernel, by decide +kernel, by decide +kernel⟩,
   ⟨st dev0, 63, by decide +kernel⟩,
   ⟨st (dev0.wrs [(P.CSI_LINK_EN, [31], 1)]), 31, by decide +kernel, by decide +kernel⟩⟩

/-- What `Obligations.SensorWrites` assumes is met. -/
theorem meets_SensorWrites :
    (∃ s : State, ∃ b : Nat, s.dev.busCores b = []) ∧
    (∃ s : State, ∃ b : Nat, ∃ k : Nat, ∃ c : Change, ∃ rest : List Change, ∃ op : BusOp, ∃ ops : List BusOp, s.dev.awake =
      true ∧ (s.dev.busCores b).head? = some k ∧ (s.dev.setting k).queue = c :: rest ∧ c.ops = op :: ops ∧
      let back (e : WriteEnd) : Prop := ∃ got comp wide reg data, e = .readBack got ∧ op = .write comp true wide reg data ∧
          s.dev.is P.BUS_MODE [b] = true ∧ got ≠ data
      let fails (e : WriteEnd) : Prop := e = .nack ∨ e = .busError ∨ back e
      ∃ e, ¬ fails e ∧ ops ≠ []) ∧
    (∃ s : State, ∃ b : Nat, ∃ k : Nat, ∃ c : Change, ∃ rest : List Change, ∃ op : BusOp, ∃ ops : List BusOp, s.dev.awake =
      true ∧ (s.dev.busCores b).head? = some k ∧ (s.dev.setting k).queue = c :: rest ∧ c.ops = op :: ops ∧
      let back (e : WriteEnd) : Prop := ∃ got comp wide reg data, e = .readBack got ∧ op = .write comp true wide reg data ∧
          s.dev.is P.BUS_MODE [b] = true ∧ got ≠ data
      let fails (e : WriteEnd) : Prop := e = .nack ∨ e = .busError ∨ back e
      ∃ e, ¬ fails e ∧ ops = []) ∧
    (∃ s : State, ∃ b : Nat, ∃ k : Nat, ∃ c : Change, ∃ rest : List Change, ∃ op : BusOp, ∃ ops : List BusOp, s.dev.awake =
      true ∧ (s.dev.busCores b).head? = some k ∧ (s.dev.setting k).queue = c :: rest ∧ c.ops = op :: ops ∧
      let x := s.dev.setting k
      let d := s.here.drive b k op
      let back (e : WriteEnd) : Prop := ∃ got comp wide reg data, e = .readBack got ∧ op = .write comp true wide reg data ∧
          s.dev.is P.BUS_MODE [b] = true ∧ got ≠ data
      let fails (e : WriteEnd) : Prop := e = .nack ∨ e = .busError ∨ back e
      let n := d.bump P.NACK_CNT [b]
      let after (e : WriteEnd) : Dev := if e = .busError then
            ((n.emit (.busReset b)).bump P.BUS_RESET_CNT [b]).set (.ing 9) (1, 32 + b) (n.ingData k c.gen)
          else n
      ∃ e, fails e ∧ x.tries < (after e).rd P.RETRIES [b]) ∧
    (∃ s : State, ∃ b : Nat, ∃ k : Nat, ∃ c : Change, ∃ rest : List Change, ∃ op : BusOp, ∃ ops : List BusOp, s.dev.awake =
      true ∧ (s.dev.busCores b).head? = some k ∧ (s.dev.setting k).queue = c :: rest ∧ c.ops = op :: ops ∧
      let x := s.dev.setting k
      let d := s.here.drive b k op
      let back (e : WriteEnd) : Prop := ∃ got comp wide reg data, e = .readBack got ∧ op = .write comp true wide reg data ∧
          s.dev.is P.BUS_MODE [b] = true ∧ got ≠ data
      let fails (e : WriteEnd) : Prop := e = .nack ∨ e = .busError ∨ back e
      let n := d.bump P.NACK_CNT [b]
      let after (e : WriteEnd) : Dev := if e = .busError then
            ((n.emit (.busReset b)).bump P.BUS_RESET_CNT [b]).set (.ing 9) (1, 32 + b) (n.ingData k c.gen)
          else n
      ∃ e, fails e ∧ (after e).rd P.RETRIES [b] ≤ x.tries) :=
  ⟨⟨st dev0, 7, by decide +kernel⟩,
   ⟨st (writing [.setdasa true, .disec true] 0), 7, 63, change0 [.setdasa true, .disec true], [], .setdasa true,
     [.disec true], by decide +kernel, by decide +kernel, by decide +kernel, by decide +kernel, .done, by simp,
     by decide +kernel⟩,
   ⟨st (writing [.disec true] 0), 7, 63, change0 [.disec true], [], .disec true, [], by decide +kernel, by decide +kernel,
     by decide +kernel, by decide +kernel, .done, by simp, by decide +kernel⟩,
   ⟨st (writing [.disec true] 2), 7, 63, change0 [.disec true], [], .disec true, [], by decide +kernel, by decide +kernel,
     by decide +kernel, by decide +kernel, .nack, .inl rfl, by decide +kernel⟩,
   ⟨st ((writing [.write false true false 16 [1]] 3).wr P.BUS_MODE [7] 1), 7, 63, change0 [.write false true false 16 [1]],
     [], .write false true false 16 [1], [], by decide +kernel, by decide +kernel, by decide +kernel, by decide +kernel,
     .readBack [2], .inr (.inr ⟨[2], false, false, 16, [1], rfl, rfl, by decide +kernel, by decide⟩), by decide +kernel⟩⟩

/-- What `Obligations.LaneWork` assumes is met. -/
theorem meets_LaneWork :
    (∃ s : State, ∃ lane : Nat, s.dev.awake = true ∧ lane < 128 ∧ s.dev.pipe.lanes.get? lane = none ∧ ∃ k, ∃ l, s.dev.pickB
      (lane / 8) = some (k, l)) ∧
    (∃ s : State, ∃ lane : Nat, s.dev.awake = true ∧ lane < 128 ∧ s.dev.pipe.lanes.get? lane = none ∧ ∃ x, ∃ cnt, ∃ y, ∃ line,
      s.dev.pickB (lane / 8) = none ∧ s.dev.pickA (lane / 8) = some (x, cnt, y, line)) ∧
    (∃ s : State, ∃ lane : Nat, s.dev.awake = true ∧ lane < 128 ∧ s.dev.pipe.lanes.get? lane = none ∧ s.dev.pickB (lane / 8) =
      none ∧ s.dev.pickA (lane / 8) = none) ∧
    (∃ s : State, ∃ lane : Nat, ∃ x : Nat, ∃ cnt : Nat, ∃ y : Nat, ∃ line : Line, ∃ f : Frame, s.dev.awake = true ∧
      s.dev.pipe.lanes.get? lane = some (.passA x cnt y line) ∧ (s.dev.strm x).frame? cnt = some f ∧ ((isComp x = true ∨
      f.tag.has 11 = true))) ∧
    (∃ s : State, ∃ lane : Nat, ∃ k : Nat, ∃ cnt : Nat, ∃ y : Nat, ∃ line : Line, ∃ f : Frame, s.dev.awake = true ∧
      s.dev.pipe.lanes.get? lane = some (.passA k cnt y line) ∧ (s.dev.strm k).frame? cnt = some f ∧ k < 64 ∧ f.tag.has 11 =
      false) ∧
    (∃ s : State, ∃ lane : Nat, ∃ x : Nat, ∃ cnt : Nat, ∃ y : Nat, ∃ line : Line, s.dev.awake = true ∧ s.dev.pipe.lanes.get?
      lane = some (.passA x cnt y line) ∧ (s.dev.strm x).frame? cnt = none) ∧
    (∃ s : State, ∃ lane : Nat, ∃ k : Nat, ∃ cnt : Nat, ∃ y : Nat, ∃ f : Frame, ∃ l : WinLine, s.dev.awake = true ∧
      s.dev.pipe.lanes.get? lane = some (.passB k cnt y) ∧ (s.dev.strm k).frame? cnt = some f ∧ lineIn (s.dev.window k) cnt y
      = some l) ∧
    (∃ s : State, ∃ lane : Nat, s.dev.pipe.lanes.get? lane = none) ∧
    (∃ s : State, ∃ q : Repair, ∃ rest : List Repair, s.dev.pipe.bad = q :: rest ∧ s.dev.awake = true ∧
      let b := q.block
      s.dev.is P.CORE_EN [b.core] = false) ∧
    (∃ s : State, ∃ q : Repair, ∃ rest : List Repair, s.dev.pipe.bad = q :: rest ∧ s.dev.awake = true ∧
      let b := q.block
      s.dev.is P.CORE_EN [b.core] = true ∧ s.dev.storing b.core = true) ∧
    (∃ s : State, ∃ q : Repair, ∃ rest : List Repair, s.dev.pipe.bad = q :: rest ∧ s.dev.awake = true ∧
      let b := q.block
      s.dev.is P.CORE_EN [b.core] = true ∧ s.dev.storing b.core = false) ∧
    (∃ s : State, ∃ q : Repair, ∃ rest : List Repair, s.dev.pipe.bad = q :: rest ∧ s.dev.awake = true ∧
      let b := q.block
      s.dev.is P.CORE_EN [b.core] = true ∧ s.dev.storing b.core = false ∧ q.tries = 0) ∧
    (∃ s : State, ∃ q : Repair, ∃ rest : List Repair, s.dev.pipe.bad = q :: rest ∧ s.dev.awake = true ∧
      let b := q.block
      s.dev.is P.CORE_EN [b.core] = true ∧ s.dev.storing b.core = false ∧ q.tries ≠ 0) :=
  ⟨⟨st (ready63 false), 127, by decide +kernel, by decide +kernel, by decide +kernel, 63, win0 false, by decide +kernel⟩,
   ⟨st (tinyFrames [{ frame0 63 0 with lines := KMap.ofList [(1, line0)] }]), 127, by decide +kernel, by decide +kernel,
     by decide +kernel, 63, 1, 1, line0, by decide +kernel, by decide +kernel⟩,
   ⟨st dev0, 127, by decide +kernel, by decide +kernel, by decide +kernel, by decide +kernel, by decide +kernel⟩,
   ⟨st (laned (tinyFrames [frame0 63 2048]) (.passA 63 1 1 line0)), 127, 63, 1, 1, line0, frame0 63 2048, by decide +kernel,
     by decide +kernel, by decide +kernel, by decide +kernel⟩,
   ⟨st (laned (tinyFrames [frame0 63 0]) (.passA 63 1 1 line0)), 127, 63, 1, 1, line0, frame0 63 0, by decide +kernel,
     by decide +kernel, by decide +kernel, by decide +kernel, by decide +kernel⟩,
   ⟨st (laned (tiny) (.passA 63 1 1 line0)), 127, 63, 1, 1, line0, by decide +kernel, by decide +kernel, by decide +kernel⟩,
   ⟨st (laned ((tinyFrames [frame0 63 0]).setWindow 63 [win0 true]) (.passB 63 1 1)), 127, 63, 1, 1, frame0 63 0, win0 true,
     by decide +kernel, by decide +kernel, by decide +kernel, by decide +kernel⟩,
   ⟨st dev0, 127, by decide +kernel⟩,
   ⟨st (repairing dev0), bad0, [], by decide +kernel, by decide +kernel, by decide +kernel⟩,
   ⟨st (repairing { tiny with nv := { tiny.nv with bulkQ := [job0] } }), bad0, [], by decide +kernel, by decide +kernel,
     by decide +kernel, by decide +kernel⟩,
   ⟨st (repairing tiny), bad0, [], by decide +kernel, by decide +kernel, by decide +kernel, by decide +kernel⟩,
   ⟨st (repairing tiny), bad0, [], by decide +kernel, by decide +kernel, by decide +kernel, by decide +kernel,
     by decide +kernel⟩,
   ⟨st { tiny with pipe := { tiny.pipe with bad := [{ bad0 with tries := 1 }] } }, { bad0 with tries := 1 }, [],
     by decide +kernel, by decide +kernel, by decide +kernel, by decide +kernel, by decide +kernel⟩⟩

/-- What `Obligations.LaneSignals` assumes is met. -/
theorem meets_LaneSignals :
    (∃ s : State, ∃ t : Nat, s.dev.pipe.alarmAt = some t ∧ s.dev.alarmStands = true) ∧
    (∃ s : State, ∃ t : Nat, s.dev.pipe.alarmAt = some t ∧ s.dev.alarmStands = false) ∧
    (∃ s : State, s.dev.is P.TEST_GO = false) ∧
    (∃ s : State, s.dev.is P.TEST_GO = true) ∧
    (∃ s : State, ∃ b : Nat, s.dev.alive = true ∧ b < 2) ∧
    (∃ s : State, ∃ b : Nat, s.dev.alive = true ∧ b < 2 ∧ ∃ n : Nat, ∃ again : Bool, (if again then s.dev.pipe.replays.get b 0
      else 0) = n ∧ n < 3) ∧
    (∃ s : State, ∃ b : Nat, s.dev.alive = true ∧ b < 2 ∧ 3 ≤ s.dev.pipe.replays.get b 0) ∧
    (∃ s : State, ∃ r : Nat, ∃ rate : Nat, s.dev.awake = true ∧ r < 4 ∧
      let period := 1000 * s.dev.rd P.RATE_WINDOW
      let w := s.here.reach (s.dev.pipe.winEnd.get r period)
      let w : Dev := { w with pipe := { w.pipe with winEnd := w.pipe.winEnd.put r (w.clk + period) } }
      let d := (w.wr P.LANE_RATE [r] rate).lowerTo P.LANE_RATE_MIN [r] (rate % 65536)
      let m := s.dev.rd P.RATE_MARGIN
      let low (m : Nat) : Bool := [4 * r, 4 * r + 1, 4 * r + 2, 4 * r + 3].any fun c => d.short c rate m
      s.dev.pipe.raised.contains r = false ∧ low m = true) ∧
    (∃ s : State, ∃ r : Nat, ∃ rate : Nat, s.dev.awake = true ∧ r < 4 ∧
      let period := 1000 * s.dev.rd P.RATE_WINDOW
      let w := s.here.reach (s.dev.pipe.winEnd.get r period)
      let w : Dev := { w with pipe := { w.pipe with winEnd := w.pipe.winEnd.put r (w.clk + period) } }
      let d := (w.wr P.LANE_RATE [r] rate).lowerTo P.LANE_RATE_MIN [r] (rate % 65536)
      let m := s.dev.rd P.RATE_MARGIN
      let low (m : Nat) : Bool := [4 * r, 4 * r + 1, 4 * r + 2, 4 * r + 3].any fun c => d.short c rate m
      s.dev.pipe.raised.contains r = false ∧ low m = false) ∧
    (∃ s : State, ∃ r : Nat, ∃ rate : Nat, s.dev.awake = true ∧ r < 4 ∧
      let period := 1000 * s.dev.rd P.RATE_WINDOW
      let w := s.here.reach (s.dev.pipe.winEnd.get r period)
      let w : Dev := { w with pipe := { w.pipe with winEnd := w.pipe.winEnd.put r (w.clk + period) } }
      let d := (w.wr P.LANE_RATE [r] rate).lowerTo P.LANE_RATE_MIN [r] (rate % 65536)
      let m := s.dev.rd P.RATE_MARGIN
      let low (m : Nat) : Bool := [4 * r, 4 * r + 1, 4 * r + 2, 4 * r + 3].any fun c => d.short c rate m
      s.dev.pipe.raised.contains r = true ∧ ((s.dev.pipe.easing.contains r = false ∨ low (2 * m) = true))) ∧
    (∃ s : State, ∃ r : Nat, ∃ rate : Nat, s.dev.awake = true ∧ r < 4 ∧
      let period := 1000 * s.dev.rd P.RATE_WINDOW
      let w := s.here.reach (s.dev.pipe.winEnd.get r period)
      let w : Dev := { w with pipe := { w.pipe with winEnd := w.pipe.winEnd.put r (w.clk + period) } }
      let d := (w.wr P.LANE_RATE [r] rate).lowerTo P.LANE_RATE_MIN [r] (rate % 65536)
      let m := s.dev.rd P.RATE_MARGIN
      let low (m : Nat) : Bool := [4 * r, 4 * r + 1, 4 * r + 2, 4 * r + 3].any fun c => d.short c rate m
      s.dev.pipe.raised.contains r = true ∧ s.dev.pipe.easing.contains r = true ∧ low (2 * m) = false) ∧
    (∃ s : State, ∃ r : Nat, s.dev.awake = true ∧ s.dev.boot.running = true ∧ s.dev.pipe.raised.contains r = true) ∧
    (∃ s : State, ∃ r : Nat, s.dev.pipe.raised.contains r = false) ∧
    (∃ s : State, ∃ t : Nat, ∃ n : Nat, t < 16 ∧ s.dev.is P.STREAMING [t] = true ∧
      let u := s.dev.rd P.ST_UPLINK [t]
      let size := s.dev.ringWords t
      let prod := s.dev.rd P.TAP_PROD [t]
      let cons := s.dev.rd P.TAP_CONS [t]
      prod ≠ cons ∧ s.dev.uplinkOn u = true ∧ s.dev.kcp.paused.get u 0 = 0 ∧ min 178 (if cons < prod then prod - cons else
      size - cons) = n) :=
  ⟨⟨st (alarming.wr P.LINE_DIE [] 1), 4950000000, by decide +kernel, by decide +kernel⟩,
   ⟨st alarming, 4950000000, by decide +kernel, by decide +kernel⟩,
   ⟨st dev0, by decide +kernel⟩,
   ⟨st (dev0.wrs [(P.TEST_GO, [], 1)]), by decide +kernel⟩,
   ⟨st dev0, 1, by decide +kernel, by decide +kernel⟩,
   ⟨st { dev0 with pipe := { dev0.pipe with replays := dev0.pipe.replays.put 1 2 } }, 1, by decide +kernel, by decide +kernel,
     2, true, by decide +kernel, by decide +kernel⟩,
   ⟨st { dev0 with pipe := { dev0.pipe with replays := dev0.pipe.replays.put 1 3 } }, 1, by decide +kernel, by decide +kernel,
     by decide +kernel⟩,
   ⟨st tiny, 3, 0, by decide +kernel, by decide +kernel, by decide +kernel, by decide +kernel⟩,
   ⟨st tiny, 3, 2000, by decide +kernel, by decide +kernel, by decide +kernel, by decide +kernel⟩,
   ⟨st { tiny with pipe := { tiny.pipe with raised := [3] } }, 3, 0, by decide +kernel, by decide +kernel, by decide +kernel,
     by decide +kernel⟩,
   ⟨st { tiny with pipe := { tiny.pipe with raised := [3], easing := [3] } }, 3, 2300, by decide +kernel, by decide +kernel,
     by decide +kernel, by decide +kernel, by decide +kernel⟩,
   ⟨st { tiny with pipe := { tiny.pipe with raised := [3] } }, 3, by decide +kernel, by decide +kernel, by decide +kernel⟩,
   ⟨st dev0, 3, by decide +kernel⟩,
   ⟨st streaming, 15, 4, by decide +kernel, by decide +kernel, by decide +kernel, by decide +kernel, by decide +kernel,
     by decide +kernel⟩⟩

/-- What `Obligations.CyclesAndGrants` assumes is met. -/
theorem meets_CyclesAndGrants :
    (∃ s : State, ∃ k : Nat, k < 64 ∧ s.dev.mayCycle k = true ∧ s.dev.triggered k = true) ∧
    (∃ s : State, ∃ k : Nat, k < 64 ∧ s.dev.mayCycle k = true ∧ ∃ t, ∃ l, s.dev.triggered k = false ∧ s.dev.timeDue k = t ::
      l) ∧
    (∃ s : State, ∃ k : Nat, k < 64 ∧ s.dev.mayCycle k = true ∧ s.dev.triggered k = false ∧ s.dev.timeDue k = []) ∧
    (∃ s : State, ∃ k : Nat, ((64 ≤ k ∨ s.dev.mayCycle k = false))) ∧
    (∃ s : State, ∃ k : Nat, (s.dev.calCore k).cycle = none ∧ ∃ c : Instr, c ∈ [Instr.retry k, .grantStartLimit k, .maxDefer
      k, .releasePhaseEnd k, .openSettleEnd k, .openConfirmation k, .openConfirmationTimeout k, .flagClosedFault k,
      .gatherResult k]) ∧
    (∃ s : State, ∃ k : Nat, ∃ c : Cycle, (s.dev.calCore k).cycle = some c ∧ ∃ t, c.retryAt = some t ∧ s.dev.boot.running =
      true) ∧
    (∃ s : State, ∃ k : Nat, ∃ c : Cycle, (s.dev.calCore k).cycle = some c ∧ ∃ t, c.retryAt = some t ∧ s.dev.boot.running =
      false) ∧
    (∃ s : State, ∃ k : Nat, ∃ c : Cycle, (s.dev.calCore k).cycle = some c ∧ c.retryAt = none) ∧
    (∃ s : State, ∃ k : Nat, ∃ c : Cycle, (s.dev.calCore k).cycle = some c ∧ ∃ g, ∃ l, ((c.grants.filter fun g => decide
      (g.decision = some 0 ∨ g.decision = some 1)) = g :: l) ∧ s.dev.rd P.CYC_STATE [k] = 1 ∧ c.retryAt = none ∧
      s.dev.boot.running = true) ∧
    (∃ s : State, ∃ k : Nat, ∃ c : Cycle, (s.dev.calCore k).cycle = some c ∧ ∃ g, ∃ l, ((c.grants.filter fun g => decide
      (g.decision = some 0 ∨ g.decision = some 1)) = g :: l) ∧ s.dev.rd P.CYC_STATE [k] = 1 ∧ c.retryAt = none ∧
      s.dev.boot.running = false) ∧
    (∃ s : State, ∃ k : Nat, ∃ c : Cycle, (s.dev.calCore k).cycle = some c ∧ s.dev.rd P.CYC_STATE [k] = 1 ∧ c.refusals ≠ 0 ∧
      c.force = false ∧ ((c.duty = false ∨ c.ticket = none))) ∧
    (∃ s : State, ∃ k : Nat, ∃ c : Cycle, (s.dev.calCore k).cycle = some c ∧ s.dev.rd P.CYC_STATE [k] = 1 ∧ c.refusals ≠ 0 ∧
      c.force = false ∧ c.duty = true ∧ c.ticket ≠ none) ∧
    (∃ s : State, ∃ p : Nat, (s.dev.cal.given.find? fun g => decide (g.patch = p)) = none) ∧
    (∃ s : State, ∃ p : Nat, ∃ g : Given, (s.dev.cal.given.find? fun g => decide (g.patch = p)) = some g) :=
  ⟨⟨st (tiny.setCal 63 { tiny.calCore 63 with overThr := 2 } |>.wr P.SEAM_THR [63] 5), 63, by decide +kernel,
     by decide +kernel, by decide +kernel⟩,
   ⟨st (tiny.setCal 63 { tiny.calCore 63 with due60 := some (0, some 4000000000) }), 63, by decide +kernel, by decide +kernel,
     64000000000, ([] : List Nat), by decide +kernel, by decide +kernel⟩,
   ⟨st tiny, 63, by decide +kernel, by decide +kernel, by decide +kernel, by decide +kernel⟩,
   ⟨st dev0, 63, by decide +kernel⟩,
   ⟨st dev0, 63, by decide +kernel, .gatherResult 63, by decide +kernel⟩,
   ⟨st (phase 1 { cycle0 with retryAt := some 5100000000 }), 63, { cycle0 with retryAt := some 5100000000 },
     by decide +kernel, 5100000000, by decide +kernel, by decide +kernel⟩,
   ⟨st { phase 1 { cycle0 with retryAt := some 5100000000 } with boot := { dev0.boot with running := false } }, 63,
     { cycle0 with retryAt := some 5100000000 }, by decide +kernel, 5100000000, by decide +kernel, by decide +kernel⟩,
   ⟨st (phase 1 cycle0), 63, cycle0, by decide +kernel, by decide +kernel⟩,
   ⟨st (phase 1 { cycle0 with grants := [⟨9, 6, some 1, 4900000000⟩] }), 63,
     { cycle0 with grants := [⟨9, 6, some 1, 4900000000⟩] }, by decide +kernel, (⟨9, 6, some 1, 4900000000⟩ : Grant),
     ([] : List Grant), by decide +kernel, by decide +kernel, by decide +kernel, by decide +kernel⟩,
   ⟨st { phase 1 { cycle0 with grants := [⟨9, 6, some 1, 4900000000⟩] } with boot := { dev0.boot with running := false } },
     63, { cycle0 with grants := [⟨9, 6, some 1, 4900000000⟩] }, by decide +kernel, (⟨9, 6, some 1, 4900000000⟩ : Grant),
     ([] : List Grant), by decide +kernel, by decide +kernel, by decide +kernel, by decide +kernel⟩,
   ⟨st (phase 1 { cycle0 with refusals := 1 }), 63, { cycle0 with refusals := 1 }, by decide +kernel, by decide +kernel,
     by decide +kernel, by decide +kernel, by decide +kernel⟩,
   ⟨st (phase 1 { cycle0 with refusals := 1, duty := true }), 63, { cycle0 with refusals := 1, duty := true },
     by decide +kernel, by decide +kernel, by decide +kernel, by decide +kernel, by decide +kernel, by decide +kernel⟩,
   ⟨st dev0, 9, by decide +kernel⟩,
   ⟨st { dev0 with cal := { dev0.cal with given := [given0] } }, 9, given0, by decide +kernel⟩⟩

/-- What `Obligations.CyclePhases` assumes is met. -/
theorem meets_CyclePhases :
    (∃ s : State, ∃ k : Nat, ∃ c : Cycle, (s.dev.calCore k).cycle = some c ∧ s.dev.rd P.CYC_STATE [k] = 5) ∧
    (∃ s : State, ∃ k : Nat, ∃ c : Cycle, (s.dev.calCore k).cycle = some c ∧ s.dev.rd P.CYC_STATE [k] = 6 ∧ c.settled = false) ∧
    (∃ s : State, ∃ k : Nat, ∃ c : Cycle, (s.dev.calCore k).cycle = some c ∧ s.dev.rd P.CYC_STATE [k] = 6 ∧
      let ch := s.dev.rd P.SHUT_CH [k]
      c.settled = true ∧ (s.dev.sh ch).openOk = true ∧ (s.dev.sh ch).latch = false) ∧
    (∃ s : State, ∃ k : Nat, ∃ c : Cycle, (s.dev.calCore k).cycle = some c ∧ s.dev.rd P.CYC_STATE [k] = 6 ∧
      let ch := s.dev.rd P.SHUT_CH [k]
      (s.dev.sh ch).latch = true) ∧
    (∃ s : State, ∃ k : Nat, ∃ c : Cycle, (s.dev.calCore k).cycle = some c ∧ s.dev.rd P.CYC_STATE [k] = 6 ∧ c.settled = true) ∧
    (∃ s : State, ∃ k : Nat, ∃ c : Cycle, (s.dev.calCore k).cycle = some c ∧ s.dev.rd P.CYC_STATE [k] = 7 ∧
      s.dev.gatherPending k c = true) ∧
    (∃ s : State, ∃ k : Nat, ∃ c : Cycle, (s.dev.calCore k).cycle = some c ∧ s.dev.rd P.CYC_STATE [k] = 7 ∧
      s.dev.gatherPending k c = false ∧ c.aborted = true) ∧
    (∃ s : State, ∃ k : Nat, ∃ c : Cycle, (s.dev.calCore k).cycle = some c ∧ s.dev.rd P.CYC_STATE [k] = 7 ∧
      s.dev.gatherPending k c = false ∧ c.aborted = false ∧ s.here.coverageGood k c = false) ∧
    (∃ s : State, ∃ k : Nat, ∃ c : Cycle, (s.dev.calCore k).cycle = some c ∧ s.dev.rd P.CYC_STATE [k] = 7 ∧
      s.dev.gatherPending k c = false ∧ c.aborted = false ∧ s.here.coverageGood k c = true) ∧
    (∃ s : State, ∃ k : Nat, ∃ j : BulkJob, ∃ l : List BulkJob, ∃ m : List BulkJob, s.dev.nv.bulkQ = l ++ j :: m ∧ j.why =
      .learned k ∧ ((∀ x ∈ l, ∀ k, x.why ≠ .learned k)) ∧ s.dev.bulkUp = true) ∧
    (∃ s : State, ∃ k : Nat, ∃ j : BulkJob, ∃ l : List BulkJob, ∃ m : List BulkJob, s.dev.nv.bulkQ = l ++ j :: m ∧ j.why =
      .learned k ∧ ((∀ x ∈ l, ∀ k, x.why ≠ .learned k))) :=
  ⟨⟨st (phase 5 (cycle0)), 63, cycle0, by decide +kernel, by decide +kernel⟩,
   ⟨st (phase 6 (cycle0)), 63, cycle0, by decide +kernel, by decide +kernel, by decide +kernel⟩,
   ⟨st ((phase 6 ({ cycle0 with settled := true })).setSh 5 { dev0.sh 5 with openOk := true }), 63,
     { cycle0 with settled := true }, by decide +kernel, by decide +kernel, by decide +kernel, by decide +kernel,
     by decide +kernel⟩,
   ⟨st ((phase 6 (cycle0)).setSh 5 { dev0.sh 5 with latch := true }), 63, cycle0, by decide +kernel, by decide +kernel,
     by decide +kernel⟩,
   ⟨st (phase 6 ({ cycle0 with settled := true })), 63, { cycle0 with settled := true }, by decide +kernel, by decide +kernel,
     by decide +kernel⟩,
   ⟨st ((phase 7 (cycle0)).setStrm 63 { tiny.strm 63 with frames := [frame0 63 0] }), 63, cycle0, by decide +kernel,
     by decide +kernel, by decide +kernel⟩,
   ⟨st (phase 7 ({ cycle0 with aborted := true })), 63, { cycle0 with aborted := true }, by decide +kernel, by decide +kernel,
     by decide +kernel, by decide +kernel⟩,
   ⟨st (phase 7 (cycle0)), 63, cycle0, by decide +kernel, by decide +kernel, by decide +kernel, by decide +kernel,
     by decide +kernel⟩,
   ⟨st ((phase 7 ({ cycle0 with px := KMap.ofList [(0, ⟨12, 1200, 120000, 0⟩)] })).tblWrite (pixTable 63) 0 (List.replicate 5 1 ++ List.replicate 27 0)),
     63, { cycle0 with px := KMap.ofList [(0, ⟨12, 1200, 120000, 0⟩)] }, by decide +kernel, by decide +kernel,
     by decide +kernel, by decide +kernel, by decide +kernel⟩,
   ⟨st { dev0.wr P.BULK_PRESENT [] 1 with nv := { dev0.nv with bulkQ := [job0] } }, 63, job0, [], [], by decide +kernel,
     by decide +kernel, by simp, by decide +kernel⟩,
   ⟨st { dev0 with nv := { dev0.nv with bulkQ := [job0] } }, 63, job0, [], [], by decide +kernel, by decide +kernel, by simp⟩⟩

/-- What `Obligations.SeamPeriods` assumes is met. -/
theorem meets_SeamPeriods :
    (∃ s : State, s.dev.awake = false) ∧
    (∃ s : State, s.dev.awake = true) ∧
    (∃ s : State, s.dev.awake = true ∧ s.dev.boot.running = true) ∧
    (∃ s : State, ∃ g : Nat, s.dev.cal.solves.get? g = none) ∧
    (∃ s : State, ∃ g : Nat, ∃ v : Solve, s.dev.cal.solves.get? g = some v ∧ v.ticket = none) ∧
    (∃ s : State, ∃ g : Nat, ∃ v : Solve, s.dev.cal.solves.get? g = some v ∧ ∃ t, v.ticket = some t ∧ ((∀ w ∈
      (s.dev.cal.solves.del g).vals, w.ticket ≠ some t))) :=
  ⟨⟨st held, by decide +kernel⟩,
   ⟨st (fusing (slot0 4990000000)), by decide +kernel⟩,
   ⟨st dev0, by decide +kernel, by decide +kernel⟩,
   ⟨st dev0, 3, by decide +kernel⟩,
   ⟨st (solving none), 2, ⟨none, [], .empty⟩, by decide +kernel, by decide +kernel⟩,
   ⟨st (solving (some tick0)), 2, ⟨some tick0, [], .empty⟩, by decide +kernel, tick0, by decide +kernel, by decide +kernel⟩⟩

/-- What `Obligations.PublicationAndHits` assumes is met. -/
theorem meets_PublicationAndHits :
    (∃ s : State, ∃ p : Nat, s.dev.slot? p = none) ∧
    (∃ s : State, ∃ p : Nat, ∃ i : Nat, ∃ c : Nat, ∃ x : Slot, ∃ v : View, s.dev.slot? p = some x ∧ s.dev.awake = true ∧
      x.lead = some i ∧ x.views[i]? = some v ∧ v.recent s.dev.now = true ∧ v.capture = some c ∧ v.done = false ∧
      s.dev.publishes p c = true ∧
      let gap := 1000000000 / s.dev.rd P.OUT_RATE_MAX - 2000000
      x.pubs ≠ 0 ∧ c < x.lastPub + gap) ∧
    (∃ s : State, ∃ p : Nat, ∃ i : Nat, ∃ c : Nat, ∃ x : Slot, ∃ v : View, s.dev.slot? p = some x ∧ s.dev.awake = true ∧
      x.lead = some i ∧ x.views[i]? = some v ∧ v.recent s.dev.now = true ∧ v.capture = some c ∧ v.done = false ∧
      s.dev.publishes p c = true ∧
      let gap := 1000000000 / s.dev.rd P.OUT_RATE_MAX - 2000000
      ((x.pubs = 0 ∨ x.lastPub + gap ≤ c))) ∧
    (∃ s : State, ∃ p : Nat, ∃ x : Slot, s.dev.slot? p = some x ∧ s.dev.awake = true ∧ s.dev.mute = false ∧ s.dev.owns p =
      true ∧
      let e := s.here.reach (x.pubAt + ms (s.dev.rd P.HOLD_PERIOD))
      e.leadAt p x e.now ≠ none) ∧
    (∃ s : State, ∃ p : Nat, ∃ x : Slot, s.dev.slot? p = some x ∧ s.dev.awake = true ∧ s.dev.mute = false ∧ s.dev.owns p =
      true ∧
      let e := s.here.reach (x.pubAt + ms (s.dev.rd P.HOLD_PERIOD))
      e.leadAt p x e.now = none) ∧
    (∃ s : State, s.dev.fus.regs = []) ∧
    (∃ s : State, ∃ g : Session6, s.dev.awake = true ∧ (s.dev.fus.regs.find? fun x => !x.blinking) = some g) ∧
    (∃ s : State, ∃ g : Session6, s.dev.awake = true ∧ (s.dev.fus.regs.find? (·.blinking)) = some g ∧ g.cores = []) ∧
    (∃ s : State, ∃ g : Session6, s.dev.awake = true ∧ (s.dev.fus.regs.find? (·.blinking)) = some g ∧ g.cores ≠ []) ∧
    (∃ s : State, s.dev.fus.hits = []) ∧
    (∃ s : State, ∃ h : List Nat, ∃ rest : List (List Nat), s.dev.awake = true ∧ s.dev.fus.hits = h :: rest ∧
      let a (i : Nat) : Nat := h.getD i 0
      let d : Dev := { s.here with fus := { s.dev.fus with hits := rest } }
      d.mapPixel (a 0) (a 1) (a 2) = none) ∧
    (∃ s : State, ∃ h : List Nat, ∃ rest : List (List Nat), s.dev.awake = true ∧ s.dev.fus.hits = h :: rest ∧
      let a (i : Nat) : Nat := h.getD i 0
      let d : Dev := { s.here with fus := { s.dev.fus with hits := rest } }
      ∃ t, ∃ cell, ∃ ang, ∃ row, d.mapPixel (a 0) (a 1) (a 2) = some (t, cell, ang) ∧ d.tile? t = some row ∧ d.mute = true) ∧
    (∃ s : State, ∃ h : List Nat, ∃ rest : List (List Nat), s.dev.awake = true ∧ s.dev.fus.hits = h :: rest ∧
      let a (i : Nat) : Nat := h.getD i 0
      let d : Dev := { s.here with fus := { s.dev.fus with hits := rest } }
      ∃ t, ∃ cell, ∃ ang, ∃ row, d.mapPixel (a 0) (a 1) (a 2) = some (t, cell, ang) ∧ d.tile? t = some row ∧
      let x : Hit := ⟨d.addr, a 0, a 3, a 4, a 5, a 6, a 7, a 8, t, cell⟩
      let o := d.ownerFor row.patch x.capture
      d.mute = false ∧ o = d.addr ∧ d.verdict row.patch x.capture = .use) ∧
    (∃ s : State, ∃ h : List Nat, ∃ rest : List (List Nat), s.dev.awake = true ∧ s.dev.fus.hits = h :: rest ∧
      let a (i : Nat) : Nat := h.getD i 0
      let d : Dev := { s.here with fus := { s.dev.fus with hits := rest } }
      ∃ t, ∃ cell, ∃ ang, ∃ row, d.mapPixel (a 0) (a 1) (a 2) = some (t, cell, ang) ∧ d.tile? t = some row ∧
      let x : Hit := ⟨d.addr, a 0, a 3, a 4, a 5, a 6, a 7, a 8, t, cell⟩
      let o := d.ownerFor row.patch x.capture
      d.mute = false ∧ o = d.addr ∧ d.verdict row.patch x.capture ≠ .use) ∧
    (∃ s : State, ∃ h : List Nat, ∃ rest : List (List Nat), s.dev.awake = true ∧ s.dev.fus.hits = h :: rest ∧
      let a (i : Nat) : Nat := h.getD i 0
      let d : Dev := { s.here with fus := { s.dev.fus with hits := rest } }
      ∃ t, ∃ cell, ∃ ang, ∃ row, d.mapPixel (a 0) (a 1) (a 2) = some (t, cell, ang) ∧ d.tile? t = some row ∧
      let x : Hit := ⟨d.addr, a 0, a 3, a 4, a 5, a 6, a 7, a 8, t, cell⟩
      let o := d.ownerFor row.patch x.capture
      d.mute = false ∧ o ≠ d.addr ∧ d.route o = none) ∧
    (∃ s : State, ∃ h : List Nat, ∃ rest : List (List Nat), s.dev.awake = true ∧ s.dev.fus.hits = h :: rest ∧
      let a (i : Nat) : Nat := h.getD i 0
      let d : Dev := { s.here with fus := { s.dev.fus with hits := rest } }
      ∃ t, ∃ cell, ∃ ang, ∃ row, d.mapPixel (a 0) (a 1) (a 2) = some (t, cell, ang) ∧ d.tile? t = some row ∧
      let x : Hit := ⟨d.addr, a 0, a 3, a 4, a 5, a 6, a 7, a 8, t, cell⟩
      let o := d.ownerFor row.patch x.capture
      d.mute = false ∧ o ≠ d.addr ∧ (d.route o).isSome = true) :=
  ⟨⟨st dev0, 9, by decide +kernel⟩,
   ⟨st (fusing ({ slot0 4990000000 with pubs := 1, lastPub := 4989999999 })), 9, 0, 4990000000,
     { slot0 4990000000 with pubs := 1, lastPub := 4989999999 }, view0 4990000000, by decide +kernel, by decide +kernel,
     by decide +kernel, by decide +kernel, by decide +kernel, by decide +kernel, by decide +kernel, by decide +kernel,
     by decide +kernel, by decide +kernel⟩,
   ⟨st (fusing (slot0 4990000000)), 9, 0, 4990000000, slot0 4990000000, view0 4990000000, by decide +kernel,
     by decide +kernel, by decide +kernel, by decide +kernel, by decide +kernel, by decide +kernel, by decide +kernel,
     by decide +kernel, by decide +kernel⟩,
   ⟨st (fusing (slot0 4990000000)), 9, slot0 4990000000, by decide +kernel, by decide +kernel, by decide +kernel,
     by decide +kernel, by decide +kernel⟩,
   ⟨st (fusing (slot0 1)), 9, slot0 1, by decide +kernel, by decide +kernel, by decide +kernel, by decide +kernel,
     by decide +kernel⟩,
   ⟨st dev0, by decide +kernel⟩,
   ⟨st (registering (reg0 [63] false)), reg0 [63] false, by decide +kernel, by decide +kernel⟩,
   ⟨st (registering (reg0 [] true)), reg0 [] true, by decide +kernel, by decide +kernel, by decide +kernel⟩,
   ⟨st (registering (reg0 [63] true)), reg0 [63] true, by decide +kernel, by decide +kernel, by decide +kernel⟩,
   ⟨st dev0, by decide +kernel⟩,
   ⟨st (hitting (dev0) (hit0 4990000000)), hit0 4990000000, ([] : List (List Nat)), by decide +kernel, by decide +kernel,
     by decide +kernel⟩,
   ⟨st (hitting ((gridded 5 5).wr P.DEV_STATE [] 5) (hit0 4990000000)), hit0 4990000000, ([] : List (List Nat)),
     by decide +kernel, by decide +kernel, 0, 0, F32.zero, tileRow 0 (((imageSection (image0 5) 2)).take 40),
     by decide +kernel, by decide +kernel, by decide +kernel⟩,
   ⟨st (hitting (gridded 5 5) (hit0 4990000000)), hit0 4990000000, ([] : List (List Nat)), by decide +kernel,
     by decide +kernel, 0, 0, F32.zero, tileRow 0 (((imageSection (image0 5) 2)).take 40), by decide +kernel,
     by decide +kernel, by decide +kernel, by decide +kernel, by decide +kernel⟩,
   ⟨st (hitting ((gridded 5 6).setPlace 9 ⟨6, 2, 4, 5, none, false, none, none⟩) (hit0 4)), hit0 4, ([] : List (List Nat)),
     by decide +kernel, by decide +kernel, 0, 0, F32.zero, tileRow 0 (((imageSection (image0 5) 2)).take 40),
     by decide +kernel, by decide +kernel, by decide +kernel, by decide +kernel, by decide +kernel⟩,
   ⟨st (hitting (gridded 5 6) (hit0 4990000000)), hit0 4990000000, ([] : List (List Nat)), by decide +kernel,
     by decide +kernel, 0, 0, F32.zero, tileRow 0 (((imageSection (image0 5) 2)).take 40), by decide +kernel,
     by decide +kernel, by decide +kernel, by decide +kernel, by decide +kernel⟩,
   ⟨st (hitting ((gridded 5 6).wrs [(P.SL_LINK_EN, [7], 1), (P.SL_LINK_UP, [7], 1), (P.NEIGH, [7], 6)]) (hit0 4990000000)),
     hit0 4990000000, ([] : List (List Nat)), by decide +kernel, by decide +kernel, 0, 0, F32.zero,
     tileRow 0 (((imageSection (image0 5) 2)).take 40), by decide +kernel, by decide +kernel, by decide +kernel,
     by decide +kernel, by decide +kernel⟩⟩

/-- What `Obligations.TileBuses` assumes is met. -/
theorem meets_TileBuses :
    (∃ s : State, ∃ b : Nat, s.dev.awake = true ∧ b < 200 ∧ s.dev.is P.BUS_EN [b] = true ∧ (s.dev.bus b).window = none ∧
      s.dev.nextRecord b = none) ∧
    (∃ s : State, ∃ b : Nat, s.dev.awake = true ∧ b < 200 ∧ s.dev.is P.BUS_EN [b] = true ∧ (s.dev.bus b).window = none ∧ ∃ q,
      ∃ r, s.dev.nextRecord b = some (q, r)) ∧
    (∃ s : State, ∃ b : Nat, s.dev.awake = true ∧ b < 200 ∧ s.dev.is P.BUS_EN [b] = true ∧ (s.dev.bus b).window = none ∧
      s.dev.nextQuery b = none) ∧
    (∃ s : State, ∃ b : Nat, s.dev.awake = true ∧ b < 200 ∧ s.dev.is P.BUS_EN [b] = true ∧ (s.dev.bus b).window = none ∧ ∃ t,
      s.dev.nextQuery b = some t ∧
      let d := match (s.dev.attach t).queried with
          | some q => s.here.reach (q + sec (s.dev.rd P.HEALTH_PERIOD))
          | none => s.here
      let keys := (s.dev.busTiles b).map (·.tile) ++ [allQueue b]
      ((∀ q ∈ keys, ∀ r ∈ s.dev.queue q, r.kind = 1 ∧ d.clk ≤ r.origin + ms 1))) ∧
    (∃ s : State, ∃ b : Nat, s.dev.awake = true ∧ b < 200 ∧ s.dev.is P.BUS_EN [b] = true ∧ (s.dev.bus b).window = none ∧ ∃ t,
      s.dev.nextQuery b = some t ∧
      let d := match (s.dev.attach t).queried with
          | some q => s.here.reach (q + sec (s.dev.rd P.HEALTH_PERIOD))
          | none => s.here
      let keys := (s.dev.busTiles b).map (·.tile) ++ [allQueue b]
      ∃ q, ∃ r, q ∈ keys ∧ r ∈ s.dev.queue q ∧ ((r.kind ≠ 1 ∨ r.origin + ms 1 < d.clk))) ∧
    (∃ s : State, ∃ b : Nat, ((s.dev.awake = false ∨ s.dev.is P.BUS_EN [b] = false))) ∧
    (∃ s : State, ∃ t : Nat, ∃ row : TileRow, s.dev.tile? t = some row ∧ s.dev.awake = true ∧ row.dev = s.dev.addr) ∧
    (∃ s : State, ∃ t : Nat, ∃ row : TileRow, s.dev.tile? t = some row ∧ s.dev.awake = true ∧ row.dev = s.dev.addr ∧
      let a := s.dev.attach t
      a.silent = false) ∧
    (∃ s : State, ∃ t : Nat, ∃ row : TileRow, s.dev.tile? t = some row ∧ s.dev.awake = true ∧ row.dev = s.dev.addr ∧
      let a := s.dev.attach t
      a.silent = true) ∧
    (∃ s : State, ∃ t : Nat, ∃ row : TileRow, s.dev.tile? t = some row ∧ s.dev.awake = true ∧ row.dev = s.dev.addr ∧
      let a := s.dev.attach t
      ∃ tspec, ∃ pay, a.silent = true ∧ a.last = some (tspec, pay)) ∧
    (∃ s : State, ∃ b : Nat, (s.dev.bus b).window = none) ∧
    (∃ s : State, ∃ b : Nat, (s.dev.bus b).window = none) ∧
    (∃ s : State, ∃ b : Nat, ∃ t : Nat, (s.dev.bus b).window = some t ∧
      let a := s.dev.attach t
      a.missed < 2) ∧
    (∃ s : State, ∃ b : Nat, ∃ t : Nat, (s.dev.bus b).window = some t ∧
      let a := s.dev.attach t
      2 ≤ a.missed) ∧
    (∃ s : State, ∃ b : Nat, ∃ t : Nat, (s.dev.bus b).window = some t ∧ ∃ lead codes rest, recordIn (lead ++ codes ++ rest) = none) ∧
    (∃ s : State, ∃ b : Nat, ∃ t : Nat, (s.dev.bus b).window = some t ∧ ∃ lead codes rest r,
      recordIn (lead ++ codes ++ rest) = some r ∧ recordCrcOk r
      = false) ∧
    (∃ s : State, ∃ b : Nat, ∃ t : Nat, (s.dev.bus b).window = some t ∧ ∃ lead codes rest r,
      recordIn (lead ++ codes ++ rest) = some r ∧ recordCrcOk r
      = true ∧ isReplyOf t r = false) ∧
    (∃ s : State, ∃ b : Nat, ∃ t : Nat, (s.dev.bus b).window = some t ∧ ∃ lead codes rest r,
      recordIn (lead ++ codes ++ rest) = some r ∧ ∃ row,
      recordCrcOk r = true ∧ isReplyOf t r = true ∧ s.dev.attached.find? (fun r => decide (r.tile = t)) = some row) ∧
    (∃ s : State, ∃ f : SeamHdr, ∃ m : List Byte, ∃ t : Nat, ∃ row : TileRow, Receives f s.dev ∧ leAt m 0 4 % 2 ^ 18 = t ∧
      s.dev.tile? t = some row ∧ s.dev.awake = true ∧ row.dev = s.dev.addr ∧
      let c := (m.drop 16).drop 1
      let len := leAt c 0 2 % 1024
      byteAt (m.drop 16) 0 = 0xBC ∧ (m.drop 16).length = len ∧ 14 ≤ len ∧ recordCrcOk c = true) ∧
    (∃ s : State, ∃ f : SeamHdr, ∃ m : List Byte, ∃ p : Nat, Receives f s.dev ∧ s.dev.awake = true ∧ leAt m 0 4 % 2 ^ 22 = p ∧
      let pl := s.dev.place p
      let cap := leAt m 8 8
      s.dev.owns p = true ∧ ((pl.kept.isSome = true ∨ pl.tc < cap))) ∧
    (∃ s : State, ∃ f : SeamHdr, ∃ m : List Byte, ∃ p : Nat, Receives f s.dev ∧ s.dev.awake = true ∧ leAt m 0 4 % 2 ^ 22 = p ∧
      let pl := s.dev.place p
      let cap := leAt m 8 8
      s.dev.owns p = true ∧ pl.kept = none ∧ cap ≤ pl.tc) ∧
    (∃ s : State, ∃ f : SeamHdr, ∃ m : List Byte, ∃ p : Nat, Receives f s.dev ∧ s.dev.awake = true ∧ leAt m 0 4 % 2 ^ 22 = p ∧
      let pl := s.dev.place p
      let cap := leAt m 8 8
      ∃ x, s.dev.owns p = false ∧ leAt m 4 4 ≤ pl.epoch ∧ pl.lost = some x ∧ pl.forwards = true ∧ x.2.2.1 < cap ∧ pl.owner ≠
      0x3FF) ∧
    (∃ s : State, ∃ f : SeamHdr, ∃ m : List Byte, ∃ p : Nat, Receives f s.dev ∧ s.dev.awake = true ∧ leAt m 0 4 % 2 ^ 22 = p ∧
      let pl := s.dev.place p
      s.dev.owns p = false ∧ pl.lost = none ∧ pl.epoch < leAt m 4 4) ∧
    (∃ s : State, ∃ f : SeamHdr, ∃ m : List Byte, ∃ p : Nat, Receives f s.dev ∧ s.dev.awake = true ∧ leAt m 0 4 % 2 ^ 22 = p ∧
      let pl := s.dev.place p
      s.dev.owns p = false ∧ pl.lost = none ∧ leAt m 4 4 ≤ pl.epoch) ∧
    (∃ s : State, ∃ f : SeamHdr, Receives f s.dev ∧ s.dev.awake = false) :=
  ⟨⟨st bused, 199, by decide +kernel, by decide +kernel, by decide +kernel, by decide +kernel, by decide +kernel⟩,
   ⟨st (bused.setQueue 0 [trec0]), 199, by decide +kernel, by decide +kernel, by decide +kernel, by decide +kernel, 0, trec0,
     by decide +kernel⟩,
   ⟨st ((tiled 6).wr P.BUS_EN [199] 1), 199, by decide +kernel, by decide +kernel, by decide +kernel, by decide +kernel,
     by decide +kernel⟩,
   ⟨st bused, 199, by decide +kernel, by decide +kernel, by decide +kernel, by decide +kernel, 0, by decide +kernel,
     by decide +kernel⟩,
   ⟨st (bused.setQueue (allQueue 199) [{ trec0 with kind := 2 }]), 199, by decide +kernel, by decide +kernel,
     by decide +kernel, by decide +kernel, 0, by decide +kernel, allQueue 199, { trec0 with kind := 2 }, by decide +kernel,
     by decide +kernel, by decide +kernel⟩,
   ⟨st dev0, 199, by decide +kernel⟩,
   ⟨st bused, 0, tileRow 0 (((imageSection (image0 5) 2)).take 40), by decide +kernel, by decide +kernel, by decide +kernel⟩,
   ⟨st bused, 0, tileRow 0 (((imageSection (image0 5) 2)).take 40), by decide +kernel, by decide +kernel, by decide +kernel,
     by decide +kernel⟩,
   ⟨st (bused.setAttach 0 { bused.attach 0 with silent := true }), 0, tileRow 0 (((imageSection (image0 5) 2)).take 40),
     by decide +kernel, by decide +kernel, by decide +kernel, by decide +kernel⟩,
   ⟨st (bused.setAttach 0 { bused.attach 0 with silent := true, last := some ([0, 0, 0, 0, 0], [1]) }), 0,
     tileRow 0 (((imageSection (image0 5) 2)).take 40), by decide +kernel, by decide +kernel, by decide +kernel,
     [0, 0, 0, 0, 0], [1], by decide +kernel, by decide +kernel⟩,
   ⟨st bused, 199, by decide +kernel⟩,
   ⟨st bused, 199, by decide +kernel⟩,
   ⟨st (windowed 1), 199, 0, by decide +kernel, by decide +kernel⟩,
   ⟨st (windowed 2), 199, 0, by decide +kernel, by decide +kernel⟩,
   ⟨st (windowed 2), 199, 0, by decide +kernel, [], [0], [], by decide +kernel⟩,
   ⟨st (windowed 2), 199, 0, by decide +kernel, [], codes0 [44, 0, 1], [], [44, 0, 1], by decide +kernel, by decide +kernel⟩,
   ⟨st (windowed 2), 199, 0, by decide +kernel, [], codes0 (tileRecord ⟨1, 6, false, [], [], 0, 0⟩), [],
     tileRecord ⟨1, 6, false, [], [], 0, 0⟩, by decide +kernel, by decide +kernel, by decide +kernel⟩,
   ⟨st (windowed 2), 199, 0, by decide +kernel, [], codes0 reply0, [], reply0, by decide +kernel,
     tileRow 0 (((imageSection (image0 5) 2)).take 40), by decide +kernel, by decide +kernel, by decide +kernel⟩,
   ⟨st ((bused).wrs [(P.SL_LINK_EN, [7], 1), (P.SL_LINK_UP, [7], 1), (P.NEIGH, [7], 6)]), hdr 2 5 true,
     (leBytes 16 0 ++ [0xBC] ++ tileRecord ⟨0, 2, false, [], leBytes 16 0, 0, 0⟩), 0,
     tileRow 0 (((imageSection (image0 5) 2)).take 40), received (by decide +kernel), by decide +kernel, by decide +kernel,
     by decide +kernel, by decide +kernel, by decide +kernel, by decide +kernel, by decide +kernel, by decide +kernel⟩,
   ⟨st ((placed 5 5).wrs [(P.SL_LINK_EN, [7], 1), (P.SL_LINK_UP, [7], 1), (P.NEIGH, [7], 6)]), hdr 2 5 true,
     (leBytes 4 9 ++ leBytes 4 2 ++ leBytes 8 5 ++ leBytes 2 6 ++ [63, 0, 0, 0]), 9, received (by decide +kernel),
     by decide +kernel, by decide +kernel, by decide +kernel, by decide +kernel⟩,
   ⟨st ((placed 5 5).wrs [(P.SL_LINK_EN, [7], 1), (P.SL_LINK_UP, [7], 1), (P.NEIGH, [7], 6)]), hdr 2 5 true,
     (leBytes 4 9 ++ leBytes 4 2 ++ leBytes 8 4 ++ leBytes 2 6 ++ [63, 0, 0, 0]), 9, received (by decide +kernel),
     by decide +kernel, by decide +kernel, by decide +kernel, by decide +kernel, by decide +kernel⟩,
   ⟨st (((placed 5 6).setPlace 9 ⟨6, 3, 4, 5, some (6, 3, 4, 2), false, none, none⟩).wrs [(P.SL_LINK_EN, [7], 1), (P.SL_LINK_UP, [7], 1), (P.NEIGH, [7], 6)]),
     hdr 2 5 true, (leBytes 4 9 ++ leBytes 4 2 ++ leBytes 8 5 ++ leBytes 2 6 ++ [63, 0, 0, 0]), 9,
     received (by decide +kernel), by decide +kernel, by decide +kernel, (6, 3, 4, 2), by decide +kernel, by decide +kernel,
     by decide +kernel, by decide +kernel, by decide +kernel, by decide +kernel⟩,
   ⟨st ((placed 6 6).wrs [(P.SL_LINK_EN, [7], 1), (P.SL_LINK_UP, [7], 1), (P.NEIGH, [7], 6)]), hdr 2 5 true,
     (leBytes 4 9 ++ leBytes 4 3 ++ leBytes 8 5 ++ leBytes 2 6 ++ [63, 0, 0, 0]), 9, received (by decide +kernel),
     by decide +kernel, by decide +kernel, by decide +kernel, by decide +kernel, by decide +kernel⟩,
   ⟨st ((placed 6 6).wrs [(P.SL_LINK_EN, [7], 1), (P.SL_LINK_UP, [7], 1), (P.NEIGH, [7], 6)]), hdr 2 5 true,
     (leBytes 4 9 ++ leBytes 4 2 ++ leBytes 8 5 ++ leBytes 2 6 ++ [63, 0, 0, 0]), 9, received (by decide +kernel),
     by decide +kernel, by decide +kernel, by decide +kernel, by decide +kernel, by decide +kernel⟩,
   ⟨st (linked.wr P.DEV_STATE [] 3), hdr 2 5 true, received (by decide +kernel), by decide +kernel⟩⟩

/-- What `Obligations.MemoryEvents` assumes is met. -/
theorem meets_MemoryEvents :
    (∃ s : State, ∃ n : Nat, ∃ b : Nat, s.dev.alive = true ∧ n < 16 ∧ b < 8 ∧ s.dev.is P.SR [n] = false ∧
      let k := 8 * n + b
      let d := s.here.settleOwed n
      let owed := d.mem.owed.get k 0
      let limit := if s.dev.rd P.MR4_CODE [n] ≤ 3 then s.dev.rd P.REF_POSTPONE else 0
      d.mem.paying.get? n = none ∧ owed < limit) ∧
    (∃ s : State, ∃ n : Nat, ∃ b : Nat, s.dev.alive = true ∧ n < 16 ∧ b < 8 ∧ s.dev.is P.SR [n] = false ∧
      let k := 8 * n + b
      let d := s.here.settleOwed n
      let owed := d.mem.owed.get k 0
      let limit := if s.dev.rd P.MR4_CODE [n] ≤ 3 then s.dev.rd P.REF_POSTPONE else 0
      d.mem.paying.get? n = none ∧ limit ≤ owed) ∧
    (∃ s : State, ∃ n : Nat, ∃ b : Nat, s.dev.alive = true ∧ n < 16 ∧ b < 8 ∧ s.dev.is P.SR [n] = false ∧
      let d := s.here.settleOwed n
      d.mem.paying.get? n = none) ∧
    (∃ s : State, ∃ n : Nat, ∃ b : Nat, s.dev.alive = true ∧ n < 16 ∧ b < 8 ∧ s.dev.is P.SR [n] = false ∧
      let d := s.here.settleOwed n
      (d.mem.paying.get? n).isSome = true) ∧
    (∃ s : State, ∃ n : Nat, ∃ b : Nat, s.dev.alive = true ∧ n < 16 ∧ b < 8 ∧ s.dev.is P.SR [n] = false ∧
      let d := s.here.settleOwed n
      d.rankBusy n = false) ∧
    (∃ s : State, ∃ n : Nat, ∃ b : Nat, s.dev.alive = true ∧ n < 16 ∧ b < 8 ∧ s.dev.is P.SR [n] = false ∧
      let d := s.here.settleOwed n
      d.rankBusy n = true) ∧
    (∃ s : State, ∃ n : Nat, s.dev.is P.SR [n] = true) ∧
    (∃ s : State, s.dev.alive = true ∧ s.dev.rd P.DEV_STATE ≠ 3) ∧
    (∃ s : State, s.dev.is P.FSP_BUSY = false) ∧
    (∃ s : State, s.dev.is P.FSP_BUSY = true ∧ s.dev.awake = true) ∧
    (∃ s : State, ∃ n : Nat, s.dev.alive = true ∧ n < 16 ∧ s.dev.is P.SR [n] = false) ∧
    (∃ s : State, ∃ n : Nat, ∃ bank : Nat, ∃ row : Nat, ∃ col : Nat, ∃ port : Nat, s.dev.alive = true ∧ n < 16 ∧ s.dev.is P.SR
      [n] = false ∧
      let noted (kind : Nat) : Dev := s.here.wrs [(P.ERR_RANK, [], n), (P.ERR_BANK, [], bank), (P.ERR_ROW, [], row),
          (P.ERR_KIND, [], kind), (P.ERR_MODE, [], s.dev.rd P.MEM_MODE), (P.ERR_COL, [], col), (P.ERR_PORT, [], port), (P.PD, [n], 0)]
      let ce := (((noted 1).bump P.CE_CNT [n]).countHour n).setMem 0 n
      ∃ e, e ∈ [DramErr.corrected, .bytes 1] ∧ ce.rd P.CE_HOUR [n] < ce.rd P.CE_LIMIT) ∧
    (∃ s : State, ∃ n : Nat, ∃ bank : Nat, ∃ row : Nat, ∃ col : Nat, ∃ port : Nat, s.dev.alive = true ∧ n < 16 ∧ s.dev.is P.SR
      [n] = false ∧
      let noted (kind : Nat) : Dev := s.here.wrs [(P.ERR_RANK, [], n), (P.ERR_BANK, [], bank), (P.ERR_ROW, [], row),
          (P.ERR_KIND, [], kind), (P.ERR_MODE, [], s.dev.rd P.MEM_MODE), (P.ERR_COL, [], col), (P.ERR_PORT, [], port), (P.PD, [n], 0)]
      let ce := (((noted 1).bump P.CE_CNT [n]).countHour n).setMem 0 n
      ∃ e, e ∈ [DramErr.corrected, .bytes 1] ∧ ce.rd P.CE_LIMIT ≤ ce.rd P.CE_HOUR [n]) ∧
    (∃ s : State, ∃ n : Nat, s.dev.alive = true ∧ n < 16 ∧ s.dev.is P.SR [n] = false ∧ ∃ e, e ∈ [DramErr.uncorrectable, .bytes
      2, .misplaced]) ∧
    (∃ s : State, s.dev.is P.MIG_ACTIVE = false) ∧
    (∃ s : State, s.dev.is P.MIG_ACTIVE = true ∧ s.dev.awake = true ∧
      let src := s.dev.rd P.MIG_SRC
      ∃ x, ((List.range (s.dev.rd P.N_SVC)).find? fun x => decide (s.dev.rankOf x = src)) = some x) ∧
    (∃ s : State, ∃ c : Nat, s.dev.mem.scans.get? c = none) ∧
    (∃ s : State, ∃ c : Nat, ∃ x : Scan, s.dev.mem.scans.get? c = some x ∧ x.stopping = true) ∧
    (∃ s : State, ∃ c : Nat, ∃ n : Nat, ∃ x : Scan, s.dev.mem.scans.get? c = some x ∧
      let y : Scan := { x with counts := x.counts ++ [n] }
      x.stopping = false ∧ y.counts.length < (scanRange x.type).2) ∧
    (∃ s : State, ∃ c : Nat, ∃ n : Nat, ∃ x : Scan, s.dev.mem.scans.get? c = some x ∧
      let y : Scan := { x with counts := x.counts ++ [n] }
      x.stopping = false ∧ (scanRange x.type).2 ≤ y.counts.length ∧ x.todo = []) ∧
    (∃ s : State, ∃ c : Nat, ∃ n : Nat, ∃ x : Scan, s.dev.mem.scans.get? c = some x ∧
      let y : Scan := { x with counts := x.counts ++ [n] }
      ∃ l, ∃ todo, x.stopping = false ∧ (scanRange x.type).2 ≤ y.counts.length ∧ x.todo = l :: todo) :=
  ⟨⟨st (dev0.wrs [(P.REF_POSTPONE, [], 8), (P.MR4_CODE, [15], 3)]), 15, 7, by decide +kernel, by decide +kernel,
     by decide +kernel, by decide +kernel, by decide +kernel, by decide +kernel⟩,
   ⟨st (dev0.wr P.MR4_CODE [15] 5), 15, 7, by decide +kernel, by decide +kernel, by decide +kernel, by decide +kernel,
     by decide +kernel, by decide +kernel⟩,
   ⟨st dev0, 15, 7, by decide +kernel, by decide +kernel, by decide +kernel, by decide +kernel, by decide +kernel⟩,
   ⟨st { dev0 with mem := { dev0.mem with paying := dev0.mem.paying.put 15 9000000000, owed := dev0.mem.owed.put 127 2 } },
     15, 7, by decide +kernel, by decide +kernel, by decide +kernel, by decide +kernel, by decide +kernel⟩,
   ⟨st dev0, 15, 7, by decide +kernel, by decide +kernel, by decide +kernel, by decide +kernel, by decide +kernel⟩,
   ⟨st { dev0 with mem := { dev0.mem with owed := dev0.mem.owed.put 127 2 } }, 15, 7, by decide +kernel, by decide +kernel,
     by decide +kernel, by decide +kernel, by decide +kernel⟩,
   ⟨st (dev0.wr P.SR [15] 1), 15, by decide +kernel⟩,
   ⟨st dev0, by decide +kernel, by decide +kernel⟩,
   ⟨st dev0, by decide +kernel⟩,
   ⟨st (dev0.wr P.FSP_BUSY [] 1), by decide +kernel, by decide +kernel⟩,
   ⟨st dev0, 15, by decide +kernel, by decide +kernel, by decide +kernel⟩,
   ⟨st (dev0.wr P.CE_LIMIT [] 100), 15, 1, 2, 3, 4, by decide +kernel, by decide +kernel, by decide +kernel, .corrected,
     by simp, by decide +kernel⟩,
   ⟨st (dev0.wr P.CE_LIMIT [] 1), 15, 1, 2, 3, 4, by decide +kernel, by decide +kernel, by decide +kernel, .bytes 1, by simp,
     by decide +kernel⟩,
   ⟨st dev0, 15, by decide +kernel, by decide +kernel, by decide +kernel, .misplaced, by simp⟩,
   ⟨st dev0, by decide +kernel⟩,
   ⟨st migrating, by decide +kernel, by decide +kernel, 0, by decide +kernel⟩,
   ⟨st dev0, 7, by decide +kernel⟩,
   ⟨st (scanned [] [] true), 7, { scan0 with counts := [], todo := [], stopping := true }, by decide +kernel,
     by decide +kernel⟩,
   ⟨st (scanned [] [] false), 7, 3, { scan0 with counts := [], todo := [], stopping := false }, by decide +kernel,
     by decide +kernel, by decide +kernel⟩,
   ⟨st (scanned (List.replicate 40 0) [] false), 7, 3,
     { scan0 with counts := (List.replicate 40 0), todo := [], stopping := false }, by decide +kernel, by decide +kernel,
     by decide +kernel, by decide +kernel⟩,
   ⟨st (scanned (List.replicate 40 0) [2] false), 7, 3,
     { scan0 with counts := (List.replicate 40 0), todo := [2], stopping := false }, by decide +kernel, 2, [],
     by decide +kernel, by decide +kernel, by decide +kernel⟩⟩

/-- What `Obligations.ConverterEvents` assumes is met. -/
theorem meets_ConverterEvents :
    (∃ s : State, ∃ m : Nat, s.dev.alive = true ∧ s.dev.recalling = false ∧ m < 4) ∧
    (∃ s : State, s.dev.recalling = true) ∧
    (∃ s : State, ∃ m : Nat, (s.dev.mod m).cal = none) ∧
    (∃ s : State, ∃ m : Nat, ∃ c : CalStep, (s.dev.mod m).cal = some c ∧ ((c.waiting = true ∨ c.raws.length < 8))) ∧
    (∃ s : State, ∃ m : Nat, ∃ c : CalStep, (s.dev.mod m).cal = some c ∧ s.dev.alive = true ∧ c.waiting = false ∧ 8 ≤
      c.raws.length ∧ c.step = 0) ∧
    (∃ s : State, ∃ m : Nat, ∃ c : CalStep, (s.dev.mod m).cal = some c ∧ s.dev.alive = true ∧ c.waiting = false ∧ 8 ≤
      c.raws.length ∧
      let mean := meanRaw c.raws
      let zero := ((s.dev.mod m).zero.map (·.raw)).getD 0
      let g : Int := if mean = zero then 0
          else rndDiv ((if mean < zero then -1 else 1) * (s.dev.rd P.CAL_FS_CODE [m] : Int) * 2 ^ 22) (mean - zero).natAbs
      c.step ≠ 0 ∧ ((g < 0x200000 ∨ 0x600000 < g))) ∧
    (∃ s : State, ∃ m : Nat, ∃ c : CalStep, (s.dev.mod m).cal = some c ∧ s.dev.alive = true ∧ c.waiting = false ∧ 8 ≤
      c.raws.length ∧
      let mean := meanRaw c.raws
      let zero := ((s.dev.mod m).zero.map (·.raw)).getD 0
      let g : Int := if mean = zero then 0
          else rndDiv ((if mean < zero then -1 else 1) * (s.dev.rd P.CAL_FS_CODE [m] : Int) * 2 ^ 22) (mean - zero).natAbs
      c.step ≠ 0 ∧ 0x200000 ≤ g ∧ g ≤ 0x600000) ∧
    (∃ s : State, s.dev.alive = true ∧ s.dev.rd P.DEV_STATE = 3) ∧
    (∃ s : State, s.dev.rd P.DEV_STATE ≠ 3) :=
  ⟨⟨st dev0, 3, by decide +kernel, by decide +kernel, by decide +kernel⟩,
   ⟨st (dev0.wr P.NV_STATE [] 0), by decide +kernel⟩,
   ⟨st dev0, 3, by decide +kernel⟩,
   ⟨st (calibrating { calStep0 0 5 with waiting := true }), 3, { calStep0 0 5 with waiting := true }, by decide +kernel,
     by decide +kernel⟩,
   ⟨st (calibrating (calStep0 0 (-5))), 3, calStep0 0 (-5), by decide +kernel, by decide +kernel, by decide +kernel,
     by decide +kernel, by decide +kernel⟩,
   ⟨st (((calibrating (calStep0 1 (3))).wr P.CAL_FS_CODE [3] 4000000)), 3, calStep0 1 (3), by decide +kernel,
     by decide +kernel, by decide +kernel, by decide +kernel, by decide +kernel, by decide +kernel⟩,
   ⟨st (((calibrating (calStep0 1 (4000000))).wr P.CAL_FS_CODE [3] 4000000)), 3, calStep0 1 (4000000), by decide +kernel,
     by decide +kernel, by decide +kernel, by decide +kernel, by decide +kernel, by decide +kernel, by decide +kernel⟩,
   ⟨st (dev0.wr P.DEV_STATE [] 3), by decide +kernel, by decide +kernel⟩,
   ⟨st dev0, by decide +kernel⟩⟩

/-- What `Obligations.ShutterEvents` assumes is met. -/
theorem meets_ShutterEvents :
    (∃ s : State, ∃ n : Nat, n < 64 ∧ s.dev.drv n ≠ 2) ∧
    (∃ s : State, ∃ n : Nat, n < 64 ∧ s.dev.energised n = false) ∧
    (∃ s : State, ∃ n : Nat, n < 64 ∧ s.dev.drv n ≠ 4) ∧
    (∃ s : State, ∃ n : Nat, n < 64 ∧ (s.dev.sh n).diag = none) ∧
    (∃ s : State, ∃ n : Nat, n < 64 ∧ s.dev.energised n = false ∧ s.dev.drv n ≠ 4) ∧
    (∃ s : State, ∃ n : Nat, ∃ mA : Nat, n < 64 ∧ s.dev.drv n = 2 ∧
      let d := s.here.reach ((s.dev.sh n).since + ms (s.dev.rd P.PULL_T [n]))
      let d := (d.wrs [(P.I_MEAS, [n], min 2047 mA), (P.DRV_STATE, [n], 3)]).refreshPair n
      let d := if 100 * mA < 90 * d.rd P.PULL_I [n] then d.set (.shd 8) (8, n) (d.shData n 0) else d
      let d := d.flagSettles n
      d.drv (partner n) ≠ 1) ∧
    (∃ s : State, ∃ n : Nat, ∃ mA : Nat, n < 64 ∧ s.dev.drv n = 2 ∧
      let d := s.here.reach ((s.dev.sh n).since + ms (s.dev.rd P.PULL_T [n]))
      let d := (d.wrs [(P.I_MEAS, [n], min 2047 mA), (P.DRV_STATE, [n], 3)]).refreshPair n
      let d := if 100 * mA < 90 * d.rd P.PULL_I [n] then d.set (.shd 8) (8, n) (d.shData n 0) else d
      let d := d.flagSettles n
      d.drv (partner n) = 1) ∧
    (∃ s : State, ∃ n : Nat, n < 64 ∧ s.dev.energised n = true ∧ ((s.dev.cycleOn n = none ∨ s.dev.rd P.OWNER [n] ≠ 1))) ∧
    (∃ s : State, ∃ n : Nat, n < 64 ∧ s.dev.energised n = true ∧ ∃ k, s.dev.cycleOn n = some k ∧ s.dev.rd P.OWNER [n] = 1) ∧
    (∃ s : State, ∃ n : Nat, n < 64 ∧ s.dev.drv n = 4) ∧
    (∃ s : State, ∃ n : Nat, ∃ f : ShFault, n < 64 ∧ (((s.dev.energised n = true ∧ (f = .openLoad → s.dev.shut.low = false)) ∨
      (s.dev.drv n = 4 ∧ f ≠ .openLoad)))) ∧
    (∃ s : State, ∃ n : Nat, ∃ mv : Nat, ∃ why : DiagWhy, (s.dev.sh n).diag = some why ∧ s.dev.energised n = false ∧ ((∀ c,
      why ≠ .clear c)) ∧
      let code := diagCode (decide (s.dev.drv (partner n) ∈ [2, 3, 4])) mv
      diagFault code = none) ∧
    (∃ s : State, ∃ n : Nat, ∃ mv : Nat, ∃ why : DiagWhy, (s.dev.sh n).diag = some why ∧ s.dev.energised n = false ∧ ((∀ c,
      why ≠ .clear c)) ∧
      let code := diagCode (decide (s.dev.drv (partner n) ∈ [2, 3, 4])) mv
      ∃ f, diagFault code = some f) ∧
    (∃ s : State, ∃ n : Nat, ∃ c : Nat, (s.dev.sh n).diag = some (.clear c) ∧ s.dev.energised n = false) ∧
    (∃ s : State, ∃ n : Nat, n < 64 ∧ s.dev.awake = true ∧ s.dev.recalling = false ∧ s.dev.rd P.DIAG_PERIOD ≠ 0 ∧ s.dev.is
      P.CH_EN [n] = true ∧ (s.dev.sh (partner n)).diag = none) ∧
    (∃ s : State, ∃ n : Nat, n < 64 ∧ s.dev.awake = true ∧ s.dev.recalling = false ∧ ((s.dev.rd P.DIAG_PERIOD = 0 ∨ s.dev.is
      P.CH_EN [n] = false))) ∧
    (∃ s : State, ∃ j : Nat, j < 32 ∧ s.dev.awake = true ∧ ((s.dev.is P.HS_ON [j] = true ∨ s.dev.shut.stuck.contains j =
      true))) ∧
    (∃ s : State, ∃ j : Nat, j < 32 ∧ s.dev.awake = true ∧ s.dev.is P.HS_ON [j] = false ∧ s.dev.shut.stuck.contains j = false) ∧
    (∃ s : State, ∃ mv : Nat, s.dev.awake = true ∧ 10500 ≤ mv) ∧
    (∃ s : State, ∃ mv : Nat, s.dev.awake = true ∧ 8000 ≤ mv ∧ mv < 10500) ∧
    (∃ s : State, ∃ mv : Nat, s.dev.awake = true ∧ mv < 8000) ∧
    (∃ s : State, s.dev.alive = true ∧ s.dev.awake = false) :=
  ⟨⟨st dev0, 63, by decide +kernel, by decide +kernel⟩,
   ⟨st dev0, 63, by decide +kernel, by decide +kernel⟩,
   ⟨st dev0, 63, by decide +kernel, by decide +kernel⟩,
   ⟨st dev0, 63, by decide +kernel, by decide +kernel⟩,
   ⟨st dev0, 63, by decide +kernel, by decide +kernel, by decide +kernel⟩,
   ⟨st (driven 2), 62, 300, by decide +kernel, by decide +kernel, by decide +kernel⟩,
   ⟨st ((driven 2).wr P.DRV_STATE [63] 1), 62, 300, by decide +kernel, by decide +kernel, by decide +kernel⟩,
   ⟨st (driven 3), 62, by decide +kernel, by decide +kernel, by decide +kernel⟩,
   ⟨st (((phase 4 cycle0).wrs [(P.DRV_STATE, [5], 3), (P.OWNER, [5], 1)])), 5, by decide +kernel, by decide +kernel, 63,
     by decide +kernel, by decide +kernel⟩,
   ⟨st (driven 4), 62, by decide +kernel, by decide +kernel⟩,
   ⟨st (driven 4), 62, .shortGround, by decide +kernel, by decide +kernel⟩,
   ⟨st (diagnosed .plain), 62, 1999, .plain, by decide +kernel, by decide +kernel, nofun, by decide +kernel⟩,
   ⟨st (diagnosed .plain), 62, 0, .plain, by decide +kernel, by decide +kernel, nofun,
     (diagFault (diagCode (decide ((diagnosed .plain).drv (partner 62) ∈ [2, 3, 4])) 0)).getD .openLoad, by decide +kernel⟩,
   ⟨st (diagnosed (.clear 62)), 62, 62, by decide +kernel, by decide +kernel⟩,
   ⟨st (shut63.wr P.DIAG_PERIOD [] 10), 63, by decide +kernel, by decide +kernel, by decide +kernel, by decide +kernel,
     by decide +kernel, by decide +kernel⟩,
   ⟨st dev0, 63, by decide +kernel, by decide +kernel, by decide +kernel, by decide +kernel⟩,
   ⟨st (dev0.wr P.HS_ON [31] 1), 31, by decide +kernel, by decide +kernel, by decide +kernel⟩,
   ⟨st dev0, 31, by decide +kernel, by decide +kernel, by decide +kernel, by decide +kernel⟩,
   ⟨st dev0, 10500, by decide +kernel, by decide +kernel⟩,
   ⟨st dev0, 8000, by decide +kernel, by decide +kernel, by decide +kernel⟩,
   ⟨st dev0, 7999, by decide +kernel, by decide +kernel⟩,
   ⟨st (dev0.wr P.DEV_STATE [] 3), by decide +kernel, by decide +kernel⟩⟩

/-- What `Obligations.StoreEvents` assumes is met. -/
theorem meets_StoreEvents :
    (∃ s : State, s.dev.nv.commit = none ∧ s.dev.nv.buf = []) ∧
    (∃ s : State, s.dev.alive = true ∧ s.dev.recalling = false ∧ s.dev.nv.commit = none ∧ s.dev.nv.buf ≠ []) ∧
    (∃ s : State, s.dev.nv.commit = none) ∧
    (∃ s : State, ∃ c : Commit, ∃ p : Prog, s.dev.nv.commit = some c ∧ s.dev.alive = true ∧
      let first := c.recs.headD (closingRecord c.batch 0)
      let d := if p = .retired then s.here.retireFor first else s.here
      let written := (d.nv.writeBatch c.batch c.recs).bind fun nv => nv.write (closingRecord c.batch c.recs.length) 0 false
      ∃ nv, p ≠ .failed ∧ written = some nv) ∧
    (∃ s : State, ∃ c : Commit, ∃ p : Prog, s.dev.nv.commit = some c ∧ s.dev.alive = true ∧
      let first := c.recs.headD (closingRecord c.batch 0)
      let d := if p = .retired then s.here.retireFor first else s.here
      let written := (d.nv.writeBatch c.batch c.recs).bind fun nv => nv.write (closingRecord c.batch c.recs.length) 0 false
      ((p = .failed ∨ written = none))) ∧
    (∃ s : State, ∃ a : Nat, s.dev.alive = true ∧ s.dev.recalling = false ∧ a < 8 ∧ twinArea a = false) ∧
    (∃ s : State, ∃ a : Nat, s.dev.alive = true ∧ s.dev.recalling = false ∧ a < 8 ∧ twinArea a = true) ∧
    (∃ s : State, ∃ a : Nat, s.dev.alive = true ∧ s.dev.recalling = false ∧ 8 ≤ a) ∧
    (∃ s : State, s.dev.scanDue = false) ∧
    (∃ s : State, ∃ prog : Nat, s.dev.awake = true ∧ s.dev.recalling = false ∧ s.dev.scanDue = true ∧ prog < 100) ∧
    (∃ s : State, ∃ prog : Nat, s.dev.awake = true ∧ s.dev.recalling = false ∧ s.dev.scanDue = true ∧ 100 ≤ prog) ∧
    (∃ s : State, s.dev.rd P.NV_STATE ≠ 0) ∧
    (∃ s : State, s.dev.alive = true ∧ s.dev.rd P.NV_STATE = 0) ∧
    (∃ s : State, s.dev.bulkUp = false) ∧
    (∃ s : State, s.dev.bulkUp = false) ∧
    (∃ s : State, s.dev.alive = true ∧ s.dev.bulkUp = true) ∧
    (∃ s : State, ∃ j : BulkJob, ∃ l : List BulkJob, ∃ m : List BulkJob, s.dev.alive = true ∧ s.dev.bulkUp = true ∧
      s.dev.nv.bulkQ = l ++ j :: m ∧ ((∀ x ∈ l, ∃ k, x.why = .learned k)) ∧ ((∀ k, j.why ≠ .learned k))) :=
  ⟨⟨st dev0, by decide +kernel, by decide +kernel⟩,
   ⟨st buffered, by decide +kernel, by decide +kernel, by decide +kernel, by decide +kernel⟩,
   ⟨st dev0, by decide +kernel⟩,
   ⟨st committing, commit0, .good, by decide +kernel, by decide +kernel,
     ((committing.nv.writeBatch 1 [rec0]).bind fun nv => nv.write (closingRecord 1 1) 0 false).getD dev0.nv,
     by decide +kernel, by decide +kernel⟩,
   ⟨st committing, commit0, .failed, by decide +kernel, by decide +kernel, by decide +kernel⟩,
   ⟨st dev0, 4, by decide +kernel, by decide +kernel, by decide +kernel, by decide +kernel⟩,
   ⟨st dev0, 0, by decide +kernel, by decide +kernel, by decide +kernel, by decide +kernel⟩,
   ⟨st dev0, 8, by decide +kernel, by decide +kernel, by decide +kernel⟩,
   ⟨st dev0, by decide +kernel⟩,
   ⟨st { dev0 with nv := { dev0.nv with scan := some 3 } }, 99, by decide +kernel, by decide +kernel, by decide +kernel,
     by decide +kernel⟩,
   ⟨st { dev0 with nv := { dev0.nv with scan := some 3 } }, 100, by decide +kernel, by decide +kernel, by decide +kernel,
     by decide +kernel⟩,
   ⟨st dev0, by decide +kernel⟩,
   ⟨st (dev0.wr P.NV_STATE [] 0), by decide +kernel, by decide +kernel⟩,
   ⟨st dev0, by decide +kernel⟩,
   ⟨st dev0, by decide +kernel⟩,
   ⟨st (dev0.wr P.BULK_PRESENT [] 1), by decide +kernel, by decide +kernel⟩,
   ⟨st { dev0.wr P.BULK_PRESENT [] 1 with nv := { dev0.nv with bulkQ := [job0, { job0 with why := .grid 0 }] } },
     { job0 with why := .grid 0 }, [job0], [], by decide +kernel, by decide +kernel, by decide +kernel, by simp [job0],
     by simp⟩⟩

/-- What `Obligations.ResetCauses` assumes is met. -/
theorem meets_ResetCauses :
    (∃ s : State, ∃ low : Nat, s.dev.boot.inReset = false ∧ 1000 ≤ low) ∧
    (∃ s : State, ∃ low : Nat, s.dev.boot.inReset = false ∧ low < 960) ∧
    (∃ s : State, s.dev.boot.inReset = false) ∧
    (∃ s : State, s.dev.boot.inReset = true) ∧
    (∃ s : State, ∃ rail : Nat, s.dev.watches rail = true) ∧
    (∃ s : State, ∃ rail : Nat, s.dev.watches rail = false) ∧
    (∃ s : State, s.dev.boot.inReset = false) ∧
    (∃ s : State, s.dev.boot.inReset = true) :=
  ⟨⟨st dev0, 1000, by decide +kernel, by decide +kernel⟩,
   ⟨st dev0, 959, by decide +kernel, by decide +kernel⟩,
   ⟨st dev0, by decide +kernel⟩,
   ⟨st held, by decide +kernel⟩,
   ⟨st dev0, 9, by decide +kernel⟩,
   ⟨st dev0, 10, by decide +kernel⟩,
   ⟨st dev0, by decide +kernel⟩,
   ⟨st held, by decide +kernel⟩⟩

/-- What `Obligations.StartUp` assumes is met. -/
theorem meets_StartUp :
    (∃ s : State, s.dev.alive = true ∧ s.dev.recalling = false ∧ s.dev.boot.memTested = false) ∧
    (∃ s : State, ((s.dev.recalling = true ∨ s.dev.boot.memTested = true))) ∧
    (∃ s : State, s.dev.alive = true ∧ s.dev.boot.memTested = true ∧ s.dev.boot.verified = false ∧ s.dev.rd P.DEV_STATE = 0) ∧
    (∃ s : State, s.dev.alive = true ∧ s.dev.boot.verified = true ∧ s.dev.boot.started = false ∧ s.dev.rd P.DEV_STATE = 0) ∧
    (∃ s : State, ((s.dev.boot.verified = false ∨ s.dev.boot.started = true))) ∧
    (∃ s : State, s.dev.serving = true ∧ s.dev.boot.confRecalled = false ∧
      let d : Dev := { s.here with boot := { s.dev.boot with confRecalled := true } }
      let d := (d.bulkRead 0x0B0000).bulkRead 0x0B0001
      let imgs := if d.bulkUp then ([0x0B0000, 0x0B0001] : List Nat).filterMap fun r => (d.nv.bulkGood r).map (·.data) else []
      let held := (d.nv.stored 2 activationRid).bind fun a => imgs.find? fun i => digestOf i == a.drop 4
      let e := match held with
          | some img => (d.underSurface img).wrs [(P.CFG_GEN, [], leAt img 0 4), (P.CFG_DIG_LO, [], leAt (digestOf img) 0 4),
              (P.CFG_DIG_HI, [], leAt (digestOf img) 4 4)]
          | none => d
      let newer := imgs.find? fun i => decide (e.rd P.CFG_GEN < leAt i 0 4) && surfaceValid i
      ((newer = none ∨ e.plc.stage ≠ none))) ∧
    (∃ s : State, s.dev.serving = true ∧ s.dev.boot.confRecalled = false ∧
      let d : Dev := { s.here with boot := { s.dev.boot with confRecalled := true } }
      let d := (d.bulkRead 0x0B0000).bulkRead 0x0B0001
      let imgs := if d.bulkUp then ([0x0B0000, 0x0B0001] : List Nat).filterMap fun r => (d.nv.bulkGood r).map (·.data) else []
      let held := (d.nv.stored 2 activationRid).bind fun a => imgs.find? fun i => digestOf i == a.drop 4
      let e := match held with
          | some img => (d.underSurface img).wrs [(P.CFG_GEN, [], leAt img 0 4), (P.CFG_DIG_LO, [], leAt (digestOf img) 0 4),
              (P.CFG_DIG_HI, [], leAt (digestOf img) 4 4)]
          | none => d
      let newer := imgs.find? fun i => decide (e.rd P.CFG_GEN < leAt i 0 4) && surfaceValid i
      ∃ img, newer = some img ∧ e.plc.stage = none) ∧
    (∃ s : State, s.dev.boot.confRecalled = true) ∧
    (∃ s : State, s.dev.alive = true ∧ s.dev.clk ≤ ms 20 ∧ s.dev.rd P.DEV_STATE = 0) ∧
    (∃ s : State, ((ms 20 < s.dev.clk ∨ s.dev.rd P.DEV_STATE ≠ 0))) ∧
    (∃ s : State, s.dev.alive = true ∧ s.dev.boot.running = true) ∧
    (∃ s : State, s.dev.boot.running = false) ∧
    (∃ s : State, s.dev.alive = true ∧ s.dev.boot.running = false ∧ s.dev.boot.started = true ∧ s.dev.halted = false ∧
      s.dev.rd P.DEV_STATE ≠ 7) ∧
    (∃ s : State, ((s.dev.boot.running = true ∨ s.dev.halted = true ∨ s.dev.rd P.DEV_STATE = 7))) ∧
    (∃ s : State, s.dev.boot.trial = none) ∧
    (∃ s : State, ∃ x, s.dev.boot.trial = some x) ∧
    (∃ s : State, s.dev.boot.session = none) ∧
    (∃ s : State, ∃ x, s.dev.boot.session = some x ∧ x.committing = true) ∧
    (∃ s : State, ∃ x, s.dev.boot.session = some x ∧ x.committing = false) ∧
    (∃ s : State, s.dev.boot.challenge = none) ∧
    (∃ s : State, ∃ x, s.dev.boot.challenge = some x) :=
  ⟨⟨st { dev0 with boot := { dev0.boot with memTested := false } }, by decide +kernel, by decide +kernel, by decide +kernel⟩,
   ⟨st dev0, by decide +kernel⟩,
   ⟨st { dev0.wr P.DEV_STATE [] 0 with boot := { dev0.boot with verified := false } }, by decide +kernel, by decide +kernel,
     by decide +kernel, by decide +kernel⟩,
   ⟨st { dev0.wr P.DEV_STATE [] 0 with boot := { dev0.boot with started := false } }, by decide +kernel, by decide +kernel,
     by decide +kernel, by decide +kernel⟩,
   ⟨st dev0, by decide +kernel⟩,
   ⟨st { dev0 with boot := { dev0.boot with confRecalled := false } }, by decide +kernel, by decide +kernel,
     by decide +kernel⟩,
   ⟨st { dev0.wr P.BULK_PRESENT [] 1 with boot := { dev0.boot with confRecalled := false }, nv := { dev0.nv with bulk := [⟨0x0B0001, 11, 0, image0 5, true, false⟩] } },
     by decide +kernel, by decide +kernel, image0 5, by decide +kernel, by decide +kernel⟩,
   ⟨st dev0, by decide +kernel⟩,
   ⟨st { dev0.wr P.DEV_STATE [] 0 with clk := 20000000 }, by decide +kernel, by decide +kernel, by decide +kernel⟩,
   ⟨st dev0, by decide +kernel⟩,
   ⟨st dev0, by decide +kernel, by decide +kernel⟩,
   ⟨st { dev0 with boot := { dev0.boot with running := false } }, by decide +kernel⟩,
   ⟨st { dev0 with boot := { dev0.boot with running := false } }, by decide +kernel, by decide +kernel, by decide +kernel,
     by decide +kernel, by decide +kernel⟩,
   ⟨st dev0, by decide +kernel⟩,
   ⟨st dev0, by decide +kernel⟩,
   ⟨st { dev0 with boot := { dev0.boot with trial := some trial0 } }, trial0, by decide +kernel⟩,
   ⟨st dev0, by decide +kernel⟩,
   ⟨st { dev0 with boot := { dev0.boot with session := some { session0 with committing := true } } },
     { session0 with committing := true }, by decide +kernel, by decide +kernel⟩,
   ⟨st { dev0 with boot := { dev0.boot with session := some session0 } }, session0, by decide +kernel, by decide +kernel⟩,
   ⟨st dev0, by decide +kernel⟩,
   ⟨st { dev0 with boot := { dev0.boot with challenge := some chal0 } }, chal0, by decide +kernel⟩⟩

/-- What `Obligations.ServicePort` assumes is met. -/
theorem meets_ServicePort :
    (∃ s : State, s.dev.awake = false) ∧
    (∃ s : State, s.dev.awake = true ∧ s.dev.boot.svcOut = []) ∧
    (∃ s : State, s.dev.awake = true ∧ ∃ t, ∃ b, ∃ rest, s.dev.boot.svcOut = (t, b) :: rest) ∧
    (∃ s : State, s.dev.awake = true) ∧
    (∃ s : State, s.dev.awake = true) ∧
    (∃ s : State, ∃ b : List Byte, s.dev.awake = true ∧
      let len := leAt b 1 2
      let whole := b.length = len + 5 ∧ leAt b (3 + len) 2 = crc16 (b.take (3 + len))
      ¬whole) ∧
    (∃ s : State, ∃ b : List Byte, s.dev.awake = true ∧
      let len := leAt b 1 2
      let whole := b.length = len + 5 ∧ leAt b (3 + len) 2 = crc16 (b.take (3 + len))
      whole ∧ byteAt b 0 = 1) ∧
    (∃ s : State, ∃ b : List Byte, s.dev.awake = true ∧
      let len := leAt b 1 2
      let whole := b.length = len + 5 ∧ leAt b (3 + len) 2 = crc16 (b.take (3 + len))
      whole ∧ byteAt b 0 = 3 ∧ s.dev.clk ≤ ms 20 ∧ s.dev.rd P.DEV_STATE = 0) ∧
    (∃ s : State, ∃ b : List Byte, s.dev.awake = true ∧
      let len := leAt b 1 2
      let whole := b.length = len + 5 ∧ leAt b (3 + len) 2 = crc16 (b.take (3 + len))
      whole ∧ byteAt b 0 ∉ [1, 3, 4]) ∧
    (∃ s : State, ∃ m : List Byte, ∃ c : Instr, s.dev.awake = true ∧ m.length < 65536 ∧ c ∈ [Instr.debugRequest m, .svcSend
      (svcFrame 4 m) true] ∧
      let target := byteAt m 1
      debugLevel target = none) ∧
    (∃ s : State, ∃ m : List Byte, ∃ c : Instr, s.dev.awake = true ∧ m.length < 65536 ∧ c ∈ [Instr.debugRequest m, .svcSend
      (svcFrame 4 m) true] ∧
      let target := byteAt m 1
      ∃ l, debugLevel target = some l ∧ s.dev.boot.access < l) ∧
    (∃ s : State, ∃ m : List Byte, ∃ c : Instr, s.dev.awake = true ∧ m.length < 65536 ∧ c ∈ [Instr.debugRequest m, .svcSend
      (svcFrame 4 m) true] ∧
      let target := byteAt m 1
      let count := leAt m 2 2
      ∃ l, debugLevel target = some l ∧ l ≤ s.dev.boot.access ∧ byteAt m 0 = 0 ∧ m.length = 12 ∧ 1 ≤ count ∧ count ≤ 256) ∧
    (∃ s : State, ∃ m : List Byte, ∃ c : Instr, s.dev.awake = true ∧ m.length < 65536 ∧ c ∈ [Instr.debugRequest m, .svcSend
      (svcFrame 4 m) true] ∧
      let target := byteAt m 1
      let count := leAt m 2 2
      ∃ l, debugLevel target = some l ∧ l ≤ s.dev.boot.access ∧ byteAt m 0 = 1 ∧ 1 ≤ count ∧ count ≤ 256 ∧ m.length = 12 + 4 *
      count) ∧
    (∃ s : State, ∃ m : List Byte, ∃ c : Instr, s.dev.awake = true ∧ m.length < 65536 ∧ c ∈ [Instr.debugRequest m, .svcSend
      (svcFrame 4 m) true] ∧
      let target := byteAt m 1
      ∃ l, debugLevel target = some l ∧ l ≤ s.dev.boot.access ∧ byteAt m 0 = 2 ∧ target ≤ 4) ∧
    (∃ s : State, ∃ m : List Byte, ∃ c : Instr, s.dev.awake = true ∧ m.length < 65536 ∧ c ∈ [Instr.debugRequest m, .svcSend
      (svcFrame 4 m) true] ∧
      let target := byteAt m 1
      ∃ l, debugLevel target = some l ∧ l ≤ s.dev.boot.access ∧ byteAt m 0 = 3 ∧ target ≤ 4) ∧
    (∃ s : State, ∃ m : List Byte, ∃ c : Instr, s.dev.awake = true ∧ m.length < 65536 ∧ c ∈ [Instr.debugRequest m, .svcSend
      (svcFrame 4 m) true] ∧
      let target := byteAt m 1
      ∃ l, debugLevel target = some l ∧ l ≤ s.dev.boot.access ∧ 4 < byteAt m 0) :=
  ⟨⟨st held, by decide +kernel⟩,
   ⟨st dev0, by decide +kernel, by decide +kernel⟩,
   ⟨st { dev0 with boot := { dev0.boot with svcOut := [(2, [1])] } }, by decide +kernel, 2, [1], [], by decide +kernel⟩,
   ⟨st dev0, by decide +kernel⟩,
   ⟨st dev0, by decide +kernel⟩,
   ⟨st dev0, [1], by decide +kernel, by decide +kernel⟩,
   ⟨st dev0, (svcFrame 1 [1, 2]), by decide +kernel, by decide +kernel, by decide +kernel⟩,
   ⟨st { dev0.wr P.DEV_STATE [] 0 with clk := 20000000 }, (svcFrame 3 []), by decide +kernel, by decide +kernel,
     by decide +kernel, by decide +kernel, by decide +kernel⟩,
   ⟨st dev0, (svcFrame 5 []), by decide +kernel, by decide +kernel, by decide +kernel⟩,
   ⟨st dev0, ([0, 0xFF] ++ leBytes 10 1), Instr.debugRequest ([0, 0xFF] ++ leBytes 10 1), by decide +kernel,
     by decide +kernel, by decide +kernel, by decide +kernel⟩,
   ⟨st dev0, ([0, 0] ++ leBytes 10 1), Instr.debugRequest ([0, 0] ++ leBytes 10 1), by decide +kernel, by decide +kernel,
     by decide +kernel, 1, by decide +kernel, by decide +kernel⟩,
   ⟨st { dev0 with boot := { dev0.boot with access := 3 } }, ([0, 0] ++ leBytes 2 256 ++ leBytes 8 0),
     Instr.debugRequest ([0, 0] ++ leBytes 2 256 ++ leBytes 8 0), by decide +kernel, by decide +kernel, by decide +kernel,
     (debugLevel (byteAt ([0, 0] ++ leBytes 2 256 ++ leBytes 8 0) 1)).getD 9, by decide +kernel, by decide +kernel,
     by decide +kernel, by decide +kernel, by decide +kernel, by decide +kernel⟩,
   ⟨st { dev0 with boot := { dev0.boot with access := 3 } }, ([1, 0] ++ leBytes 2 1 ++ leBytes 8 0 ++ [1, 2, 3, 4]),
     Instr.debugRequest ([1, 0] ++ leBytes 2 1 ++ leBytes 8 0 ++ [1, 2, 3, 4]), by decide +kernel, by decide +kernel,
     by decide +kernel, (debugLevel (byteAt ([1, 0] ++ leBytes 2 1 ++ leBytes 8 0 ++ [1, 2, 3, 4]) 1)).getD 9,
     by decide +kernel, by decide +kernel, by decide +kernel, by decide +kernel, by decide +kernel, by decide +kernel⟩,
   ⟨st { dev0 with boot := { dev0.boot with access := 3 } }, [2, 4], Instr.debugRequest [2, 4], by decide +kernel,
     by decide +kernel, by decide +kernel, (debugLevel (byteAt [2, 4] 1)).getD 9, by decide +kernel, by decide +kernel,
     by decide +kernel, by decide +kernel⟩,
   ⟨st { dev0 with boot := { dev0.boot with access := 3 } }, [3, 4], Instr.debugRequest [3, 4], by decide +kernel,
     by decide +kernel, by decide +kernel, (debugLevel (byteAt [3, 4] 1)).getD 9, by decide +kernel, by decide +kernel,
     by decide +kernel, by decide +kernel⟩,
   ⟨st { dev0 with boot := { dev0.boot with access := 3 } }, [5, 4], Instr.debugRequest [5, 4], by decide +kernel,
     by decide +kernel, by decide +kernel, (debugLevel (byteAt [5, 4] 1)).getD 9, by decide +kernel, by decide +kernel,
     by decide +kernel⟩⟩

/-- What `Obligations.HealthEvents` assumes is met. -/
theorem meets_HealthEvents :
    (∃ s : State, ∃ x : Nat, ∃ last : Nat, ∃ e : EvRec, s.dev.evt.hold.get? x = some ⟨last, some e⟩) ∧
    (∃ s : State, ∃ x : Nat, s.dev.evt.hold.get? x = none) ∧
    (∃ s : State, ∃ n : Nat, s.dev.evt.dq.get n [] = []) ∧
    (∃ s : State, ∃ n : Nat, ∃ e : EvRec, ∃ t : List EvRec, s.dev.evt.dq.get n [] = e :: t ∧ s.dev.destFree n = false) ∧
    (∃ s : State, ∃ n : Nat, ∃ e : EvRec, ∃ t : List EvRec, s.dev.evt.dq.get n [] = e :: t ∧ s.dev.alive = true ∧
      s.dev.destFree n = true) ∧
    (∃ s : State, ((s.dev.evt.logQ = [] ∨ s.dev.nv.imm ≠ []))) ∧
    (∃ s : State, ∃ e : EvRec, ∃ b : Bool, ∃ t : List (EvRec × Bool), s.dev.evt.logQ = (e, b) :: t ∧ s.dev.alive = true ∧
      s.dev.recalling = false ∧ s.dev.nv.imm = []) ∧
    (∃ s : State, s.dev.awake = false ∧ ∃ c : Instr, c ∈ [Instr.supplyGrade, .baselineStore, .linkHealth, .coreHealth]) ∧
    (∃ s : State, s.dev.awake = true) ∧
    (∃ s : State, s.dev.awake = true ∧ s.dev.recalling = false ∧ s.dev.attached = []) ∧
    (∃ s : State, s.dev.awake = true ∧ s.dev.recalling = false ∧ s.dev.attached ≠ []) ∧
    (∃ s : State, s.dev.alive = true ∧ s.dev.recalling = false) ∧
    (∃ s : State, s.dev.alive = true) :=
  ⟨⟨st { dev0 with evt := { dev0.evt with hold := dev0.evt.hold.put 133 ⟨4990000000, some ev0⟩ } }, 133, 4990000000, ev0,
     by decide +kernel⟩,
   ⟨st dev0, 133, by decide +kernel⟩,
   ⟨st dev0, 3, by decide +kernel⟩,
   ⟨st { dev0 with evt := { dev0.evt with dq := dev0.evt.dq.put 3 [ev0] } }, 3, ev0, [], by decide +kernel, by decide +kernel⟩,
   ⟨st { dev0.wr P.DKIND [3] 4 with evt := { dev0.evt with dq := dev0.evt.dq.put 3 [ev0] } }, 3, ev0, [], by decide +kernel,
     by decide +kernel, by decide +kernel⟩,
   ⟨st dev0, by decide +kernel⟩,
   ⟨st { dev0 with evt := { dev0.evt with logQ := [(ev0, true)] } }, ev0, true, [], by decide +kernel, by decide +kernel,
     by decide +kernel, by decide +kernel⟩,
   ⟨st held, by decide +kernel, .linkHealth, by decide +kernel⟩,
   ⟨st dev0, by decide +kernel⟩,
   ⟨st dev0, by decide +kernel, by decide +kernel, by decide +kernel⟩,
   ⟨st (tiled (5 + 57 * 1024)), by decide +kernel, by decide +kernel, by decide +kernel⟩,
   ⟨st dev0, by decide +kernel, by decide +kernel⟩,
   ⟨st dev0, by decide +kernel⟩⟩

/-- What `Obligations.NamedFormsComplete` assumes is met. -/
theorem meets_NamedFormsComplete :
    (∃ s : State, ∃ r : Req, r.params.length = 6 ∧ 1 ≤ leAt r.params 4 2 ∧ Serves ⟨0x0C00, .open_, false⟩ r s.dev ∧ leAt
      r.params 4 2 ≤ 21) ∧
    (∃ s : State, ∃ r : Req, r.params.length = 6 ∧ 1 ≤ leAt r.params 4 2 ∧ Serves ⟨0x0C02, .open_, false⟩ r s.dev ∧ leAt
      r.params 4 2 ≤ 19) ∧
    (∃ s : State, ∃ r : Req, Serves ⟨0x0C03, .open_, false⟩ r s.dev ∧ r.params = [0, 0]) ∧
    (∃ s : State, ∃ r : Req, ∃ x : Nat, Serves ⟨0x0C01, .operator, false⟩ r s.dev ∧ r.params.length = 4 ∧ leAt r.params 0 2 =
      x ∧ leAt r.params 2 2 = 0x81 ∧ x < 512 ∧ sourceKnown x = true ∧ s.dev.storeBusy = none) ∧
    (∃ s : State, ∃ r : Req, ∃ p : Nat, Serves ⟨0x4400, .device, false⟩ r s.dev ∧ r.params.length = 32 ∧ patchOf r = p ∧
      (s.dev.patch? p).isSome = true ∧ byteAt r.params 8 = 1 ∧ s.dev.isDirectory p = true) ∧
    (∃ s : State, ∃ r : Req, ∃ p : Nat, Serves ⟨0x4400, .device, false⟩ r s.dev ∧ r.params.length = 32 ∧ patchOf r = p ∧
      (s.dev.patch? p).isSome = true ∧ byteAt r.params 8 = 2 ∧ s.dev.isDirectory p = true) ∧
    (∃ s : State, ∃ r : Req, ∃ p : Nat, Serves ⟨0x4400, .device, false⟩ r s.dev ∧ r.params.length = 32 ∧ patchOf r = p ∧
      (s.dev.patch? p).isSome = true ∧ byteAt r.params 8 = 3 ∧ (s.dev.place p).epoch < leAt r.params 16 4) ∧
    (∃ s : State, ∃ r : Req, ∃ p : Nat, Serves ⟨0x4400, .device, false⟩ r s.dev ∧ r.params.length = 32 ∧ patchOf r = p ∧
      (s.dev.patch? p).isSome = true ∧ byteAt r.params 8 = 4 ∧ s.dev.isDirectory p = true) ∧
    (∃ s : State, ∃ r : Req, ∃ p : Nat, Serves ⟨0x4401, .device, false⟩ r s.dev ∧ r.params.length = 32 ∧ patchOf r = p ∧
      (s.dev.patch? p).isSome = true ∧ leAt r.params 16 4 = (s.dev.place p).epoch ∧ byteAt r.params 8 = 1 ∧ s.dev.handsOver p
      = true) ∧
    (∃ s : State, ∃ r : Req, ∃ p : Nat, Serves ⟨0x4401, .device, false⟩ r s.dev ∧ r.params.length = 32 ∧ patchOf r = p ∧
      (s.dev.patch? p).isSome = true ∧ leAt r.params 16 4 = (s.dev.place p).epoch ∧ ∃ h, byteAt r.params 8 = 2 ∧ s.dev.owns p
      = true ∧ s.dev.plc.handovers.get? p = some h) ∧
    (∃ s : State, ∃ r : Req, ∃ p : Nat, Serves ⟨0x4401, .device, false⟩ r s.dev ∧ r.params.length = 32 ∧ patchOf r = p ∧
      (s.dev.patch? p).isSome = true ∧ leAt r.params 16 4 = (s.dev.place p).epoch ∧ byteAt r.params 8 = 3 ∧ s.dev.handsOver p
      = true ∧ s.dev.owns p = false) ∧
    (∃ s : State, ∃ r : Req, ∃ e : List Byte, Serves ⟨0x4402, .device, false⟩ r s.dev ∧ r.params.drop 4 = e ∧ byteAt r.params
      1 = 1 ∧
      let p := leAt e 0 4 % 2 ^ 22
      ∃ v, byteAt r.params 0 = 1 ∧ e.length = 12 ∧ ((s.dev.slot? p).bind fun x => x.views.find? fun v => decide (v.dev =
      r.source ∧ v.core = leAt e 8 2 % 64)) = some v) ∧
    (∃ s : State, ∃ r : Req, ∃ e : List Byte, Serves ⟨0x4402, .device, false⟩ r s.dev ∧ r.params.drop 4 = e ∧ byteAt r.params
      1 = 1 ∧
      let p := leAt e 0 4 % 2 ^ 22
      ∃ k, ∃ c, byteAt r.params 0 = 2 ∧ e.length = 12 ∧ s.dev.awaits p = some k ∧ (s.dev.calCore k).cycle = some c ∧ byteAt e
      8 ≠ 3) ∧
    (∃ s : State, ∃ r : Req, ∃ e : List Byte, Serves ⟨0x4402, .device, false⟩ r s.dev ∧ r.params.drop 4 = e ∧ byteAt r.params
      1 = 1 ∧ byteAt r.params 0 = 3 ∧ e.length = 8) ∧
    (∃ s : State, ∃ r : Req, ∃ e : List Byte, Serves ⟨0x4402, .device, false⟩ r s.dev ∧ r.params.drop 4 = e ∧ byteAt r.params
      1 = 1 ∧ byteAt r.params 0 = 4 ∧ e.length = 24) ∧
    (∃ s : State, ∃ r : Req, ∃ e : List Byte, Serves ⟨0x4402, .device, false⟩ r s.dev ∧ r.params.drop 4 = e ∧ byteAt r.params
      1 = 1 ∧ byteAt r.params 0 = 5 ∧ e.length = 12) ∧
    (∃ s : State, ∃ u : Nat, s.dev.uplinkOn u = true ∧ ∃ vlan, ∃ target, s.dev.vlanOk u vlan = true ∧ s.dev.ownIp u false
      target = true ∧ s.dev.kcp.paused.get u 0 = 0) ∧
    (∃ s : State, ∃ u : Nat, s.dev.uplinkOn u = true ∧ ∃ vlan, ∃ v6, ∃ dst, s.dev.vlanOk u vlan = true ∧ s.dev.ownIp u v6 dst
      = true ∧ s.dev.kcp.paused.get u 0 = 0) ∧
    (∃ s : State, ∃ u : Nat, s.dev.uplinkOn u = true ∧ ∃ vlan, ∃ target, s.dev.vlanOk u vlan = true ∧ s.dev.ownIp u true
      target = true ∧ s.dev.kcp.paused.get u 0 = 0) ∧
    (∃ s : State, ∃ u : Nat, s.dev.uplinkOn u = true ∧ ∃ n, n ≠ 0 ∧ n < 65536) ∧
    (∃ s : State, ∃ u : Nat, s.dev.uplinkOn u = true ∧ ∃ t0, s.dev.kcp.paused.get? u = some t0) ∧
    (∃ s : State, ∃ u : Nat, s.dev.uplinkOn u = true) ∧
    (∃ s : State, ∃ u : Nat, s.dev.ptpOn u = true) ∧
    (∃ s : State, ∃ u : Nat, ∃ seq : Nat, s.dev.ptpOn u = true ∧
      let x := s.dev.ptp u
      ∃ at_, x.sync = some (seq, at_)) ∧
    (∃ s : State, ∃ u : Nat, ∃ seq : Nat, s.dev.ptpOn u = true ∧
      let d := s.here
      let x := s.dev.ptp u
      ∃ q, ∃ t1, ∃ t2, ∃ t3, x.sync = some (q, t2) ∧ x.origin = some t1 ∧ x.delayReq = some (seq, t3) ∧
      let e := (d.setPtp u { x with delayReq := none }).refreshTime
      e.rd P.TIME_SRC ≠ 1) ∧
    (∃ s : State, ∃ u : Nat, s.dev.ptpOn u = true ∧
      let x := s.dev.ptp u
      x.gm = none) ∧
    (∃ s : State, ∃ u : Nat, s.dev.ptpOn u = true ∧
      let x := s.dev.ptp u
      ∃ y, x.sync = some y) ∧
    (∃ s : State, ∃ l : Nat, ∃ vc : Nat, ∃ x : Nat, ∃ f : Frame, s.dev.linkOn l = true ∧ s.dev.streamAt l vc = some x ∧
      (s.dev.strm x).openFrame = some f) ∧
    (∃ s : State, ∃ l : Nat, ∃ vc : Nat, ∃ x : Nat, ∃ f : Frame, s.dev.linkOn l = true ∧ s.dev.streamAt l vc = some x ∧
      (s.dev.strm x).openFrame = some f ∧ isComp x = true) ∧
    (∃ s : State, ∃ l : Nat, ∃ vc : Nat, ∃ x : Nat, ∃ f : Frame, s.dev.linkOn l = true ∧ s.dev.streamAt l vc = some x ∧
      (s.dev.strm x).openFrame = some f ∧ s.dev.is P.LINE_NUM [coreOf x] = true) ∧
    (∃ s : State, ∃ l : Nat, ∃ vc : Nat, ∃ x : Nat, ∃ f : Frame, s.dev.linkOn l = true ∧ s.dev.streamAt l vc = some x ∧
      (s.dev.strm x).openFrame = some f) ∧
    (∃ s : State, ∃ x : Nat, ∃ last : Nat, ∃ e : EvRec, s.dev.evt.hold.get? x = some ⟨last, some e⟩) ∧
    (∃ s : State, ∃ n : Nat, ∃ e : EvRec, s.dev.evt.dq.get n [] = [e] ∧ s.dev.alive = true ∧ s.dev.destFree n = true ∧
      s.dev.evt.gap.contains n = false) ∧
    (∃ s : State, ∃ e : EvRec, ∃ b : Bool, ∃ q : List (EvRec × Bool), s.dev.evt.logQ = (e, b) :: q ∧ s.dev.alive = true ∧
      s.dev.recalling = false ∧ s.dev.nv.imm = []) ∧
    (∃ s : State, s.dev.awake = true) ∧
    (∃ s : State, s.dev.awake = true ∧ ∃ x, s.dev.recalling = false ∧ s.dev.attached = [x] ∧ (s.dev.supplyAt (supplyKey
      x)).base = none) ∧
    (∃ s : State, s.dev.alive = true ∧ s.dev.recalling = false) ∧
    (∃ s : State, s.dev.alive = true) :=
  ⟨⟨st dev0, ask 0x0C00 [0, 0, 0, 0, 21, 0], by decide +kernel, by decide +kernel,
     serves_ask (by decide +kernel) ⟨0x0C00, _, _⟩ _ nofun (by decide +kernel), by decide +kernel⟩,
   ⟨st dev0, ask 0x0C02 [0, 0, 0, 0, 19, 0], by decide +kernel, by decide +kernel,
     serves_ask (by decide +kernel) ⟨0x0C02, _, _⟩ _ nofun (by decide +kernel), by decide +kernel⟩,
   ⟨st dev0, ask 0x0C03 [0, 0], serves_ask (by decide +kernel) ⟨0x0C03, _, _⟩ _ nofun (by decide +kernel), by decide +kernel⟩,
   ⟨st dev0, ask 0x0C01 [133, 0, 0x81, 0], 133, serves_ask (by decide +kernel) ⟨0x0C01, _, _⟩ _ nofun (by decide +kernel),
     by decide +kernel, by decide +kernel, by decide +kernel, by decide +kernel, by decide +kernel, by decide +kernel⟩,
   ⟨st (placed 5 5), tell 0x4400 (placeBody 9 1 1 6 0x3FF 100 3 4900000000 0 1), 9,
     serves_tell (by decide +kernel) 0x4400 _ (by decide +kernel), by decide +kernel, by decide +kernel, by decide +kernel,
     by decide +kernel, by decide +kernel⟩,
   ⟨st (placed 5 5), tell 0x4400 (placeBody 9 2 1 5 0x3FF 100 3 4900000000 0 1), 9,
     serves_tell (by decide +kernel) 0x4400 _ (by decide +kernel), by decide +kernel, by decide +kernel, by decide +kernel,
     by decide +kernel, by decide +kernel⟩,
   ⟨st (placed 5 5), tell 0x4400 (placeBody 9 3 1 6 0x3FF 100 3 4900000000 0 1), 9,
     serves_tell (by decide +kernel) 0x4400 _ (by decide +kernel), by decide +kernel, by decide +kernel, by decide +kernel,
     by decide +kernel, by decide +kernel⟩,
   ⟨st (placed 5 5), tell 0x4400 (placeBody 9 4 1 5 0x3FF 100 3 4900000000 0 1), 9,
     serves_tell (by decide +kernel) 0x4400 _ (by decide +kernel), by decide +kernel, by decide +kernel, by decide +kernel,
     by decide +kernel, by decide +kernel⟩,
   ⟨st (placed 5 5), tell 0x4401 (placeBody 9 1 1 5 0x3FF 100 2 4900000000 0 1), 9,
     serves_tell (by decide +kernel) 0x4401 _ (by decide +kernel), by decide +kernel, by decide +kernel, by decide +kernel,
     by decide +kernel, by decide +kernel, by decide +kernel⟩,
   ⟨st { placed 5 5 with plc := { (placed 5 5).plc with handovers := KMap.ofList [(9, hand0)] } },
     tell 0x4401 (placeBody 9 2 1 5 0x3FF 100 2 4900000000 7 1), 9,
     serves_tell (by decide +kernel) 0x4401 _ (by decide +kernel), by decide +kernel, by decide +kernel, by decide +kernel,
     by decide +kernel, hand0, by decide +kernel, by decide +kernel, by decide +kernel⟩,
   ⟨st ((placed 5 6).setPlace 9 ⟨6, 2, 4, 5, none, false, none, none⟩),
     tell 0x4401 (placeBody 9 3 1 6 0x3FF 100 2 4900000000 0 1), 9,
     serves_tell (by decide +kernel) 0x4401 _ (by decide +kernel), by decide +kernel, by decide +kernel, by decide +kernel,
     by decide +kernel, by decide +kernel, by decide +kernel, by decide +kernel⟩,
   ⟨st (fusing ({ slot0 4990000000 with views := [{ view0 4990000000 with dev := 6 }] })),
     tell 0x4402 ([1, 1, 0, 0] ++ (leBytes 4 9 ++ leBytes 4 2 ++ leBytes 4 63)), (leBytes 4 9 ++ leBytes 4 2 ++ leBytes 4 63),
     serves_tell (by decide +kernel) 0x4402 _ (by decide +kernel), by decide +kernel, by decide +kernel,
     { view0 4990000000 with dev := 6 }, by decide +kernel, by decide +kernel, by decide +kernel⟩,
   ⟨st (awaiting 63), tell 0x4402 ([2, 1, 0, 0] ++ (leBytes 4 9 ++ leBytes 4 2 ++ leBytes 4 0)),
     (leBytes 4 9 ++ leBytes 4 2 ++ leBytes 4 0), serves_tell (by decide +kernel) 0x4402 _ (by decide +kernel),
     by decide +kernel, by decide +kernel, 63, waitCycle, by decide +kernel, by decide +kernel, by decide +kernel,
     by decide +kernel, by decide +kernel⟩,
   ⟨st (placed 5 5), tell 0x4402 ([3, 1, 0, 0] ++ (leBytes 4 9 ++ leBytes 4 63)), (leBytes 4 9 ++ leBytes 4 63),
     serves_tell (by decide +kernel) 0x4402 _ (by decide +kernel), by decide +kernel, by decide +kernel, by decide +kernel,
     by decide +kernel⟩,
   ⟨st dev0, tell 0x4402 ([4, 1, 0, 0] ++ (leBytes 4 0xC0000F ++ leBytes 4 2 ++ leBytes 8 7 ++ leBytes 8 25)),
     (leBytes 4 0xC0000F ++ leBytes 4 2 ++ leBytes 8 7 ++ leBytes 8 25),
     serves_tell (by decide +kernel) 0x4402 _ (by decide +kernel), by decide +kernel, by decide +kernel, by decide +kernel,
     by decide +kernel⟩,
   ⟨st dev0, tell 0x4402 ([5, 1, 0, 0] ++ (leBytes 4 0x10003F ++ leBytes 4 0xFFFFFFFF ++ leBytes 4 0x10)),
     (leBytes 4 0x10003F ++ leBytes 4 0xFFFFFFFF ++ leBytes 4 0x10),
     serves_tell (by decide +kernel) 0x4402 _ (by decide +kernel), by decide +kernel, by decide +kernel, by decide +kernel,
     by decide +kernel⟩,
   ⟨st upped, 3, by decide +kernel, none, 0x0A000005, by decide +kernel, by decide +kernel, by decide +kernel⟩,
   ⟨st upped, 3, by decide +kernel, none, false, 0x0A000005, by decide +kernel, by decide +kernel, by decide +kernel⟩,
   ⟨st upped, 3, by decide +kernel, none, upped.linkLocal 3, by decide +kernel, by decide +kernel, by decide +kernel⟩,
   ⟨st upped, 3, by decide +kernel, 65535, by decide +kernel, by decide +kernel⟩,
   ⟨st paused, 3, by decide +kernel, 6000000000, by decide +kernel⟩,
   ⟨st upped, 3, by decide +kernel⟩,
   ⟨st (timed none), 3, by decide +kernel⟩,
   ⟨st (timed none), 3, 7, by decide +kernel, 4900000000, by decide +kernel⟩,
   ⟨st (timed none), 3, 9, by decide +kernel, 7, 5900000000, 4900000000, 4950000000, by decide +kernel, by decide +kernel,
     by decide +kernel, by decide +kernel⟩,
   ⟨st (timed none), 3, by decide +kernel, by decide +kernel⟩,
   ⟨st (timed none), 3, by decide +kernel, (7, 4900000000), by decide +kernel⟩,
   ⟨st (seeing 63 [frame0 63 0]), 31, 0, 63, frame0 63 0, by decide +kernel, by decide +kernel, by decide +kernel⟩,
   ⟨st (seeing 127 [{ frame0 63 0 with tag := { tag0 63 0 with comp := true } }]), 31, 1, 127,
     { frame0 63 0 with tag := { tag0 63 0 with comp := true } }, by decide +kernel, by decide +kernel, by decide +kernel,
     by decide +kernel⟩,
   ⟨st (seeing 63 [frame0 63 0]), 31, 0, 63, frame0 63 0, by decide +kernel, by decide +kernel, by decide +kernel,
     by decide +kernel⟩,
   ⟨st (seeing 63 [frame0 63 0]), 31, 0, 63, frame0 63 0, by decide +kernel, by decide +kernel, by decide +kernel⟩,
   ⟨st { dev0 with evt := { dev0.evt with hold := dev0.evt.hold.put 133 ⟨4990000000, some ev0⟩ } }, 133, 4990000000, ev0,
     by decide +kernel⟩,
   ⟨st { dev0.wr P.DKIND [3] 4 with evt := { dev0.evt with dq := dev0.evt.dq.put 3 [ev0] } }, 3, ev0, by decide +kernel,
     by decide +kernel, by decide +kernel, by decide +kernel⟩,
   ⟨st { dev0 with evt := { dev0.evt with logQ := [(ev0, true)] } }, ev0, true, [], by decide +kernel, by decide +kernel,
     by decide +kernel, by decide +kernel⟩,
   ⟨st dev0, by decide +kernel⟩,
   ⟨st (tiled 5), by decide +kernel, tileRow 0 (((imageSection (image0 5) 2)).take 40), by decide +kernel, by decide +kernel,
     by decide +kernel⟩,
   ⟨st dev0, by decide +kernel, by decide +kernel⟩,
   ⟨st dev0, by decide +kernel⟩⟩

end Sys2Proof.Tests
end

/-! ## Little-endian fields of a reply -/

namespace Sys2Proof

@[simp] theorem leBytes_length (n v : Nat) : (leBytes n v).length = n := by
  induction n generalizing v with
  | zero => rfl
  | succ n ih => rw [leBytes, List.length_cons, ih]

/-- A table of `n` entries of `w` bytes each. -/
@[simp] theorem length_flatMap_leBytes (n w : Nat) (f : Nat → Nat) :
    ((List.range n).flatMap fun i => leBytes w (f i)).length = n * w := by
  induction n with
  | zero => rw [List.range_zero, List.flatMap_nil, List.length_nil, Nat.zero_mul]
  | succ n ih =>
    rw [List.range_succ, List.flatMap_append, List.length_append, ih, List.flatMap_singleton, leBytes_length, Nat.succ_mul]

end Sys2Proof

/-! ## The memory's status (R298) -/

namespace Sys2Proof.Machine

theorem lengthIs_eq_none {n : Nat} {r : Req} (h : r.params.length = n) : lengthIs n r = none := if_pos h

/-- Settles O22: the row's own check passes on a request without parameters, and its reply is the table of R298 read from the
device with migration and demand measured anew. -/
theorem memStatusLayout : Obligations.MemStatusLayout := by
  intro s r hs hp d
  refine ⟨_, ?_, rfl, ?_⟩
  · simp only [List.length_append, leBytes_length, length_flatMap_leBytes]
  · have hchk : lengthIs 0 r = none := lengthIs_eq_none (by rw [hp]; rfl)
    exact request_completes rfl rfl hs hchk rfl nofun nofun

end Sys2Proof.Machine

/-! ## The store's status (R367) -/

namespace Sys2Proof.Machine

/-- A table of `n` entries, each of a field of `v` bytes and one of `w` bytes. -/
@[simp] theorem length_flatMap_leBytes_pair (n v w : Nat) (f g : Nat → Nat) :
    ((List.range n).flatMap fun i => leBytes v (f i) ++ leBytes w (g i)).length = n * (v + w) := by
  have hentry (i : Nat) : (leBytes v (f i) ++ leBytes w (g i)).length = v + w := by
    rw [List.length_append, leBytes_length, leBytes_length]
  simp only [List.length_flatMap, hentry, List.map_const', List.sum_replicate_nat, List.length_range]

/-- Settles O23: the row only reports, its own check passes on a request without parameters, and its reply is the table of R367
read from the device that has taken the request. -/
theorem nvStatusLayout : Obligations.NvStatusLayout := by
  intro s r hs hp d
  refine ⟨_, ?_, rfl, ?_⟩
  · simp only [List.length_append, leBytes_length, length_flatMap_leBytes_pair]
  · have hchk : lengthIs 0 r = none := lengthIs_eq_none (by rw [hp]; rfl)
    exact request_completes rfl rfl hs hchk rfl nofun nofun

end Sys2Proof.Machine

/-! ## Every step runs a row -/

namespace Sys2Proof.Machine

/-- Every command's meaning is a row run on the block. -/
theorem exec_runs (c : Instr) (s : State) : ∃ f, exec c s = .next (s.run f) := by
  cases c <;> exact ⟨_, rfl⟩

/-- Every step is a row run on the device, with the queue's rest or an empty queue. -/
theorem step_runs (s : State) : ∃ (u : State) (f : Dev → Dev), u.dev = s.dev ∧ step s = .next (u.run f) := by
  unfold step
  cases s.pending with
  | nil => exact ⟨s, Dev.idle, rfl, rfl⟩
  | cons c rest =>
    obtain ⟨f, hf⟩ := exec_runs c { s with pending := rest }
    exact ⟨{ s with pending := rest }, f, rfl, hf⟩

/-- Settles O6: every step is a row run on the block, and a run ends by setting the pins from the device's state. -/
theorem pinsFollowState : Obligations.PinsFollowState := by
  intro s t h
  obtain ⟨u, f, -, hu⟩ := step_runs s
  rw [hu] at h
  cases h
  exact (run_follows u.dev f).pins

end Sys2Proof.Machine

/-! ## What the packet engine makes of a request it does not serve -/

namespace Sys2Proof.Machine

/-- A command that carries a request completes with what follows the engine's row, whatever that row's own checks and effect. -/
theorem completes_of_serve {c : Instr} {s : State} {op : Op} {r : Req} {post : Dev → Prop} (hq : requestOf s.here c = some (op, r))
    (h : ∀ chk act t, Follows (serve op chk act r s.here) t → post t) : Completes c s post := by
  obtain ⟨chk, act, hx⟩ := requestOf_serves hq
  exact completes_of_run hx (h chk act)

section
variable {op : Op} {chk : Dev → Req → Option Answer} {act : Dev → Req → Dev × Option Answer} {r : Req} {s : State}

/-- A request whose transport is off leaves the device as it was. -/
theorem serve_of_off (h : (s.dev.arrives r).1 = false) : serve op chk act r s.here = s.here := by
  show s.here.serveArriving op chk act r = s.here
  have h' : (s.here.arrives r).1 = false := h
  unfold Dev.serveArriving
  split
  · rfl
  all_goals
    rename_i ha
    rw [ha] at h'
    cases h'

/-- A request whose uplink drops its frame counts it. -/
theorem serve_of_dropped (h : s.dev.arrives r = (true, false)) :
    serve op chk act r s.here = s.here.bump P.UL_RX_DROP [r.host.uplink] := by
  show s.here.serveArriving op chk act r = _
  have ha : s.here.arrives r = (true, false) := h
  unfold Dev.serveArriving
  rw [ha]

/-- A request for this device that its transport takes goes on to steps 3 to 12 of R49. -/
theorem serve_of_here (h : s.dev.arrives r = (true, true)) (hd : s.dev.destOf r = .here) :
    serve op chk act r s.here = s.here.serveHere op chk act r := by
  have ha : s.here.arrives r = (true, true) := h
  have hd' : s.here.destOf r = .here := hd
  show s.here.serveArriving op chk act r = _
  unfold Dev.serveArriving
  rw [ha]
  dsimp only
  rw [hd']

/-- R45: what an unaddressed device does not take is turned away. -/
theorem serve_of_unaddressed (h : s.dev.arrives r = (true, true)) (hd : s.dev.destOf r = .unaddressed) :
    serve op chk act r s.here = s.here.answerOnly op.code r (refuse .denied 0x001B) (s.here.backOf r) := by
  have ha : s.here.arrives r = (true, true) := h
  have hd' : s.here.destOf r = .unaddressed := hd
  show s.here.serveArriving op chk act r = _
  unfold Dev.serveArriving
  rw [ha]
  dsimp only
  rw [hd']

/-- Steps 3 to 5 of R49 refuse. -/
theorem serve_of_early {a : Answer} (h : s.dev.arrives r = (true, true)) (hd : s.dev.destOf r = .here)
    (he : earlyChecks op r = some a) :
    serve op chk act r s.here = s.here.answerOnly op.code r a (s.here.backOf r) := by
  rw [serve_of_here h hd]
  unfold Dev.serveHere
  rw [he]

/-- Step 6 of R49 refuses. -/
theorem serve_of_authRefuse {a : Answer} {kept tagged : Bool} (h : s.dev.arrives r = (true, true)) (hd : s.dev.destOf r = .here)
    (he : earlyChecks op r = none) (ha : s.dev.authStep op r = .refuse a kept tagged) :
    serve op chk act r s.here =
      let b := if tagged then s.here.backOf r else (s.here.backOf r).untagged
      if kept then (s.here.takeCounter r).answer op.code r a b else s.here.answerOnly op.code r a b := by
  have ha' : s.here.authStep op r = .refuse a kept tagged := ha
  rw [serve_of_here h hd]
  unfold Dev.serveHere
  rw [he, ha']

/-- Step 6 of R49 passes. -/
theorem serve_of_pass (h : s.dev.arrives r = (true, true)) (hd : s.dev.destOf r = .here) (he : earlyChecks op r = none)
    (ha : s.dev.authStep op r = .pass) :
    serve op chk act r s.here = ((s.here.takeCounter r).execute op chk act r).passOn op.code r := by
  have ha' : s.here.authStep op r = .pass := ha
  rw [serve_of_here h hd]
  unfold Dev.serveHere
  rw [he, ha']

end

/-- The gate of the device's state reads nothing that an accepted counter changes. -/
theorem stateGate_takeCounter (d : Dev) (q r : Req) (op : Nat) : (d.takeCounter q).stateGate op r = d.stateGate op r := by
  obtain ⟨fr, im, n, e⟩ := takeCounter_eq d q
  rw [e]
  rfl

/-- One answer, kept and sent, where the request goes no further. -/
theorem replied_of_answer {op : Nat} {r : Req} {a : Answer} {key : Back} {e t : Dev} (h : Follows (e.answer op r a key) t) :
    Replied op r a (e.statusFlags r.host a.status) t :=
  ⟨_, formReply_isReply _ op r a key, carried_of_trails h.toTrails h.pins⟩

section
variable {c : Instr} {s : State} {op : Op} {r : Req} {a : Answer}

/-- A request that steps 3 to 5 of R49 refuse is answered, and nothing else happens. -/
theorem turned_of_early (hq : requestOf s.here c = some (op, r)) (h : s.dev.arrives r = (true, true)) (hd : s.dev.destOf r = .here)
    (he : earlyChecks op r = some a) (h1 : a.status ≠ .auth) (h2 : a.status ≠ .overrun) :
    Completes c s (Turned op.code r a s.here) :=
  completes_of_serve hq fun chk act t ht => by
    rw [serve_of_early h hd he] at ht
    have := turned_of_follows ht
    rwa [statusFlags_none h1 h2] at this

/-- A request refused at step 6 of R49, with a reply that is not kept. -/
theorem turned_of_authRefuse {tagged : Bool} (hq : requestOf s.here c = some (op, r)) (h : s.dev.arrives r = (true, true))
    (hd : s.dev.destOf r = .here) (he : earlyChecks op r = none) (ha : s.dev.authStep op r = .refuse a false tagged)
    (hs : a.status = .auth) : Completes c s (Turned op.code r a (s.here.set (.kcp 1) (arrivalOf r.host))) :=
  completes_of_serve hq fun chk act t ht => by
    rw [serve_of_authRefuse h hd he ha] at ht
    have ht' := turned_of_follows ht
    rwa [Dev.statusFlags, if_pos hs] at ht'

/-- A request refused at step 6 of R49, with a reply that is kept: its counter is accepted. -/
theorem replied_of_authRefuse {tagged : Bool} (hq : requestOf s.here c = some (op, r)) (h : s.dev.arrives r = (true, true))
    (hd : s.dev.destOf r = .here) (he : earlyChecks op r = none) (ha : s.dev.authStep op r = .refuse a true tagged)
    (hs : a.status = .auth) :
    Completes c s (Replied op.code r a ((s.here.takeCounter r).set (.kcp 1) (arrivalOf r.host))) :=
  completes_of_serve hq fun chk act t ht => by
    rw [serve_of_authRefuse h hd he ha] at ht
    have ht' := replied_of_answer ht
    rwa [Dev.statusFlags, if_pos hs] at ht'

/-- A request past step 6 of R49 that the device's state refuses is answered, and nothing of it is executed. -/
theorem replied_of_gate (hq : requestOf s.here c = some (op, r)) (h : s.dev.arrives r = (true, true)) (hd : s.dev.destOf r = .here)
    (he : earlyChecks op r = none) (ha : s.dev.authStep op r = .pass) (hg : s.dev.stateGate op.code r = some a)
    (h1 : a.status ≠ .auth) (h2 : a.status ≠ .overrun) :
    Completes c s (Replied op.code r a (s.here.takeCounter r)) :=
  completes_of_serve hq fun chk act t ht => by
    have hg' : (s.here.takeCounter r).stateGate op.code r = some a := by rw [stateGate_takeCounter]; exact hg
    rw [serve_of_pass h hd he ha] at ht
    unfold Dev.execute at ht
    rw [hg'] at ht
    have := replied_of_follows ht
    rwa [statusFlags_none h1 h2] at this

/-- A request that the checks of source and length refuse is answered, and nothing of it is executed. -/
theorem replied_of_late (hq : requestOf s.here c = some (op, r)) (h : s.dev.arrives r = (true, true)) (hd : s.dev.destOf r = .here)
    (he : earlyChecks op r = none) (ha : s.dev.authStep op r = .pass) (hg : s.dev.stateGate op.code r = none)
    (hl : ∀ chk, (s.here.takeCounter r).lateChecks op chk r = some a) (h1 : a.status ≠ .auth) (h2 : a.status ≠ .overrun) :
    Completes c s (Replied op.code r a (s.here.takeCounter r)) :=
  completes_of_serve hq fun chk act t ht => by
    have hg' : (s.here.takeCounter r).stateGate op.code r = none := by rw [stateGate_takeCounter]; exact hg
    rw [serve_of_pass h hd he ha] at ht
    unfold Dev.execute at ht
    rw [hg'] at ht
    dsimp only at ht
    rw [hl chk] at ht
    have := replied_of_follows ht
    rwa [statusFlags_none h1 h2] at this

end

/-- Settles O8: a request that its transport does not take leaves the device as it was, and one whose uplink drops its frame advances
that uplink's UL_RX_DROP. -/
theorem requestsThatDoNotArrive : Obligations.RequestsThatDoNotArrive := by
  intro c s op r hq
  obtain ⟨chk, act, hx⟩ := requestOf_serves hq
  exact ⟨fun h => idle_of_same hx (serve_of_off h), fun h => completes_with hx (serve_of_dropped h)⟩

/-! ## The refusals of R49 -/

theorem earlyChecks_version {op : Op} {r : Req} (h : r.version ≠ 1) : earlyChecks op r = some ⟨.badOpcode, 0x0001, []⟩ := if_pos h

theorem earlyChecks_broadcast {op : Op} {r : Req} (hv : r.version = 1) (hd : r.dest = 0x3FF) (hb : op.bcast = false)
    (ho : op.code ≠ 0x0600) : earlyChecks op r = some ⟨.badParam, 0x0003, []⟩ := by
  simp [earlyChecks, hv, hd, hb, ho, refuse]

theorem lateChecks_source {d : Dev} {op : Op} {chk : Dev → Req → Option Answer} {r : Req} (hc : op.cls = .device)
    (hv : r.host.via ≠ .device) : d.lateChecks op chk r = some ⟨.denied, 0x0017, []⟩ := by
  simp [Dev.lateChecks, hc, hv, refuse]

theorem lateChecks_size {d : Dev} {op : Op} {chk : Dev → Req → Option Answer} {r : Req}
    (hc : op.cls = .device → r.host.via = .device) (hl : 1400 < payloadLen r) :
    d.lateChecks op chk r = some ⟨.badParam, 0x0002, []⟩ := by
  simp [Dev.lateChecks, hl, badLength, refuse]
  exact hc

/-- R45: an unaddressed device turns away what comes on an uplink, and on the service port under another DEST than 0x3FF. -/
theorem destOf_unaddressed {d : Dev} {r : Req} (ha : d.rd P.ADDR = 0x3FF)
    (hv : r.host.via = .uplink ∨ (r.host.via = .service ∧ r.dest ≠ 0x3FF)) : d.destOf r = .unaddressed := by
  have hn : d.addressed = false := by simp [Dev.addressed, Dev.addr, ha]
  unfold Dev.destOf
  rw [hn]
  rcases hv with hv | ⟨hv, hd⟩ <;> simp [*]

/-- Settles O9: each refusal is the answer of the first check of R49 that fails, sent before anything is executed. -/
theorem engineRefusals : Obligations.EngineRefusals := by
  refine ⟨?_, ?_, ?_, ?_⟩
  · intro c s op r hq h hd
    refine ⟨fun hv => ?_, fun hv hb hc ho => ?_⟩
    · exact turned_of_early hq h hd (earlyChecks_version hv) nofun nofun
    · exact turned_of_early hq h hd (earlyChecks_broadcast hv hb hc ho) nofun nofun
  · intro c s op r hq h hd he ha hg
    refine ⟨fun hc hv => ?_, fun hc hl => ?_⟩
    · exact replied_of_late hq h hd he ha hg (fun chk => lateChecks_source hc hv) nofun nofun
    · exact replied_of_late hq h hd he ha hg (fun chk => lateChecks_size hc hl) nofun nofun
  · intro c s op r hq hadr h hv
    refine completes_of_serve hq fun chk act t ht => ?_
    rw [serve_of_unaddressed h (destOf_unaddressed hadr hv)] at ht
    exact turned_of_follows ht
  · intro s op r h hd hv
    refine completes_of_run (f := unallocatedOpcode op r) rfl fun t ht => ?_
    have ha : s.here.arrives r = (true, true) := h
    have hd' : s.here.destOf r = .here := hd
    unfold unallocatedOpcode at ht
    rw [ha] at ht
    dsimp only at ht
    rw [hd', if_neg (Classical.not_not.2 hv)] at ht
    exact turned_of_follows ht

/-! ## Step 6 of R49 -/

theorem authStep_missing {d : Dev} {op : Op} {r : Req} (ha : r.auth = none)
    (hc : op.cls = .service ∨ (op.cls = .operator ∧ d.relaxed r.host.via = false)) :
    d.authStep op r = .refuse ⟨.auth, 0x0007, []⟩ false false := by
  unfold Dev.authStep
  rw [ha]
  rcases hc with hc | ⟨hc, hr⟩ <;> simp [refuse, *]

theorem authStep_noKey {d : Dev} {op : Op} {r : Req} {a : Auth} (ha : r.auth = some a) (hk : d.noKey a.slot = true) :
    d.authStep op r = .refuse ⟨.auth, 0x000B, []⟩ false false := by
  simp [Dev.authStep, ha, hk, refuse]

theorem authStep_badTag {d : Dev} {op : Op} {r : Req} {a : Auth} (ha : r.auth = some a) (hk : d.noKey a.slot = false)
    (ht : d.tagGood op.code r a = false) : d.authStep op r = .refuse ⟨.auth, 0x0008, []⟩ false true := by
  simp [Dev.authStep, ha, hk, ht, refuse]

section
variable {d : Dev} {op : Op} {r : Req} {a : Auth} (ha : r.auth = some a) (hr : r.rtx = false) (hk : d.noKey a.slot = false)
  (ht : d.tagGood op.code r a = true)
include ha hr hk ht

theorem authStep_replay (hf : (d.fresh a.slot).accepts a.counter = false) :
    d.authStep op r = .refuse ⟨.auth, 0x000A, leBytes 8 (d.fresh a.slot).high⟩ false true := by
  simp [Dev.authStep, ha, hr, hk, ht, hf]

theorem authStep_classLow (hf : (d.fresh a.slot).accepts a.counter = true) (hc : op.cls = .service) (hs : a.slot < 8) :
    d.authStep op r = .refuse ⟨.auth, 0x0009, []⟩ true true := by
  have hn : slotServes a.slot op.cls = false := by simp [slotServes, hc, hs]
  simp [Dev.authStep, ha, hr, hk, ht, hf, hn, refuse]

end

theorem noKey_eq_true {d : Dev} {slot : Nat} :
    d.noKey slot = true ↔ 12 ≤ slot ∨ d.keyOf slot = none ∨ (d.fresh slot).high = 0xFFFFFFFFFFFF := by
  simp [Dev.noKey, or_assoc]

/-- Settles O10: what step 6 of R49 finds decides the answer, and only the class check, which comes after the counter's acceptance,
keeps its reply. -/
theorem tagsKeysAndReplay : Obligations.TagsKeysAndReplay := by
  refine ⟨?_, ?_⟩
  · intro c s op r hq h hd he
    refine ⟨fun ha hc => ?_, fun a ha hk => ?_, fun a ha hk ht => ?_⟩
    · exact turned_of_authRefuse hq h hd he (authStep_missing ha hc) rfl
    · exact turned_of_authRefuse hq h hd he (authStep_noKey ha (noKey_eq_true.2 hk)) rfl
    · exact turned_of_authRefuse hq h hd he (authStep_badTag ha hk ht) rfl
  · intro c s op r a hq h hd he ha hr hk ht
    refine ⟨fun hf => ?_, fun hf hc hs => ?_⟩
    · exact turned_of_authRefuse hq h hd he (authStep_replay ha hr hk ht hf) rfl
    · exact replied_of_authRefuse hq h hd he (authStep_classLow ha hr hk ht hf hc hs) rfl

/-- Settles O11: step 6 of R49 finds the kept reply, which is the one packet sent. -/
theorem retransmissionResends : Obligations.RetransmissionResends := by
  intro c s op r e hq h hd he ha
  refine completes_of_serve hq fun chk act t ht => ?_
  have ha' : s.here.authStep op r = .resend e := ha
  rw [serve_of_here h hd] at ht
  unfold Dev.serveHere at ht
  rw [he, ha'] at ht
  exact carried_of_trails ht.toTrails ht.pins

/-! ## Step 7 of R49 -/

theorem stateGate_doze {d : Dev} {op : Nat} {r : Req} (hs : d.rd P.DEV_STATE = 3)
    (ho : op ∉ [0x0000, 0x0001, 0x8000, 0x0B01, 0x4403, 0x4404]) : d.stateGate op r = some ⟨.denied, 0x000E, []⟩ := by
  simp only [List.mem_cons, List.not_mem_nil, or_false, not_or] at ho
  obtain ⟨h0, h1, hset⟩ := ho
  have hop : ¬ op ≤ 1 := by omega
  simp [Dev.stateGate, hs, hop, hset, refuse]

/-- Settles O12: the gate of the device's state refuses every opcode outside the set, before anything of it is executed. -/
theorem dozeDeniesRequests : Obligations.DozeDeniesRequests := by
  intro c s op r hq h hd he ha hs ho
  exact replied_of_gate hq h hd he ha (stateGate_doze hs ho) nofun nofun

section
variable {d : Dev} {op : Nat} {r : Req} (h1 : 1 < op) (h2 : op < 0x8000) (hrec : d.recalling = false)
include h1 h2 hrec

theorem stateGate_recovery (hs : d.rd P.DEV_STATE = 7) (hr : recoverySet op r = false) :
    d.stateGate op r = some ⟨.denied, 0x0018, []⟩ := by
  simp [Dev.stateGate, hs, hr, hrec, Nat.not_le.2 h1, Nat.not_le.2 h2, refuse]

theorem stateGate_starting (hs : d.rd P.DEV_STATE ∉ [3, 5, 6, 7]) (hb : d.boot.started = false) :
    d.stateGate op r = some ⟨.busy, 0x000D, []⟩ := by
  simp only [List.mem_cons, List.not_mem_nil, or_false, not_or] at hs
  simp [Dev.stateGate, hs, hb, hrec, Nat.not_le.2 h1, Nat.not_le.2 h2, refuse]

theorem stateGate_restarting (hs : d.rd P.DEV_STATE ∉ [3, 5, 6, 7]) (hb : d.boot.started = true) (hw : d.boot.running = false) :
    d.stateGate op r = some ⟨.busy, 0x000C, []⟩ := by
  simp only [List.mem_cons, List.not_mem_nil, or_false, not_or] at hs
  simp [Dev.stateGate, hs, hb, hw, hrec, Nat.not_le.2 h1, Nat.not_le.2 h2, refuse]

end

/-- Settles O13: in each of the three states the gate refuses, before anything of the request is executed. -/
theorem stateGate : Obligations.StateGate := by
  intro c s op r hq h hd he ha h1 h2 hrec
  refine ⟨fun hs hr => ?_, fun hs hb => ?_, fun hs hb hw => ?_⟩
  · exact replied_of_gate hq h hd he ha (stateGate_recovery h1 h2 hrec hs hr) nofun nofun
  · exact replied_of_gate hq h hd he ha (stateGate_starting h1 h2 hrec hs hb) nofun nofun
  · exact replied_of_gate hq h hd he ha (stateGate_restarting h1 h2 hrec hs hb hw) nofun nofun

end Sys2Proof.Machine

/-! ## What serving a request changes -/

namespace Sys2Proof

/-- A bit set reads as set. -/
@[simp] theorem bitOf_setBit_same (v n : Nat) : bitOf (setBit v n) n = true := by
  unfold setBit
  split
  · assumption
  · rename_i h
    have hz : v / 2 ^ n % 2 ≠ 1 := by simpa [bitOf] using h
    have hd : (v + 2 ^ n) / 2 ^ n = v / 2 ^ n + 1 := Nat.add_div_right _ (Nat.two_pow_pos n)
    simp only [bitOf, hd, decide_eq_true_eq]
    omega

end Sys2Proof

namespace Sys2Proof.Machine

/-- A counter taken is not accepted again. -/
theorem Fresh.accepts_take (f : Fresh) (c : Nat) : (f.take c).accepts c = false := by
  unfold Fresh.take Fresh.accepts
  split
  · simp
  · rename_i h
    simp [h]

/-- An accepted counter is taken by its slot, whatever the stored ceiling becomes. -/
theorem fresh_acceptCounter (d : Dev) (slot c : Nat) :
    ∃ n, (d.acceptCounter slot c).fresh slot = { (d.fresh slot).take c with ceiling := n } := by
  unfold Dev.acceptCounter
  extract_lets f up ceil ceil2 b e
  refine ⟨ceil2, ?_⟩
  split <;> exact KMap.get_put_same ..

theorem fresh_taken {d : Dev} {r : Req} {a : Auth} (ha : r.auth = some a) :
    ∃ n, (d.taken r).fresh a.slot = { (d.fresh a.slot).take a.counter with ceiling := n } := by
  have hq : (d.taken r).boot = (({ d with out := [], begun := none } : Dev).takeCounter r).boot := by
    simp only [Dev.taken, Dev.queued, Dev.boot_raiseTo]
  have ht : ({ d with out := [], begun := none } : Dev).takeCounter r =
      ({ d with out := [], begun := none } : Dev).acceptCounter a.slot a.counter := by simp only [Dev.takeCounter, ha]
  obtain ⟨n, hn⟩ := fresh_acceptCounter { d with out := [], begun := none } a.slot a.counter
  refine ⟨n, ?_⟩
  rw [← ht] at hn
  show (d.taken r).boot.fresh.get a.slot ⟨0, 0, 0⟩ = _
  rw [hq]
  exact hn

/-- A request without a tag takes no counter. -/
theorem taken_untagged {d : Dev} {r : Req} (ha : r.auth = none) :
    d.taken r = ({ d with out := [], begun := none } : Dev).queued := by simp only [Dev.taken, Dev.takeCounter, ha]

theorem Dev.rd_raiseTo_same {d : Dev} {r : Row} {ix : List Nat} {v : Nat} (hv : v < 2 ^ r.width) :
    (d.raiseTo r ix v).rd r ix = max (d.rd r ix) v := by
  unfold Dev.raiseTo
  split
  · rw [Dev.rd_wr_same, Nat.mod_eq_of_lt hv]; omega
  · omega

/-- The queue's peak is raised to the requests in hand and the one taken in. -/
theorem qPeak_taken {d : Dev} {r : Req} (h : d.inHand.length < 64) :
    (d.taken r).rd P.Q_PEAK = max (d.rd P.Q_PEAK) (d.inHand.length + 1) := by
  obtain ⟨fr, im, n, e⟩ := taken_eq d r
  have hv : d.inHand.length + 1 < 2 ^ P.Q_PEAK.width := by show _ < 2 ^ 7; omega
  rw [e]
  exact Dev.rd_raiseTo_same (d := { d with out := [], begun := none }) hv

/-- Settles O14: what `taken_eq` says of a request taken in, part by part, and a counter taken is not accepted again. -/
theorem takenChangesNothingElse : Obligations.TakenChangesNothingElse := by
  intro d r
  refine ⟨qPeak_taken, fun k hk => prm_taken d r k (hk _ (List.mem_singleton.2 rfl)), ?_, boot_taken d r, nv_taken d r, ?_, ?_⟩
  · intro p hp
    cases p <;> simp [DevPart.same] at *
  · intro ha
    rw [taken_untagged ha]
    simp only [Dev.queued, Dev.boot_raiseTo, Dev.nv_raiseTo, and_self]
  · intro a ha
    obtain ⟨n, hn⟩ := fresh_taken (d := d) ha
    rw [hn]
    exact Fresh.accepts_take (d.fresh a.slot) a.counter

/-! ## Fields and tables read back -/

/-- Settles O7: a field read back is `rd_wr_same`, another `rd_wr_other`; table bytes are `reads_writes` and
`read_writes_outside`. -/
theorem writesReadBack : Obligations.WritesReadBack := by
  refine ⟨fun d r ix v => ⟨d.rd_wr_same r ix v, fun q jx h => d.rd_wr_other r q ix jx v h, rfl⟩, fun d t o bs => ?_⟩
  exact ⟨Mem.reads_writes bs d.tbl (tblAddr t o), fun a h => Mem.read_writes_outside bs d.tbl (tblAddr t o) a h,
    Mem.cells_wf _, rfl⟩

end Sys2Proof.Machine

/-! ## The bytes of a request's parameters -/

namespace Sys2Proof

@[simp] theorem byteAt_cons_zero (b : Byte) (l : List Byte) : byteAt (b :: l) 0 = b.toNat := rfl

@[simp] theorem byteAt_cons_succ (b : Byte) (l : List Byte) (n : Nat) : byteAt (b :: l) (n + 1) = byteAt l n := rfl

theorem toNat_byte {k : Nat} (h : k < 256) : (BitVec.ofNat 8 k).toNat = k := by
  rw [BitVec.toNat_ofNat]; exact Nat.mod_eq_of_lt h

/-- The first byte of parameters that begin with the byte of `k`. -/
theorem byteAt_first {p l : List Byte} {k : Nat} (hp : p = BitVec.ofNat 8 k :: l) (h : k < 256) : byteAt p 0 = k := by
  rw [hp]; exact toNat_byte h

theorem byteAt_second {p l : List Byte} {b : Byte} {k : Nat} (hp : p = b :: BitVec.ofNat 8 k :: l) (h : k < 256) :
    byteAt p 1 = k := by
  rw [hp]; exact toNat_byte h

end Sys2Proof

/-! ## Requests that only report -/

namespace Sys2Proof.Machine

theorem lengthIs_of_params {n : Nat} {r : Req} {l : List Byte} (hp : r.params = l) (hl : l.length = n) : lengthIs n r = none :=
  lengthIs_eq_none (by rw [hp]; exact hl)

/-- One parameter byte below the bound passes. -/
theorem oneByte_eq_none {bound k : Nat} {r : Req} (hp : r.params = [BitVec.ofNat 8 k]) (hk : k < bound) (hb : bound ≤ 256) :
    oneByte bound r = none := by
  unfold oneByte
  rw [lengthIs_of_params (n := 1) hp rfl, byteAt_first hp (by omega)]
  exact if_neg (by omega)

/-- A request whose row reports completes with that report and no effect of its own. -/
theorem request_reports {c : Instr} {s : State} {f : Dev → Dev} {op : Op} {chk : Dev → Req → Option Answer}
    {g : Dev → Req → Answer} {r : Req} {a : Answer} (hx : exec c s = .next (s.run f))
    (hf : f s.here = serve op chk (report g) r s.here) (h : Serves op r s.dev) (hc : chk (s.here.takeCounter r) r = none)
    (ha : g (s.dev.taken r) r = a) (h1 : a.status ≠ .auth) (h2 : a.status ≠ .overrun) :
    Completes c s (Replied op.code r a (s.dev.taken r)) :=
  request_completes hx hf h hc (by rw [← ha]; rfl) h1 h2

@[simp] theorem uid_taken (d : Dev) (r : Req) : (d.taken r).uid = d.uid := by
  unfold Dev.uid
  rw [boot_taken]

@[simp] theorem strm_taken (d : Dev) (r : Req) (k : Nat) : (d.taken r).strm k = d.strm k := by
  unfold Dev.strm
  rw [ing_taken]

@[simp] theorem Dev.wordsAt_one (d : Dev) (a : Nat) : d.wordsAt a 1 = leBytes 4 (d.word a) := rfl

theorem inRecovery_taken (d : Dev) (r : Req) : (d.taken r).inRecovery = d.inRecovery := by
  unfold Dev.inRecovery
  rw [rd_taken d r _ _ (by decide)]

theorem halted_taken (d : Dev) (r : Req) : (d.taken r).halted = d.halted := by
  unfold Dev.halted
  rw [rd_taken d r _ _ (by decide)]

theorem statusBytes_taken (d : Dev) (r : Req) : (d.taken r).statusBytes = d.statusBytes := by
  have hr : ∀ q : Row, q.key [] ≠ P.Q_PEAK.key [] → (d.taken r).rd q = d.rd q := fun q h => rd_taken d r q [] h
  have hi : (d.taken r).is P.TRIAL = d.is P.TRIAL := is_taken d r _ _ (by decide)
  simp (disch := decide) only [Dev.statusBytes, inRecovery_taken, halted_taken, hr, hi, pins_taken, clk_taken]

/-- Settles O15: each row's own check passes on the parameters given, and its answer is read from the device that has taken the
request, which differs from the device before it in Q_PEAK, freshness and the immediate records alone. -/
theorem statusRequests : Obligations.StatusRequests := by
  refine ⟨?ping, ?deviceStatus, ?fabricStatus, ?fabricProfile, ?coreStatus, ?frameStats, ?pipeStatus, ?calStatus⟩
  case ping =>
    intro s r hs hp
    refine request_reports rfl rfl hs (lengthIs_of_params hp rfl) ?_ nofun nofun
    have hr : ∀ q : Row, q.key [] ≠ P.Q_PEAK.key [] → (s.dev.taken r).rd q = s.dev.rd q := fun q h => rd_taken s.dev r q [] h
    simp (disch := decide) only [uid_taken, Dev.addr, hr]
  case deviceStatus =>
    intro s r hs hp
    exact request_reports rfl rfl hs (lengthIs_of_params hp rfl) (congrArg okWith (statusBytes_taken s.dev r)) nofun nofun
  case fabricStatus =>
    intro s r hs hp
    exact request_reports rfl rfl hs (lengthIs_of_params hp rfl) rfl nofun nofun
  case fabricProfile =>
    intro s r p m w hs hp hm
    have hp3 : p < 3 := by
      simp only [List.mem_cons, Prod.mk.injEq, List.not_mem_nil, or_false] at hm
      omega
    have hb : byteAt r.params 0 = p := byteAt_first hp (by omega)
    have hw : rateProfile p = (m, w) := by
      simp only [List.mem_cons, Prod.mk.injEq, List.not_mem_nil, or_false] at hm
      rcases hm with ⟨rfl, rfl, rfl⟩ | ⟨rfl, rfl, rfl⟩ | ⟨rfl, rfl, rfl⟩ <;> rfl
    refine request_completes rfl rfl hs (oneByte_eq_none hp hp3 (by omega)) ?_ nofun nofun
    simp only [hb, hw]
    rfl
  case coreStatus =>
    intro s r k hs hp hk
    have hb : byteAt r.params 0 = k := byteAt_first hp (by omega)
    refine request_reports rfl rfl hs (oneByte_eq_none hp hk (by omega)) ?_ nofun nofun
    simp only [hb, Dev.wordsAt_one]
    rfl
  case frameStats =>
    intro s r k hs hp hk
    have hb : byteAt r.params 0 = k := byteAt_first hp (by omega)
    refine request_reports rfl rfl hs (oneByte_eq_none hp hk (by omega)) ?_ nofun nofun
    simp only [hb, strm_taken]
  case pipeStatus =>
    intro s r k hs hp hk
    have hb : byteAt r.params 0 = k := byteAt_first hp (by omega)
    refine request_reports rfl rfl hs (oneByte_eq_none hp hk (by omega)) ?_ nofun nofun
    simp only [hb]
  case calStatus =>
    intro s r k hs hp hk
    have hb : byteAt r.params 0 = k := byteAt_first hp (by omega)
    refine request_reports rfl rfl hs (oneByte_eq_none hp hk (by omega)) ?_ nofun nofun
    simp only [hb]

/-! ## Profiles -/

/-- The table bytes a row reads are those before the request. -/
@[simp] theorem tblRead_taken (d : Dev) (r : Req) (t o n : Nat) : (d.taken r).tblRead t o n = d.tblRead t o n := by
  unfold Dev.tblRead
  rw [tbl_taken]

/-- Settles O16: each row writes the fields its profile's table bytes spell, which taking the request leaves as they were. -/
theorem profileRequests : Obligations.ProfileRequests := by
  refine ⟨?pipe, ?shutter, ?output⟩
  case pipe =>
    intro s r k p hs hp hk hp8
    have h0 : byteAt r.params 0 = k := byteAt_first hp (by omega)
    have h1 : byteAt r.params 1 = p := byteAt_second hp (by omega)
    refine request_completes rfl rfl hs ?_ ?_ nofun nofun
    · rw [lengthIs_of_params (n := 2) hp rfl, h0, h1]
      exact if_neg (by simp; omega)
    · simp only [h0, h1, tblRead_taken]
  case shutter =>
    intro s r p hs hp hp7
    have h0 : byteAt r.params 0 = p := byteAt_first hp (by omega)
    refine request_completes rfl rfl hs (oneByte_eq_none hp hp7 (by omega)) ?_ nofun nofun
    simp only [h0, tblRead_taken]
  case output =>
    intro s r p hs hp hp7
    have h0 : byteAt r.params 0 = p := byteAt_first hp (by omega)
    refine request_completes rfl rfl hs (oneByte_eq_none hp hp7 (by omega)) ?_ nofun nofun
    simp only [h0, tblRead_taken]

end Sys2Proof.Machine

/-! ## What an accepted counter leaves unseen

A request's own checks run on the device that has accepted its counter. That device differs from the one before the request only in
freshness, in the immediate records of the store and in the outputs; what reads none of these is the same of both, and what writes
none of them leaves the difference standing. -/

namespace Sys2Proof.Machine

/-- What taking a request in may change before its effect, Q_PEAK apart. -/
structure Aside where
  /-- Freshness of the key slots. -/
  fresh : KMap Fresh
  /-- Immediate records of the store. -/
  imm : List ImmRec
  /-- The number of the next one. -/
  immNum : Nat
  /-- Outputs. -/
  out : List Out
  /-- The queued request being begun. -/
  begun : Option Queued

/-- A device with these parts as given. -/
def Dev.aside (d : Dev) (x : Aside) : Dev :=
  { d with boot := { d.boot with fresh := x.fresh }, nv := { d.nv with imm := x.imm, immNum := x.immNum }, out := x.out,
           begun := x.begun }

/-- The device a request's own checks see. -/
theorem takeCounter_aside (s : State) (r : Req) : ∃ x, s.here.takeCounter r = s.dev.aside x := by
  obtain ⟨fr, im, n, e⟩ := takeCounter_eq s.here r
  exact ⟨⟨fr, im, n, [], none⟩, e⟩

section
variable (x : Aside)

/-- A choice between two outcomes that leave the difference standing leaves it standing. -/
theorem ite_aside {c : Prop} [Decidable c] {a b a' b' : Dev} (ha : a' = a.aside x) (hb : b' = b.aside x) :
    (if c then a' else b') = (if c then a else b).aside x := by
  split <;> assumption

/-- The same of outcomes that carry a result. -/
theorem ite_aside_fst {α : Type} {c : Prop} [Decidable c] {a b a' b' : Dev × α} (ha : a' = (a.1.aside x, a.2))
    (hb : b' = (b.1.aside x, b.2)) :
    (if c then a' else b') = ((if c then a else b).1.aside x, (if c then a else b).2) := by
  split <;> assumption

variable (d : Dev)

@[simp] theorem rd_aside (r : Row) (ix : List Nat) : (d.aside x).rd r ix = d.rd r ix := rfl
@[simp] theorem is_aside (r : Row) (ix : List Nat) : (d.aside x).is r ix = d.is r ix := rfl
@[simp] theorem tblRead_aside (t o n : Nat) : (d.aside x).tblRead t o n = d.tblRead t o n := rfl
@[simp] theorem bulkRec_aside (rid : Nat) : (d.aside x).nv.bulkRec rid = d.nv.bulkRec rid := rfl
@[simp] theorem bulkQ_aside : (d.aside x).nv.bulkQ = d.nv.bulkQ := rfl
@[simp] theorem fus_aside : (d.aside x).fus = d.fus := rfl
@[simp] theorem clk_aside : (d.aside x).clk = d.clk := rfl
@[simp] theorem evt_aside : (d.aside x).evt = d.evt := rfl
@[simp] theorem flag_aside (f : Flag) : (d.aside x).flag f = d.flag f := rfl
@[simp] theorem recalling_aside : (d.aside x).recalling = d.recalling := rfl
@[simp] theorem wr_aside (r : Row) (ix : List Nat) (v : Nat) : (d.aside x).wr r ix v = (d.wr r ix v).aside x := rfl
@[simp] theorem put_aside (r : Row) (ix : List Nat) (b : Bool) : (d.aside x).put r ix b = (d.put r ix b).aside x := rfl
@[simp] theorem bump_aside (r : Row) (ix : List Nat) : (d.aside x).bump r ix = (d.bump r ix).aside x := rfl
@[simp] theorem tblWrite_aside (t o : Nat) (bs : List Byte) : (d.aside x).tblWrite t o bs = (d.tblWrite t o bs).aside x := rfl

@[simp] theorem raiseTo_aside (r : Row) (ix : List Nat) (v : Nat) : (d.aside x).raiseTo r ix v = (d.raiseTo r ix v).aside x := by
  unfold Dev.raiseTo
  exact ite_aside x rfl rfl

/-- Steps over a list that leave the difference standing one by one leave it standing. -/
theorem each_aside {α : Type} (l : List α) (f : α → Dev → Dev) (h : ∀ a e, f a (e.aside x) = (f a e).aside x) :
    (d.aside x).each l f = (d.each l f).aside x := by
  unfold Dev.each
  induction l generalizing d with
  | nil => rfl
  | cons a t ih => rw [List.foldl_cons, List.foldl_cons, h, ih]

/-! ### A flag set by the hardware -/

theorem markFlag_aside (f : Flag) : (d.aside x).markFlag f = (d.markFlag f).aside x := by
  unfold Dev.markFlag
  cases f <;> rfl

theorem restartHold_aside (n : Nat) : (d.aside x).restartHold n = (d.restartHold n).aside x := ite_aside x rfl rfl

theorem setRecord_aside (f : Flag) (u : Unit') (b : List Byte) :
    (d.aside x).setRecord f u b = ((d.setRecord f u b).1.aside x, (d.setRecord f u b).2) := by
  unfold Dev.setRecord
  rw [markFlag_aside]
  exact ite_aside_fst x rfl rfl

theorem queueFor_aside (e : EvRec) (n : Nat) :
    (d.aside x).queueFor e n = ((d.queueFor e n).1.aside x, (d.queueFor e n).2) :=
  ite_aside_fst x rfl (ite_aside_fst x rfl rfl)

theorem queueLog_aside (e : EvRec) : (d.aside x).queueLog e = ((d.queueLog e).1.aside x, (d.queueLog e).2) :=
  ite_aside_fst x rfl (ite_aside_fst x rfl rfl)

theorem ringPush_aside (e : EvRec) : (d.aside x).ringPush e = ((d.ringPush e).1.aside x, (d.ringPush e).2) := rfl

theorem routeRec_aside (next : EvRec → Dev → Dev) (h : ∀ e d', next e (d'.aside x) = (next e d').aside x) (e : EvRec) :
    (d.aside x).routeRec next e = (d.routeRec next e).aside x := by
  unfold Dev.routeRec
  extract_lets drop a b
  have hdrop : ∀ n d', drop n (d'.aside x) = (drop n d').aside x := by
    intro n d'
    dsimp only [drop]
    rw [restartHold_aside, setRecord_aside]
    rcases (d'.restartHold (Flag.evt n).home.source).setRecord (.evt n) noUnit [] with ⟨d2, _ | e2⟩
    · rfl
    · exact h e2 d2
  have hq : a = b.aside x := each_aside x d _ _ fun n d' => by
    rw [queueFor_aside]
    exact ite_aside x (hdrop 0 _) rfl
  rw [hq, queueLog_aside]
  exact ite_aside x (hdrop 1 _) rfl

theorem deliver_aside (n : Nat) (e : EvRec) : deliver n e (d.aside x) = (deliver n e d).aside x := by
  induction n generalizing e d with
  | zero => rfl
  | succ n ih =>
    unfold deliver
    rw [ringPush_aside]
    exact ite_aside x rfl (routeRec_aside x _ _ (fun e d' => ih d' e) _)

theorem set_aside (f : Flag) (u : Unit') (b : List Byte) : (d.aside x).set f u b = (d.set f u b).aside x := by
  unfold Dev.set
  rw [restartHold_aside, setRecord_aside]
  rcases (d.restartHold f.home.source).setRecord f u b with ⟨d', _ | e⟩
  · rfl
  · exact deliver_aside x d' 4 e

/-! ### The checks that read no freshness and no immediate record -/

theorem bulkRead_aside (rid : Nat) : (d.aside x).bulkRead rid = (d.bulkRead rid).aside x := by
  unfold Dev.bulkRead
  rw [bulkRec_aside]
  cases d.nv.bulkRec rid with
  | none => rfl
  | some r => exact ite_aside x (set_aside x (d.bump P.BULK_RD_ERR) _ _ _) rfl

theorem loadGrid_aside (k : Nat) : (d.aside x).loadGrid k = (d.loadGrid k).aside x := by
  unfold Dev.loadGrid
  rw [bulkRead_aside]
  generalize d.bulkRead (gridRid k) = e
  refine ite_aside x rfl ?_
  dsimp only
  rw [bulkRec_aside]
  cases e.nv.bulkRec (gridRid k) with
  | none => rfl
  | some g =>
    refine ite_aside x rfl ?_
    rw [tblWrite_aside]
    generalize e.tblWrite (0x2300 + k) 0 g.data = e'
    have hs : (if (e'.aside x).rd P.REG_STATE [k] = 0 then (e'.aside x).wr P.REG_STATE [k] 1 else e'.aside x) =
        (if e'.rd P.REG_STATE [k] = 0 then e'.wr P.REG_STATE [k] 1 else e').aside x := ite_aside x rfl rfl
    rw [hs]
    rfl

theorem enabledCores_aside : (d.aside x).enabledCores = d.enabledCores := rfl

theorem bulkUp_aside : (d.aside x).bulkUp = d.bulkUp := rfl

theorem dramHolds_aside : (d.aside x).dramHolds = d.dramHolds := rfl

theorem setting_aside (k : Nat) : (d.aside x).setting k = d.setting k := rfl

theorem chooseCluster_aside (k : Nat) : (d.aside x).chooseCluster k = d.chooseCluster k := rfl

theorem admission_aside (k : Nat) : (d.aside x).admission k = d.admission k := rfl

theorem withRates_aside (k rate comp : Nat) : (d.aside x).withRates k rate comp = (d.withRates k rate comp).aside x := by
  unfold Dev.withRates
  rw [raiseTo_aside, raiseTo_aside]

theorem enableCheck_aside (k : Nat) : (d.aside x).enableCheck k = d.enableCheck k := by
  unfold Dev.enableCheck
  dsimp only
  simp only [put_aside, withRates_aside, admission_aside, loadGrid_aside, chooseCluster_aside, tblRead_aside, rd_aside,
    enabledCores_aside, bulkUp_aside, bulkRec_aside, dramHolds_aside]
  rfl

theorem changeCheck_aside (k rate comp : Nat) : (d.aside x).changeCheck k rate comp = d.changeCheck k rate comp := by
  unfold Dev.changeCheck
  simp only [withRates_aside, admission_aside, is_aside, rd_aside, setting_aside]

end

/-! ## Requests of cores -/

theorem withByte_self {i v : Nat} {r : Req} (h : r.params.set i (BitVec.ofNat 8 v) = r.params) : withByte i v r = r := by
  unfold withByte
  rw [h]

@[simp] theorem setting_taken (d : Dev) (r : Req) (k : Nat) : (d.taken r).setting k = d.setting k := by
  unfold Dev.setting
  rw [ing_taken]

/-- A field of a core or a port is not Q_PEAK. -/
theorem coreEn_taken (d : Dev) (r : Req) (k : Nat) : (d.taken r).is P.CORE_EN [k] = d.is P.CORE_EN [k] :=
  is_taken d r _ _ (by simp [Row.key, Row.addr, P.CORE_EN, P.Q_PEAK]; omega)

theorem bulkRec_taken (d : Dev) (r : Req) (rid : Nat) : (d.taken r).nv.bulkRec rid = d.nv.bulkRec rid := by
  unfold Nv.bulkRec
  rw [nv_taken]

theorem gathering_taken (d : Dev) (r : Req) (k : Nat) : (d.taken r).gathering k = d.gathering k := by
  unfold Dev.gathering
  rw [cal_taken, rd_taken d r _ _ (by simp [Row.key, Row.addr, P.CYC_STATE, P.Q_PEAK]; omega)]

/-- Settles O17: the checks of R87 and R246 pass on the device with the request's counter accepted as they do before it, and what the
core, its open frame and its gather are decides the row's branch. -/
theorem coreRequests : Obligations.CoreRequests := by
  refine ⟨?disable, ?enable, ?setting⟩
  case disable =>
    intro s r k hs hp hk
    have hr : withByte 1 0 r = r := withByte_self (by rw [hp]; rfl)
    have h0 : byteAt r.params 0 = k := byteAt_first hp (by omega)
    have h1 : byteAt r.params 1 = 0 := by rw [hp]; rfl
    have hx : exec (.coreDisable r) s = .next (s.run (coreEnableReq r)) := by
      show Host.Outcome.next (s.run (coreEnableReq (withByte 1 0 r))) = _
      rw [hr]
    refine ⟨fun h => ?_, fun h hf => ?_, fun h hf => ?_⟩
    all_goals
      refine request_completes (f := coreEnableReq r) hx rfl hs ?_ ?_ nofun nofun
      · rw [lengthIs_of_params (n := 2) hp rfl]
        simp [h0, h1, hk]
    · simp [h0, h1, coreEn_taken, h]
    · simp [h0, h1, coreEn_taken, h, hf]
    · simp [h0, h1, coreEn_taken, h, Option.isSome_iff_ne_none, hf]
  case enable =>
    intro s r k hs hp hk hd
    have hr : withByte 1 1 r = r := withByte_self (by rw [hp]; rfl)
    have h0 : byteAt r.params 0 = k := byteAt_first hp (by omega)
    have h1 : byteAt r.params 1 = 1 := by rw [hp]; rfl
    have hx : exec (.coreEnable r) s = .next (s.run (coreEnableReq r)) := by
      show Host.Outcome.next (s.run (coreEnableReq (withByte 1 1 r))) = _
      rw [hr]
    obtain ⟨x, hc⟩ := takeCounter_aside s r
    refine ⟨fun h => ?_, fun h he hb => ?_⟩
    all_goals
      refine request_completes (f := coreEnableReq r) hx rfl hs ?_ ?_ nofun nofun
    · rw [lengthIs_of_params (n := 2) hp rfl, hc]
      simp [h0, h1, hk, setting_aside, hd, h]
    · simp [h0, h1, coreEn_taken, h]
    · rw [lengthIs_of_params (n := 2) hp rfl, hc]
      simp [h0, h1, hk, setting_aside, hd, h, enableCheck_aside, he]
    · simp [h0, h1, coreEn_taken, h, bulkRec_taken, hb]
  case setting =>
    intro s r k p hs hp hk hp16 hz hch g t x added
    have h0 : byteAt r.params 0 = k := byteAt_first hp (by omega)
    have h1 : byteAt r.params 1 = p := byteAt_second hp (by omega)
    obtain ⟨y, hc⟩ := takeCounter_aside s r
    have hgen : (s.dev.taken r).rd P.SET_GEN_ISSUED [k] = s.dev.rd P.SET_GEN_ISSUED [k] :=
      rd_taken s.dev r _ _ (by simp [Row.key, Row.addr, P.SET_GEN_ISSUED, P.Q_PEAK]; omega)
    have hadd : ∀ o, (s.dev.taken r).addChange k (profileOps t) (leAt t 2 2) (leAt t 4 2) p o = (g, added o) := by
      intro o
      unfold Dev.addChange
      rw [hgen, setting_taken]
    have ht : s.dev.tblRead (0x2010 + p) 0 264 = t := rfl
    have hchk : (if 64 ≤ k || 16 ≤ p then some badValue
        else if byteAt (s.dev.tblRead (0x2010 + p) 0 8) 0 = 0 && leAt (s.dev.tblRead (0x2010 + p) 0 8) 2 2 = 0 &&
          leAt (s.dev.tblRead (0x2010 + p) 0 8) 4 2 = 0 then some badValue
        else s.dev.changeCheck k (leAt (s.dev.tblRead (0x2010 + p) 0 8) 2 2) (leAt (s.dev.tblRead (0x2010 + p) 0 8) 4 2)) = none := by
      rw [if_neg (by simp; omega), if_neg (by simpa [and_assoc] using hz), hch]
    refine ⟨fun h => ?_, fun h => ?_⟩
    all_goals
      refine request_completes rfl rfl hs ?_ ?_ nofun nofun
      · rw [lengthIs_of_params (n := 2) hp rfl, hc]
        simpa only [h0, h1, tblRead_aside, changeCheck_aside] using hchk
      · simp only [h0, h1, tblRead_taken, Dev.requestChange, gathering_taken, h, ht, hadd, ticket, ↓reduceIte, Bool.false_eq_true]

end Sys2Proof.Machine

/-! ## Requests of calibration -/

namespace Sys2Proof.Machine

/-- A request that is served, whose own checks pass whatever an accepted counter leaves aside, completes with its effect. -/
theorem request_acts {c : Instr} {s : State} {f : Dev → Dev} {op : Op} {chk : Dev → Req → Option Answer}
    {act : Dev → Req → Dev × Option Answer} {r : Req} {e : Dev} {a : Answer} (hx : exec c s = .next (s.run f))
    (hf : f s.here = serve op chk act r s.here) (h : Serves op r s.dev) (hc : ∀ x, chk (s.dev.aside x) r = none)
    (ha : act (s.dev.taken r) r = (e, some a)) (h1 : a.status ≠ .auth) (h2 : a.status ≠ .overrun) :
    Completes c s (Replied op.code r a e) := by
  obtain ⟨x, hx'⟩ := takeCounter_aside s r
  exact request_completes hx hf h (by rw [hx']; exact hc x) ha h1 h2

/-- A request that is served and whose own checks refuse it whatever an accepted counter leaves aside is answered, and no more. -/
theorem request_denied {c : Instr} {s : State} {f : Dev → Dev} {op : Op} {chk : Dev → Req → Option Answer}
    {act : Dev → Req → Dev × Option Answer} {r : Req} {a : Answer} (hx : exec c s = .next (s.run f))
    (hf : f s.here = serve op chk act r s.here) (h : Serves op r s.dev) (hc : ∀ x, chk (s.dev.aside x) r = some a)
    (h1 : a.status ≠ .auth) (h2 : a.status ≠ .overrun) : Completes c s (Replied op.code r a (s.here.takeCounter r)) := by
  obtain ⟨x, hx'⟩ := takeCounter_aside s r
  exact request_refused hx hf h (by rw [hx']; exact hc x) h1 h2

@[simp] theorem cal_aside (d : Dev) (x : Aside) : (d.aside x).cal = d.cal := rfl

theorem enabledCores_taken (d : Dev) (r : Req) : (d.taken r).enabledCores = d.enabledCores := by
  unfold Dev.enabledCores
  simp only [coreEn_taken]

/-- The regions of a mask below 16 are none where the mask is 0 alone. -/
theorem regionsOf_isEmpty : ∀ m, m < 16 → ((regionsOf m).isEmpty = true ↔ m = 0) := by decide

/-- Settles O18: what each row checks is what the statement assumes of the core, the regions or the set, and its effect is named. -/
theorem calibrationRequests : Obligations.CalibrationRequests := by
  refine ⟨?now, ?solve, ?reload, ?reloadAll⟩
  case now =>
    intro s r k hs hp hk hstate hcyc hsh hfl
    have h0 : byteAt r.params 0 = k := byteAt_first hp (by omega)
    refine request_acts rfl rfl hs (fun x => ?_) (by simp only [h0, ticket]) nofun nofun
    rw [oneByte_eq_none hp hk (by omega)]
    simp only [h0, rd_aside, hstate, Classical.not_not.2 hcyc, hsh, hfl, or_self, ne_eq, not_true_eq_false, if_false]
  case solve =>
    intro s r m hs hp hm hfree
    have h0 : byteAt r.params 0 = m := byteAt_first hp (by omega)
    have hchk : ∀ x, ((regionsOf m).any fun g => ((s.dev.aside x).cal.solves.get? g).isSome) = false := by
      intro x
      rw [List.any_eq_false]
      intro g hg
      obtain ⟨hg4, hbit⟩ := List.mem_filter.1 hg
      simp [hfree g (List.mem_range.1 hg4) (by simpa [bitOf] using hbit)]
    have hempty := regionsOf_isEmpty m hm
    refine ⟨fun h => ?_, fun h => ?_⟩
    all_goals
      refine request_acts rfl rfl hs (fun x => ?_) ?_ nofun nofun
      · rw [oneByte_eq_none hp hm (by omega), h0, hchk x]
        rfl
    · simp only [h0, hempty.2 h, if_true, rd_taken s.dev r P.LAST_RES [] (by decide), ticket]
    · simp only [h0, mt hempty.1 h, ticket]
      rfl
  case reload =>
    intro s r k hs hp hk hen
    have h0 : byteAt r.params 0 = k := byteAt_first hp (by omega)
    refine request_acts rfl rfl hs (fun x => ?_) ?_ nofun nofun
    · simp [lengthIs_of_params (n := 1) hp rfl, h0, Nat.not_le.2 hk, hen]
    · simp only [h0, if_neg (show k ≠ 0xFF by omega)]
      rfl
  case reloadAll =>
    intro s r hs hp
    have h0 : byteAt r.params 0 = 0xFF := by rw [hp]; rfl
    refine ⟨fun h => ?_, fun h => ?_⟩
    all_goals
      refine request_acts rfl rfl hs (fun x => ?_) ?_ nofun nofun
      · rw [lengthIs_of_params (n := 1) hp rfl, h0]
        rfl
    all_goals
      have he : ((List.range 64).filter fun c => (s.dev.taken r).is P.CORE_EN [c]) = s.dev.enabledCores := enabledCores_taken s.dev r
      simp only [h0, if_true, he, h, List.isEmpty_nil, List.isEmpty_iff, ticket]
      rfl

end Sys2Proof.Machine

/-! ## Requests addressed to a patch -/

namespace Sys2Proof.Machine

section
variable (d : Dev) (x : Aside) (r : Req) (p : Nat)

@[simp] theorem plc_aside : (d.aside x).plc = d.plc := rfl
@[simp] theorem tileIndex_aside (t : Nat) : (d.aside x).tileIndex p t = d.tileIndex p t := rfl
@[simp] theorem patchStep_aside : (d.aside x).patchStep r = d.patchStep r := rfl

@[simp] theorem patch?_taken : (d.taken r).patch? p = d.patch? p := by
  unfold Dev.patch?
  rw [plc_taken]

@[simp] theorem place_taken : (d.taken r).place p = d.place p := by
  unfold Dev.place
  rw [plc_taken]

@[simp] theorem addr_taken : (d.taken r).addr = d.addr := rd_taken d r P.ADDR [] (by decide)

@[simp] theorem owns_taken : (d.taken r).owns p = d.owns p := by
  unfold Dev.owns Dev.addressed
  rw [place_taken, addr_taken]

@[simp] theorem patchStep_taken (q : Req) : (d.taken r).patchStep q = d.patchStep q := by
  unfold Dev.patchStep
  simp only [patch?_taken, place_taken, owns_taken]

@[simp] theorem tileIndex_taken (t : Nat) : (d.taken r).tileIndex p t = d.tileIndex p t := by
  unfold Dev.tileIndex Dev.patchTiles
  rw [plc_taken]

@[simp] theorem now_taken : (d.taken r).now = d.now := by
  unfold Dev.now
  rw [clk_taken, ofs_taken]

end

section
variable {d : Dev} {r : Req}

/-! ### The rows of Table 2-7 -/

/-- The owner runs a request of epoch 0 or of the patch's epoch. -/
theorem patchStep_run (hp : (d.patch? (patchOf r)).isSome = true) (ho : d.owns (patchOf r) = true)
    (he : epochOf r = 0 ∨ epochOf r = (d.place (patchOf r)).epoch) : d.patchStep r = .run := by
  have hn : (d.patch? (patchOf r)).isNone = false := by simpa using hp
  simp [Dev.patchStep, hn, ho, he]

theorem patchStep_unknown (hp : d.patch? (patchOf r) = none) : d.patchStep r = .say badValue := by
  simp [Dev.patchStep, hp]

theorem patchStep_stale (hp : (d.patch? (patchOf r)).isSome = true) (ho : d.owns (patchOf r) = true) (h0 : 0 < epochOf r)
    (he : epochOf r < (d.place (patchOf r)).epoch) :
    d.patchStep r = .say ⟨.staleEpoch, 0, leBytes 4 (d.place (patchOf r)).epoch⟩ := by
  have hn : (d.patch? (patchOf r)).isNone = false := by simpa using hp
  simp [Dev.patchStep, hn, ho, he, Nat.ne_of_lt he, Nat.ne_of_gt h0]

theorem patchStep_ahead (hp : (d.patch? (patchOf r)).isSome = true) (ho : d.owns (patchOf r) = true)
    (he : (d.place (patchOf r)).epoch < epochOf r) : d.patchStep r = .say ⟨.busy, 0x000F, []⟩ := by
  have hn : (d.patch? (patchOf r)).isNone = false := by simpa using hp
  have h0 : epochOf r ≠ 0 := by omega
  simp [Dev.patchStep, hn, ho, Nat.ne_of_gt he, Nat.not_lt.2 (Nat.le_of_lt he), h0, refuse]

theorem patchStep_moved (hp : (d.patch? (patchOf r)).isSome = true) (ho : d.owns (patchOf r) = false)
    (hf : (d.place (patchOf r)).forwards = false) (hw : (d.place (patchOf r)).withdrawn = false)
    (hn : (d.place (patchOf r)).owner ≠ 0x3FF) :
    d.patchStep r = .say (notForwarded (d.place (patchOf r)).owner (d.place (patchOf r)).epoch) := by
  have hs : (d.patch? (patchOf r)).isNone = false := by simpa using hp
  simp [Dev.patchStep, hs, ho, hf, hw, hn]

end

section
variable {c : Instr} {s : State} {op : Op} {n : Nat} {chk : Dev → Req → Option Answer} {act : Dev → Req → Dev × Option Answer}
  {r : Req}

/-- A patch-addressed request that Table 2-7 has run here completes as its row says. -/
theorem patch_runs {e : Dev} {a : Answer} (hx : exec c s = .next (s.run (servePatch op n chk act r))) (h : Serves op r s.dev)
    (hl : r.params.length = 8 + n) (hrun : s.dev.patchStep r = .run) (hc : ∀ x, chk (s.dev.aside x) r = none)
    (ha : act (s.dev.taken r) r = (e, some a)) (h1 : a.status ≠ .auth) (h2 : a.status ≠ .overrun) :
    Completes c s (Replied op.code r a e) := by
  refine request_acts hx rfl h (fun x => ?_) ?_ h1 h2
  · simp only [lengthIs_eq_none hl, patchStep_aside, hrun, hc]
  · simp only [patchStep_taken, hrun, ha]

/-- A patch-addressed request that Table 2-7 has answered is answered, and nothing of it is executed. -/
theorem patch_says {a : Answer} (hx : exec c s = .next (s.run (servePatch op n chk act r))) (h : Serves op r s.dev)
    (hl : r.params.length = 8 + n) (hsay : s.dev.patchStep r = .say a) (h1 : a.status ≠ .auth) (h2 : a.status ≠ .overrun) :
    Completes c s (Replied op.code r a (s.here.takeCounter r)) := by
  refine request_denied hx rfl h (fun x => ?_) h1 h2
  simp only [lengthIs_eq_none hl, patchStep_aside, hsay]

end

/-! ## BLINK_REGISTER -/

theorem busesOn_taken (d : Dev) (r : Req) : (d.taken r).busesOn = d.busesOn := by
  unfold Dev.busesOn
  have hb : ∀ b, (d.taken r).is P.BUS_EN [b] = d.is P.BUS_EN [b] := fun b =>
    is_taken d r _ _ (by simp [Row.key, Row.addr, P.BUS_EN, P.Q_PEAK]; omega)
  simp only [hb]

theorem mem_maskCores {m k : Nat} : k ∈ maskCores m ↔ k < 64 ∧ m / 2 ^ k % 2 = 1 := by
  simp [maskCores, bitOf]

/-- Settles O19: the first row of Table 2-7 that holds of the patch decides, and a session's start is read from the device's time. -/
theorem outputRequests : Obligations.OutputRequests := by
  refine ⟨?tile, ?patch, ?blink, ?elsewhere⟩
  case tile =>
    rintro s r p t i hs hl rfl rfl hp ho he hi d
    refine patch_runs rfl hs hl (patchStep_run hp ho he) (fun x => ?_) ?_ nofun nofun
    · rw [tileIndex_aside, hi]
      rfl
    · have hi' : (s.dev.taken r).tileIndex (patchOf r) (leAt r.params 8 4) = some i := by rw [tileIndex_taken, hi]
      simp only [report, hi', Option.getD_some]
      rfl
  case patch =>
    rintro s r p hs hl rfl hp ho he
    exact patch_runs rfl hs hl (patchStep_run hp ho he) (fun x => rfl) rfl nofun nofun
  case blink =>
    intro s r hs hl ht hcores start
    refine request_acts rfl rfl hs (fun x => ?_) ?_ nofun nofun
    · have hcomp : ((maskCores (leAt r.params 0 8)).any fun k => !(s.dev.aside x).is P.COMP_EN [k]) = false := by
        rw [List.any_eq_false]
        intro k hk
        obtain ⟨hk, hb⟩ := mem_maskCores.1 hk
        simp [(hcores k hk hb).1]
      have hregs : ((maskCores (leAt r.params 0 8)).any fun k =>
          (s.dev.aside x).fus.regs.any fun g => g.cores.contains k) = false := by
        rw [List.any_eq_false]
        intro k hk
        obtain ⟨hk, hb⟩ := mem_maskCores.1 hk
        simpa using (hcores k hk hb).2
      simp only [lengthIs_eq_none hl, rd_aside, if_neg ht, hcomp, hregs, Bool.false_eq_true, if_false]
    · have hb : ∀ q : Row, q.key [] ≠ P.Q_PEAK.key [] → (s.dev.taken r).rd q = s.dev.rd q := fun q h => rd_taken s.dev r q [] h
      have hstart : start = ((s.dev.taken r).now + 1500000000 + sec 4 - 1) / sec 4 * sec 4 := by rw [now_taken]
      rw [hstart, ← busesOn_taken s.dev r, ← clk_taken s.dev r, ← fus_taken s.dev r, ← hb P.BLINK_SYM (by decide),
        ← hb P.BLINK_REP (by decide)]
      rfl
  case elsewhere =>
    rintro s r p hs hl rfl
    refine ⟨fun hp => ?_, fun hp ho h0 he => ?_, fun hp ho he => ?_, fun hp ho hf hw hn => ?_⟩
    · exact patch_says rfl hs hl (patchStep_unknown hp) nofun nofun
    · exact patch_says rfl hs hl (patchStep_stale hp ho h0 he) nofun nofun
    · exact patch_says rfl hs hl (patchStep_ahead hp ho he) nofun nofun
    · exact patch_says rfl hs hl (patchStep_moved hp ho hf hw hn) nofun nofun

end Sys2Proof.Machine

/-! ## Requests of the chain and the array -/

namespace Sys2Proof.Machine

section
variable (d : Dev) (x : Aside)

theorem knownAddr_aside (a : Nat) : (d.aside x).knownAddr a = d.knownAddr a := rfl

end

theorem knownAddr_taken (d : Dev) (r : Req) (a : Nat) : (d.taken r).knownAddr a = d.knownAddr a := by
  unfold Dev.knownAddr
  rw [plc_taken, uid_taken]

/-- An answer that sets no flag is formed, kept and sent. -/
theorem answer_eq {d : Dev} {op : Nat} {r : Req} {a : Answer} {b : Back} (h1 : a.status ≠ .auth) (h2 : a.status ≠ .overrun) :
    d.answer op r a b = (d.keep (d.formReply op r a b)).send (d.formReply op r a b) := by
  unfold Dev.answer
  rw [statusFlags_none h1 h2]

/-- Settles O20: each row's check passes on what the statement assumes, ENUMERATE's reply is formed between the step and the token,
and the reports are read from the device that has taken the request. -/
theorem chainAndArrayRequests : Obligations.ChainAndArrayRequests := by
  refine ⟨?enumerate, ?addressSet, ?placement, ?time, ?read, ?gather, ?census⟩
  case enumerate =>
    intro s r hs hl ha hv hd e
    obtain ⟨t, hx, hpend, ht⟩ := request_holds (c := .enumerate r) (f := enumerate r) rfl rfl hs
      (by simp [lengthIs_eq_none hl, ha, hv, hd]) rfl
    refine ⟨t, hx, hpend, _, formReply_isReply e.1 0x0600 r _ ((s.dev.taken r).backOf r), ?_⟩
    rw [answer_eq (a := okWith _) nofun nofun] at ht
    exact ht
  case addressSet =>
    rintro s r a hs hl rfl ha hk
    refine request_acts rfl rfl hs (fun x => ?_) rfl nofun nofun
    rw [knownAddr_taken] at hk
    simp [lengthIs_eq_none hl, ha, knownAddr_aside, hk]
  case placement =>
    intro s r hs hp d
    exact request_reports rfl rfl hs (lengthIs_of_params hp rfl) rfl nofun nofun
  case time =>
    intro s r hs hp
    have hr : ∀ q : Row, q.key [] ≠ P.Q_PEAK.key [] → (s.dev.taken r).rd q = s.dev.rd q := fun q h => rd_taken s.dev r q [] h
    refine request_reports rfl rfl hs (lengthIs_of_params hp rfl) ?_ nofun nofun
    simp (disch := decide) only [now_taken, hr]
  case read =>
    rintro s r l n hs hl rfl hf e
    refine request_acts rfl rfl hs (fun x => ?_) ?_ nofun nofun
    · simp [lengthIs_eq_none hl, hf]
    · simp only [report, plc_taken, hf]
      rfl
  case gather =>
    intro s r hs hl
    exact request_acts rfl rfl hs (fun x => if_neg (by omega)) rfl nofun nofun
  case census =>
    intro s r hs hp hc d n
    refine ⟨fun h => ?_, fun h => ?_⟩
    all_goals
      refine request_acts rfl rfl hs (fun x => ?_) ?_ nofun nofun
      · simp [lengthIs_of_params (n := 0) hp rfl, hc]
    · simp only [n, d, ← plc_taken s.dev r] at h ⊢
      simp only [h, List.map_nil, List.isEmpty_nil, if_true]
      rfl
    · simp only [n, d, ← plc_taken s.dev r, ← clk_taken s.dev r] at h ⊢
      simp only [List.isEmpty_iff, List.map_eq_nil_iff, h, if_false]
      rfl

end Sys2Proof.Machine

/-! ## Requests of the configuration -/

namespace Sys2Proof.Machine

theorem bulkSize_aside (d : Dev) (x : Aside) (n : Nat) : (d.aside x).bulkSize n = d.bulkSize n := rfl

theorem linkTo_taken (d : Dev) (r : Req) (a : Nat) : (d.taken r).linkTo a = d.linkTo a := by
  have hu : ∀ m, (d.taken r).is P.SL_LINK_UP [m] = d.is P.SL_LINK_UP [m] := fun m =>
    is_taken d r _ _ (by simp [Row.key, Row.addr, P.SL_LINK_UP, P.Q_PEAK]; omega)
  have hn : ∀ m, (d.taken r).rd P.NEIGH [m] = d.rd P.NEIGH [m] := fun m =>
    rd_taken d r _ _ (by simp [Row.key, Row.addr, P.NEIGH, P.Q_PEAK]; omega)
  unfold Dev.linkTo Dev.upLinks
  simp only [hu, hn]

/-! ### What a reply leaves as it was -/

section
variable {op : Nat} {r : Req} {a : Answer} {e t : Dev} (h : Replied op r a e t)
include h

theorem Replied.rd_eq {q : Row} {ix : List Nat}
    (hk : q.key ix ∉ [P.SCORE.key [], P.H_PEN.key [], P.ALARM_PIN.key [], P.SVC_DROP.key []]) : t.rd q ix = e.rd q ix := by
  obtain ⟨p, -, hc⟩ := h
  refine Dev.rd_congr (hc.fields _ fun f hf hq => hk ?_)
  rw [hq]
  simp only [List.mem_cons, List.not_mem_nil, or_false] at hf ⊢
  rcases hf with rfl | rfl | rfl | rfl <;> simp

theorem Replied.tbl_eq : t.tbl = e.tbl := by
  obtain ⟨p, -, hc⟩ := h
  exact (hc.parts .tbl (by decide)).symm

theorem Replied.nv_eq : t.nv = e.nv := by
  obtain ⟨p, -, hc⟩ := h
  exact (hc.parts .nv (by decide)).symm

theorem Replied.stage_eq : t.plc.stage = e.plc.stage := by
  obtain ⟨p, -, hc⟩ := h
  rw [hc.array]
  rfl

theorem Replied.image_eq : t.plc.image = e.plc.image := by
  obtain ⟨p, -, hc⟩ := h
  rw [hc.array]
  rfl

end

/-! ### The staging cleared -/

/-- The fields that follow the staging. -/
def stageRows : List Row :=
  [P.STG_GEN, P.STG_DIG_LO, P.STG_DIG_HI, P.STG_STATE, P.STG_MISSING, P.ACT_LO, P.ACT_HI]

/-- Without a staging its fields read 0, and nothing else of the device changes. -/
theorem setStage_none (d : Dev) :
    (∀ q ∈ stageRows, (d.setStage none).rd q = 0) ∧
    (∀ q ix, q.key ix ∉ stageRows.map (Row.key · []) → (d.setStage none).rd q ix = d.rd q ix) ∧
    (d.setStage none).plc = { d.plc with stage := none } ∧ (d.setStage none).nv = d.nv ∧ (d.setStage none).tbl = d.tbl := by
  have he : d.setStage none = ({ d with plc := { d.plc with stage := none } } : Dev).wrs (stageRows.map fun q => (q, [], 0)) := rfl
  rw [he]
  refine ⟨?_, fun q ix hk => ?_, Dev.plc_wrs .., Dev.nv_wrs .., Dev.tbl_wrs ..⟩
  · intro q hq
    simp only [stageRows, List.mem_cons, List.not_mem_nil, or_false] at hq
    rcases hq with rfl | rfl | rfl | rfl | rfl | rfl | rfl <;>
      simp (disch := decide) only [stageRows, List.map_cons, List.map_nil, Dev.wrs, Dev.rd_wr_other, Dev.rd_wr_same] <;> rfl
  · refine Dev.rd_congr (Dev.get?_wrs_other _ _ _ fun y hy hq => hk ?_)
    obtain ⟨z, hz, rfl⟩ := List.mem_map.1 hy
    exact hq ▸ List.mem_map_of_mem hz

/-- What is staged dropped: no staging, no bulk write of one, and the active configuration as it was. -/
theorem dropStaged_eq {d : Dev} (h : d.plc.stage ≠ none) : ∃ b, d.dropStaged =
    ({ d with nv := { d.nv with bulk := b, bulkQ := d.nv.bulkQ.filter fun j => decide (j.why ≠ BulkWhy.config) } } : Dev).setStage none := by
  unfold Dev.dropStaged
  obtain ⟨g, hg⟩ := Option.ne_none_iff_exists'.1 h
  rw [hg]
  dsimp only
  split
  · exact ⟨_, rfl⟩
  · exact ⟨d.nv.bulk, rfl⟩

/-- Settles O21: the checks of each row pass on what the statement assumes of the staging; a discard is what `setStage_none` says of
the device whose staging is dropped. -/
theorem configurationRequests : Obligations.ConfigurationRequests := by
  refine ⟨?stage, ?activate, ?discard, ?exchange⟩
  case stage =>
    rintro s r i b hs hl rfl hne rfl own hlt hbusy h0 g t more
    have hlen : ¬ (r.params.length < 11 ∨ 1034 < r.params.length) := by
      rw [ne_eq, List.drop_eq_nil_iff] at hne
      omega
    have hrange : ((own.bind fun g => g.blocks.get? 0).map fun h => leAt h 4 2).any (fun n => decide (n ≤ leAt r.params 8 2)) = false := by
      cases hg : own.bind fun g => g.blocks.get? 0 with
      | none => rfl
      | some h => simpa [hg] using hlt
    have hown : (own.isNone && s.dev.plc.stage.any (·.act.isSome)) = false := by
      cases ho : own with
      | none => simpa using hbusy ho
      | some _ => rfl
    have accepts : ∀ e, (if own.isNone || decide (g.put (leAt r.params 8 2) (r.params.drop 10) ≠ g)
          then (s.dev.taken r).dropStaged.setStage (some more)
        else if g.complete then (s.dev.taken r).complete t .ok
        else (s.dev.taken r).setStage (some more)) = e →
        Completes (.configStage r) s (Replied 0x0604 r okay e) := by
      intro e he
      refine request_acts rfl rfl hs (fun x => ?_) ?_ nofun nofun
      · simp only [plc_aside, rd_aside, bulkSize_aside]
        refine (if_neg (by simpa using hlen)).trans ((if_neg ?_).trans ((if_neg (Bool.eq_false_iff.1 hown)).trans
          ((if_neg ?_).trans (if_neg ?_))))
        · simp only [Bool.or_eq_true, Bool.and_eq_true, decide_eq_true_eq, not_or, not_and]
          exact ⟨Bool.eq_false_iff.1 hrange, fun hi => (h0 hi).1⟩
        · rw [Bool.and_eq_true, decide_eq_true_eq]
          rintro ⟨hi, hbad⟩
          obtain ⟨-, hg, hc, -⟩ := h0 hi
          rcases of_decide_eq_true hbad with hbad | hbad
          · exact hbad hg
          · omega
        · rw [Bool.and_eq_true, decide_eq_true_eq]
          rintro ⟨hi, hbad⟩
          obtain ⟨hsize, hlow⟩ := of_decide_eq_true hbad
          obtain ⟨-, -, -, h | h⟩ := h0 hi
          · exact hsize h
          · omega
      · rw [← he]
        simp only [plc_taken]
        rfl
    refine ⟨fun hn hp hc => accepts _ ?_, fun hn hp hc => accepts _ ?_, fun hn => accepts _ ?_⟩
    · simp [Option.isNone_iff_eq_none, hn, hp, hc]
    · simp [Option.isNone_iff_eq_none, hn, hp, hc]
    · exact if_pos (by simpa [Option.isNone_iff_eq_none] using hn)
  case activate =>
    rintro s r g t hs hl rfl hst hc hg h1 h2 hsrc
    refine request_acts rfl rfl hs (fun x => ?_) ?_ nofun nofun
    · have hnow : (s.dev.aside x).now = s.dev.now := rfl
      simp [lengthIs_eq_none hl, hst, hc, hg, hnow, Nat.not_lt.2 h1, Nat.not_lt.2 h2, hsrc]
    · simp only [plc_taken, hst, Option.map_some]
  case discard =>
    intro s r hs hp
    refine ⟨fun h => ?_, fun h => ?_⟩
    · refine request_denied rfl rfl hs (fun x => ?_) nofun nofun
      simp [lengthIs_of_params (n := 0) hp rfl, h, refuse]
    · have hrow : Completes (.configDiscard r) s (Replied 0x0606 r okay (s.dev.taken r).dropStaged) := by
        refine request_acts rfl rfl hs (fun x => ?_) rfl nofun nofun
        simp [lengthIs_of_params (n := 0) hp rfl, h]
      obtain ⟨t, hx, hq, ht⟩ := hrow
      obtain ⟨bulk, he⟩ := dropStaged_eq (d := s.dev.taken r) (by rwa [plc_taken])
      rw [he] at ht
      obtain ⟨hrows, hother, hplc, hnv, htbl⟩ := setStage_none
        ({ s.dev.taken r with nv := { (s.dev.taken r).nv with
          bulk := bulk, bulkQ := (s.dev.taken r).nv.bulkQ.filter fun j => decide (j.why ≠ BulkWhy.config) } } : Dev)
      refine ⟨t, hx, hq, ?_, ?_, ?_, ?_, ?_, ?_, ?_, ?_, ?_⟩
      · rw [ht.stage_eq, hplc]
      · rw [ht.rd_eq (by decide), hrows _ (by decide)]
      · rw [ht.rd_eq (by decide), hrows _ (by decide)]
      · rw [ht.rd_eq (by decide), hrows _ (by decide)]
      · rw [ht.rd_eq (by decide), hrows _ (by decide)]
      · rw [ht.nv_eq, hnv]
        intro j hj
        simpa using (List.mem_filter.1 hj).2
      · rw [ht.tbl_eq, htbl, tbl_taken]
      · rw [ht.image_eq, hplc, plc_taken]
      · rw [ht.rd_eq (by decide), hother _ _ (by decide)]
        exact rd_taken s.dev r _ _ (by decide)
  case exchange =>
    intro s r hs hl
    refine ⟨fun h => ?_, fun m h => ?_⟩
    all_goals
      refine request_acts rfl rfl hs (fun x => lengthIs_eq_none hl) ?_ nofun nofun
      simp only [linkTo_taken, h]

end Sys2Proof.Machine

/-! ## Requests of the memory -/

namespace Sys2Proof.Machine

/-- A request that is served, whose own checks pass whatever an accepted counter leaves aside and whose reply is held, completes
with its effect. -/
theorem request_held {c : Instr} {s : State} {f : Dev → Dev} {op : Op} {chk : Dev → Req → Option Answer}
    {act : Dev → Req → Dev × Option Answer} {r : Req} {e : Dev} (hx : exec c s = .next (s.run f))
    (hf : f s.here = serve op chk act r s.here) (h : Serves op r s.dev) (hc : ∀ x, chk (s.dev.aside x) r = none)
    (ha : act (s.dev.taken r) r = (e, none)) : Completes c s (Follows e) := by
  obtain ⟨x, hx'⟩ := takeCounter_aside s r
  exact request_holds hx hf h (by rw [hx']; exact hc x) ha

/-- A byte of a table as its reads give it. -/
theorem byteAt_tblRead (d : Dev) (t o : Nat) {i n : Nat} (h : i < n) :
    byteAt (d.tblRead t o n) i = (d.tbl.read (tblAddr t o + i)).toNat := by
  simp [byteAt, Dev.tblRead, Mem.reads, List.getD, h]

/-- A byte of a table does not depend on how many are read. -/
theorem byteAt_tblRead_eq (d : Dev) (t o : Nat) {i m n : Nat} (hm : i < m) (hn : i < n) :
    byteAt (d.tblRead t o m) i = byteAt (d.tblRead t o n) i := by
  rw [byteAt_tblRead d t o hm, byteAt_tblRead d t o hn]

section
variable (d : Dev) (r : Req)

theorem nvCommit_taken : (d.taken r).nv.commit = d.nv.commit := by rw [nv_taken]
theorem nvBuf_taken : (d.taken r).nv.buf = d.nv.buf := by rw [nv_taken]
theorem nvWaiting_taken : (d.taken r).nv.waiting = d.nv.waiting := by rw [nv_taken]
theorem nvLostRec_taken : (d.taken r).nv.lostRec = d.nv.lostRec := by rw [nv_taken]

end

@[simp] theorem rd_wrote (d : Dev) (g : Nat) (q : Row) (ix : List Nat) : (d.wrote g).rd q ix = d.rd q ix := Dev.rd_congr rfl

/-- One NV_COMMIT ends with what became of the record it waited for. -/
theorem endCommits_single (d : Dev) (t : Ticket) (bad : Bool) : d.endCommits [t] bad =
    ({ d with nv := { d.nv with lostRec := false } } : Dev).complete t (if bad then .fault else .ok) (if bad then 0x3304 else 0) := by
  cases bad <;> rfl

/-- Settles O24: the set point the profile names against the one in force, the scan of the channel, and the commit and buffer of the
store decide each row's branch. -/
theorem memoryRequests : Obligations.MemoryRequests := by
  refine ⟨?profile, ?scan, ?abort, ?commit⟩
  case profile =>
    intro s r p hs hp hp7 t f e
    have h0 : byteAt r.params 0 = p := byteAt_first hp (by omega)
    have hf : byteAt (s.dev.tblRead (0x30C0 + p) 0 1) 0 % 2 = f := congrArg (· % 2) (byteAt_tblRead_eq _ _ _ (by omega) (by omega))
    have hcur : e.rd P.FSP_CUR = s.dev.rd P.FSP_CUR := by
      simp (disch := decide) only [e, rd_wrote, Dev.wrs, Dev.rd_wr_other, rd_taken]
    refine ⟨fun h hb => ?_, fun h hpt => ?_⟩
    · refine request_acts rfl rfl hs (fun x => ?_) ?_ nofun nofun
      · simp [oneByte_eq_none hp hp7 (by omega), h0, hf, h, hb]
      · simp only [h0, tblRead_taken]
        exact if_pos (hcur.trans h).symm
    · refine request_held rfl rfl hs (fun x => ?_) ?_
      · have hpt' : (s.dev.aside x).pointCheck f = none := hpt
        simp [oneByte_eq_none hp hp7 (by omega), h0, hf, hpt']
      · simp only [h0, tblRead_taken]
        exact if_neg fun hc => h (hcur.symm.trans hc.symm)
  case scan =>
    intro s r hs hc c lane x
    refine request_acts rfl rfl hs (fun y => hc) ?_ nofun nofun
    simp only [x, ← mem_taken s.dev r]
    rfl
  case abort =>
    intro s r c x hs hp hc hx
    have h0 : byteAt r.params 0 = c := byteAt_first hp (by omega)
    refine request_acts rfl rfl hs (fun y => ?_) ?_ nofun nofun
    · have hx' : (s.dev.aside y).mem.scans.get? c = some x := hx
      simp [oneByte_eq_none hp hc (by omega), h0, hx']
    · simp only [h0, mem_taken, hx]
  case commit =>
    intro s r hs hp t waits
    simp only [waits, ← nvCommit_taken s.dev r, ← nvBuf_taken s.dev r, ← nvWaiting_taken s.dev r, ← nvLostRec_taken s.dev r]
    refine ⟨fun h => ?_, fun h hb => ?_, fun h hb => ?_⟩
    all_goals
      refine request_acts rfl rfl hs (fun x => lengthIs_of_params hp rfl) ?_ nofun nofun
      dsimp only
    · rw [if_pos (Option.isSome_iff_ne_none.2 h)]
      rfl
    · rw [if_neg (by simp [h]), if_pos (by simp [hb]), endCommits_single]
      rfl
    · rw [h, if_neg (by simp), if_neg (by simpa using hb)]
      rfl

end Sys2Proof.Machine

/-! ## Requests of the converter -/

namespace Sys2Proof.Machine

section
variable (d : Dev) (x : Aside) (r : Req) (m : Nat)

theorem mod_aside : (d.aside x).mod m = d.mod m := rfl
theorem startCheck_aside : (d.aside x).startCheck m = d.startCheck m := rfl
theorem zeroKept_aside : (d.aside x).zeroKept m = d.zeroKept m := rfl

@[simp] theorem mod_taken : (d.taken r).mod m = d.mod m := by
  unfold Dev.mod
  rw [conv_taken]

theorem calCh_taken : (d.taken r).rd P.CAL_CH [m] = d.rd P.CAL_CH [m] :=
  rd_taken d r _ _ (by simp [Row.key, Row.addr, P.CAL_CH, P.Q_PEAK]; omega)

theorem gain_taken (ch : Nat) : (d.taken r).rd P.GAIN [ch] = d.rd P.GAIN [ch] :=
  rd_taken d r _ _ (by simp [Row.key, Row.addr, P.GAIN, P.Q_PEAK]; omega)

end

section
variable {d : Dev} {m st : Nat} {t : Ticket}

theorem calibrate_begins (h : (d.mod m).inj = []) :
    d.calibrate m st t = (d.calRun m ⟨st, d.rd P.CAL_CH [m], [], false, t⟩, okay) := by
  simp [Dev.calibrate, h]

theorem calibrate_waits (h : (d.mod m).inj ≠ []) : d.calibrate m st t =
    ((d.setMod m { d.mod m with cal := some ⟨st, d.rd P.CAL_CH [m], [], true, t⟩ }).calState m, refuse .deferred 0x3109) := by
  have hw : (!(d.mod m).inj.isEmpty) = true := by simpa using h
  simp [Dev.calibrate, hw]

theorem calRun_factory (ch : Nat) (l : List Int) (w : Bool) : d.calRun m ⟨2, ch, l, w, t⟩ =
    ((d.setCoef m (d.rd P.GAIN [ch]) (d.factoryCoef m (d.rd P.GAIN [ch])).1 (d.factoryCoef m (d.rd P.GAIN [ch])).2).calOver m).complete
      t .ok := rfl

theorem calRun_abandon (ch : Nat) (l : List Int) (w : Bool) : d.calRun m ⟨3, ch, l, w, t⟩ =
    ((d.setMod m { d.mod m with zero := none }).calOver m).complete t .ok := rfl

end

section
variable {s : State} {r : Req} {m st : Nat} (hp : r.params = [BitVec.ofNat 8 m, BitVec.ofNat 8 st]) (hm : m < 4)
  (hrec : s.dev.recalling = false) (hcal : (s.dev.mod m).cal = none)
include hp hm hrec hcal

/-- The checks of CONV_CALIBRATE pass on a modulator without a step in hand, where the step has its channel and, at full scale,
its zero. -/
theorem calCheck_eq_none (hst : st < 4) (hch : st = 3 ∨ s.dev.rd P.CAL_CH [m] ≠ 0x7F) (hz : st = 1 → s.dev.zeroKept m = true)
    (x : Aside) : calCheck (s.dev.aside x) r = none := by
  have h0 : byteAt r.params 0 = m := byteAt_first hp (by omega)
  have h1 : byteAt r.params 1 = st := byteAt_second hp (by omega)
  unfold calCheck
  rw [lengthIs_of_params (n := 2) hp rfl]
  dsimp only
  rw [h0, h1, mod_aside, rd_aside, recalling_aside, zeroKept_aside, hrec, hcal, if_neg (by omega), if_neg (by simp), if_neg (by simp),
    if_neg (fun h => hch.elim h.1 (· h.2)), if_neg (by simpa using hz)]

/-- A step of CONV_CALIBRATE waits while an injected conversion is queued or runs, and else begins. -/
theorem convCalibrate_completes {c : Instr} (hx : exec c s = .next (s.run (convCalibrate st r)))
    (hs : Serves ⟨0x0802, .service, false⟩ r s.dev) (hst : st < 4) (hch : st = 3 ∨ s.dev.rd P.CAL_CH [m] ≠ 0x7F)
    (hz : st = 1 → s.dev.zeroKept m = true) :
    let step (waits : Bool) : CalStep := ⟨st, s.dev.rd P.CAL_CH [m], [], waits, ⟨0x0802, r.seq, r.host⟩⟩
    ((s.dev.mod m).inj = [] → Completes c s (Replied 0x0802 r okay ((s.dev.taken r).calRun m (step false)))) ∧
    ((s.dev.mod m).inj ≠ [] → Completes c s (Replied 0x0802 r (refuse .deferred 0x3109)
      (((s.dev.taken r).setMod m { s.dev.mod m with cal := some (step true) }).calState m))) := by
  intro step
  have h0 : byteAt r.params 0 = m := byteAt_first hp (by omega)
  have h1 : byteAt r.params 1 = st := byteAt_second hp (by omega)
  have hr : withByte 1 st r = r := withByte_self (by rw [hp]; rfl)
  have hf : convCalibrate st r s.here = serve ⟨0x0802, .service, false⟩ calCheck
      (fun d r => ((d.calibrate (byteAt r.params 0) (byteAt r.params 1) ⟨0x0802, r.seq, r.host⟩).1,
        some (d.calibrate (byteAt r.params 0) (byteAt r.params 1) ⟨0x0802, r.seq, r.host⟩).2)) r s.here := by
    show serve _ _ _ (withByte 1 st r) s.here = _
    rw [hr]
    rfl
  refine ⟨fun h => ?_, fun h => ?_⟩
  all_goals
    refine request_acts hx hf hs (calCheck_eq_none hp hm hrec hcal hst hch hz) ?_ nofun nofun
    rw [h0, h1]
  · rw [calibrate_begins (by rwa [mod_taken]), calCh_taken]
  · rw [calibrate_waits (by rwa [mod_taken]), calCh_taken, mod_taken]

end

/-- Settles O25: a sequence starts where `startCheck` lets it, DATA is taken before the report, and each step of CONV_CALIBRATE is
`convCalibrate_completes` at that step. -/
theorem converterRequests : Obligations.ConverterRequests := by
  refine ⟨?seq, ?status, ?calibrate⟩
  case seq =>
    intro s r m hs hp hm hst
    have h0 : byteAt r.params 0 = m := byteAt_first hp (by omega)
    refine request_acts rfl rfl hs (fun x => ?_) (by simp only [h0]) nofun nofun
    rw [lengthIs_of_params (n := 1) hp rfl]
    dsimp only
    rw [h0, if_neg (by omega), startCheck_aside, hst]
  case status =>
    intro s r m hs hp hm d
    have h0 : byteAt r.params 0 = m := byteAt_first hp (by omega)
    refine request_acts rfl rfl hs (fun x => ?_) (by simp only [h0]; rfl) nofun nofun
    rw [lengthIs_of_params (n := 1) hp rfl]
    dsimp only
    rw [h0, if_neg (by omega)]
  case calibrate =>
    intro s r m st hs hp hm hrec hcal ch t waits begun free
    have hmod : (s.dev.taken r).mod m = s.dev.mod m := mod_taken ..
    refine ⟨fun hst hch => ?_, fun hst hch hz => ?_, fun hst hch => ?_, fun hst => ?_⟩
    all_goals subst hst
    · have h := convCalibrate_completes (c := .convCalibrateZero r) hp hm hrec hcal rfl hs (by omega) (.inr hch) nofun
      simpa only [Dev.calRun, hmod, Nat.zero_le, if_true] using h
    · have h := convCalibrate_completes (c := .convCalibrateFullScale r) hp hm hrec hcal rfl hs (by omega) (.inr hch) fun _ => hz
      simpa only [Dev.calRun, hmod, Nat.le_refl, if_true] using h
    · have h := convCalibrate_completes (c := .convCalibrateFactory r) hp hm hrec hcal rfl hs (by omega) (.inr hch) nofun
      simpa only [calRun_factory, gain_taken] using h
    · have h := convCalibrate_completes (c := .convCalibrateAbandon r) hp hm hrec hcal rfl hs (by omega) (.inl rfl) nofun
      simpa only [calRun_abandon, hmod] using h

end Sys2Proof.Machine

/-! ## Requests of the shutter drivers -/

namespace Sys2Proof.Machine

section
variable (d : Dev) (x : Aside) (r : Req) (n : Nat)

theorem drv_aside : (d.aside x).drv n = d.drv n := rfl
theorem storeBusy_aside : (d.aside x).storeBusy = d.storeBusy := rfl

theorem chEn_taken : (d.taken r).is P.CH_EN [n] = d.is P.CH_EN [n] :=
  is_taken d r _ _ (by simp [Row.key, Row.addr, P.CH_EN, P.Q_PEAK]; omega)

theorem drv_taken : (d.taken r).drv n = d.drv n :=
  rd_taken d r _ _ (by simp [Row.key, Row.addr, P.DRV_STATE, P.Q_PEAK]; omega)

theorem energised_taken : (d.taken r).energised n = d.energised n := by
  unfold Dev.energised
  rw [drv_taken]

theorem chActive_taken : (d.taken r).chActive n = d.chActive n := by
  unfold Dev.chActive
  rw [drv_taken]

theorem owner_taken : (d.taken r).rd P.OWNER [n] = d.rd P.OWNER [n] :=
  rd_taken d r _ _ (by simp [Row.key, Row.addr, P.OWNER, P.Q_PEAK]; omega)

theorem clearSet_taken : (d.taken r).clearSet n = d.clearSet n := by
  have hl : (d.taken r).is P.HS_LATCH [n / 2] = d.is P.HS_LATCH [n / 2] :=
    is_taken d r _ _ (by simp [Row.key, Row.addr, P.HS_LATCH, P.Q_PEAK]; omega)
  unfold Dev.clearSet
  simp only [hl, chEn_taken]

end

/-! What sending an answer writes of the parameter fields is SVC_DROP alone. -/

theorem prm_send (d : Dev) (p : Reply) {k : Nat} (hk : k ≠ P.SVC_DROP.key []) : (d.send p).prm.get? k = d.prm.get? k := by
  obtain ⟨-, -, hprm, -⟩ := send_cases d p
  exact hprm k hk

theorem prm_answer {d : Dev} {op : Nat} {r : Req} {a : Answer} {b : Back} (h1 : a.status ≠ .auth) (h2 : a.status ≠ .overrun) {k : Nat}
    (hk : k ≠ P.SVC_DROP.key []) : (d.answer op r a b).prm.get? k = d.prm.get? k := by
  rw [answer_eq h1 h2, prm_send _ _ hk]
  rfl

theorem prm_release (d : Dev) (w : Waits) {a : Answer} (h1 : a.status ≠ .auth) (h2 : a.status ≠ .overrun) {k : Nat}
    (hk : k ≠ P.SVC_DROP.key []) : (d.release w a).prm.get? k = d.prm.get? k := by
  unfold Dev.release
  exact Dev.each_keeps (fun x y => y.prm.get? k = x.prm.get? k) (fun _ => rfl) (fun h g => g.trans h) _ _ _
    fun _ _ _ => prm_answer h1 h2 hk

theorem prm_abandonDiag (d : Dev) (n : Nat) {k : Nat} (hk : k ≠ P.SVC_DROP.key []) : (d.abandonDiag n).prm.get? k = d.prm.get? k := by
  unfold Dev.abandonDiag
  split
  · exact prm_release _ _ (a := refuse .denied 0x3205) nofun nofun hk
  · rfl

/-- Abandoned diagnoses leave a clear's channels as they are. -/
theorem clearSet_abandoned (d : Dev) (l : List Nat) (n : Nat) : (d.each l fun c d => d.abandonDiag c).clearSet n = d.clearSet n := by
  have hprm : ∀ k, k ≠ P.SVC_DROP.key [] → (d.each l fun c d => d.abandonDiag c).prm.get? k = d.prm.get? k := fun k hk =>
    Dev.each_keeps (fun x y => y.prm.get? k = x.prm.get? k) (fun _ => rfl) (fun h g => g.trans h) l _ d
      fun c _ e => prm_abandonDiag e c hk
  have hl := Dev.is_congr (r := P.HS_LATCH) (ix := [n / 2]) (hprm _ (by simp [Row.key, Row.addr, P.HS_LATCH, P.SVC_DROP]; omega))
  have hc : ∀ c, (d.each l fun c d => d.abandonDiag c).is P.CH_EN [c] = d.is P.CH_EN [c] := fun c =>
    Dev.is_congr (hprm _ (by simp [Row.key, Row.addr, P.CH_EN, P.SVC_DROP]; omega))
  unfold Dev.clearSet
  simp only [hl, hc]

/-- The parameter IDs of a channel's drive words (R343). -/
theorem driveWords (c : Nat) : [1, 2, 3].map (0x320100 + 8 * c + ·) = [0x320101 + 8 * c, 0x320102 + 8 * c, 0x320103 + 8 * c] := by
  simp only [List.map_cons, List.map_nil, List.cons.injEq, and_true]
  omega

section
variable {s : State} {r : Req} {act n v : Nat} (hp : r.params = [BitVec.ofNat 8 n, BitVec.ofNat 8 v])
include hp

/-- SHUTTER_TEST names its action in its second byte, so that fixing it changes nothing. -/
theorem shutterTest_serves (hv : v < 256) (hact : v % 16 = act) (f : Dev → Req → Dev × Option Answer) :
    shutterTest act f r s.here = serve ⟨0x0901, .service, false⟩ (testCheck act) f r s.here := by
  have hr : withByte 1 (byteAt r.params 1 / 16 * 16 + act) r = r := withByte_self (by
    rw [byteAt_second hp hv, hp, ← hact, Nat.div_add_mod']
    rfl)
  unfold shutterTest
  rw [hr]

/-- The checks of an action of one enabled channel that applies no profile. -/
theorem testCheck_enabled (h64 : n < 64) (h1 : act = 1 → s.dev.recalling = false) (h4 : act ≠ 4) (hen : s.dev.is P.CH_EN [n] = true)
    (x : Aside) : testCheck act (s.dev.aside x) r = none := by
  unfold testCheck
  rw [lengthIs_of_params (n := 2) hp rfl]
  dsimp only
  rw [byteAt_first hp (by omega), is_aside, recalling_aside, hen, if_neg (by simp; omega), if_neg h4, if_neg (by simpa using h1), if_neg (by simp)]

end

/-- Settles O26: each action's check passes on what the statement assumes; a close splits on the status of its own check, and a clear's
channels are the same after the diagnoses it abandons. -/
theorem shutterRequests : Obligations.ShutterRequests := by
  refine ⟨?status, ?diagnose, ?close, ?release, ?clear, ?profile, ?profileAll⟩
  case status =>
    intro s r n hs hp hn d
    have h0 : byteAt r.params 0 = n := byteAt_first hp (by omega)
    refine request_acts rfl rfl hs (fun x => ?_) (by simp only [h0]; rfl) nofun nofun
    rw [lengthIs_of_params (n := 1) hp rfl]
    dsimp only
    rw [h0, if_neg (by omega)]
  case diagnose =>
    intro s r n hs hp
    refine ⟨fun hn hen => ?_, fun hn => ?_⟩
    · have h0 : byteAt r.params 0 = n := byteAt_first hp (by omega)
      refine request_acts rfl (shutterTest_serves (v := 0) hp (by omega) rfl _) hs
        (testCheck_enabled (v := 0) hp hn nofun nofun hen) ?_ nofun nofun
      simp only [h0, if_neg (show n ≠ 0xFF by omega)]
    · subst hn
      have h0 : byteAt r.params 0 = 0xFF := byteAt_first hp (by omega)
      refine request_acts rfl (shutterTest_serves (v := 0) hp (by omega) rfl _) hs (fun x => ?_) ?_ nofun nofun
      · simp [testCheck, lengthIs_of_params (n := 2) hp rfl, h0]
      · simp only [h0, if_true]
  case close =>
    intro s r n hs hp hn hrec hen hfree a
    have h0 : byteAt r.params 0 = n := byteAt_first hp (by omega)
    obtain ⟨b, hb⟩ : ∃ b, (s.dev.taken r).closeCheck n false false = b := ⟨_, rfl⟩
    simp only [a, hb]
    refine ⟨fun h => ?_, fun h => ?_, fun h => ?_⟩
    all_goals
      refine request_acts rfl (shutterTest_serves (v := 1) hp (by omega) rfl _) hs
        (testCheck_enabled (v := 1) hp hn (fun _ => hrec) nofun hen) ?_ (fun g => by simp [g] at h) (fun g => by simp [g] at h)
      simp only [h0, hfree, hb, Bool.false_eq_true, if_false]
    · simp only [h]
    · simp only [h]
      rfl
    · simp only [List.mem_cons, List.not_mem_nil, or_false] at h
      rcases h with h | h | h | h <;> simp only [h]
  case release =>
    intro s r n hs hp hn hen
    have h0 : byteAt r.params 0 = n := byteAt_first hp (by omega)
    refine ⟨fun h => ?_, fun h ho => ?_⟩
    all_goals
      refine request_acts rfl (shutterTest_serves (v := 2) hp (by omega) rfl _) hs
        (testCheck_enabled (v := 2) hp hn nofun nofun hen) ?_ nofun nofun
      simp only [h0, drv_taken, energised_taken, owner_taken, h, if_true, if_false]
    rw [if_neg]
    simp only [Bool.and_eq_true, decide_eq_true_eq, not_and]
    rintro he hw
    rcases ho with ho | ho
    · rw [ho] at he; cases he
    · exact ho hw
  case clear =>
    intro s r n hs hp hn hen hidle
    have h0 : byteAt r.params 0 = n := byteAt_first hp (by omega)
    refine request_held rfl (shutterTest_serves (v := 3) hp (by omega) rfl _) hs
      (testCheck_enabled (v := 3) hp hn nofun nofun hen) ?_
    simp only [h0, chActive_taken, hidle, clearSet_abandoned, clearSet_taken, Bool.false_eq_true, if_false]
  case profile =>
    intro s r n p hs hp hp7 hn hidle hstore
    have h0 : byteAt r.params 0 = n := byteAt_first hp (by omega)
    have h1 : byteAt r.params 1 = 16 * p + 4 := byteAt_second hp (by omega)
    refine request_acts rfl (shutterTest_serves hp (by omega) (by omega) _) hs (fun x => ?_) ?_ nofun nofun
    · unfold testCheck
      rw [lengthIs_of_params (n := 2) hp rfl]
      dsimp only
      rw [h0, h1, if_neg (by simp; omega), if_pos rfl, if_neg (by omega), drv_aside, if_neg (by simp [hidle]), storeBusy_aside, hstore]
    · simp only [h0, h1, if_neg (show n ≠ 0xFF by omega), show (16 * p + 4) / 16 % 8 = p by omega, driveWords, List.flatMap_singleton]
      rfl
  case profileAll =>
    intro s r p hs hp hp7 hstore set
    have h0 : byteAt r.params 0 = 0xFF := by rw [hp]; rfl
    have h1 : byteAt r.params 1 = 16 * p + 4 := byteAt_second hp (by omega)
    refine request_acts rfl (shutterTest_serves (n := 0xFF) hp (by omega) (by omega) _) hs (fun x => ?_) ?_ nofun nofun
    · unfold testCheck
      rw [lengthIs_of_params (n := 2) hp rfl]
      dsimp only
      rw [h0, h1, if_neg (by simp), if_pos rfl, if_neg (by omega), if_neg (by simp), storeBusy_aside, hstore]
    · simp only [h0, h1, if_true, show (16 * p + 4) / 16 % 8 = p by omega, driveWords, drv_taken]
      rfl

end Sys2Proof.Machine

/-! ## Doze, wake and the uplinks -/

namespace Sys2Proof.Machine

/-- What a reply leaves of the boot part is the service port's queue. -/
theorem Replied.boot_eq {op : Nat} {r : Req} {a : Answer} {e t : Dev} (h : Replied op r a e t) :
    t.boot = { e.boot with svcOut := t.boot.svcOut } := by
  obtain ⟨p, -, hc⟩ := h
  exact hc.service

/-! ### A wake event by the device's state -/

section
variable {d : Dev} {src : Nat}

theorem wakeEvent_dozing (h : d.rd P.DEV_STATE = 3) : d.wakeEvent src = d.beginWake src := if_pos h

theorem wakeEvent_entering (h : d.rd P.DEV_STATE = 5) (hl : d.boot.wakeLatched = none) :
    d.wakeEvent src = { d with boot := { d.boot with wakeLatched := some src } } := by
  simp [Dev.wakeEvent, h, hl]

theorem wakeEvent_other (h : d.rd P.DEV_STATE ≠ 3) (hl : d.rd P.DEV_STATE ≠ 5 ∨ d.boot.wakeLatched ≠ none) : d.wakeEvent src = d := by
  unfold Dev.wakeEvent
  rw [if_neg h, if_neg]
  rcases hl with hl | hl <;> simp [hl]

end

theorem devState_taken (d : Dev) (r : Req) : (d.taken r).rd P.DEV_STATE = d.rd P.DEV_STATE := rd_taken d r _ _ (by decide)

theorem wakeLatched_taken (d : Dev) (r : Req) : (d.taken r).boot.wakeLatched = d.boot.wakeLatched := by rw [boot_taken]

/-- A WAKE served is a wake event of source 2. -/
theorem wake_completes {s : State} {r : Req} (hs : Serves ⟨0x0B01, .operator, true⟩ r s.dev) (hp : r.params = []) :
    Completes (.wake r) s (Replied 0x0B01 r okay ((s.dev.taken r).wakeEvent 2)) :=
  request_acts rfl rfl hs (fun _ => lengthIs_of_params (n := 0) hp rfl) rfl nofun nofun

/-- Settles O27: DOZE's check splits on WAKE, the session and the trial; a wake event splits on DEV_STATE; entry, wake and the uplinks
are their rows' own branches. -/
theorem powerRequests : Obligations.PowerRequests := by
  refine ⟨?doze, ?wake, ?restart, ?entry, ?pin, ?wakeEnd, ?uplinks⟩
  case doze =>
    intro s r hs hp
    have aside : ∀ x, (s.dev.aside x).dozeCheck = s.dev.dozeCheck := fun x => rfl
    refine ⟨fun hw => ?_, fun hw hn => ?_, fun hw hn ht => ?_, fun hw hn ht => ?_⟩
    · refine request_denied rfl rfl hs (fun x => ?_) nofun nofun
      rw [lengthIs_of_params (n := 0) hp rfl, aside]
      exact if_pos hw
    · refine request_denied rfl rfl hs (fun x => ?_) nofun nofun
      rw [lengthIs_of_params (n := 0) hp rfl, aside]
      exact (if_neg (by simp [hw])).trans (if_pos (Option.isSome_iff_ne_none.2 hn))
    · refine request_denied rfl rfl hs (fun x => ?_) nofun nofun
      rw [lengthIs_of_params (n := 0) hp rfl, aside]
      exact (if_neg (by simp [hw])).trans ((if_neg (by simp [hn])).trans (if_pos (Option.isSome_iff_ne_none.2 ht)))
    · refine request_acts rfl rfl hs (fun x => ?_) rfl nofun nofun
      rw [lengthIs_of_params (n := 0) hp rfl, aside]
      exact (if_neg (by simp [hw])).trans ((if_neg (by simp [hn])).trans (if_neg (by simp [ht])))
  case wake =>
    intro s r hs hp
    obtain ⟨t, hx, hpend, ht⟩ := wake_completes hs hp
    refine ⟨fun h3 => ⟨t, hx, hpend, ?_⟩, fun h5 hl => ⟨t, hx, hpend, ?_⟩, fun h3 hl => ⟨t, hx, hpend, ?_⟩⟩
    · rw [wakeEvent_dozing (by rw [devState_taken, h3])] at ht
      have hb := ht.boot_eq
      refine ⟨(ht.rd_eq (by decide)).trans ?_, (ht.rd_eq (by decide)).trans ?_, by rw [hb]; exact clk_taken s.dev r, by rw [hb]; rfl, ht⟩
      · exact (Dev.rd_wr_other _ _ _ _ _ _ (by decide)).trans (Dev.rd_wr_same ..)
      · exact Dev.rd_wr_same ..
    · rw [wakeEvent_entering (by rw [devState_taken, h5]) (by rw [wakeLatched_taken, hl])] at ht
      refine ⟨(ht.rd_eq (by decide)).trans ((devState_taken s.dev r).trans h5), ?_⟩
      rw [ht.boot_eq]
    · rwa [wakeEvent_other (by rwa [devState_taken]) (by rwa [devState_taken, wakeLatched_taken])] at ht
  case restart =>
    intro s r hs hp
    exact request_acts rfl rfl hs (fun _ => lengthIs_of_params (n := 0) hp rfl) rfl nofun nofun
  case entry =>
    intro s p
    refine ⟨fun h => idle_of_same rfl ?_, fun ha h5 => ?_⟩
    · exact if_pos (by simp [show s.here.rd P.DEV_STATE ≠ 5 from h])
    · have begun : ¬((!s.here.alive || decide (s.here.rd P.DEV_STATE ≠ 5)) = true) := by
        simp [show s.here.alive = true from ha, show s.here.rd P.DEV_STATE = 5 from h5]
      refine ⟨fun hl => completes_with rfl ((if_neg begun).trans ?_), fun src hl => completes_with rfl ((if_neg begun).trans ?_)⟩
      · simp only [hl]
      · simp only [hl]
  case pin =>
    intro s
    refine ⟨completes_with rfl rfl, fun ha hw => completes_with rfl (if_pos ?_), fun hw => idle_of_same rfl ((if_neg ?_).trans ?_)⟩
    · show ((true && !s.dev.pins.wake) && s.dev.alive) = true
      rw [hw, ha]
      rfl
    · show ¬((true && !s.dev.pins.wake) && s.dev.alive) = true
      simp [hw]
    · have same : ({ s.dev.pins with wake := true } : Pins) = s.dev.pins := by rw [← hw]
      show ({ s.here with pins := { s.dev.pins with wake := true } } : Dev) = s.here
      rw [same]
      rfl
  case wakeEnd =>
    intro s
    refine ⟨fun h => idle_of_same rfl ?_, ?_⟩
    · exact if_pos (by simp [show s.here.rd P.DEV_STATE ≠ 6 from h])
    · intro ha h6 d₁ d₂ ends d₃ d₄
      refine completes_with rfl ((if_neg ?_).trans ?_)
      · simp [show s.here.alive = true from ha, show s.here.rd P.DEV_STATE = 6 from h6]
      · have four : List.range 4 = [0, 1, 2, 3] := rfl
        simp -zeta only [four]
        extract_lets e₁ e₂
        have h₁ : e₁ = d₁ := rfl
        have h₂ : e₂ = d₂ := congrArg (fun x : Dev => x.memWake.calWake.convWake) h₁
        clear_value e₂ d₂
        subst h₂
        rfl
  case uplinks =>
    intro s u hu
    have hu' : ¬4 ≤ u := by omega
    refine ⟨completes_with rfl (if_neg hu'), completes_with rfl (if_neg hu'), completes_with rfl (if_neg hu'),
      fun ha hst h7 hen hm => completes_with rfl ((if_neg hu').trans ?_), fun h => completes_with rfl ((if_neg hu').trans ?_)⟩
    · have on : (s.here.awake && s.here.boot.started && !s.here.inRecovery && s.here.is P.UL_EN [u] && !s.here.is P.UL_MODABS [u]) = true := by
        rw [show s.here.awake = true from ha, show s.here.boot.started = true from hst, show s.here.is P.UL_EN [u] = true from hen,
          show s.here.is P.UL_MODABS [u] = false from hm, show s.here.inRecovery = false from decide_eq_false h7]
        rfl
      simp only [on]
      rfl
    · have off : (s.here.awake && s.here.boot.started && !s.here.inRecovery && s.here.is P.UL_EN [u] && !s.here.is P.UL_MODABS [u]) = false := by
        rcases h with h | h | h
        · simp [show s.here.awake = false from h]
        · simp [show s.here.is P.UL_EN [u] = false from h]
        · simp [show s.here.is P.UL_MODABS [u] = true from h]
      simp only [off]
      rfl

end Sys2Proof.Machine

/-! ## Requests of events and health -/

namespace Sys2Proof.Machine

theorem bitsOf_eq (w lo n : Nat) : bitsOf w lo n = w / 2 ^ lo % 2 ^ n := rfl

/-- The severity an EVENT_ROUTE sets: none where bit 7 keeps the one in force. -/
theorem severity_eq (w : Nat) : (if bitOf w 7 then none else some (bitsOf w 8 2)) = if w / 128 % 2 = 1 then none else some (w / 256 % 4) := by
  simp [bitOf, bitsOf_eq]

section
variable {s : State} {r : Req}

theorem eventRead_reports {first : Nat} {es : List EvRec} (hs : Serves ⟨0x0C00, .open_, false⟩ r s.dev) (hl : r.params.length = 6)
    (h1 : 1 ≤ leAt r.params 4 2) (h21 : leAt r.params 4 2 ≤ 21)
    (hfrom : (s.dev.taken r).eventsFrom (leAt r.params 0 4) (leAt r.params 4 2) = (first, es)) :
    Completes (.eventRead r) s (Replied 0x0C00 r
      (okWith (leBytes 4 first ++ leBytes 4 ((s.dev.taken r).rd P.RING_HEAD) ++ es.flatMap fun e => e.bytes false)) (s.dev.taken r)) := by
  refine request_reports rfl rfl hs ?_ ?_ nofun nofun
  · rw [lengthIs_eq_none hl]
    exact if_pos ⟨h1, h21⟩
  · rw [hfrom]

theorem healthStatus_reports {b : List Byte} (hs : Serves ⟨0x0C03, .open_, false⟩ r s.dev) (hl : r.params.length = 2)
    (hx : leAt r.params 0 2 = 0 ∨ (0x1000 ≤ leAt r.params 0 2 ∧ leAt r.params 0 2 < 0x1040) ∨
      (0x2000 ≤ leAt r.params 0 2 ∧ leAt r.params 0 2 < 0x2008) ∨ (0x3000 ≤ leAt r.params 0 2 ∧ leAt r.params 0 2 < 0x3000 + 200))
    (hb : (if leAt r.params 0 2 = 0 then (s.dev.taken r).healthSummary
      else if leAt r.params 0 2 < 0x2000 then (s.dev.taken r).coreEntry (leAt r.params 0 2 - 0x1000)
      else if leAt r.params 0 2 < 0x3000 then
        (List.range 32).flatMap fun i => (s.dev.taken r).portEntry (32 * (leAt r.params 0 2 - 0x2000) + i)
      else (List.range 32).flatMap fun i => (s.dev.taken r).supplyEntry (32 * (leAt r.params 0 2 - 0x3000) + i)) = b) :
    Completes (.healthStatus r) s (Replied 0x0C03 r (okWith b) (s.dev.taken r)) := by
  subst hb
  refine request_acts rfl rfl hs (fun x => ?_) rfl nofun nofun
  rw [lengthIs_eq_none hl]
  exact if_pos (decide_eq_true hx)

theorem eventRoute_routes (hs : Serves ⟨0x0C01, .operator, false⟩ r s.dev) (hl : r.params.length = 4) (hstore : s.dev.storeBusy = none)
    (hk : leAt r.params 0 2 = 0xFFFF ∨ (leAt r.params 0 2 < 512 ∧ sourceKnown (leAt r.params 0 2) = true ∧
      ((flagOfSource (leAt r.params 0 2)).isNone = true → leAt r.params 2 2 / 32 % 4 = 0))) (l : List Nat)
    (he : (if leAt r.params 0 2 = 0xFFFF then (List.range 512).filter sourceKnown else [leAt r.params 0 2]) = l) :
    Completes (.eventRoute r) s (Replied 0x0C01 r okay
      ((((s.dev.taken r).each l fun x d => d.routeSource x
        (if (flagOfSource x).isSome then leAt r.params 2 2 % 128 else leAt r.params 2 2 % 32)
        (if leAt r.params 2 2 / 128 % 2 = 1 then none else some (leAt r.params 2 2 / 256 % 4))).storeParams
          (l.map (0x410200 + ·))).wrote 0x41)) := by
  subst he
  refine request_acts rfl rfl hs (fun x => ?_) ?_ nofun nofun
  · rw [lengthIs_eq_none hl, storeBusy_aside, hstore]
    rcases hk with hk | ⟨h5, hkn, hf⟩
    · simp [hk]
    · by_cases h : (flagOfSource (leAt r.params 0 2)).isNone = true
      · simp [h5, hkn, bitsOf_eq, hf h]
      · simp [h5, hkn, h]
  · simp only [severity_eq]

end

/-- Settles O28: the reports are read from the device that has taken the request, HEALTH_STATUS by the range its scope lies in, and
EVENT_ROUTE routes the list its source names. -/
theorem eventRequests : Obligations.EventRequests := by
  refine ⟨?events, ?log, ?health, ?route, ?routeAll⟩
  case events =>
    intro s r hs hl h1 h21
    exact eventRead_reports hs hl h1 h21 (Prod.eta _).symm
  case log =>
    intro s r hs hl h1 h19
    refine request_acts rfl rfl hs (fun x => ?_) rfl nofun nofun
    rw [lengthIs_eq_none hl]
    exact if_pos ⟨h1, h19⟩
  case health =>
    rintro s r x hs hl rfl
    refine ⟨fun h => ?_, fun h h' => ?_, fun h h' => ?_, fun h h' => ?_⟩ <;> refine healthStatus_reports hs hl (by omega) ?_
    · rw [if_pos h]
    · rw [if_neg (by omega), if_pos (by omega)]
    · rw [if_neg (by omega), if_neg (by omega), if_pos (by omega)]
    · rw [if_neg (by omega), if_neg (by omega), if_neg (by omega)]
  case route =>
    rintro s r x w hs hl rfl rfl h5 hk hf hstore
    have routed := eventRoute_routes hs hl hstore (.inr ⟨h5, hk, hf⟩) _ (if_neg (by omega))
    rwa [List.map_singleton] at routed
  case routeAll =>
    rintro s r w hs hl hx rfl hstore
    exact eventRoute_routes hs hl hstore (.inl hx) _ (if_pos hx)

end Sys2Proof.Machine

/-! ## Writes of parameters -/

namespace Sys2Proof.Machine

/-! ### A request that moves its own uplink's address and the set point -/

/-- A running device of address 5 whose uplink 0 has the IPv4 address 1 and takes untagged Operator requests. -/
def onUplinkDev : Dev :=
  let d := State.reset.dev.wrs [(P.ADDR, [], 5), (P.DEV_STATE, [], 1), (P.NV_STATE, [], 1), (P.AUTH_RELAX, [], 1),
    (P.UL_EN, [0], 1), (P.UL_LINK_UP, [0], 1), (P.IPV4_ADDR, [0], 1)]
  { d with boot := { d.boot with running := true, started := true } }

/-- A PRM_WRITE of a host of uplink 0: IPV4_ADDR of the uplink becomes 2, and FSP_SEL 1, so that the reply waits for the switch. -/
def movesUplink : Req :=
  ⟨⟨.uplink, 0, none, false, 2, 4000, 0, 0⟩, 1, 5, 0, 1, 0, false, none,
    leBytes 4 0x110014 ++ leBytes 4 2 ++ leBytes 4 0x300010 ++ leBytes 4 1, 0⟩

theorem movesUplink_serves : Serves ⟨0x4001, .operator, true⟩ movesUplink onUplinkDev :=
  ⟨by decide +kernel, by decide +kernel, by decide +kernel, by decide +kernel, by decide +kernel, nofun, by decide +kernel,
    by decide +kernel, by decide +kernel, by decide +kernel⟩

/-- The device with the entries of `movesUplink` in force. -/
def movedUplink : Dev :=
  ((writeEntries ⟨0x4001, movesUplink.seq, movesUplink.host⟩ 0 (pairEntries movesUplink) (onUplinkDev.taken movesUplink)).dev.storeParams
    ((((pairEntries movesUplink).map (·.1)).filter persistentWord).eraseDups)).each
      ((((pairEntries movesUplink).map (·.1)).map (· / 65536)).eraseDups) fun g e => e.wrote g

/-- The reply is held under the address at which the request arrived (R52). -/
theorem movesUplink_held :
    (((⟨onUplinkDev, []⟩ : State).run (prmWrite movesUplink)).dev.kcp.held.map fun h => h.back.own) = [1] := by decide +kernel

/-- Held from the device with the entries in force, the reply would leave under the new address. -/
theorem movedUplink_held : ((movedUplink.hold 0x4001 movesUplink .setPoint).kcp.held.map fun h => h.back.own) = [2] := by
  decide +kernel

/-- What follows a command leaves the held replies. -/
theorem Trails.held_eq {e t : Dev} (h : Trails e t) : t.kcp.held = e.kcp.held := by rw [h.engine]

/-- Refutes O29: a PRM_WRITE on an uplink that moves the uplink's own address and then switches the set point. Its reply is held
under the address the request came to (R52), and the statement's is held under the address just written. -/
theorem not_parameterWrites : ¬ Obligations.ParameterWrites := by
  rintro ⟨hwrite, -⟩
  obtain ⟨-, hserved⟩ := hwrite ⟨onUplinkDev, []⟩ movesUplink movesUplink_serves (by decide +kernel) (by decide +kernel)
    (by decide +kernel)
  obtain ⟨-, hswitch, -⟩ := hserved (by decide +kernel)
  have moved : Completes (.prmWrite movesUplink) ⟨onUplinkDev, []⟩ (Follows (movedUplink.hold 0x4001 movesUplink .setPoint)) :=
    hswitch (by decide +kernel) (by decide +kernel) (by decide +kernel)
  obtain ⟨t, hx, -, ht⟩ := moved
  obtain rfl : (⟨onUplinkDev, []⟩ : State).run (prmWrite movesUplink) = t := Host.Outcome.next.inj hx
  have held := movedUplink_held
  rw [← ht.held_eq, movesUplink_held] at held
  exact absurd held (by decide)

end Sys2Proof.Machine

/-! ## Reads of parameters -/

namespace Sys2Proof.Machine

/-- A number's little-endian bytes read back as it, cut to their width. -/
theorem leNat_leBytes (n v : Nat) : leNat (leBytes n v) = v % 256 ^ n := by
  induction n generalizing v with
  | zero => simp [leBytes, leNat, Nat.mod_one]
  | succ n ih =>
    have hb : (BitVec.ofNat 8 v).toNat = v % 256 := by simp
    rw [leBytes, leNat, ih, hb, Nat.pow_succ', ← Nat.mod_mul]

/-- The ID of a request of one ID. -/
theorem idAt_leBytes (r : Req) {a : Nat} (h : a < 2 ^ 24) : idAt { r with params := leBytes 4 a } 0 = a := by
  unfold idAt leAt
  rw [List.drop_zero, List.take_of_length_le (by simp), leNat_leBytes]
  omega

theorem findUnlisted_none {ids : List Nat} (h : ∀ a ∈ ids, readable a = true) : (ids.findIdx? fun a => !readable a) = none :=
  List.findIdx?_eq_none_iff.2 fun a ha => by simp [h a ha]

theorem findUnlisted_some {ids : List Nat} {i a : Nat} (hi : ids[i]? = some a) (ha : readable a = false)
    (hb : ∀ b ∈ ids.take i, readable b = true) : (ids.findIdx? fun a => !readable a) = some i := by
  obtain ⟨hlt, rfl⟩ := List.getElem?_eq_some_iff.1 hi
  refine List.findIdx?_eq_some_iff_getElem.2 ⟨hlt, by simp [ha], fun j hj => ?_⟩
  simp [hb _ (List.mem_take_iff_getElem.2 ⟨j, by omega, rfl⟩)]

/-- The IDs of a PRM_READ are the request's words in their order. -/
theorem idsOf_eq {r : Req} {ids : List Nat} (hl : r.params.length = 4 * ids.length)
    (hid : ∀ i a, ids[i]? = some a → idAt r (4 * i) = a) :
    ((List.range (r.params.length / 4)).map fun i => idAt r (4 * i)) = ids := by
  refine List.ext_getElem (by simp [hl]) fun i h₁ h₂ => ?_
  simpa using hid i _ (List.getElem?_eq_getElem h₂)

section
variable {s : State} {r : Req}

/-- PRM_READ of listed IDs returns their words and leaves what their reading leaves. -/
theorem prmRead_reads {c : Instr} {ids : List Nat} (hx : exec c s = .next (s.run (prmRead r)))
    (hs : Serves ⟨0x4000, .open_, false⟩ r s.dev) (hl : r.params.length = 4 * ids.length) (hne : ids ≠ [])
    (h340 : ids.length ≤ 340) (hid : ∀ i a, ids[i]? = some a → idAt r (4 * i) = a) (hr : ∀ a ∈ ids, readable a = true) :
    Completes c s (Replied 0x4000 r (okWith ((s.dev.taken r).readWords ids).1) ((s.dev.taken r).readWords ids).2) := by
  have h0 : 0 < ids.length := List.length_pos_iff.2 hne
  refine request_acts hx rfl hs (fun _ => ?_) ?_ nofun nofun
  · dsimp only
    rw [if_neg (by simp [hl, ← List.length_eq_zero_iff]; omega), idsOf_eq hl hid, findUnlisted_none hr]
    rfl
  · dsimp only
    rw [idsOf_eq hl hid]

/-- PRM_READ names the first ID that no table lists. -/
theorem prmRead_refuses {ids : List Nat} {i a : Nat} (hs : Serves ⟨0x4000, .open_, false⟩ r s.dev)
    (hl : r.params.length = 4 * ids.length) (hne : ids ≠ []) (h340 : ids.length ≤ 340)
    (hid : ∀ i a, ids[i]? = some a → idAt r (4 * i) = a) (hi : ids[i]? = some a) (ha : readable a = false)
    (hb : ∀ b ∈ ids.take i, readable b = true) :
    Completes (.prmRead r) s (Replied 0x4000 r ⟨.badParam, 0x0015, leBytes 2 i⟩ (s.here.takeCounter r)) := by
  have h0 : 0 < ids.length := List.length_pos_iff.2 hne
  refine request_denied rfl rfl hs (fun _ => ?_) nofun nofun
  dsimp only
  rw [if_neg (by simp [hl, ← List.length_eq_zero_iff]; omega), idsOf_eq hl hid, findUnlisted_some hi ha hb]
  rfl

section
variable {a n : Nat} (hs : Serves ⟨0x4002, .open_, false⟩ r s.dev) (hl : r.params.length = 8) (ha : idAt r 0 = a)
  (hn : leAt r.params 4 2 = n) (h1 : 1 ≤ n) (h340 : n ≤ 340) (hg : a / 65536 = (a + n - 1) / 65536)
include hs hl ha hn h1 h340 hg

/-- The checks of PRM_BULK_READ past its span find the first ID that no table lists. -/
theorem prmBulkRead_completes {o : Option Nat} (ho : (((List.range n).map (a + ·)).findIdx? fun a => !readable a) = o) :
    (o = none → Completes (.prmBulkRead r) s (Replied 0x4002 r
      (okWith ((s.dev.taken r).readWords ((List.range n).map (a + ·))).1) ((s.dev.taken r).readWords ((List.range n).map (a + ·))).2)) ∧
    (∀ i, o = some i → Completes (.prmBulkRead r) s (Replied 0x4002 r ⟨.badParam, 0x0015, leBytes 2 i⟩ (s.here.takeCounter r))) := by
  have span : bulkSpan r = none := by
    unfold bulkSpan
    rw [ha, hn]
    exact if_neg (by simpa using hg)
  have range : ¬(n = 0 ∨ 340 < n) := by omega
  refine ⟨fun h => request_acts rfl rfl hs (fun _ => ?_) ?_ nofun nofun, fun i h => request_denied rfl rfl hs (fun _ => ?_) nofun nofun⟩
  · rw [lengthIs_eq_none hl]
    dsimp only
    rw [hn, if_neg range, span, ha, ho, h]
    rfl
  · dsimp only
    rw [hn, ha]
  · rw [lengthIs_eq_none hl]
    dsimp only
    rw [hn, if_neg range, span, ha, ho, h]
    rfl

end
end

/-- The IDs of DATA and TIME_LO are listed. -/
theorem readable_data : ∀ m, m < 4 → readable (0x310018 + m) = true := by decide +kernel

theorem readable_timeLo : readable 0x240063 = true := by decide +kernel

/-- A PRM_READ of one ID. -/
theorem prmRead_one {c : Instr} {s : State} {r : Req} {a : Nat} (h24 : a < 2 ^ 24) (hr : readable a = true)
    (hx : exec c s = .next (s.run (prmRead { r with params := leBytes 4 a })))
    (hs : Serves ⟨0x4000, .open_, false⟩ { r with params := leBytes 4 a } s.dev) :
    Completes c s (Replied 0x4000 { r with params := leBytes 4 a }
      (okWith (leBytes 4 ((s.dev.taken { r with params := leBytes 4 a }).readWord a).1))
      ((s.dev.taken { r with params := leBytes 4 a }).readWord a).2) := by
  have h := prmRead_reads hx hs (ids := [a]) (by simp) (by simp) (by simp) (fun i b hi => ?_) (by simpa using hr)
  · simpa only [Dev.readWords, List.append_nil] using h
  · obtain ⟨rfl, rfl⟩ : i = 0 ∧ a = b := by
      cases i with
      | zero => simpa using hi
      | succ i => simp at hi
    exact idAt_leBytes r h24

/-- Settles O30: a read's checks find the first ID that no table lists, and DATA and TIME_LO are a PRM_READ of one ID. -/
theorem parameterReads : Obligations.ParameterReads := by
  refine ⟨?read, ?bulk, ?data, ?timeLo⟩
  case read =>
    intro s r ids hs hl hne h340 hid
    exact ⟨prmRead_reads rfl hs hl hne h340 hid, fun i a hi ha hb => prmRead_refuses hs hl hne h340 hid hi ha hb⟩
  case bulk =>
    intro s r a n hs hl ha hn h1 h340 hg ids
    refine ⟨fun hr => ?_, fun i hi hr hb => ?_⟩
    · exact (prmBulkRead_completes hs hl ha hn h1 h340 hg rfl).1 (findUnlisted_none (by simpa using hr))
    · refine (prmBulkRead_completes hs hl ha hn h1 h340 hg rfl).2 i (findUnlisted_some (a := a + i) (by simp [hi]) hr fun b hb' => ?_)
      obtain ⟨j, hj, rfl⟩ := List.mem_take_iff_getElem.1 hb'
      simpa using hb j (by omega)
  case data =>
    intro s r m hm hs q d
    have hx : exec (.data r m) s = .next (s.run (prmRead { r with params := leBytes 4 (0x310018 + m) })) := by
      show Host.Outcome.next (s.run (dataRead r m)) = _
      unfold dataRead
      rw [Nat.mod_eq_of_lt hm]
    have h := prmRead_one (by omega) (readable_data m hm) hx hs
    have hw : (s.dev.taken q).readWord (0x310018 + m) = d := by
      unfold Dev.readWord
      rw [if_pos (by omega), Nat.add_sub_cancel_left]
    rwa [show (s.dev.taken { r with params := leBytes 4 (0x310018 + m) }).readWord (0x310018 + m) = d from hw] at h
  case timeLo =>
    intro s r hs q
    have h := prmRead_one (c := .timeLo r) (by omega) readable_timeLo rfl hs
    have hw : (s.dev.taken q).readWord 0x240063 =
        (s.dev.now % 2 ^ 32, { s.dev.taken q with plc := { s.dev.plc with timeHi := s.dev.now / 2 ^ 32 } }) := by
      unfold Dev.readWord
      rw [if_neg (by omega), if_pos rfl, now_taken, plc_taken]
    rwa [show (s.dev.taken { r with params := leBytes 4 0x240063 }).readWord 0x240063 = _ from hw] at h

end Sys2Proof.Machine

/-! ## What records leave alone -/

namespace Sys2Proof.Machine

/-- `b` is `a` after flags were set and records delivered: parameter fields, the events' part and the restart of ALARM_HOLD alone. -/
def Records (a b : Dev) : Prop := ∃ pr ev al, b = { a with prm := pr, evt := ev, pipe := { a.pipe with alarmAt := al } }

theorem Records.refl (a : Dev) : Records a a := ⟨a.prm, a.evt, a.pipe.alarmAt, rfl⟩

theorem Records.trans {a b c : Dev} (h : Records a b) (g : Records b c) : Records a c := by
  obtain ⟨_, _, _, rfl⟩ := h
  obtain ⟨pr, ev, al, rfl⟩ := g
  exact ⟨pr, ev, al, rfl⟩

theorem Records.ite_fst {α : Type} {c : Prop} [Decidable c] {a : Dev} {x y : Dev × α} (hx : Records a x.1) (hy : Records a y.1) :
    Records a (if c then x else y).1 := by
  split
  · exact hx
  · exact hy

section
variable (d : Dev)

theorem markFlag_records (f : Flag) : Records d (d.markFlag f) := by
  unfold Dev.markFlag
  dsimp only
  split
  · exact ⟨_, d.evt, d.pipe.alarmAt, rfl⟩
  · exact ⟨_, d.evt, d.pipe.alarmAt, rfl⟩

theorem restartHold_records (n : Nat) : Records d (d.restartHold n) := by
  unfold Dev.restartHold
  split
  · exact ⟨d.prm, d.evt, some d.clk, rfl⟩
  · exact .refl d

theorem setRecord_records (f : Flag) (u : Unit') (b : List Byte) : Records d (d.setRecord f u b).1 := by
  refine (markFlag_records d f).trans ?_
  exact .ite_fst ⟨_, _, _, rfl⟩ ⟨_, _, _, rfl⟩

theorem ringPush_records (e : EvRec) : Records d (d.ringPush e).1 := ⟨_, _, d.pipe.alarmAt, rfl⟩

theorem queueFor_records (e : EvRec) (n : Nat) : Records d (d.queueFor e n).1 :=
  .ite_fst (.refl d) (.ite_fst ⟨_, _, d.pipe.alarmAt, rfl⟩ ⟨_, _, d.pipe.alarmAt, rfl⟩)

theorem queueLog_records (e : EvRec) : Records d (d.queueLog e).1 :=
  .ite_fst (.refl d) (.ite_fst ⟨_, _, d.pipe.alarmAt, rfl⟩ ⟨_, _, d.pipe.alarmAt, rfl⟩)

theorem routeRec_records (next : EvRec → Dev → Dev) (h : ∀ e x, Records x (next e x)) (e : EvRec) : Records d (d.routeRec next e) := by
  unfold Dev.routeRec
  extract_lets drop a
  have hdrop : ∀ n x, Records x (drop n x) := by
    intro n x
    dsimp only [drop]
    have hset := (restartHold_records x (Flag.evt n).home.source).trans (setRecord_records _ (.evt n) noUnit [])
    split <;> rename_i heq <;> rw [heq] at hset
    · exact hset.trans (h _ _)
    · exact hset
  have ha : Records d a := by
    refine Dev.each_keeps Records .refl .trans _ _ d fun n _ x => ?_
    dsimp only
    split
    · exact (queueFor_records x e n).trans (hdrop 0 _)
    · exact queueFor_records x e n
  dsimp only
  split
  · exact ha.trans ((queueLog_records a e).trans (hdrop 1 _))
  · exact ha.trans (queueLog_records a e)

theorem delivered_records (n : Nat) (e : EvRec) : Records d (Machine.deliver n e d) := by
  induction n generalizing d e with
  | zero => exact ringPush_records d e
  | succ n ih =>
    unfold Machine.deliver
    dsimp only
    split
    · exact ringPush_records d e
    · exact (ringPush_records d e).trans (routeRec_records _ _ (fun e x => ih x e) _)

theorem report_records (n : Nat) (u : Unit') (b : List Byte) : Records d (d.report n u b) := delivered_records d 4 _

theorem set_records (f : Flag) (u : Unit') (b : List Byte) : Records d (d.set f u b) := by
  have hset := (restartHold_records d f.home.source).trans (setRecord_records _ f u b)
  unfold Dev.set
  split <;> rename_i heq <;> rw [heq] at hset
  · exact hset.trans (delivered_records _ 4 _)
  · exact hset

end

end Sys2Proof.Machine

/-! ## Placement messages -/

namespace Sys2Proof.Machine

/-! ### The epochs of the patches -/

/-- Every patch has in `b` the epoch it has in `a`. -/
def EpochsKept (a b : Dev) : Prop := ∀ p, (b.place p).epoch = (a.place p).epoch

theorem EpochsKept.refl (a : Dev) : EpochsKept a a := fun _ => rfl

theorem EpochsKept.trans {a b c : Dev} (h : EpochsKept a b) (g : EpochsKept b c) : EpochsKept a c := fun p => (g p).trans (h p)

theorem EpochsKept.of_places {a b : Dev} (h : b.plc.places = a.plc.places) : EpochsKept a b := fun p => by
  unfold Dev.place
  rw [h]

theorem Records.epochs {a b : Dev} (h : Records a b) : EpochsKept a b := by
  obtain ⟨_, _, _, rfl⟩ := h
  exact .of_places rfl

theorem Trails.epochs {a b : Dev} (h : Trails a b) : EpochsKept a b := .of_places (by rw [h.array])

theorem EpochsKept.ite {c : Prop} [Decidable c] {a x y : Dev} (hx : EpochsKept a x) (hy : EpochsKept a y) :
    EpochsKept a (if c then x else y) := by
  split
  · exact hx
  · exact hy

theorem place_setPlace_same (d : Dev) (p : Nat) (x : Place) : (d.setPlace p x).place p = x := by simp [Dev.place, Dev.setPlace]

theorem place_setPlace_other (d : Dev) {p q : Nat} (x : Place) (h : q ≠ p) : (d.setPlace p x).place q = d.place q := by
  simp [Dev.place, Dev.setPlace, KMap.get_put_other _ _ _ h]

section
variable (d : Dev) (p : Nat)

theorem setPlace_epochs {x : Place} (h : x.epoch = (d.place p).epoch) : EpochsKept d (d.setPlace p x) := fun q => by
  by_cases hq : q = p
  · rw [hq, place_setPlace_same, h]
  · rw [place_setPlace_other d x hq]

theorem each_epochs {α : Type} (l : List α) (f : α → Dev → Dev) (h : ∀ a e, EpochsKept e (f a e)) : EpochsKept d (d.each l f) :=
  Dev.each_keeps EpochsKept .refl .trans l f d fun a _ e => h a e

theorem fwdOrder_epochs (l : List Nat) : EpochsKept d { d with plc := { d.plc with fwdOrder := l } } := .of_places rfl

theorem queried_epochs (l : List (Nat × List Byte × Nat)) : EpochsKept d { d with plc := { d.plc with queried := l } } :=
  .of_places rfl

theorem handovers_epochs (l : KMap Handover) : EpochsKept d { d with plc := { d.plc with handovers := l } } := .of_places rfl

theorem barFrom_epochs (tc : Nat) : EpochsKept d (d.barFrom p tc) := .of_places rfl

theorem addForward_epochs : EpochsKept d (d.addForward p) := by
  exact (fwdOrder_epochs d _).trans (each_epochs _ _ _ fun q x => setPlace_epochs x q rfl)

theorem takeIn_epochs (c : Contrib) : EpochsKept d (d.takeIn p c) := by
  unfold Dev.takeIn
  split
  · exact .refl d
  · exact .ite (EpochsKept.trans (b := d.bump P.STALE_CNT) (.of_places rfl) (set_records _ _ _ _).epochs) (.of_places rfl)

theorem settleMove_epochs : EpochsKept d (d.settleMove p) := by
  unfold Dev.settleMove
  split
  · exact .refl d
  · next s _ =>
    split
    · exact .refl d
    · exact .ite (.refl d) (EpochsKept.trans (b := Dev.setSlot { d with fus := { d.fus with regions := _ } } p _) (.of_places rfl)
        (each_epochs _ _ _ fun c x => takeIn_epochs x p c))

theorem contribute_epochs (c : Contrib) : EpochsKept d (d.contribute p c) := by
  unfold Dev.contribute
  split
  · exact .refl d
  · exact .ite (.of_places rfl) ((takeIn_epochs d p c).trans (settleMove_epochs _ p))

theorem stale_epochs (u : Unit') : EpochsKept d (d.stale u) :=
  EpochsKept.trans (b := d.bump P.STALE_CNT) (.of_places rfl) (set_records _ _ _ _).epochs

theorem query_epochs : EpochsKept d (d.query p) := by
  unfold Dev.query
  split
  · exact .refl d
  · refine .ite (.refl d) (EpochsKept.trans ?_ (ask_trails _ _ _ _).epochs)
    exact setPlace_epochs d p rfl

theorem sendContribution_epochs (n : Nat) (m : List Byte) : EpochsKept d (d.sendContribution p n m) := by
  unfold Dev.sendContribution
  split
  · exact (queried_epochs d _).trans (query_epochs _ p)
  · exact (sendTo_trails d 5 _ m false).epochs

theorem flushQueried_epochs : EpochsKept d (d.flushQueried p) := by
  unfold Dev.flushQueried
  refine (queried_epochs d _).trans (each_epochs _ _ _ fun q x => ?_)
  exact .ite (.ite (contribute_epochs x p _) (stale_epochs x _)) (sendContribution_epochs x p _ _)

theorem gainSlot_epochs (tc reason : Nat) : EpochsKept d (d.gainSlot p tc reason) := by
  unfold Dev.gainSlot
  dsimp only
  split
  · exact .of_places rfl
  · split
    · exact .of_places rfl
    · exact .refl d

theorem gain_epochs (former epoch tc reason : Nat) : EpochsKept d (d.gain p former epoch tc reason) := by
  unfold Dev.gain
  extract_lets e h plc f
  have he : EpochsKept d e := gainSlot_epochs d p tc reason
  have hf : EpochsKept d f := by
    refine .ite ?_ he
    exact (he.trans (handovers_epochs e _)).trans (ask_trails _ _ _ _).epochs
  exact .ite (hf.trans (barFrom_epochs f p tc)) hf

theorem announceMaps_epochs : EpochsKept d (d.announceMaps p) := by
  unfold Dev.announceMaps
  split
  · exact .of_places rfl
  · exact .refl d

/-- An adopted commit gives its patch its epoch. -/
theorem adopt_epoch (owner former epoch tc reason : Nat) : ((d.adopt p owner former epoch tc reason).place p).epoch = epoch := by
  unfold Dev.adopt
  extract_lets old mine loses gains kept same d₁ d₂ d₃ d₄ d₅
  have h₁ : (d₁.place p).epoch = epoch := by rw [place_setPlace_same]
  have h₂ : EpochsKept d₁ d₂ := .ite (addForward_epochs d₁ p) (.refl d₁)
  have h₃ : EpochsKept d₂ d₃ := .ite (by
    split
    · exact .of_places rfl
    · exact .refl d₂) (.refl d₂)
  have h₄ : EpochsKept d₃ d₄ := .ite (gain_epochs d₃ p _ _ _ _) (.ite (announceMaps_epochs d₃ p) (.refl d₃))
  have h₅ : EpochsKept d₄ d₅ := .ite (report_records d₄ _ _ _).epochs (.refl d₄)
  exact ((((h₂.trans h₃).trans h₄).trans h₅).trans (flushQueried_epochs d₅ p) p).trans h₁

end

/-! ### The messages by the role of their receiver -/

theorem withByte_byteAt {i : Nat} {r : Req} (h : i < r.params.length) : withByte i (byteAt r.params i) r = r := by
  refine withByte_self (List.ext_getElem (by simp) fun j h₁ h₂ => ?_)
  by_cases hj : i = j
  · subst hj
    have hb : byteAt r.params i = (r.params[i]).toNat := by simp [byteAt, List.getD, h]
    simp [hb]
  · simp [hj]

section
variable (d : Dev) (x : Aside) (r : Req) (p : Nat)

theorem isDirectory_aside : (d.aside x).isDirectory p = d.isDirectory p := rfl
theorem handsOver_aside : (d.aside x).handsOver p = d.handsOver p := rfl
theorem owns_aside : (d.aside x).owns p = d.owns p := rfl
theorem place_aside : (d.aside x).place p = d.place p := rfl
theorem patch?_aside : (d.aside x).patch? p = d.patch? p := rfl

end

section
variable {s : State} {r : Req} {c : Instr} {code kind : Nat} {role : Dev → Nat → Bool} {act : Dev → Req → Nat → Dev × Answer}
  {f : Dev → Dev} (hx : exec c s = .next (s.run f)) (hf : f s.here = placeMsg code kind role act r s.here) (hs : Serves ⟨code, .device, false⟩ r s.dev)
  (hl : r.params.length = 32) (hk : byteAt r.params 8 = kind)
include hx hf hs hl hk

theorem placeMsg_runs (hp : (s.dev.patch? (patchOf r)).isSome = true) (hrole : ∀ x, role (s.dev.aside x) (patchOf r) = true)
    {e : Dev} {a : Answer} (ha : act (s.dev.taken r) r (patchOf r) = (e, a)) (h1 : a.status ≠ .auth) (h2 : a.status ≠ .overrun) :
    Completes c s (Replied code r a e) := by
  have hr : withByte 8 kind r = r := hk ▸ withByte_byteAt (by omega)
  refine request_acts (op := ⟨code, .device, false⟩) hx (by rw [hf]; unfold placeMsg; rw [hr]) hs (fun x => ?_) ?_ h1 h2
  · rw [lengthIs_eq_none hl]
    dsimp only
    rw [patch?_aside, hrole, if_neg (by simpa using Option.ne_none_iff_isSome.2 hp), if_neg (by simp)]
  · simp only [ha]

theorem placeMsg_unknown (hp : s.dev.patch? (patchOf r) = none) :
    Completes c s (Replied code r badValue (s.here.takeCounter r)) := by
  have hr : withByte 8 kind r = r := hk ▸ withByte_byteAt (by omega)
  refine request_denied (op := ⟨code, .device, false⟩) hx (by rw [hf]; unfold placeMsg; rw [hr]) hs (fun x => ?_) nofun nofun
  rw [lengthIs_eq_none hl]
  dsimp only
  rw [patch?_aside, hp]
  rfl

theorem placeMsg_notForwarded (hp : (s.dev.patch? (patchOf r)).isSome = true) (hrole : ∀ x, role (s.dev.aside x) (patchOf r) = false) :
    Completes c s (Replied code r
      (notForwarded (if (s.dev.place (patchOf r)).withdrawn then 0x3FF else (s.dev.place (patchOf r)).owner)
        (s.dev.place (patchOf r)).epoch) (s.here.takeCounter r)) := by
  have hr : withByte 8 kind r = r := hk ▸ withByte_byteAt (by omega)
  refine request_denied (op := ⟨code, .device, false⟩) hx (by rw [hf]; unfold placeMsg; rw [hr]) hs (fun x => ?_) nofun nofun
  rw [lengthIs_eq_none hl]
  dsimp only
  rw [patch?_aside, hrole, place_aside, if_neg (by simpa using Option.ne_none_iff_isSome.2 hp), if_pos (by simp)]

end

/-- A body of no lower epoch than the receiver's is not stale. -/
theorem staleBody_none {d : Dev} {r : Req} {p : Nat} (h : (d.place p).epoch ≤ leAt r.params 16 4) : d.staleBody r p = none :=
  if_neg (by omega)

theorem staleBody_some {d : Dev} {r : Req} {p : Nat} (h : leAt r.params 16 4 < (d.place p).epoch) :
    d.staleBody r p = some ⟨.staleEpoch, 0, leBytes 4 (d.place p).epoch⟩ := if_pos h

/-- A command that carries a placement message of a kind, under the role it asks of its receiver. -/
def PlaceMsg (c : Instr) (s : State) (r : Req) (code kind : Nat) (role : Dev → Nat → Bool) : Prop :=
  ∃ f act, exec c s = .next (s.run f) ∧ f s.here = placeMsg code kind role act r s.here

section
variable (s : State) (r : Req)

theorem view_placeMsg : PlaceMsg (.view r) s r 0x4400 1 Dev.isDirectory := ⟨_, _, rfl, rfl⟩
theorem withdraw_placeMsg : PlaceMsg (.withdraw r) s r 0x4400 2 Dev.isDirectory := ⟨_, _, rfl, rfl⟩
theorem commit_placeMsg : PlaceMsg (.commit r) s r 0x4400 3 fun _ _ => true := ⟨_, _, rfl, rfl⟩
theorem query_placeMsg : PlaceMsg (.query r) s r 0x4400 4 Dev.isDirectory := ⟨_, _, rfl, rfl⟩
theorem ready_placeMsg : PlaceMsg (.ready r) s r 0x4401 1 Dev.handsOver := ⟨_, _, rfl, rfl⟩
theorem state_placeMsg : PlaceMsg (.state r) s r 0x4401 2 Dev.owns := ⟨_, _, rfl, rfl⟩
theorem done_placeMsg : PlaceMsg (.done r) s r 0x4401 3 Dev.handsOver := ⟨_, _, rfl, rfl⟩

end

theorem placement_unknown {s : State} {r : Req} {op kind : Nat} {c : Instr}
    (hc : (c, op, kind) ∈ [(Instr.view r, 0x4400, 1), (.withdraw r, 0x4400, 2), (.commit r, 0x4400, 3), (.query r, 0x4400, 4),
      (.ready r, 0x4401, 1), (.state r, 0x4401, 2), (.done r, 0x4401, 3)]) : ∃ role, PlaceMsg c s r op kind role := by
  simp only [List.mem_cons, Prod.mk.injEq, List.not_mem_nil, or_false] at hc
  rcases hc with ⟨rfl, rfl, rfl⟩ | ⟨rfl, rfl, rfl⟩ | ⟨rfl, rfl, rfl⟩ | ⟨rfl, rfl, rfl⟩ | ⟨rfl, rfl, rfl⟩ | ⟨rfl, rfl, rfl⟩ | ⟨rfl, rfl, rfl⟩
  · exact ⟨_, view_placeMsg s r⟩
  · exact ⟨_, withdraw_placeMsg s r⟩
  · exact ⟨_, commit_placeMsg s r⟩
  · exact ⟨_, query_placeMsg s r⟩
  · exact ⟨_, ready_placeMsg s r⟩
  · exact ⟨_, state_placeMsg s r⟩
  · exact ⟨_, done_placeMsg s r⟩

theorem placement_role {s : State} {r : Req} {p op kind : Nat} {role : Bool} {c : Instr}
    (hc : (c, op, kind, role) ∈ [(Instr.view r, 0x4400, 1, s.dev.isDirectory p), (.withdraw r, 0x4400, 2, s.dev.isDirectory p),
      (.query r, 0x4400, 4, s.dev.isDirectory p), (.ready r, 0x4401, 1, s.dev.handsOver p), (.state r, 0x4401, 2, s.dev.owns p),
      (.done r, 0x4401, 3, s.dev.handsOver p)]) :
    ∃ f : Dev → Nat → Bool, PlaceMsg c s r op kind f ∧ ∀ x, f (s.dev.aside x) p = role := by
  simp only [List.mem_cons, Prod.mk.injEq, List.not_mem_nil, or_false] at hc
  rcases hc with ⟨rfl, rfl, rfl, rfl⟩ | ⟨rfl, rfl, rfl, rfl⟩ | ⟨rfl, rfl, rfl, rfl⟩ | ⟨rfl, rfl, rfl, rfl⟩ | ⟨rfl, rfl, rfl, rfl⟩ | ⟨rfl, rfl, rfl, rfl⟩
  · exact ⟨_, view_placeMsg s r, fun x => isDirectory_aside s.dev x p⟩
  · exact ⟨_, withdraw_placeMsg s r, fun x => isDirectory_aside s.dev x p⟩
  · exact ⟨_, query_placeMsg s r, fun x => isDirectory_aside s.dev x p⟩
  · exact ⟨_, ready_placeMsg s r, fun x => handsOver_aside s.dev x p⟩
  · exact ⟨_, state_placeMsg s r, fun x => owns_aside s.dev x p⟩
  · exact ⟨_, done_placeMsg s r, fun x => handsOver_aside s.dev x p⟩

section
variable {s : State} {r : Req} (hs : Serves ⟨0x4400, .device, false⟩ r s.dev) (hl : r.params.length = 32)
  (hp : (s.dev.patch? (patchOf r)).isSome = true)
include hs hl hp

theorem commit_completes (hk : byteAt r.params 8 = 3) {e : Dev} {a : Answer} (h1 : a.status ≠ .auth) (h2 : a.status ≠ .overrun)
    (he : (let pl := s.dev.place (patchOf r)
      let owner := leAt r.params 10 2 % 1024
      let e := leAt r.params 16 4
      let d := s.dev.taken r
      if pl.epoch < e then (d.adopt (patchOf r) owner (leAt r.params 12 2 % 1024) e (leAt r.params 20 8) (byteAt r.params 9), okay)
      else if pl.epoch = e ∧ pl.owner = owner then (d, okay)
      else (if pl.epoch = e then d.epochClash (patchOf r) owner r.source else d, ⟨.staleEpoch, 0, leBytes 4 pl.epoch⟩)) = (e, a)) :
    Completes (.commit r) s (Replied 0x4400 r a e) := by
  refine placeMsg_runs (c := .commit r) rfl rfl hs hl hk hp (fun _ => rfl) ?_ h1 h2
  simp only [place_taken]
  exact he

end

/-- Settles O32: a message's check is its patch and its receiver's role, and its effect splits on the two epochs; READY looks for a
stale body after the commit it may tell of, which has given the patch its epoch. -/
theorem placementMessages : Obligations.PlacementMessages := by
  refine ⟨?unknown, ?moved, ?placement, ?handover⟩
  case unknown =>
    rintro s r p op kind c hc hs hl hk rfl hp
    obtain ⟨role, f, act, hx, hf⟩ := placement_unknown (s := s) hc
    exact placeMsg_unknown hx hf hs hl hk hp
  case moved =>
    rintro s r p op kind role c hc hs hl hk rfl hp rfl
    obtain ⟨role, ⟨f, act, hx, hf⟩, hrole⟩ := placement_role hc
    exact placeMsg_notForwarded hx hf hs hl hk hp hrole
  case placement =>
    rintro s r p hs hl rfl hp d
    refine ⟨fun hk hd => ?_, fun hk hd => ?_, fun hk hd => ?_, fun hk he => ?_, fun hk he ho => ?_, fun hk he => ?_,
      fun hk he ho => ?_⟩
    · exact placeMsg_runs (c := .view r) rfl rfl hs hl hk hp (fun x => (isDirectory_aside s.dev x _).trans hd) rfl nofun nofun
    · exact placeMsg_runs (c := .withdraw r) rfl rfl hs hl hk hp (fun x => (isDirectory_aside s.dev x _).trans hd) rfl nofun nofun
    · exact placeMsg_runs (c := .query r) rfl rfl hs hl hk hp (fun x => (isDirectory_aside s.dev x _).trans hd) rfl nofun nofun
    all_goals refine commit_completes hs hl hp hk nofun nofun ?_
    · exact if_pos he
    · exact (if_neg (by omega)).trans (if_pos ⟨he, ho⟩)
    · exact (if_neg (by omega)).trans ((if_neg (by omega)).trans (by rw [if_neg (by omega)]))
    · exact (if_neg (by omega)).trans ((if_neg (by simp [ho])).trans (by rw [if_pos he]))
  case handover =>
    rintro s r p hs hl rfl hp d pl stale e
    have place : d.place (patchOf r) = s.dev.place (patchOf r) := place_taken ..
    have handovers : d.plc.handovers = s.dev.plc.handovers := by rw [plc_taken]
    have old : e < pl.epoch → d.staleBody r (patchOf r) = some stale := fun h => by
      rw [staleBody_some (by rw [place]; exact h), place]
    have current : pl.epoch ≤ e → d.staleBody r (patchOf r) = none := fun h => staleBody_none (by rw [place]; exact h)
    refine ⟨fun hk hr he => ?_, fun hk hr he => ?_, fun hk hr he => ?_, fun hk hr he => ?_, fun hk hr he hn => ?_,
      fun h hk hr he hn => ?_, fun hk hr he => ?_⟩
    · intro x
      have told : x.staleBody r (patchOf r) = none := by
        by_cases h : pl.epoch < e
        · have taken : x = d.adopt (patchOf r) r.source d.addr e (leAt r.params 20 8) (byteAt r.params 9) := if_pos h
          rw [taken]
          exact staleBody_none (Nat.le_of_eq (adopt_epoch ..))
        · rw [show x = d from if_neg h, current he]
      refine placeMsg_runs (c := .ready r) rfl rfl hs hl hk hp (fun y => (handsOver_aside s.dev y _).trans hr) ?_ nofun nofun
      dsimp only
      rw [place, show (if pl.epoch < leAt r.params 16 4 then _ else _) = x from rfl, told]
    · refine placeMsg_runs (c := .ready r) rfl rfl hs hl hk hp (fun y => (handsOver_aside s.dev y _).trans hr) ?_ nofun nofun
      dsimp only
      rw [place, if_neg (Nat.lt_asymm he), old he]
    · refine placeMsg_runs (c := .state r) rfl rfl hs hl hk hp (fun y => (owns_aside s.dev y _).trans hr) ?_ nofun nofun
      dsimp only
      rw [old he]
    · refine placeMsg_runs (c := .done r) rfl rfl hs hl hk hp (fun y => (handsOver_aside s.dev y _).trans hr) ?_ nofun nofun
      dsimp only
      rw [old he]
    · refine placeMsg_runs (c := .state r) rfl rfl hs hl hk hp (fun y => (owns_aside s.dev y _).trans hr) ?_ nofun nofun
      dsimp only
      rw [current he, handovers, hn]
    · refine placeMsg_runs (c := .state r) rfl rfl hs hl hk hp (fun y => (owns_aside s.dev y _).trans hr) ?_ nofun nofun
      dsimp only
      rw [current he, handovers, hn]
    · intro x
      have owned : x.owns (patchOf r) = s.dev.owns (patchOf r) := owns_taken s.dev r (patchOf r)
      rw [← owned]
      refine placeMsg_runs (c := .done r) rfl rfl hs hl hk hp (fun y => (handsOver_aside s.dev y _).trans hr) ?_ nofun nofun
      simp only [show (s.dev.taken r).staleBody r (patchOf r) = none from current he]
      rfl

end Sys2Proof.Machine

/-! ## Messages of the seam -/

namespace Sys2Proof.Machine

/-- The one entry of a SEAM_EXCHANGE message. -/
theorem seamEntries_single {r : Req} {e : List Byte} (he : r.params.drop 4 = e) (h1 : byteAt r.params 1 = 1) :
    seamEntries e.length r = [e] := by
  simp [seamEntries, h1, he]

theorem seamCheck_single {r : Req} {e : List Byte} (he : r.params.drop 4 = e) (h1 : byteAt r.params 1 = 1) (h0 : 0 < e.length) (d : Dev) :
    seamCheck e.length d r = none := by
  have hl : r.params.length = 4 + e.length := by
    have := congrArg List.length he
    simp only [List.length_drop] at this
    omega
  unfold seamCheck
  dsimp only
  rw [h1, if_neg (by simp [hl]), if_neg]
  split <;> omega

/-- A SEAM_EXCHANGE message of one entry is answered ST_OK, and its entry takes effect. -/
theorem seam_completes {s : State} {r : Req} {c : Instr} {type n : Nat} {f : Req → List Byte → Dev → Dev} {g : Dev → Dev} {e : List Byte}
    {x : Dev} (hx : exec c s = .next (s.run g)) (hg : g s.here = seamMessage type n f r s.here)
    (hs : Serves ⟨0x4402, .device, false⟩ r s.dev) (he : r.params.drop 4 = e) (h1 : byteAt r.params 1 = 1)
    (ht : byteAt r.params 0 = type) (hn : e.length = n) (h0 : 0 < n) (hf : f r e (s.dev.taken r) = x) :
    Completes c s (Replied 0x4402 r okay x) := by
  subst hn hf
  have hl : 0 < r.params.length := by
    have := congrArg List.length he
    simp only [List.length_drop] at this
    omega
  have hr : seamMessage.withByte' type r = r := ht ▸ withByte_byteAt hl
  refine request_acts (op := ⟨0x4402, .device, false⟩) hx (by rw [hg]; unfold seamMessage; rw [hr]) hs
    (fun y => seamCheck_single he h1 h0 _) ?_ nofun nofun
  rw [seamEntries_single he h1]
  rfl

theorem awaits_taken (d : Dev) (r : Req) (p : Nat) : (d.taken r).awaits p = d.awaits p := by
  unfold Dev.awaits
  rw [cal_taken]

theorem calCore_taken (d : Dev) (r : Req) (k : Nat) : (d.taken r).calCore k = d.calCore k := by
  unfold Dev.calCore
  rw [cal_taken]

theorem slot?_taken (d : Dev) (r : Req) (p : Nat) : (d.taken r).slot? p = d.slot? p := by
  unfold Dev.slot?
  rw [fus_taken]

/-- Settles O33: each message has one entry, and its entry's effect is the row's; a GRANT splits on the attempt that awaits it and on
its decision. -/
theorem seamMessages : Obligations.SeamMessages := by
  intro s r e hs he h1 d p
  refine ⟨fun ht hn => ?reserve, fun ht hn ha => ?none, fun k c ht hn ha hc h3 => ?grant, fun k c ht hn ha hc h3 => ?other,
    fun ht hn => ?release, fun ht hn => ?sums, fun ht hn => ?nodes⟩
  case reserve =>
    intro core seen period x pl
    refine seam_completes (c := .reserve r) rfl rfl hs he h1 ht hn (by omega) ?_
    extract_lets w q stated
    have hstated : stated = period := by
      have hslot : ((s.dev.taken r).slot? q).bind (fun x => x.views.find? fun v => decide (v.dev = r.source ∧ v.core = core)) = seen := by
        rw [slot?_taken]
      have known : ∀ (o : Option View) (longest : Nat), (match o with | some v => v.period | none => longest) = o.elim longest (·.period) := by
        intro o longest
        cases o <;> rfl
      exact (known _ _).trans (congrArg (Option.elim · _ _) hslot)
    rcases hy : x with ⟨y, dec⟩
    have hdec : (s.dev.taken r).decideHere q (leAt e 4 4) (bitOf w 22) r.source core stated (ms (leAt e 10 2)) = (y, dec) := by
      rw [hstated]
      exact hy
    rw [hdec]
    simp only [pl, hy, q, p, w]
  case none =>
    refine seam_completes (c := .grant r) rfl rfl hs he h1 ht hn (by omega) ?_
    simp only [awaits_taken, show s.dev.awaits (leAt e 0 4 % 2 ^ 22) = none from ha]
    rfl
  case grant =>
    refine seam_completes (c := .grant r) rfl rfl hs he h1 ht hn (by omega) ?_
    simp only [awaits_taken, show s.dev.awaits (leAt e 0 4 % 2 ^ 22) = some k from ha, calCore_taken, hc, h3, if_false]
    rfl
  case other =>
    intro owner pl y x
    refine seam_completes (c := .grant r) rfl rfl hs he h1 ht hn (by omega) ?_
    simp only [awaits_taken, show s.dev.awaits (leAt e 0 4 % 2 ^ 22) = some k from ha, calCore_taken, hc, h3, if_true, place_taken]
    rfl
  case release => exact seam_completes (c := .release r) rfl rfl hs he h1 ht hn (by omega) rfl
  case sums => exact seam_completes (c := .sums r) rfl rfl hs he h1 ht hn (by omega) rfl
  case nodes => exact seam_completes (c := .nodes r) rfl rfl hs he h1 ht hn (by omega) rfl

end Sys2Proof.Machine

/-! ## Requests of keys, and the immediate record -/

namespace Sys2Proof.Machine

/-- Settles O34: the requests' checks are what the statement assumes; a record programmed is followed by what its kind asks, and one that
failed is lost. -/
theorem keyRequests : Obligations.KeyRequests := by
  refine ⟨?status, ?rotate, ?auth, ?record⟩
  case status =>
    intro s r hs hp d
    refine request_acts rfl rfl hs (fun _ => lengthIs_of_params (n := 0) hp rfl) ?_ nofun nofun
    rfl
  case rotate =>
    intro s r k hs hc ht d
    refine request_holds rfl rfl hs ?_ ?_
    · rw [hc]
    · rw [ht]
  case auth =>
    intro s r b hs hp hb d
    have h0 : byteAt r.params 0 = b := byteAt_first hp hb
    refine ⟨fun h => ?_, fun h => ?_⟩
    · refine request_held rfl rfl hs (fun _ => ?_) rfl
      rw [lengthIs_of_params (n := 1) hp rfl, h0]
      exact if_neg (by omega)
    · refine request_denied rfl rfl hs (fun _ => ?_) nofun nofun
      rw [lengthIs_of_params (n := 1) hp rfl, h0]
      exact if_pos h
  case record =>
    intro s m rest p him ha b₁ b done
    have halive : s.here.alive = true := ha
    have run : immediateRecord p s.here = match (if p = .failed then none else done) with
        | some nv => ({ b with nv := nv } : Dev).afterRecord m
        | none => b.recordLost m := by
      unfold immediateRecord
      rw [show s.here.nv.imm = m :: rest from him]
      dsimp only
      rw [halive]
      rfl
    refine ⟨fun h => completes_with rfl (run.trans ?_), fun nv hp hnv => ?_⟩
    · have hdone : (if p = .failed then none else done) = none := by
        rcases h with h | h
        · exact if_pos h
        · rw [h, ite_self]
      rw [hdone]
    · intro d
      have after : immediateRecord p s.here = d.afterRecord m := by rw [run, if_neg hp, hnv]
      refine ⟨fun h => ?_, fun i hm hi => ?_, fun t hm => ?_, fun hm => ?_, fun bank hm => ?_, fun slot k hm => ?_⟩
      all_goals refine completes_with rfl (after.trans ?_); unfold Dev.afterRecord
      · rcases h with h | h | ⟨i, h⟩ | ⟨i, hi, h⟩ <;> rw [h]
        exact if_neg (by omega)
      · rw [hm]
        exact if_pos hi
      all_goals rw [hm]

end Sys2Proof.Machine

/-! ## Requests of updates and debug -/

namespace Sys2Proof.Machine

/-- A request that is served and whose own checks pass completes with its effect and its answer's flags. -/
theorem request_answers {c : Instr} {s : State} {f : Dev → Dev} {op : Op} {chk : Dev → Req → Option Answer}
    {act : Dev → Req → Dev × Option Answer} {r : Req} {e : Dev} {a : Answer} (hx : exec c s = .next (s.run f))
    (hf : f s.here = serve op chk act r s.here) (h : Serves op r s.dev) (hc : ∀ x, chk (s.dev.aside x) r = none)
    (ha : act (s.dev.taken r) r = (e, some a)) : Completes c s (Replied op.code r a (e.statusFlags r.host a.status)) := by
  obtain ⟨x, hx'⟩ := takeCounter_aside s r
  refine completes_of_run hx fun t ht => ?_
  rw [hf, serve_acts (serves_here h) rfl (by rw [hx']; exact hc x)] at ht
  have ha' : act (s.here.takeCounter r).queued r = (e, some a) := ha
  rw [ha'] at ht
  exact replied_of_follows ht

section
variable (d : Dev) (r : Req)

theorem session_taken : (d.taken r).boot.session = d.boot.session := by rw [boot_taken]
theorem trial_taken : (d.taken r).boot.trial = d.boot.trial := by rw [boot_taken]
theorem challenge_taken : (d.taken r).boot.challenge = d.boot.challenge := by rw [boot_taken]
theorem fuses_taken : (d.taken r).boot.fuses = d.boot.fuses := by rw [boot_taken]

theorem ownerSet_taken : (d.taken r).ownerSet = d.ownerSet := by
  unfold Dev.ownerSet
  rw [fuses_taken]

theorem bootBank_taken : (d.taken r).rd P.BOOT_BANK = d.rd P.BOOT_BANK := rd_taken d r _ _ (by decide)

end

/-- Fixing bit 1 of FW_SELECT's byte changes nothing where it stands so. -/
theorem withBit_self {b : Nat} {v : Bool} {r : Req} (hp : r.params = [BitVec.ofNat 8 b]) (hb : b < 4) (hv : bitOf b 1 = v) :
    withBit 0 1 v r = r := by
  have h0 : byteAt r.params 0 = b := byteAt_first hp (by omega)
  have hbit : ∀ b, b < 4 → (if bitOf b 1 then setBit b 1 else clrBit b 1) = b := by decide
  unfold withBit
  dsimp only
  rw [h0, ← hv, hbit b hb, hp]
  show ({ r with params := [BitVec.ofNat 8 b] } : Req) = r
  rw [← hp]

section
variable {s : State} {r : Req} {b : Nat}

theorem fwSelectTrial_serves (hp : r.params = [BitVec.ofNat 8 b]) (hb : b < 2) : fwSelectTrial r s.here = fwSelect r s.here := by
  have h1 : ∀ b, b < 2 → bitOf b 1 = false := by decide
  unfold fwSelectTrial
  rw [withBit_self hp (by omega) (h1 b hb)]

theorem fwSelectConfirm_serves (hp : r.params = [BitVec.ofNat 8 (b + 2)]) (hb : b < 2) : fwSelectConfirm r s.here = fwSelect r s.here := by
  have h1 : ∀ b, b < 2 → bitOf (b + 2) 1 = true := by decide
  unfold fwSelectConfirm
  rw [withBit_self hp (by omega) (h1 b hb)]

/-- FW_SELECT with CONFIRM 0 of a bank that does not verify. -/
theorem fwSelectTrial_unverified (hs : Serves ⟨0x8005, .service, false⟩ r s.dev) (hp : r.params = [BitVec.ofNat 8 b]) (hb : b < 2)
    (hv : (s.dev.taken r).bankVerifies b = false) :
    Completes (.fwSelectTrial r) s (Replied 0x8005 r ⟨.denied, 0x4009, []⟩ (s.dev.taken r)) := by
  have h0 : byteAt r.params 0 = b := byteAt_first hp (by omega)
  have h1 : bitOf b 1 = false := by simp [bitOf]; omega
  refine request_acts rfl (fwSelectTrial_serves hp hb) hs (fun _ => lengthIs_of_params (n := 1) hp rfl) ?_ nofun nofun
  dsimp only
  rw [h0, h1, Nat.mod_eq_of_lt hb, hv]
  rfl

end

/-- Settles O35: a session, a bank that verifies, a trial and a challenge decide the branches; without a trial FW_SELECT finds Workroom
neither halted nor in recovery still after its selection, and a response is judged before its challenge is spent. -/
theorem updateAndDebugRequests : Obligations.UpdateAndDebugRequests := by
  refine ⟨?begin_, ?data, ?commit, ?select, ?confirm, ?debug⟩
  case begin_ =>
    intro s r hs hl h512 hmax ht1 htr d x
    have pass : ∀ _ : Aside, (match lengthIs 12 r with
      | some a => some a
      | none => if 512 ≤ leAt r.params 0 4 ∧ leAt r.params 0 4 ≤ (if byteAt r.params 8 = 0 then 16777216 else 16384) ∧ byteAt r.params 8 ≤ 1
        then none else some (refuse .badParam 0x4001)) = none := fun _ => by
      rw [lengthIs_eq_none hl]
      exact if_pos ⟨h512, hmax, ht1⟩
    refine ⟨fun hn => ?_, fun y hy hne => ?_⟩
    · refine request_acts rfl rfl hs pass ?_ nofun nofun
      dsimp only
      rw [trial_taken, htr, session_taken, hn]
      rfl
    · refine request_acts rfl rfl hs pass ?_ nofun nofun
      dsimp only
      rw [trial_taken, htr, session_taken, hy]
      exact (if_neg Bool.false_ne_true).trans (if_pos (by
        change (decide (y.host ≠ r.host) || y.committing) = true
        rw [decide_eq_true hne]
        rfl))
  case data =>
    intro s r hs h5 h1388 d
    refine ⟨fun hn => ?_, fun x hx hle => ?_⟩
    all_goals refine request_acts rfl rfl hs (fun _ => if_pos ⟨h5, h1388⟩) ?_ nofun nofun
    · rw [session_taken, hn]
      rfl
    · rw [session_taken, hx]
      exact if_neg (by simp; omega)
  case commit =>
    intro s r hs hl d
    refine ⟨fun hn => ?_, fun x hx hc => ?_⟩
    all_goals refine request_acts rfl rfl hs (fun _ => lengthIs_eq_none hl) ?_ nofun nofun
    · rw [session_taken, hn]
      rfl
    · rw [session_taken, hx]
      dsimp only
      rw [hc]
      rfl
  case select =>
    intro s r b hs hp hb d
    have h0 : byteAt r.params 0 = b := byteAt_first hp (by omega)
    have h1 : bitOf b 1 = false := by simp [bitOf]; omega
    refine ⟨fun ht hh h7 hbb => ?_, fun ht hh h7 hbb => ?_⟩
    · cases hv : d.bankVerifies b with
      | false => exact fwSelectTrial_unverified hs hp hb hv
      | true =>
        refine request_acts rfl (fwSelectTrial_serves hp hb) hs (fun _ => lengthIs_of_params (n := 1) hp rfl) ?_ nofun nofun
        rw [h0, h1, Nat.mod_eq_of_lt hb]
        extract_lets b'
        rw [if_pos (by rfl), if_neg (by simpa using hv), trial_taken, ht]
        exact if_pos (by rw [bootBank_taken, hbb, halted_taken, hh, inRecovery_taken, show s.dev.inRecovery = false from decide_eq_false h7]; simp [b'])
    · intro e x f
      cases hv : d.bankVerifies b with
      | false => exact fwSelectTrial_unverified hs hp hb hv
      | true =>
        refine request_acts rfl (fwSelectTrial_serves hp hb) hs (fun _ => lengthIs_of_params (n := 1) hp rfl) ?_ nofun nofun
        rw [h0, h1, Nat.mod_eq_of_lt hb]
        extract_lets b' former e' boot f' stopped f₁ f₂
        have hf : f.halted = false := (halted_taken s.dev r).trans hh
        have hr : f.inRecovery = false := (inRecovery_taken s.dev r).trans (decide_eq_false h7)
        rw [if_pos (by rfl), if_neg (by simpa using hv), trial_taken, ht]
        refine (if_neg (by rw [bootBank_taken]; simp [b', Ne.symm hbb])).trans ?_
        have h₁ : f₁ = f := if_neg (by rw [show stopped = f.halted from rfl, hf]; exact Bool.false_ne_true)
        have h₂ : f₂ = f := (if_neg (by rw [h₁, hr]; exact Bool.false_ne_true)).trans h₁
        rw [h₂]
  case confirm =>
    intro s r b hs hp hb d
    have h0 : byteAt r.params 0 = b + 2 := byteAt_first hp (by omega)
    have h1 : bitOf (b + 2) 1 = true := by simp [bitOf]; omega
    have hm : (b + 2) % 2 = b := by omega
    refine ⟨fun ht => ?_, fun x ht hx => ?_⟩
    · refine request_acts rfl (fwSelectConfirm_serves hp hb) hs (fun _ => lengthIs_of_params (n := 1) hp rfl) ?_ nofun nofun
      rw [h0, h1, trial_taken, ht]
      rfl
    · refine request_held rfl (fwSelectConfirm_serves hp hb) hs (fun _ => lengthIs_of_params (n := 1) hp rfl) ?_
      rw [h0, h1, hm, trial_taken, ht]
      exact if_pos hx
  case debug =>
    rintro s r l hs rfl h1 h3 ho h2 d
    have owned : (!(s.dev.taken r).ownerSet) = false := by rw [ownerSet_taken, ho]; rfl
    have allowed : (decide (byteAt r.params 0 = 2) && (s.dev.taken r).boot.fuses.dbg2Off) = false := by
      rw [fuses_taken]
      by_cases h : byteAt r.params 0 = 2
      · rw [h2 h, Bool.and_false]
      · simp [h]
    refine ⟨fun h4 => ?_, fun h132 => ?_⟩
    · intro n ch
      have hr : debugChallenge r s.here = debugReq r s.here := by
        unfold debugChallenge
        rw [List.take_of_length_le (by omega)]
      refine request_acts (op := ⟨0x8006, _, false⟩) rfl hr hs (fun _ => (if_pos (.inl h4)).trans (if_pos ⟨h1, h3⟩)) ?_ nofun nofun
      rcases hn : n with ⟨v, e⟩
      have hu : d.uid = e.uid := congrArg (fun n : Nat × Dev => n.2.uid) hn
      have hch : ch = leBytes 8 e.uid ++ leBytes 1 (byteAt r.params 0) ++ List.replicate 7 0 ++ leBytes 32 v := by
        simp only [ch, hu, hn]
      clear_value ch
      extract_lets level
      rw [owned, show (decide (level = 2) && (s.dev.taken r).boot.fuses.dbg2Off) = false from allowed,
        show (s.dev.taken r).draw (2 ^ 256) = (v, e) from hn, if_neg Bool.false_ne_true, if_neg Bool.false_ne_true, if_pos h4, hch]
    · intro spent pub
      have hr : debugUnlock r s.here = debugReq r s.here := by
        unfold debugUnlock
        rw [if_neg (by omega)]
      have checked : ∀ _ : Aside, (if r.params.length = 4 ∨ r.params.length = 132 then
          (if 1 ≤ byteAt r.params 0 ∧ byteAt r.params 0 ≤ 3 then none else some badValue) else some badLength) = none :=
        fun _ => (if_pos (.inr h132)).trans (if_pos ⟨h1, h3⟩)
      have long : ¬r.params.length = 4 := by omega
      refine ⟨fun c hc => ?_, fun hc => ?_⟩
      · intro good
        cases hg : good with
        | true =>
          refine request_acts (op := ⟨0x8006, _, false⟩) rfl hr hs checked ?_ nofun nofun
          extract_lets level good'
          have hgood : good' = good := by
            simp only [good', good, challenge_taken, hc, clk_taken, fuses_taken, level, Bool.decide_and, Bool.and_assoc]
          rw [owned, show (decide (level = 2) && (s.dev.taken r).boot.fuses.dbg2Off) = false from allowed, if_neg Bool.false_ne_true,
            if_neg Bool.false_ne_true, if_neg long]
          exact if_pos (hgood.trans hg)
        | false =>
          refine request_answers (op := ⟨0x8006, _, false⟩) rfl hr hs checked (a := ⟨.auth, 0x400D, []⟩) (e := spent) ?_
          extract_lets level good'
          have hgood : good' = good := by
            simp only [good', good, challenge_taken, hc, clk_taken, fuses_taken, level, Bool.decide_and, Bool.and_assoc]
          rw [owned, show (decide (level = 2) && (s.dev.taken r).boot.fuses.dbg2Off) = false from allowed, if_neg Bool.false_ne_true,
            if_neg Bool.false_ne_true, if_neg long]
          exact if_neg (by rw [hgood, hg]; exact Bool.false_ne_true)
      · refine request_answers (op := ⟨0x8006, _, false⟩) rfl hr hs checked (a := ⟨.auth, 0x400D, []⟩) (e := spent) ?_
        extract_lets level good'
        have hgood : good' = false := by simp only [good', challenge_taken, hc]
        rw [owned, show (decide (level = 2) && (s.dev.taken r).boot.fuses.dbg2Off) = false from allowed, if_neg Bool.false_ne_true,
          if_neg Bool.false_ne_true, if_neg long]
        exact if_neg (by rw [hgood]; exact Bool.false_ne_true)

end Sys2Proof.Machine

/-! ## Every command and the empty queue (O1 to O5) -/

namespace Sys2Proof.Machine

/-- Settles O1: a step takes the queue's front command. -/
theorem stepRunsFrontCommand : Obligations.StepRunsFrontCommand := by
  intro s c q h
  unfold step
  rw [h]

/-- Settles O3: every command's meaning is a row run on the block. -/
theorem everyCommandCompletes : Obligations.EveryCommandCompletes := by
  intro c s
  obtain ⟨f, hf⟩ := exec_runs c s
  exact ⟨s.run f, hf, rfl⟩

/-- Settles O4: reset leaves every field map and table empty, so each read falls back on its reset column. -/
theorem resetValues : Obligations.ResetValues :=
  ⟨fun _ _ => rfl, fun _ => rfl, fun _ => rfl, rfl, rfl, rfl, rfl, rfl, rfl, rfl⟩

/-- Settles O5: what drives the pins, evaluated on the reset state. -/
theorem pinsAgreeAtReset : Obligations.PinsAgreeAtReset := by
  refine ⟨?_, ?_, ?_, rfl, ?_, rfl⟩ <;> decide +kernel

/-! ## A tick -/

theorem tick_inReset {d : Dev} (h : d.boot.inReset = true) : d.tick = d := if_pos h

/-- What a tick outside reset moves: the timebase, and of a correction of system time its next step. -/
theorem tick_eq (d : Dev) : d.tick = { d with clk := d.tick.clk, ofs := d.tick.ofs, slew := d.tick.slew, slewTick := d.tick.slewTick } := by
  unfold Dev.tick
  dsimp only
  split
  · rfl
  · split
    · rfl
    · split <;> rfl

section
variable {d : Dev} (hr : d.boot.inReset = false)
include hr

theorem tick_still (hs : d.slew = 0) : d.tick = { d with clk := d.clk + 2 } :=
  (if_neg (by simp [hr])).trans (if_pos hs)

theorem tick_between (hs : d.slew ≠ 0) (ht : d.slewTick + 1 < 1000) : d.tick = { d with clk := d.clk + 2, slewTick := d.slewTick + 1 } :=
  (if_neg (by simp [hr])).trans ((if_neg hs).trans (if_pos ht))

theorem tick_slews (hs : d.slew ≠ 0) (ht : ¬ d.slewTick + 1 < 1000) :
    d.tick = { d with clk := d.clk + 2, slewTick := 0, ofs := d.ofs + d.slew.sign, slew := d.slew - d.slew.sign } := by
  have hsign : (if 0 < d.slew then 1 else -1) = d.slew.sign := by
    split
    · rw [Int.sign_eq_one_of_pos ‹_›]
    · rw [Int.sign_eq_neg_one_of_neg (by omega)]
  rw [← hsign]
  exact (if_neg (by simp [hr])).trans ((if_neg hs).trans (if_neg ht))

end

theorem natAbs_sub_sign {x : Int} (h : x ≠ 0) : (x - x.sign).natAbs + 1 = x.natAbs := by
  rcases Int.lt_or_gt_of_ne h with hx | hx
  · rw [Int.sign_eq_neg_one_of_neg hx]; omega
  · rw [Int.sign_eq_one_of_pos hx]; omega

/-! ## The request whose turn has come -/

theorem startQueued_none {d : Dev} (h : ∀ q ∈ d.kcp.queue, d.hostBusy q.req.host = true) : d.startQueued = d := by
  have hf : d.kcp.queue.find? (fun q => !d.hostBusy q.req.host) = none := by
    rw [List.find?_eq_none]
    intro q hq
    simp [h q hq]
  unfold Dev.startQueued
  rw [hf]

theorem startQueued_some {d : Dev} {l m : List Queued} {q : Queued} (hq : d.kcp.queue = l ++ q :: m)
    (hl : ∀ x ∈ l, d.hostBusy x.req.host = true) (hb : d.hostBusy q.req.host = false) :
    d.startQueued = runOpcode q.opcode q.req { d with begun := some q, kcp := { d.kcp with queue := l ++ m } } := by
  have hf : d.kcp.queue.find? (fun q => !d.hostBusy q.req.host) = some q := by
    rw [hq, List.find?_append, List.find?_eq_none.2 (fun x hx => by simp [hl x hx]), List.find?_cons_of_pos (by simp [hb])]
    rfl
  have he : d.kcp.queue.eraseP (· == q) = l ++ m := by
    rw [hq, List.eraseP_append_right, List.eraseP_cons_of_pos (by simp)]
    intro x hx
    have : x ≠ q := by rintro rfl; simp [hl x hx] at hb
    simpa using this
  unfold Dev.startQueued
  rw [hf, ← he]

/-- Settles O2: an idle run is a tick, by its three cases outside reset, and the beginning of the queued request whose turn has come. -/
theorem emptyQueueTicks : Obligations.EmptyQueueTicks := by
  intro s h
  have hq : s.here.tick.kcp = s.dev.kcp := by rw [tick_eq]; rfl
  have hbusy : ∀ x, s.here.tick.hostBusy x = s.dev.hostBusy x := fun x => by unfold Dev.hostBusy; rw [hq]
  refine ⟨s.run Dev.idle, s.here.tick, ?_, h, fun hr => tick_inReset hr, fun hr => ⟨?_, ?_, fun h0 => ?_, fun h0 ht => ?_, fun h0 ht => ?_, tick_eq _⟩,
    fun hl => ?_, fun l q m hlm hl hb => ?_⟩
  · unfold step
    rw [h]
    rfl
  · by_cases h0 : s.dev.slew = 0
    · rw [tick_still (d := s.here) hr h0]; rfl
    · by_cases ht : s.dev.slewTick + 1 < 1000
      · rw [tick_between (d := s.here) hr h0 ht]; rfl
      · rw [tick_slews (d := s.here) hr h0 ht]; rfl
  · by_cases h0 : s.dev.slew = 0
    · rw [tick_still (d := s.here) hr h0]; rfl
    · by_cases ht : s.dev.slewTick + 1 < 1000
      · rw [tick_between (d := s.here) hr h0 ht]; rfl
      · rw [tick_slews (d := s.here) hr h0 ht]
        change s.dev.ofs + s.dev.slew.sign + (s.dev.slew - s.dev.slew.sign) = _
        omega
  · rw [tick_still (d := s.here) hr h0]; exact ⟨rfl, rfl⟩
  · rw [tick_between (d := s.here) hr h0 ht]; exact ⟨rfl, rfl⟩
  · rw [tick_slews (d := s.here) hr h0 (by change ¬ s.dev.slewTick + 1 < 1000; omega)]
    exact ⟨natAbs_sub_sign h0, rfl⟩
  · have hs : Dev.idle s.here = s.here.tick := startQueued_none (by simpa only [hq, hbusy] using hl)
    exact hs ▸ run_follows s.dev Dev.idle
  · have hs := startQueued_some (d := s.here.tick) (by rw [hq]; exact hlm) (by simpa only [hbusy] using hl) (by rw [hbusy]; exact hb)
    rw [hq] at hs
    exact hs ▸ run_follows s.dev Dev.idle

end Sys2Proof.Machine

/-! ## Uplinks below KCP (O37) -/

namespace Sys2Proof.Machine

section
variable {s : State} {u : Nat} {vlan : Option Nat} {mine : Bool} {o : Out} (on : s.dev.uplinkOn u = true)
include on

/-- A frame the uplink does not take is counted alone. -/
theorem lowFrame_drops (h : s.dev.vlanOk u vlan = false ∨ mine = false) :
    s.here.lowFrame u vlan mine o = s.here.wr P.UL_RX_DROP [u] (s.dev.rd P.UL_RX_DROP [u] + 1) :=
  (if_neg (by change ¬ (!s.dev.uplinkOn u) = true; simp [on])).trans
    (if_neg (by change ¬ (s.dev.vlanOk u vlan && mine) = true; rcases h with h | h <;> simp [h]))

/-- A frame the uplink takes has its answer transmitted. -/
theorem lowFrame_answers (hv : s.dev.vlanOk u vlan = true) (hm : mine = true) : s.here.lowFrame u vlan mine o = s.here.transmit u o :=
  (if_neg (by change ¬ (!s.dev.uplinkOn u) = true; simp [on])).trans
    (if_pos (by change (s.dev.vlanOk u vlan && mine) = true; simp [hv, hm]))

end

/-- The three requests an uplink answers are each a low frame with its answer. -/
theorem lowFrame_row {s : State} {u : Nat} {vlan : Option Nat} {o : Out} {c : Instr} {mine : Bool}
    (h : (∃ mac ip target, c = .arpRequest u vlan mac ip target ∧ mine = s.dev.ownIp u false target ∧
      o = .lowReply u 0 ip ([0, 1, 8, 0, 6, 4, 0, 2] ++ beBytes 6 (s.dev.mac u) ++ beBytes 4 target ++ beBytes 6 mac ++ beBytes 4 ip)) ∨
    (∃ v6 src dst body, c = .icmpEcho u vlan v6 src dst body ∧ mine = s.dev.ownIp u v6 dst ∧ o = .lowReply u 1 src body) ∨
    (∃ src target, c = .neighbourSolicitation u vlan src target ∧ mine = s.dev.ownIp u true target ∧
      o = .lowReply u 2 src (beBytes 16 target ++ [2, 1] ++ beBytes 6 (s.dev.mac u)))) :
    ∃ f, exec c s = .next (s.run f) ∧ f s.here = s.here.lowFrame u vlan mine o := by
  rcases h with ⟨mac, ip, target, rfl, rfl, rfl⟩ | ⟨v6, src, dst, body, rfl, rfl, rfl⟩ | ⟨src, target, rfl, rfl, rfl⟩ <;>
    exact ⟨_, rfl, rfl⟩

/-- Settles O37: what an uplink does with each frame, and the queue that leaves when a PAUSE ends. -/
theorem uplinkFrames : Obligations.UplinkFrames := by
  refine ⟨?answered, ?unserved, ?pause, ?ends, ?off⟩
  case answered =>
    intro s u vlan o c mine on hc
    obtain ⟨f, hx, hf⟩ := lowFrame_row hc
    refine ⟨fun hv hm hp => ?_, fun hv hm hp => ⟨fun hq => ?_, fun hq => ?_⟩, fun h => ?_⟩
    · exact completes_with hx (hf.trans ((lowFrame_answers on hv hm).trans (if_pos hp)))
    · refine completes_of_run hx fun t ht => ?_
      rw [hf, lowFrame_answers on hv hm] at ht
      have he : s.here.transmit u o = { s.here with kcp := { s.dev.kcp with replyQ := s.dev.kcp.replyQ.upd u [] (· ++ [o]) } } :=
        (if_neg hp).trans (if_pos hq)
      rw [ht.engine, he]
      simp [KMap.upd]
    · exact completes_with hx (hf.trans ((lowFrame_answers on hv hm).trans ((if_neg hp).trans (if_neg (Nat.not_lt.2 hq)))))
    · exact completes_with hx (hf.trans (lowFrame_drops on h))
  case unserved =>
    intro s u on
    have live : ¬ (!s.here.uplinkOn u) = true := by change ¬ (!s.dev.uplinkOn u) = true; simp [on]
    refine ⟨completes_with rfl ((if_neg live).trans rfl), completes_with rfl ((if_neg live).trans ?_)⟩
    refine (if_pos rfl).trans ?_
    have h : (s.here.dropFrame u).rd P.UL_RX_ERR [u] = s.dev.rd P.UL_RX_ERR [u] := Dev.rd_wr_other s.here _ _ _ _ _ (by
      simp [Row.key, Row.addr, P.UL_RX_ERR, P.UL_RX_DROP] <;> omega)
    unfold Dev.bump
    rw [h]
    rfl
  case pause =>
    intro s u n on hn
    have live : ¬ (!s.here.uplinkOn u) = true := by change ¬ (!s.dev.uplinkOn u) = true; simp [on]
    refine ⟨fun h => completes_with rfl ((if_neg live).trans (if_pos h)), fun h => completes_with rfl ((if_neg live).trans ((if_neg h).trans ?_))⟩
    rw [Nat.mod_eq_of_lt hn]
    rfl
  case ends =>
    intro s u t h
    have he : pauseEnd u s.here = (s.here.reach t).resume u := by
      unfold pauseEnd
      rw [show s.here.kcp.paused.get? u = some t from h]
    refine completes_of_run rfl fun e hf => ?_
    rw [he] at hf
    refine ⟨?_, ?_, ?_, ?_, hf⟩
    · exact hf.outputs
    · exact (hf.parts .clk (by simp)).symm
    · rw [hf.engine]; exact KMap.get?_del_same _ u
    · rw [hf.engine]; exact KMap.get?_del_same _ u
  case off =>
    intro s u off c hc
    have dead : (!s.here.uplinkOn u) = true := by change (!s.dev.uplinkOn u) = true; simp [off]
    simp only [List.mem_cons, List.not_mem_nil, or_false] at hc
    rcases hc with rfl | rfl
    all_goals exact idle_of_same rfl (if_pos dead)

end Sys2Proof.Machine

/-! ## The chain and sync events (O38) -/

namespace Sys2Proof.Machine

/-! ### Chain frames -/

section
variable {s : State} {f : List Byte} {up aborted room passed : Bool} (alive : s.dev.alive = true)

/-- A chain frame found damaged counts in CHAIN_CRC_CNT and sets CHAIN_CRC. -/
theorem chainBad_here (s : State) : s.here.chainBad = (s.here.wr P.CHAIN_CRC_CNT [] (s.dev.rd P.CHAIN_CRC_CNT + 1)).setPlc 2 := rfl

include alive

theorem chainFrame_reserved (h : byteAt f 0 ∉ [1, 2]) : chainFrame up f aborted room passed s.here = s.here.bump P.CHAIN_DROP_CNT := by
  have h2 : byteAt f 0 ≠ 2 := fun e => h (by simp [e])
  have h1 : byteAt f 0 ≠ 1 := fun e => h (by simp [e])
  exact (if_neg (by change ¬ (!s.dev.alive) = true; simp [alive])).trans ((if_neg h2).trans (if_pos h1))

theorem chainFrame_token (h : byteAt f 0 = 2) :
    chainFrame up f aborted room passed s.here = if !up then s.here else enumerationToken f aborted s.here :=
  (if_neg (by change ¬ (!s.dev.alive) = true; simp [alive])).trans (if_pos h)

/-- A KCP packet of the chain: taken, or passed on by the port of its direction. -/
theorem chainFrame_packet (h : byteAt f 0 = 1) :
    let b := framedPayload f
    let dest := leAt b 4 2 % 1024
    let ok := chainOk f && !aborted
    let mine := s.dev.addressed = true ∧ dest = s.dev.addr
    let taken := (up = true ∧ (dest = 0x3FF ∨ mine ∨ s.dev.is P.DOWN_SIG = false)) ∨ (up = false ∧ bitOf (byteAt b 0) 4 = true ∧ mine)
    (taken → chainFrame up f aborted room passed s.here =
      if ok then s.here.takePacket (chainHost (passed && decide (dest = 0x3FF))) b else s.here.chainBad) ∧
    (¬ taken → chainFrame up f aborted room passed s.here = s.here.chainPass (if up then 53 else 52) f ok room) := by
  intro b dest ok mine taken
  have run : chainFrame up f aborted room passed s.here =
      let take (d : Dev) : Dev := if ok then d.takePacket (chainHost (passed && decide (dest = 0x3FF))) b else d.chainBad
      if up then
        if dest = 0x3FF || (s.dev.addressed && decide (dest = s.dev.addr)) then take s.here
        else if s.dev.is P.DOWN_SIG then s.here.chainPass 53 f ok room
        else take s.here
      else if bitOf (byteAt b 0) 4 && s.dev.addressed && decide (dest = s.dev.addr) then take s.here
      else s.here.chainPass 52 f ok room :=
    (if_neg (by change ¬ (!s.dev.alive) = true; simp [alive])).trans ((if_neg (by rw [h]; decide)).trans (if_neg (by simp [h])))
  rw [run]
  clear_value dest b ok
  cases up with
  | true =>
    cases hs : s.dev.is P.DOWN_SIG with
    | false => simp [taken, hs]
    | true =>
      refine ⟨fun ht => (if_pos rfl).trans (if_pos ?_), fun ht => (if_pos rfl).trans ((if_neg ?_).trans (if_pos rfl))⟩ <;>
        simpa [taken, mine, hs] using ht
  | false =>
    refine ⟨fun ht => (if_neg Bool.false_ne_true).trans (if_pos ?_), fun ht => (if_neg Bool.false_ne_true).trans (if_neg ?_)⟩ <;> simpa [taken, mine, and_assoc] using ht

end

/-! ### The enumeration token -/

section
variable {s : State} {f : List Byte} {aborted : Bool} (alive : s.dev.alive = true)
include alive

theorem enumerationToken_bad (h : aborted = true ∨ byteAt f 0 ≠ 2 ∨ chainOk f = false) : enumerationToken f aborted s.here = s.here.chainBad :=
  (if_neg (by change ¬ (!s.dev.alive) = true; simp [alive])).trans (if_pos (by rcases h with h | h | h <;> simp [h]))

theorem enumerationToken_good (h : byteAt f 0 = 2) (ok : chainOk f = true) :
    let b := framedPayload f
    let e := s.here.enumStep (leAt b 0 2 % 1024) (byteAt b 2) (leAt b 4 2)
    enumerationToken f false s.here = e.1.sendToken e.2.1 (byteAt b 2) e.2.2 :=
  (if_neg (by change ¬ (!s.dev.alive) = true; simp [alive])).trans (if_neg (by simp [h, ok]))

end

/-! ### Sync events -/

/-- The outputs of one sync event. -/
def Dev.syncPulses (d : Dev) : List Out :=
  [Out.pulse 2 0 300, .pulse 1 0 0, .pulse 1 1 0] ++ (if d.is P.FSYNC_OUT then [.pulse 0 0 (d.rd P.SYNC_COMP)] else [])

theorem syncEvent_eq (d : Dev) : d.syncEvent = { d with out := d.out ++ d.syncPulses } := by
  cases h : d.is P.FSYNC_OUT with
  | true =>
    refine (if_pos h).trans ?_
    simp [Dev.syncPulses, Dev.emit, Dev.emits, h, Dev.rd]
  | false =>
    refine (if_neg (show ¬ d.is P.FSYNC_OUT = true by simp [h])).trans ?_
    simp [Dev.syncPulses, Dev.emits, h]

/-- System time moved on to an instant that is still ahead. -/
theorem now_reachTime {d : Dev} {t : Nat} (h : d.now ≤ t) (ht : t < 2 ^ 64) : (d.reachTime t).now = t := by
  have hn : ((d.clk : Int) + d.ofs) % 2 ^ 64 = d.now := by
    unfold Dev.now wrapInt
    exact (Int.toNat_of_nonneg (Int.emod_nonneg _ (by decide))).symm
  have hc : (d.reachTime t).clk = d.clk + (t - d.now) := Nat.max_eq_right (Nat.le_add_right ..)
  change wrapInt 64 ((d.reachTime t).clk + d.ofs) = t
  rw [hc]
  unfold wrapInt
  generalize d.now = n at *
  omega

/-- The next multiple of a period. -/
theorem next_multiple {n p : Nat} (h : p ≠ 0) : n < (n / p + 1) * p ∧ (n / p + 1) * p ≤ n + p := by
  have h1 := Nat.div_add_mod n p
  have h2 := Nat.mod_lt n (Nat.pos_of_ne_zero h)
  rw [Nat.add_mul, Nat.mul_comm]
  omega

/-- Settles O38: chain frames by their TYPE and direction, the enumeration token, the ports' signals and sync events by their source. -/
theorem chainAndSync : Obligations.ChainAndSync := by
  refine ⟨?reserved, ?packet, ?token, ?signals, ?sync⟩
  case reserved => exact fun s f up aborted room passed alive h => completes_with rfl (chainFrame_reserved alive h)
  case packet =>
    intro s f up aborted room passed alive h d b dest reply whole bad c mine taken port
    obtain ⟨ht, hp⟩ := chainFrame_packet (up := up) (aborted := aborted) (room := room) (passed := passed) alive h
    have hok : (chainOk f && !aborted) = true ↔ whole := by simp [whole]
    refine ⟨fun hk hw => ?_, fun hk hw => ?_, fun hk hr => ?_, fun hk hr hw => ?_, fun hk hr hw => ?_⟩
    · exact completes_with rfl ((ht hk).trans (if_pos (hok.2 hw)))
    · exact completes_with rfl ((ht hk).trans (if_neg (mt hok.1 hw)))
    · exact completes_with rfl ((hp hk).trans (if_pos (by simp [hr])))
    · exact completes_with rfl ((hp hk).trans ((if_neg (by simp [hr])).trans (if_pos (hok.2 hw))))
    · exact completes_with rfl ((hp hk).trans ((if_neg (by simp [hr])).trans (if_neg (mt hok.1 hw))))
  case token =>
    intro s f alive b e bad
    refine ⟨fun h ok => ⟨?_, fun room passed => ?_⟩, ?_, fun h room passed => ⟨?_, fun aborted => ?_⟩, fun h aborted => ?_⟩
    · exact completes_with rfl (enumerationToken_good alive h ok)
    · exact completes_with rfl ((chainFrame_token alive h).trans (enumerationToken_good alive h ok))
    · exact completes_with rfl (enumerationToken_bad alive (.inl rfl))
    · exact completes_with rfl ((chainFrame_token alive h).trans (enumerationToken_bad alive (.inl rfl)))
    · exact idle_of_same rfl (chainFrame_token alive h)
    · exact completes_with rfl (enumerationToken_bad alive (.inr h))
  case signals =>
    intro s alive
    have live : ¬ (!s.here.alive) = true := by change ¬ (!s.dev.alive) = true; simp [alive]
    exact ⟨completes_with rfl (if_neg live), completes_with rfl (if_neg live), completes_with rfl (if_neg live), completes_with rfl (if_neg live)⟩
  case sync =>
    intro s alive pulses
    have hal : s.here.alive = true := alive
    refine ⟨fun h => ?_, fun h => ?_, fun h hf => ?_, ?_, fun h hp hn => ?_, fun h => ?_⟩
    · exact completes_with rfl ((if_pos (by change (s.dev.alive && decide (s.dev.rd P.SYNC_SRC = 2)) = true; simp [alive, h])).trans (syncEvent_eq _))
    · exact idle_of_same rfl (if_neg (by change ¬ (s.dev.alive && decide (s.dev.rd P.SYNC_SRC = 2)) = true; simp [h]))
    · refine completes_with rfl ((if_pos ?_).trans (syncEvent_eq _))
      change (true && !s.dev.pins.fsync && s.dev.alive && decide (s.dev.rd P.SYNC_SRC = 1)) = true
      simp [alive, h, hf]
    · exact completes_with (f := fsync false) rfl rfl
    · have hT := next_multiple (n := s.dev.now) (p := 1000 * s.dev.rd P.SYNC_PERIOD) (by omega)
      have he : syncPeriod s.here =
          (s.here.reachTime ((s.dev.now / (1000 * s.dev.rd P.SYNC_PERIOD) + 1) * (1000 * s.dev.rd P.SYNC_PERIOD))).syncEvent := by
        refine if_neg ?_
        have some_period : ¬ 1000 * s.dev.rd P.SYNC_PERIOD = 0 := by omega
        change ¬ (!s.dev.alive || decide (s.dev.rd P.SYNC_SRC ≠ 3) || decide (1000 * s.dev.rd P.SYNC_PERIOD = 0)) = true
        rw [alive, h, decide_eq_false some_period]
        decide
      have hnow := now_reachTime (d := s.here) (Nat.le_of_lt hT.1) (by omega)
      generalize hTt : (s.dev.now / (1000 * s.dev.rd P.SYNC_PERIOD) + 1) * (1000 * s.dev.rd P.SYNC_PERIOD) = T at *
      refine completes_of_run rfl fun t ht => ?_
      rw [he, syncEvent_eq] at ht
      have hclk : t.clk = (s.here.reachTime T).clk := (ht.parts .clk (by simp)).symm
      have hofs : t.ofs = s.dev.ofs := ((ht.parts .time (by simp)).1).symm
      have htn : t.now = T := by
        rw [← hnow]
        unfold Dev.now
        rw [hclk, hofs]
        rfl
      refine ⟨?_, ?_, ?_, ?_⟩
      · rw [htn, ← hTt]; exact Nat.mul_mod_left ..
      · rw [htn]; exact hT.1
      · rw [htn]; exact hT.2
      · rw [hclk]; exact ht
    · exact idle_of_same rfl (if_pos (by
        change (!s.dev.alive || decide (s.dev.rd P.SYNC_SRC ≠ 3) || decide (1000 * s.dev.rd P.SYNC_PERIOD = 0)) = true
        simp [h]))

end Sys2Proof.Machine

/-! ## Heartbeats, links, advertisements and losses (O39) -/

namespace Sys2Proof.Machine

/-- A flooded frame touches the packet engine, the counts of its links and the outputs alone. -/
def FloodKeeps (a b : Dev) : Prop := b.plc = a.plc ∧ b.boot = a.boot

theorem countBad_keeps (d : Dev) (h : SeamHdr) : FloodKeeps d (d.countBad h) := by
  unfold Dev.countBad
  split <;> exact ⟨rfl, rfl⟩

theorem FloodKeeps.refl (d : Dev) : FloodKeeps d d := ⟨rfl, rfl⟩

theorem FloodKeeps.trans {a b c : Dev} (h : FloodKeeps a b) (g : FloodKeeps b c) : FloodKeeps a c := ⟨g.1.trans h.1, g.2.trans h.2⟩

theorem passFrame_keeps (d : Dev) (m kind : Nat) (h : SeamHdr) (b : List Byte) : FloodKeeps d (d.passFrame m kind h b) := ⟨rfl, rfl⟩

theorem floodNew_keeps (d : Dev) (kind : Nat) (h : SeamHdr) (b : List Byte) : FloodKeeps d (d.floodNew kind h b).1 := by
  unfold Dev.floodNew
  extract_lets live k e
  have he : FloodKeeps d e := by
    change FloodKeeps d (if _ then _ else _)
    split
    · exact ⟨rfl, rfl⟩
    · exact countBad_keeps d h
  split
  · exact countBad_keeps d h
  · split
    · refine he.trans ?_
      dsimp only
      split <;> exact ⟨rfl, rfl⟩
    · exact he.trans (Dev.each_keeps FloodKeeps .refl .trans _ _ e fun m _ x => passFrame_keeps x m kind _ b)

/-- Settles O39: what each heartbeat, link, advertisement and loss makes of the array. -/
theorem meshLinks : Obligations.MeshLinks := by
  refine ⟨?beat, ?deaf, ?send, ?link, ?lsa, ?refresh, ?expiry, ?third, ?loss⟩
  case beat =>
    intro s m uid addr b alive hm hen hlock hb huid haddr l echo sample delays hbp missed heard d e
    have live : ¬ (!s.here.alive || decide (8 ≤ m) || !s.here.is P.SL_LINK_EN [m] || !(s.here.link m).locked || decide (b.length ≠ 48)) = true := by
      change ¬ (!s.dev.alive || decide (8 ≤ m) || !s.dev.is P.SL_LINK_EN [m] || !(s.dev.link m).locked || decide (b.length ≠ 48)) = true
      simp [alive, hm, hen, hlock, hb]
    have fresh : heartbeat m b s.here = if !s.dev.is P.SL_LINK_UP [m] || decide (s.dev.rd P.NEIGH [m] ≠ addr) then e.sendLsa else e := by
      subst huid haddr
      exact if_neg live
    refine ⟨fun h => completes_with rfl (fresh.trans (if_pos ?_)), fun h1 h2 => completes_with rfl (fresh.trans (if_neg ?_))⟩
    · rcases h with h | h <;> simp [h]
    · simp [h1, h2]
  case deaf =>
    intro s m b h
    refine idle_of_same rfl (if_pos ?_)
    change (!s.dev.alive || decide (8 ≤ m) || !s.dev.is P.SL_LINK_EN [m] || !(s.dev.link m).locked || decide (b.length ≠ 48)) = true
    rcases h with h | h | h <;> simp [h]
  case send =>
    intro s alive
    refine completes_with rfl ((if_neg (by change ¬ (!s.dev.alive) = true; simp [alive])).trans ?_)
    have hk : ∀ m < 8, P.SL_LINK_EN.key [m] ≠ P.SCORE.key [] ∧ P.SL_LINK_EN.key [m] ≠ P.H_PEN.key [] := fun m hm => by
      simp [Row.key, Row.addr, P.SL_LINK_EN, P.SCORE, P.H_PEN]
      omega
    have hen : ∀ m < 8, (s.here.wrs [(P.SCORE, [], s.dev.score), (P.H_PEN, [], s.dev.healthPen)]).is P.SL_LINK_EN [m] = s.dev.is P.SL_LINK_EN [m] :=
      fun m hm => Dev.is_congr ((Dev.get?_wr_other _ _ _ _ _ (hk m hm).2).trans (Dev.get?_wr_other _ _ _ _ _ (hk m hm).1))
    have hf : ((List.range 8).filter fun m => (s.here.wrs [(P.SCORE, [], s.dev.score), (P.H_PEN, [], s.dev.healthPen)]).is P.SL_LINK_EN [m] &&
        (s.dev.link m).locked) = (List.range 8).filter fun m => s.dev.is P.SL_LINK_EN [m] && (s.dev.link m).locked :=
      List.filter_congr fun m hm => by rw [hen m (List.mem_range.1 hm)]
    exact congrArg (Dev.each _ · _) hf
  case link =>
    intro s m alive hm
    have live : ¬ (!s.here.alive || decide (8 ≤ m)) = true := by
      change ¬ (!s.dev.alive || decide (8 ≤ m)) = true
      simp [alive, hm]
    exact ⟨fun h => completes_with rfl ((if_neg live).trans ((if_pos rfl).trans (if_pos h))),
      fun h => completes_with rfl ((if_neg live).trans ((if_neg Bool.false_ne_true).trans (if_pos h)))⟩
  case lsa =>
    intro s h l e alive up hne
    have live : ¬ (!s.here.alive || !s.here.is P.SL_LINK_UP [h.link] || decide (l.uid = s.here.uid)) = true := by
      change ¬ (!s.dev.alive || !s.dev.is P.SL_LINK_UP [h.link] || decide (l.uid = s.dev.uid)) = true
      simp [alive, up, hne]
    refine ⟨fun hf => completes_with rfl ((if_neg live).trans ?_), fun hf hn => completes_with rfl ((if_neg live).trans ?_)⟩
    · rw [hf]
    · rw [hf]
      have hp : e.plc = s.dev.plc := by
        have := (floodNew_keeps s.here 1 h (lsaBytes l)).1
        rw [hf] at this
        exact this
      have ht : e.plc.topo.get? l.uid = none := by rw [hp]; exact hn
      dsimp only
      rw [ht]
      rfl
  case refresh => exact fun s alive => completes_with rfl (if_pos alive)
  case expiry =>
    intro s uid t ht d
    refine completes_with rfl ?_
    unfold topologyExpiry
    rw [show s.here.plc.topoAt.get? uid = some t from ht]
  case third =>
    intro s m alive met rep mine last addr d
    have live : ¬ (!s.here.alive || !(s.here.link m).met || (s.here.link m).reported) = true := by
      change ¬ (!s.dev.alive || !(s.dev.link m).met || (s.dev.link m).reported) = true
      simp [alive, met, rep]
    refine completes_with rfl ((if_neg live).trans ?_)
    have ha : (match s.dev.plc.topo.get? (s.dev.link m).uid with
      | some x => x.addr
      | none => s.dev.rd P.NEIGH [m]) = addr := by
      unfold addr
      cases s.dev.plc.topo.get? (s.dev.link m).uid <;> rfl
    rw [← ha]
    rfl
  case loss =>
    intro s h uid addr e alive up hne hf
    have live : ¬ (!s.here.alive || !s.here.is P.SL_LINK_UP [h.link]) = true := by
      change ¬ (!s.dev.alive || !s.dev.is P.SL_LINK_UP [h.link]) = true
      simp [alive, up]
    refine completes_with rfl ((if_neg live).trans ?_)
    have hb : e.boot = s.dev.boot := by
      have := (floodNew_keeps s.here 2 h (leBytes 8 uid ++ leBytes 2 addr)).2
      rw [hf] at this
      exact this
    rw [hf]
    refine if_neg ?_
    unfold Dev.uid
    rw [hb]
    exact hne

end Sys2Proof.Machine

/-! ## Time on an uplink (O40) -/

namespace Sys2Proof.Machine

/-- Settles O40: each PTP message by its domain, its sequence and what the uplink has measured so far. -/
theorem ptpMessages : Obligations.PtpMessages := by
  intro s u dom seq on hdom d x
  have here : s.here.ptpHere u dom = true := by
    change (s.dev.ptpOn u && decide (dom = s.dev.rd P.PTP_DOMAIN)) = true
    simp [on, hdom]
  refine ⟨fun v6 addr => ?_, fun hu v6 addr any => ?_, fun v6 addr other ho => ?_, fun at_ origin hx => ?_, fun at_ other origin hx ho => ?_,
    fun y hx => ?_, fun q t1 t2 t3 t4 h1 h2 h3 => ?_, fun o hx => ?_, fun o g hx hne hb => ?_⟩
  · exact completes_with rfl (if_pos (by simp [here]))
  · refine completes_with rfl ((if_neg (by simp)).trans (if_pos ?_))
    change (s.dev.uplinkOn u && !false) = true
    simp [hu]
  · refine idle_of_same rfl ((if_neg ?_).trans (if_neg (by simp)))
    change ¬ (s.dev.ptpOn u && decide (other = s.dev.rd P.PTP_DOMAIN) && true) = true
    simp [hdom, ho]
  · refine completes_with rfl ?_
    unfold followUp
    rw [show (s.here.ptp u).sync = some (seq, at_) from hx]
    exact if_pos (by simp [here])
  · refine idle_of_same rfl ?_
    unfold followUp
    rw [show (s.here.ptp u).sync = some (other, at_) from hx]
    exact if_neg (by simp [ho])
  · exact completes_with rfl (if_pos (by
      change (s.dev.ptpOn u && x.sync.isSome) = true
      simp [on, hx]))
  · intro e ahead
    have run : delayResp u dom seq t4 s.here = if e.rd P.TIME_SRC = 1 && (e.ownOffer.map (·.1)) == some u then e.rootTime ahead else e := by
      unfold delayResp
      extract_lets y
      split
      · rename_i _ _ _ _ _ e1 e2 e3
        cases h1.symm.trans e1
        cases h2.symm.trans e2
        cases h3.symm.trans e3
        exact if_pos (by simp [here])
      · rename_i hne
        exact absurd h3 (hne _ _ _ _ _ h1 h2)
    exact ⟨fun h => completes_with rfl (run.trans (if_neg (by simp [h]))), fun h1 h2 => completes_with rfl (run.trans (if_pos (by simp [h1, h2])))⟩
  · refine completes_with rfl ((if_pos here).trans ?_)
    dsimp only
    rw [show (s.here.ptp u).gm = none from hx]
    rfl
  · refine idle_of_same rfl ((if_pos here).trans ?_)
    dsimp only
    rw [show (s.here.ptp u).gm = some g from hx]
    exact if_neg (by simp [hne, hb])

end Sys2Proof.Machine

/-! ## What the array does of itself (O41) -/

namespace Sys2Proof.Machine

/-- A Seamlink frame that is whole and for the device reaches it, and nothing is counted. -/
theorem arriving_receives {s : State} {h : SeamHdr} (hr : Receives h s.dev) (kind : Nat) (b : List Byte) (alarm : Bool) :
    s.here.arriving kind h b alarm = (s.here, true) := by
  have live : ¬ (!s.here.alive || !s.here.is P.SL_LINK_UP [h.link]) = true := by
    change ¬ (!s.dev.alive || !s.dev.is P.SL_LINK_UP [h.link]) = true
    simp [hr.alive, hr.up]
  have mine : (decide (h.dest = s.here.addr) && s.here.addressed) = true := by
    change (decide (h.dest = s.dev.addr) && s.dev.addressed) = true
    simp [hr.dest, hr.addressed]
  refine (if_neg live).trans ((if_pos mine).trans ?_)
  rw [hr.whole]
  exact congrArg (·, true) (if_pos hr.whole)

theorem handoverData_receives {s : State} {f : SeamHdr} {m : List Byte} (hr : Receives f s.dev) :
    handoverData f m s.here = s.here.takeHandover m := by
  unfold handoverData
  rw [arriving_receives hr]

theorem configurationBlock_receives {s : State} {f : SeamHdr} {m : List Byte} (hr : Receives f s.dev) :
    configurationBlock f m s.here = s.here.fillBlock m := by
  unfold configurationBlock
  rw [arriving_receives hr]

/-- Settles O41: directories, handover frames, staging, activation, exchanges and the census, each by its own guard. -/
theorem arrayProgress : Obligations.ArrayProgress := by
  refine ⟨?directory, ?other, ?repeats, ?periods, ?handover, ?block, ?unstaged, ?staged, ?activation, ?exchange, ?census⟩
  case directory =>
    intro s p aw dir
    refine ⟨fun hp => completes_with rfl (if_pos ?_), fun ht => completes_with rfl (if_pos ?_)⟩
    · change (s.dev.awake && s.dev.isDirectory p && (s.dev.patch? p).isSome) = true
      simp [aw, dir, hp]
    · change (s.dev.awake && (s.dev.dir p).taking && s.dev.isDirectory p) = true
      simp [aw, dir, ht]
  case other =>
    intro s p dir
    refine ⟨idle_of_same rfl (if_neg ?_), idle_of_same rfl (if_neg ?_)⟩
    · change ¬ (s.dev.awake && s.dev.isDirectory p && (s.dev.patch? p).isSome) = true
      simp [dir]
    · change ¬ (s.dev.awake && (s.dev.dir p).taking && s.dev.isDirectory p) = true
      simp [dir]
  case repeats =>
    intro s p aw hw x
    have live : ¬ (!s.here.awake || (s.here.dir p).waiting.isEmpty) = true := by
      change ¬ (!s.dev.awake || (s.dev.dir p).waiting.isEmpty) = true
      simp [aw, hw]
    have hms : ms 10 ≤ sec 1 := by decide
    refine ⟨fun h => completes_with rfl ((if_neg live).trans (if_pos ?_)), fun h => completes_with rfl ((if_neg live).trans ((if_neg ?_).trans ?_))⟩
    · change max s.dev.clk (x.sent + ms 10) ≤ x.sent + sec 1
      omega
    · change ¬ max s.dev.clk (x.sent + ms 10) ≤ x.sent + sec 1
      omega
    · have hr : s.here.reach (x.sent + ms 10) = s.here := by
        unfold Dev.reach
        rw [show max s.here.clk (x.sent + ms 10) = s.here.clk from Nat.max_eq_left (by change x.sent + ms 10 ≤ s.dev.clk; omega)]
      exact congrArg (Dev.setDir · p { x with waiting := [] }) hr
  case periods =>
    intro s aw
    refine ⟨completes_with rfl (if_pos aw), fun hr => completes_with rfl (if_neg ?_), fun hr => idle_of_same rfl (if_pos ?_)⟩
    · change ¬ (!s.dev.awake || !s.dev.boot.running) = true
      simp [aw, hr]
    · change (!s.dev.awake || !s.dev.boot.running) = true
      simp [hr]
  case handover =>
    intro s f m p h hr aw hp hh got h'
    subst hp
    have run : handoverData f m s.here =
        if (got.vals.map List.length).sum < leAt m 8 4 then
          { s.here with plc := { s.dev.plc with handovers := s.dev.plc.handovers.put (leAt m 0 4 % 2 ^ 22) h' } }
        else
          let d : Dev := { s.here with plc := { s.dev.plc with handovers := s.dev.plc.handovers.del (leAt m 0 4 % 2 ^ 22) } }
          let e := d.takeSnapshot (leAt m 0 4 % 2 ^ 22) got.vals.flatten
          e.ask 0x4401 h.former (placeBody (leAt m 0 4 % 2 ^ 22) 3 0 e.addr h.former 0 (e.place (leAt m 0 4 % 2 ^ 22)).epoch 0 0 0) := by
      rw [handoverData_receives hr]
      unfold Dev.takeHandover
      extract_lets p
      rw [show s.here.plc.handovers.get? p = some h from hh]
      exact if_neg (by change ¬ (!s.dev.awake) = true; simp [aw])
    exact ⟨fun hs => completes_with rfl (run.trans (if_pos hs)), fun hs => completes_with rfl (run.trans (if_neg (Nat.not_lt.2 hs)))⟩
  case block =>
    intro s f m g hr hg hc hb hm
    refine completes_with rfl ((configurationBlock_receives hr).trans ?_)
    unfold Dev.fillBlock
    rw [show s.here.plc.stage = some g from hg]
    exact if_neg (by simp [hc, hb]; omega)
  case unstaged =>
    intro s hg
    have here : s.here.plc.stage = none := hg
    refine ⟨idle_of_same rfl ?_, idle_of_same rfl ?_, fun f m hr => idle_of_same rfl ((configurationBlock_receives hr).trans ?_)⟩
    · unfold activation
      rw [here]
    · unfold stagingComplete
      rw [here]
    · unfold Dev.fillBlock
      rw [here]
  case staged =>
    intro s g hg aw hc hf hj
    have alive : s.dev.alive = true := by
      have := aw
      simp only [Dev.awake, Bool.and_eq_true] at this
      exact this.1
    have none_ : (s.dev.nv.bulkQ.any fun j => decide (j.why = .config)) = false := by simpa using hj
    have run : stagingComplete s.here =
        if digestOf g.image ≠ g.digest then s.here.failStage g .badParam 0x2408 true
        else if !surfaceValid g.image then s.here.failStage g .badParam 0x2306 true
        else if !s.dev.bulkUp then s.here.failStage g .fault 0x3305 false
        else s.here.bulkWrite s.dev.stagedRid 11 g.image .config := by
      unfold stagingComplete
      rw [show s.here.plc.stage = some g from hg]
      refine if_neg ?_
      change ¬ (!s.dev.alive || g.complete || !g.full || (s.dev.nv.bulkQ.any fun j => decide (j.why = .config))) = true
      simp [alive, hc, hf, none_]
    refine ⟨fun h => completes_with rfl (run.trans (if_pos h)), fun h hv => completes_with rfl (run.trans ?_), fun h hv hu => completes_with rfl (run.trans ?_)⟩
    · exact (if_neg (Classical.not_not.2 h)).trans (if_pos (by simp [hv]))
    · exact (if_neg (Classical.not_not.2 h)).trans ((if_neg (by simp [hv])).trans (if_neg (by simp [hu])))
  case activation =>
    intro s g t hg ha hc aw
    refine completes_with rfl ?_
    unfold activation
    rw [show s.here.plc.stage = some g from hg]
    dsimp only
    rw [ha]
    refine if_pos ?_
    change (s.dev.awake && g.complete) = true
    simp [aw, hc]
  case exchange => exact fun s alive => completes_with rfl (if_neg (by change ¬ (!s.dev.alive) = true; simp [alive]))
  case census =>
    intro s c hc d
    refine completes_with rfl ?_
    unfold censusWait
    rw [show s.here.plc.census = some c from hc]
    rfl

end Sys2Proof.Machine

/-! ## Requests for another device -/

namespace Sys2Proof.Machine

/-- A byte of the parameters set to what it is. -/
theorem withByte_read (i : Nat) (r : Req) : withByte i (byteAt r.params i) r = r := by
  by_cases h : i < r.params.length
  · exact withByte_byteAt h
  · exact withByte_self (List.set_eq_of_length_le (Nat.not_lt.1 h))

/-- A row that passes a request for another device on, whatever it would do with one of its own. -/
def PassesOn (op : Nat) (r : Req) (s : State) (f : Dev → Dev) : Prop := f s.here = s.here.forward op r

/-- One row of a dispatch by a code. -/
theorem PassesOn.ite {op k n : Nat} {r : Req} {s : State} {f g : Dev → Dev} (hf : n = k → PassesOn op r s f) (hg : PassesOn op r s g) :
    PassesOn op r s (if n = k then f else g) := by
  split
  · exact hf ‹_›
  · exact hg

/-- A row named by its code. -/
theorem PassesOn.row {n k : Nat} {r : Req} {s : State} {f : Dev → Dev} (hf : PassesOn k r s f) (hn : n = k) : PassesOn n r s f := hn ▸ hf

section
variable {op : Op} {chk : Dev → Req → Option Answer} {act : Dev → Req → Dev × Option Answer} {r : Req} {s : State}
  (h : s.dev.arrives r = (true, true)) (hd : s.dev.destOf r = .away)
include h hd

theorem serve_passesOn : PassesOn op.code r s (serve op chk act r) := by
  have ha : s.here.arrives r = (true, true) := h
  have hd' : s.here.destOf r = .away := hd
  show s.here.serveArriving op chk act r = _
  unfold Dev.serveArriving
  rw [ha]
  dsimp only
  rw [hd']

theorem unallocatedOpcode_passesOn (n : Nat) : PassesOn n r s (unallocatedOpcode n r) := by
  have ha : s.here.arrives r = (true, true) := h
  have hd' : s.here.destOf r = .away := hd
  unfold PassesOn unallocatedOpcode
  rw [ha]
  dsimp only
  rw [hd']

/-- A row whose form fixes a byte of the parameters, on a request that carries the form. -/
theorem serve_form_passesOn {i v : Nat} (hv : byteAt r.params i = v) : PassesOn op.code r s (serve op chk act (withByte i v r)) := by
  subst hv
  rw [withByte_read]
  exact serve_passesOn h hd

theorem runCalibrate_passesOn : PassesOn 0x0802 r s (runCalibrate r) := by
  unfold runCalibrate
  iterate 4 refine .ite (fun hv => serve_form_passesOn h hd hv) ?_
  exact serve_passesOn h hd

theorem runShutterTest_passesOn : PassesOn 0x0901 r s (runShutterTest r) := by
  unfold runShutterTest
  iterate 5 refine .ite (fun hv => serve_form_passesOn h hd (by omega)) ?_
  exact serve_passesOn h hd

theorem runClaim_passesOn : PassesOn 0x4400 r s (runClaim r) := by
  unfold runClaim
  iterate 4 refine .ite (fun hv => serve_form_passesOn h hd hv) ?_
  exact serve_passesOn h hd

theorem runHandover_passesOn : PassesOn 0x4401 r s (runHandover r) := by
  unfold runHandover
  iterate 3 refine .ite (fun hv => serve_form_passesOn h hd hv) ?_
  exact serve_passesOn h hd

theorem runSeam_passesOn : PassesOn 0x4402 r s (runSeam r) := by
  unfold runSeam
  iterate 5 refine .ite (fun hv => serve_form_passesOn h hd hv) ?_
  exact serve_passesOn h hd

theorem runLow_passesOn (n : Nat) : PassesOn n r s (runLow n r) := by
  unfold runLow
  iterate 19 refine .ite (.row (serve_passesOn h hd)) ?_
  exact unallocatedOpcode_passesOn h hd n

theorem runMid_passesOn (n : Nat) : PassesOn n r s (runMid n r) := by
  unfold runMid
  iterate 13 refine .ite (.row (serve_passesOn h hd)) ?_
  refine .ite (.row (runCalibrate_passesOn h hd)) ?_
  refine .ite (.row (serve_passesOn h hd)) ?_
  refine .ite (.row (runShutterTest_passesOn h hd)) ?_
  iterate 9 refine .ite (.row (serve_passesOn h hd)) ?_
  exact unallocatedOpcode_passesOn h hd n

theorem runHigh_passesOn (n : Nat) : PassesOn n r s (runHigh n r) := by
  unfold runHigh
  iterate 11 refine .ite (.row (serve_passesOn h hd)) ?_
  refine .ite (.row (runClaim_passesOn h hd)) ?_
  refine .ite (.row (runHandover_passesOn h hd)) ?_
  refine .ite (.row (runSeam_passesOn h hd)) ?_
  iterate 10 refine .ite (.row (serve_passesOn h hd)) ?_
  exact unallocatedOpcode_passesOn h hd n

/-- Every opcode's row forwards a request for another device. -/
theorem runOpcode_passesOn (n : Nat) : PassesOn n r s (runOpcode n r) := by
  unfold runOpcode
  split
  · exact runLow_passesOn h hd n
  split
  · exact runMid_passesOn h hd n
  · exact runHigh_passesOn h hd n

end

end Sys2Proof.Machine

/-! ## Packets, forwarding and relays (O36) -/

namespace Sys2Proof.Machine

/-! ### Routes read the fields and the array alone -/

theorem nextTo_congr {a b : Dev} (hp : a.prm = b.prm) (hl : a.plc = b.plc) : a.nextTo = b.nextTo := by
  cases a
  cases b
  cases hp
  cases hl
  rfl

theorem spread_congr {a b : Dev} (hp : a.prm = b.prm) (hl : a.plc = b.plc) (k : Nat) (front : List Nat) (seen : List (Nat × Nat)) :
    a.spread k front seen = b.spread k front seen := by
  induction k generalizing front seen with
  | zero => rfl
  | succ k ih =>
    unfold Dev.spread
    rw [nextTo_congr hp hl]
    simp only [ih]

theorem route_congr {a b : Dev} (hp : a.prm = b.prm) (hl : a.plc = b.plc) (dest : Nat) : a.route dest = b.route dest := by
  have hh : a.hopsFrom dest = b.hopsFrom dest := spread_congr hp hl 1024 _ _
  unfold Dev.route
  rw [hh]
  generalize b.hopsFrom dest = l
  cases a
  cases b
  cases hp
  cases hl
  rfl

theorem route_here (s : State) (dest : Nat) : s.here.route dest = s.dev.route dest := route_congr (a := s.here) (b := s.dev) rfl rfl dest

/-! ### Frames on their way -/

section
variable {s : State} {h : SeamHdr} {kind : Nat} {b : List Byte} {alarm : Bool} (alive : s.dev.alive = true)
  (up : s.dev.is P.SL_LINK_UP [h.link] = true)
include alive up

section
variable (away : h.dest ≠ s.dev.addr ∨ s.dev.addressed = false)
include away

theorem arriving_lastHop (hh : h.hops ≤ 1) : s.here.arriving kind h b alarm = (s.here.bump P.SL_CRC [h.link], false) := by
  have live : ¬ (!s.here.alive || !s.here.is P.SL_LINK_UP [h.link]) = true := by
    change ¬ (!s.dev.alive || !s.dev.is P.SL_LINK_UP [h.link]) = true
    simp [alive, up]
  have other : ¬ (decide (h.dest = s.here.addr) && s.here.addressed) = true := by
    change ¬ (decide (h.dest = s.dev.addr) && s.dev.addressed) = true
    rcases away with h | h <;> simp [h]
  exact (if_neg live).trans ((if_neg other).trans (if_pos hh))

theorem arriving_onward (hh : 1 < h.hops) {e : Dev} (hr : (s.dev.route h.dest = none ∧ e = s.here.countBad h) ∨
    ∃ n, s.dev.route h.dest = some n ∧ e = (s.here.countBad h).passFrame n kind h b alarm) :
    s.here.arriving kind h b alarm = (e, false) := by
  have live : ¬ (!s.here.alive || !s.here.is P.SL_LINK_UP [h.link]) = true := by
    change ¬ (!s.dev.alive || !s.dev.is P.SL_LINK_UP [h.link]) = true
    simp [alive, up]
  have other : ¬ (decide (h.dest = s.here.addr) && s.here.addressed) = true := by
    change ¬ (decide (h.dest = s.dev.addr) && s.dev.addressed) = true
    rcases away with h | h <;> simp [h]
  unfold Dev.arriving
  rw [if_neg live, if_neg other, if_neg (Nat.not_le.2 hh)]
  rcases hr with ⟨hr, rfl⟩ | ⟨n, hr, rfl⟩
  · rw [(route_here s h.dest).trans hr]
  · rw [(route_here s h.dest).trans hr]

end

theorem arriving_damaged (dest : h.dest = s.dev.addr) (adr : s.dev.addressed = true) (ok : h.ok = false) :
    s.here.arriving kind h b alarm = (s.here.bump P.SL_CRC [h.link], false) := by
  have live : ¬ (!s.here.alive || !s.here.is P.SL_LINK_UP [h.link]) = true := by
    change ¬ (!s.dev.alive || !s.dev.is P.SL_LINK_UP [h.link]) = true
    simp [alive, up]
  have mine : (decide (h.dest = s.here.addr) && s.here.addressed) = true := by
    change (decide (h.dest = s.dev.addr) && s.dev.addressed) = true
    simp [dest, adr]
  refine (if_neg live).trans ((if_pos mine).trans ?_)
  rw [ok]
  exact congrArg (·, false) (if_neg (by simp [ok]))

end

/-- A frame that does not reach the device has no effect beyond what its arrival leaves. -/
theorem brings_exec {h : SeamHdr} {c : Instr} {kind : Nat} {alarm : Bool} {b : List Byte} (hb : Brings h c kind alarm b) (s : State) :
    ∃ f, exec c s = .next (s.run f) ∧ ∀ e, s.here.arriving kind h b alarm = (e, false) → f s.here = e := by
  rcases hb with ⟨e, m, rfl, rfl, rfl, rfl⟩ | ⟨rfl, rfl, rfl⟩ | ⟨rfl, rfl, rfl⟩ | ⟨rfl, rfl, rfl⟩ | ⟨rfl, rfl, rfl⟩
  · refine ⟨_, rfl, fun x hx => ?_⟩
    unfold relay
    rw [hx]
  · refine ⟨_, rfl, fun x hx => ?_⟩
    unfold contributionMsg
    rw [hx]
  · refine ⟨_, rfl, fun x hx => ?_⟩
    unfold tileRecordCarriage
    rw [hx]
  · refine ⟨_, rfl, fun x hx => ?_⟩
    unfold handoverData
    rw [hx]
  · refine ⟨_, rfl, fun x hx => ?_⟩
    unfold configurationBlock
    rw [hx]

/-- The least of numbers that are all at least the first. -/
theorem foldl_min_eq {l : List Nat} {n : Nat} (h : ∀ x ∈ l, n ≤ x) : l.foldl min n = n := by
  induction l with
  | nil => rfl
  | cons a t ih =>
    rw [List.foldl_cons, Nat.min_eq_left (h a (List.mem_cons_self ..))]
    exact ih fun x hx => h x (List.mem_cons_of_mem _ hx)

/-! ### Requests on their way -/

section
variable {op : Nat} {r : Req} {s : State}

theorem forward_chain (hv : r.host.via ∈ [.chain, .passed]) : s.here.forward op r =
    if s.dev.is P.DOWN_SIG then s.here.chainSend 53 1 (reqPacket op r)
    else s.here.answerOnly op r (refuse .fault 0x0005) (s.here.backOf r) := by
  simp only [List.mem_cons, List.not_mem_nil, or_false] at hv
  unfold Dev.forward
  rcases hv with hv | hv <;> rw [hv] <;> rfl

theorem forward_routed (hv : r.host.via ∈ [.uplink, .service]) : s.here.forward op r =
    if (s.dev.route r.dest).isNone then s.here.answerOnly op r (refuse .fault 0x0005) (s.here.backOf r)
    else
      let x := s.here.hidOf r.host
      let k := 1024 * x.1 + r.dest
      let n := x.2.kcp.rseqTx.get k 0
      ({ x.2 with kcp := { x.2.kcp with
        rseqTx := x.2.kcp.rseqTx.put k ((n + 1) % 65536), relays := x.2.kcp.relays ++ [⟨op, r, x.1, n, x.2.clk, x.2.ownAddr r.host⟩] } } : Dev).sendTo 3
          r.dest (envelope x.2.addr x.1 n false ++ reqPacket op r) := by
  simp only [List.mem_cons, List.not_mem_nil, or_false] at hv
  unfold Dev.forward
  rw [← route_here]
  rcases hv with hv | hv <;> rw [hv] <;> rfl

/-- A host identity noted leaves everything but the list of them. -/
theorem hidOf_eq (d : Dev) (h : HostId) : ∃ l, (d.hidOf h).2 = { d with kcp := { d.kcp with hids := l } } := by
  unfold Dev.hidOf
  split
  · exact ⟨_, rfl⟩
  · exact ⟨_, rfl⟩

end

/-- Settles O36: requests on their way by their transport, Seamlink frames by what arrives, relays by their RSEQ and their replies. -/
theorem packetsAndRelays : Obligations.PacketsAndRelays := by
  refine ⟨?bad, ?dead, ?empty, ?expiry, ?forward, ?frames, ?relayed, ?replies, ?own, ?timeout, ?gap, ?noGap, ?broadcast⟩
  case bad => exact fun s alive => ⟨completes_with rfl (if_pos alive), completes_with rfl (if_pos alive)⟩
  case dead =>
    intro s dead
    have : ¬ s.here.alive = true := by change ¬ s.dev.alive = true; simp [dead]
    exact ⟨idle_of_same rfl (if_neg this), idle_of_same rfl (if_neg this)⟩
  case empty =>
    intro s h
    refine idle_of_same rfl ?_
    unfold duplicateCacheExpiry
    rw [show s.here.kcp.dup = [] from h]
  case expiry =>
    intro s e l h first d
    have hmin : (l.map (·.sent)).foldl min e.sent = e.sent := foldl_min_eq fun x hx => by
      obtain ⟨y, hy, rfl⟩ := List.mem_map.1 hx
      exact first y hy
    refine completes_with rfl ?_
    unfold duplicateCacheExpiry
    rw [show s.here.kcp.dup = e :: l from h]
    dsimp only
    rw [hmin]
  case forward =>
    intro s op r h hd d x k n lost
    have run : kcpForward op r s.here = s.here.forward op r := runOpcode_passesOn h hd op
    have turned : ∀ t, Follows (s.here.answerOnly op r (refuse .fault 0x0005) (s.here.backOf r)) t → Turned op r lost d t :=
      fun t ht => turned_of_follows ht
    refine ⟨fun hv hs => ?_, fun hv hs => ?_, fun hv hn => ?_, fun hv hn => ?_⟩
    · exact completes_with rfl (run.trans ((forward_chain hv).trans (if_pos hs)))
    · refine completes_of_run rfl fun t ht => turned t ?_
      rwa [run, forward_chain hv, if_neg (by simp [hs])] at ht
    · refine completes_of_run rfl fun t ht => turned t ?_
      rwa [run, forward_routed hv, if_pos (by simp [hn])] at ht
    · refine completes_with rfl (run.trans ((forward_routed hv).trans ((if_neg ?_).trans ?_)))
      · rw [Option.isNone_iff_eq_none]
        exact Option.isSome_iff_ne_none.1 hn
      · obtain ⟨l, hl⟩ := hidOf_eq s.here r.host
        have hclk : (s.here.hidOf r.host).2.clk = s.dev.clk := by rw [hl]; rfl
        have haddr : (s.here.hidOf r.host).2.addr = s.dev.addr := by rw [hl]; rfl
        extract_lets x' k' n'
        rw [hclk, haddr]
        rfl
  case frames =>
    intro s h c kind alarm b alive up hb counted onward
    obtain ⟨f, hx, hf⟩ := brings_exec hb s
    refine ⟨fun away => ⟨fun hh => ?_, fun n hh hr ok => ?_, fun n hh hr ok => ?_, fun hh hr ok => ?_⟩, fun hd ha ok => ?_⟩
    · exact completes_with hx (hf _ (arriving_lastHop alive up away hh))
    · have hc : s.here.countBad h = s.here := if_pos ok
      refine completes_with hx ((hf _ (arriving_onward alive up away hh (.inr ⟨n, hr, rfl⟩))).trans ?_)
      rw [hc]
      exact congrArg s.here.emit (if_pos ok)
    · have hc : s.here.countBad h = counted := if_neg (by simp [ok])
      refine completes_with hx ((hf _ (arriving_onward alive up away hh (.inr ⟨n, hr, rfl⟩))).trans ?_)
      rw [hc]
      exact congrArg counted.emit (if_neg (by simp [ok]))
    · have hc : s.here.countBad h = s.here := if_pos ok
      exact idle_of_same hx ((hf _ (arriving_onward alive up away hh (.inl ⟨hr, rfl⟩))).trans hc)
    · exact completes_with hx (hf _ (arriving_damaged alive up hd ha ok))
  case relayed =>
    intro s h e op r hr d q k want
    have run : relay h e (.request op r) s.here = s.here.relayed e op r := by
      unfold relay
      rw [arriving_receives hr]
    refine ⟨fun hw hlt hq => completes_with rfl (run.trans ?_), fun h1 h2 h3 => completes_with rfl (run.trans ?_)⟩
    · have h0 : (e.rseq + 65536 - want) % 65536 = 0 := by rw [hw]; omega
      refine (if_pos h0).trans ?_
      rw [show s.here.kcp.rseqWait = [] from hq]
      rfl
    · have ha : (e.rseq + 65536 - want) % 65536 = e.rseq - want := by omega
      exact (if_neg (by rw [ha]; omega)).trans (if_pos (by rw [ha]; omega))
  case replies =>
    intro s hid x alive hne found
    have run : relayReply hid x s.here = found.elim (s.here.set (.kcp 2)) fun q =>
        ({ s.here with kcp := { s.dev.kcp with relays := s.dev.kcp.relays.filter (· ≠ q) } } : Dev).send
          { host := q.req.host, opcode := x.opcode, seq := x.seq, rseq := 0, dest := q.req.source, source := x.source, gen := x.gen,
            rtx := x.rtx, auth := x.auth, answer := ⟨statusOf x.status, x.detail, x.data⟩, ip := q.own, port := replyPort q.req.host } := by
      unfold relayReply
      rw [if_neg (by change ¬ (!s.dev.alive) = true; simp [alive]), if_neg hne]
      change (match found with
        | some _ => _
        | none => _) = _
      cases found <;> rfl
    refine ⟨fun hn => completes_with rfl (run.trans ?_), fun q hq => completes_of_run rfl fun t ht => ?_⟩
    · rw [hn]
      rfl
    · rw [run, hq] at ht
      exact carried_of_trails ht.toTrails ht.pins
  case own =>
    intro s x a alive ha
    refine completes_with rfl ((if_neg (by change ¬ (!s.dev.alive) = true; simp [alive])).trans ((if_pos rfl).trans ?_))
    rw [show (s.here.awaited.find? fun a => decide (a.dest = x.source ∧ a.rseq = x.seq ∧ a.opcode = x.opcode)) = some a from ha]
    rfl
  case timeout =>
    intro s q l alive hq d
    refine completes_of_run (f := relayTimeout) rfl fun t ht => ?_
    have run : relayTimeout s.here = ({ d with kcp := { d.kcp with relays := l } } : Dev).answerOnly q.opcode q.req (refuse .fault 0x0006) ⟨none, q.own⟩ := by
      unfold relayTimeout
      refine (if_neg (by change ¬ (!s.dev.alive) = true; simp [alive])).trans ?_
      rw [show s.here.kcp.relays = q :: l from hq]
      rfl
    rw [run] at ht
    exact turned_of_follows ht
  case gap =>
    intro s i hid w hw h1 h2 d
    refine completes_with rfl ?_
    unfold relayGapTimeout
    extract_lets k want mine
    have hn : (want + (w.rseq + 65536 - want) % 65536) % 65536 = w.rseq := by
      have : want ≤ w.rseq := h1
      omega
    have hm : mine = [w] := hw
    clear_value mine
    subst hm
    refine Eq.trans ?_ (congrArg (fun n => drainRelay i hid 1 { d with kcp := { d.kcp with rseqRx := d.kcp.rseqRx.put k n } }) hn)
    rfl
  case noGap =>
    intro s i hid h
    refine idle_of_same rfl ?_
    unfold relayGapTimeout
    extract_lets k want mine
    have hm : mine = [] := List.filter_eq_nil_iff.2 fun x hx => by
      have := h x hx
      grind
    rw [hm]
  case broadcast =>
    intro s h op r e alive up
    have live : ¬ (!s.here.alive || !s.here.is P.SL_LINK_UP [h.link]) = true := by
      change ¬ (!s.dev.alive || !s.dev.is P.SL_LINK_UP [h.link]) = true
      simp [alive, up]
    refine ⟨fun hf => completes_with rfl ((if_neg live).trans ?_), fun hf => completes_with rfl ((if_neg live).trans ?_)⟩ <;> rw [hf]

end Sys2Proof.Machine

/-! ## Sensor packets on a link beyond the table (O42, O43) -/

namespace Sys2Proof.Machine

/-- Two accounts of one command agree on every field but those that follow commands. -/
theorem completes_agree {c : Instr} {s : State} {f : Dev → Dev} {e : Dev} (hx : exec c s = .next (s.run f)) (h : Completes c s (Follows e))
    {k : Nat} (hk : k ∉ [P.SCORE.key [], P.H_PEN.key [], P.ALARM_PIN.key []]) : (f s.here).prm.get? k = e.prm.get? k := by
  obtain ⟨t, ht, -, hf⟩ := h
  obtain rfl : s.run f = t := Host.Outcome.next.inj (hx.symm.trans ht)
  have out : ∀ q ∈ [(P.SCORE, ([] : List Nat)), (P.H_PEN, []), (P.ALARM_PIN, [])], k ≠ q.1.key q.2 := by
    intro q hq e
    exact hk (e ▸ List.mem_map_of_mem (f := fun q : Row × List Nat => q.1.key q.2) hq)
  exact ((run_follows s.dev f).fields k out).symm.trans (hf.fields k out)

/-! ### A link whose enable is the head of the event ring -/

/-- A link number whose LINK_EN names the cell of RING_HEAD: the statement bounds no link. -/
def ringLink : Nat := 0x210000

/-- A running device whose event ring stands at its last index before it wraps. -/
def ringAtWrap : State := ⟨State.reset.dev.wr P.RING_HEAD [] 0xFFFFFFFF, []⟩

/-- The event of the payload error wraps RING_HEAD to 0, and the packet then finds its link off: nothing is discarded. -/
theorem ringAtWrap_keeps :
    (imageLine ringLink 0 0 [] false .good ringAtWrap.here).prm.get? (P.DISCARD.key [ringLink]) = none := by decide +kernel

/-- The statement has the same packet discarded and counted. -/
theorem ringAtWrap_counted :
    (((ringAtWrap.here.bump P.CRC_ERR [ringLink]).set (.ing 2) (1, ringLink) (leBytes 1 ringLink)).discard ringLink).prm.get?
      (P.DISCARD.key [ringLink]) = some 1 := by decide +kernel

/-- Refutes O42: a damaged packet of no enabled stream on link 0x210000, whose LINK_EN and RING_HEAD are one cell. The event of its
CRC error wraps RING_HEAD to 0, which turns the link off before the packet is counted in DISCARD. -/
theorem not_sensorPackets : ¬ Obligations.SensorPackets := by
  intro h
  obtain ⟨-, on⟩ := h ringAtWrap ringLink 0
  obtain ⟨-, stray, -⟩ := on (by decide +kernel)
  obtain ⟨-, damaged⟩ := stray (by decide +kernel) 0 0 []
  have counted := completes_agree rfl (damaged (.imageLine ringLink 0 0 [] false .good) (by simp)) (k := P.DISCARD.key [ringLink]) (by decide)
  rw [ringAtWrap_keeps, ringAtWrap_counted] at counted
  exact absurd counted nofun

/-! ### A link whose count of corrected headers is a core's enable -/

/-- A link number whose ECC_CORR names the cell of CORE_EN of core 0, and whose third stream is that core's companion. -/
def coreLink : Nat := 0xC0

/-- A running device on which that link is on and the companion is enabled, but not its core. -/
def coreOff : State := ⟨State.reset.dev.wrs [(P.CSI_LINK_EN, [coreLink], 1), (P.COMP_EN, [0], 1)], []⟩

/-- The header found on it: the correction counted turns core 0 on, and the packet is its companion's. -/
def coreOnHeader : Dev := (coreOff.here.header coreLink 2 .fixed).2

theorem coreOnHeader_eq : coreOff.here.header coreLink 2 .fixed = (some 384, coreOnHeader) := by
  have first : (coreOff.here.header coreLink 2 .fixed).1 = some 384 := by decide +kernel
  unfold coreOnHeader
  generalize coreOff.here.header coreLink 2 .fixed = p at first
  rw [← first]

/-- The packet's CRC error is counted for a stray packet before its header is corrected, and again for the stream. -/
theorem coreOff_counts_twice : (imageLine coreLink 2 0 [] false .fixed coreOff.here).prm.get? (P.CRC_ERR.key [coreLink]) = some 2 := by
  decide +kernel

/-- The statement has it counted once. -/
theorem coreOff_counted_once :
    (((coreOnHeader.fixFrame 384 .fixed).payloadError coreLink 384).discard coreLink).prm.get? (P.CRC_ERR.key [coreLink]) = some 1 := by
  decide +kernel

/-- Refutes O43: a damaged line behind a corrected header on link 0xC0, whose ECC_CORR and CORE_EN of core 0 are one cell. The packet
is no stream's until its header has been counted, so that CRC_ERR counts it twice. -/
theorem not_linesAndTelemetry : ¬ Obligations.LinesAndTelemetry := by
  rintro ⟨lines, -⟩
  obtain ⟨other, -⟩ := lines coreOff coreLink 2 384 .fixed coreOnHeader [] false (by decide +kernel) coreOnHeader_eq
  rw [if_neg Bool.false_ne_true] at other
  have once := completes_agree (c := .imageLine coreLink 2 0 [] false .fixed) (f := imageLine coreLink 2 0 [] false .fixed) rfl (other 0 (by omega))
    (k := P.CRC_ERR.key [coreLink]) (by decide)
  rw [coreOff_counts_twice] at once
  exact absurd (once.trans coreOff_counted_once) (by decide)

end Sys2Proof.Machine

/-! ## The write in hand on a sensor control bus (O44) -/

namespace Sys2Proof.Machine

/-- A write driven adds outputs alone. -/
theorem drive_eq (d : Dev) (b k : Nat) (op : BusOp) : ∃ o, d.drive b k op = { d with out := o } := by
  cases op with
  | setdasa c => exact ⟨_, rfl⟩
  | disec c => exact ⟨_, rfl⟩
  | write c verify wide reg data =>
    have read : ∀ (x : Dev) (p : Prop) [Decidable p] (o : Out), ∃ l, (if p then x.emit o else x) = { x with out := l } := fun x p _ o => by
      split
      · exact ⟨_, rfl⟩
      · exact ⟨_, rfl⟩
    exact (read (d.emit _) _ _).imp fun l h => h

/-- The three ways in which a write ends that fail it (R96). -/
def WriteFailure (e : WriteEnd) (mode : Bool) (op : BusOp) : Prop :=
  e = .nack ∨ e = .busError ∨ ∃ got comp wide reg data, e = .readBack got ∧ op = .write comp true wide reg data ∧ mode = true ∧ got ≠ data

theorem readBackFails_iff {d : Dev} {b : Nat} {op : BusOp} {e : WriteEnd} : d.readBackFails b op e = true ↔
    ∃ got comp wide reg data, e = .readBack got ∧ op = .write comp true wide reg data ∧ d.is P.BUS_MODE [b] = true ∧ got ≠ data := by
  unfold Dev.readBackFails
  split
  · rename_i comp wide reg data got
    rw [Bool.and_eq_true, decide_eq_true_eq]
    refine ⟨fun ⟨mode, differs⟩ => ⟨got, comp, wide, reg, data, rfl, rfl, mode, differs⟩, ?_⟩
    rintro ⟨got', comp', wide', reg', data', he, hop, mode, differs⟩
    cases he
    cases hop
    exact ⟨mode, differs⟩
  · rename_i hne
    simp only [Bool.false_eq_true, false_iff]
    rintro ⟨got, comp, wide, reg, data, rfl, rfl, -⟩
    exact hne comp wide reg data got rfl rfl

theorem writeFails_iff {d : Dev} {b : Nat} {op : BusOp} {e : WriteEnd} : d.writeFails b op e = true ↔ WriteFailure e (d.is P.BUS_MODE [b]) op := by
  unfold Dev.writeFails WriteFailure
  rw [Bool.or_eq_true, decide_eq_true_eq, readBackFails_iff, or_assoc]

section
variable {s : State} {b k : Nat} {c : Change} {rest : List Change} {op : BusOp} {ops : List BusOp} {e : WriteEnd}
  (aw : s.dev.awake = true) (hk : (s.dev.busCores b).head? = some k) (hq : (s.dev.setting k).queue = c :: rest) (ho : c.ops = op :: ops)
include aw hk hq ho

theorem coreWrite_driven : coreWrite b e s.here =
    let d := s.here.drive b k op
    let n := d.bump P.NACK_CNT [b]
    let a := if e = .busError then
        ((n.emit (.busReset b)).bump P.BUS_RESET_CNT [b]).set (.ing 9) (1, 32 + b) (n.ingData k c.gen)
      else n
    if !d.writeFails b op e then
      if ops.isEmpty then completeEmpty 8 k (d.completeChange k c)
      else d.setSetting k { s.dev.setting k with queue := { c with ops := ops } :: rest, tries := 0 }
    else if (s.dev.setting k).tries < a.rd P.RETRIES [b] then a.setSetting k { s.dev.setting k with tries := (s.dev.setting k).tries + 1 }
    else completeEmpty 8 k (a.failChange k c) := by
  unfold coreWrite
  rw [if_neg (by change ¬ (!s.dev.awake) = true; simp [aw]), show (s.here.busCores b).head? = some k from hk]
  dsimp only
  rw [show (s.here.setting k).queue = c :: rest from hq]
  dsimp only
  rw [ho, hq]
  rfl

end

/-- Settles O44: the write in hand is driven, and its end is a success, a try to come or a failed change. -/
theorem sensorWrites : Obligations.SensorWrites := by
  refine ⟨fun s b e h => ?_, ?_⟩
  · refine idle_of_same rfl ?_
    unfold coreWrite
    rw [show s.here.busCores b = [] from h]
    exact ite_self _
  · intro s b k c rest op ops aw hk hq ho x d back fails n after
    have mode : d.is P.BUS_MODE [b] = s.dev.is P.BUS_MODE [b] := by
      obtain ⟨o, hd⟩ := drive_eq s.here b k op
      rw [show d = _ from hd]
      rfl
    have hf : ∀ e, d.writeFails b op e = true ↔ fails e := fun e => by rw [writeFails_iff, mode]; rfl
    have ok : ∀ e, ¬ fails e → (!d.writeFails b op e) = true := fun e h => by
      rw [Bool.eq_false_iff.2 (mt (hf e).1 h)]
      rfl
    have no : ∀ e, fails e → ¬ (!d.writeFails b op e) = true := fun e h => by
      rw [(hf e).2 h]
      exact Bool.false_ne_true
    have run := fun e => coreWrite_driven (e := e) aw hk hq ho
    refine ⟨fun e hn hops => ?_, fun e hn hops => ?_, fun e he ht => ?_, fun e he ht => ?_⟩
    · exact completes_with rfl ((run e).trans ((if_pos (ok e hn)).trans (if_neg (by simp [hops]))))
    · exact completes_with rfl ((run e).trans ((if_pos (ok e hn)).trans (if_pos (by simp [hops]))))
    · exact completes_with rfl ((run e).trans ((if_neg (no e he)).trans (if_pos ht)))
    · exact completes_with rfl ((run e).trans ((if_neg (no e he)).trans (if_neg (Nat.not_lt.2 ht))))

end Sys2Proof.Machine

/-! ## Lanes and record blocks (O45) -/

namespace Sys2Proof.Machine

section
variable {s : State} {lane x cnt y : Nat} {line : Line} {errs : List BlockErr} (aw : s.dev.awake = true)
include aw

/-- A lane that is free looks for a line. -/
theorem laneGrant_free (hl : lane < 128) (hn : s.dev.pipe.lanes.get? lane = none) :
    ¬ (!s.here.awake || decide (128 ≤ lane) || (s.here.pipe.lanes.get? lane).isSome) = true := by
  change ¬ (!s.dev.awake || decide (128 ≤ lane) || (s.dev.pipe.lanes.get? lane).isSome) = true
  simp [aw, hn]
  omega

theorem passA_runs (h : s.dev.pipe.lanes.get? lane = some (.passA x cnt y line)) :
    passA lane errs s.here = (s.here.freeLane lane).finishA x cnt y line errs := by
  unfold passA
  rw [show s.here.pipe.lanes.get? lane = _ from h]
  exact if_pos aw

theorem passB_runs (h : s.dev.pipe.lanes.get? lane = some (.passB x cnt y)) : passB lane s.here = (s.here.freeLane lane).finishB x cnt y := by
  unfold passB
  rw [show s.here.pipe.lanes.get? lane = _ from h]
  exact if_pos aw

end

/-- Settles O45: what a lane takes, what each pass leaves of its line, and how a reported record block is written again. -/
theorem laneWork : Obligations.LaneWork := by
  refine ⟨?grant, ?raw, ?pixels, ?gone, ?second, ?idle, ?repair⟩
  case grant =>
    intro s lane aw hl hn
    have free := laneGrant_free aw hl hn
    refine ⟨fun k l hb => completes_with rfl ((if_neg free).trans ?_), fun x cnt y line hb ha => completes_with rfl ((if_neg free).trans ?_),
      fun hb ha => idle_of_same rfl ((if_neg free).trans ?_)⟩
    · rw [show s.here.pickB (lane / 8) = some (k, l) from hb]
      rfl
    · rw [show s.here.pickB (lane / 8) = none from hb]
      dsimp only
      rw [show s.here.pickA (lane / 8) = some (x, cnt, y, line) from ha]
      rfl
    · rw [show s.here.pickB (lane / 8) = none from hb]
      dsimp only
      rw [show s.here.pickA (lane / 8) = none from ha]
  case raw =>
    intro s lane x cnt y line errs f aw hj hf d k dt px rows h
    refine completes_with rfl ((passA_runs aw hj).trans ?_)
    unfold Dev.finishA
    rw [show ((s.here.freeLane lane).strm x).frame? cnt = some f from hf]
    exact if_pos (by rcases h with h | h <;> simp [h])
  case pixels =>
    intro s lane k cnt y line errs f aw hj hf hk ht w bs d
    refine completes_with rfl ((passA_runs aw hj).trans ?_)
    unfold Dev.finishA
    rw [show ((s.here.freeLane lane).strm k).frame? cnt = some f from hf, show coreOf k = k from Nat.mod_eq_of_lt hk]
    exact if_neg (by simp [isComp, ht, Nat.not_le.2 hk])
  case gone =>
    intro s lane x cnt y line errs aw hj hf
    refine completes_with rfl ((passA_runs aw hj).trans ?_)
    unfold Dev.finishA
    rw [show ((s.here.freeLane lane).strm x).frame? cnt = none from hf]
  case second =>
    intro s lane k cnt y f l aw hj hf hl
    refine completes_with rfl ((passB_runs aw hj).trans ?_)
    unfold Dev.finishB
    rw [show ((s.here.freeLane lane).strm k).frame? cnt = some f from hf, show lineIn ((s.here.freeLane lane).window k) cnt y = some l from hl]
  case idle =>
    intro s lane errs h
    refine ⟨idle_of_same rfl ?_, idle_of_same rfl ?_⟩
    · unfold passA
      rw [show s.here.pipe.lanes.get? lane = none from h]
    · unfold passB
      rw [show s.here.pipe.lanes.get? lane = none from h]
  case repair =>
    intro s q rest hb aw b w
    have run : ∀ ok, recordRepair ok s.here =
        if !s.dev.is P.CORE_EN [b.core] then { s.here with pipe := { s.dev.pipe with bad := rest } }
        else if s.dev.storing b.core then s.here
        else if ok then
          let d := s.here.each (blockCols b.state b.block w) fun x d =>
            d.repairPixel b x (overlay (s.dev.factory b.core) (s.dev.learned b.core) (b.row * w + x))
          { d with pipe := { d.pipe with bad := rest } }
        else if q.tries = 0 then { s.here with pipe := { s.dev.pipe with bad := ⟨b, 1⟩ :: rest } }
        else
          let data := leBytes 1 b.core ++ leBytes 1 b.bank ++ leBytes 1 (if b.state then 1 else 0) ++ [0] ++ leBytes 4 b.row ++
            leBytes 4 b.block
          let d : Dev := { s.here with pipe := { s.dev.pipe with bad := rest, dead := s.dev.pipe.dead ++ [b] } }
          (d.queueLog (d.record 101 2 (2, b.core) 0 data)).1 := by
      intro ok
      unfold recordRepair
      rw [show s.here.pipe.bad = q :: rest from hb]
      refine (if_neg (by change ¬ (!s.dev.awake) = true; simp [aw])).trans ?_
      rfl
    refine ⟨fun he ok => completes_with rfl ((run ok).trans (if_pos (by simp [he]))),
      fun he hs ok => idle_of_same rfl ((run ok).trans ((if_neg (by simp [he])).trans (if_pos hs))), fun he hs => ?_⟩
    have on : ¬ (!s.dev.is P.CORE_EN [b.core]) = true := by simp [he]
    have idle : ¬ s.dev.storing b.core = true := by simp [hs]
    refine ⟨completes_with rfl ((run true).trans ?_), fun h => completes_with rfl ((run false).trans ?_), fun h => completes_with rfl ((run false).trans ?_)⟩
    · exact (if_neg on).trans ((if_neg idle).trans (if_pos rfl))
    · exact (if_neg on).trans ((if_neg idle).trans ((if_neg Bool.false_ne_true).trans (if_pos h)))
    · exact (if_neg on).trans ((if_neg idle).trans ((if_neg Bool.false_ne_true).trans (if_neg h)))

end Sys2Proof.Machine

/-! ## Alarm lines, bridges, rate windows and taps (O46) -/

namespace Sys2Proof.Machine

/-- A region's clusters, lowest first. -/
theorem clustersOf_eq (r : Nat) : clustersOf r = [4 * r, 4 * r + 1, 4 * r + 2, 4 * r + 3] := by
  simp [clustersOf, List.range_succ, Nat.add_comm]

/-- The device at a rate window's end, its rate recorded and its next window begun. -/
def rateRecorded (r rate : Nat) (d : Dev) : Dev :=
  let d := d.reach (d.windowEnd r)
  let d : Dev := { d with pipe := { d.pipe with winEnd := d.pipe.winEnd.put r (d.clk + 1000 * d.rd P.RATE_WINDOW) } }
  (d.wr P.LANE_RATE [r] rate).lowerTo P.LANE_RATE_MIN [r] (rate % 65536)

/-- The record of a rate leaves the margin and the lists of regions. -/
theorem rateRecorded_keeps {r rate : Nat} (hr : r < 4) (d : Dev) :
    (rateRecorded r rate d).rd P.RATE_MARGIN = d.rd P.RATE_MARGIN ∧ (rateRecorded r rate d).pipe.easing = d.pipe.easing ∧
      (rateRecorded r rate d).pipe.raised = d.pipe.raised := by
  have lower : ∀ (x : Dev) v, (x.lowerTo P.LANE_RATE_MIN [r] v).rd P.RATE_MARGIN = x.rd P.RATE_MARGIN := fun x v => by
    unfold Dev.lowerTo
    split
    · exact Dev.rd_wr_other _ _ _ _ _ _ (by simp [Row.key, Row.addr, P.RATE_MARGIN, P.LANE_RATE_MIN]; omega)
    · rfl
  unfold rateRecorded
  dsimp only
  refine ⟨(lower _ _).trans (Dev.rd_wr_other _ _ _ _ _ _ (by simp [Row.key, Row.addr, P.RATE_MARGIN, P.LANE_RATE]; omega)), ?_, ?_⟩
  all_goals rw [Dev.pipe_lowerTo]; rfl

/-- The regions whose window found no cluster short by twice the margin, with this window's finding. -/
def Dev.easeRegion (d : Dev) (r : Nat) (low : Bool) : Dev :=
  { d with pipe := { d.pipe with easing := if !low then r :: d.pipe.easing.filter (· ≠ r) else d.pipe.easing.filter (· ≠ r) } }

theorem rateWindow_awake {r rate m : Nat} {s : State} {d : Dev} {low : Nat → Bool} (aw : s.dev.awake = true) (hr : r < 4)
    (hd : rateRecorded r rate s.here = d) (hm : d.rd P.RATE_MARGIN = m)
    (hlow : ∀ k, ((clustersOf r).any fun c => d.short c rate k) = low k) : rateWindow r rate s.here =
    let e := d.easeRegion r (low (2 * m))
    if d.pipe.raised.contains r then
      if d.pipe.easing.contains r && !low (2 * m) then { e with pipe := { e.pipe with raised := e.pipe.raised.filter (· ≠ r) } } else e
    else if low m then ({ e with pipe := { e.pipe with raised := r :: e.pipe.raised } } : Dev).set (.rateLow r) (5, r)
    else e := by
  subst hd hm
  obtain rfl := funext hlow
  exact if_neg (by change ¬ (!s.dev.awake || decide (4 ≤ r)) = true; simp [aw, hr])

/-- Settles O46: each signal of the lanes, bridges and taps by its own guard. -/
theorem laneSignals : Obligations.LaneSignals := by
  refine ⟨?hold, ?test, ?lines, ?window, ?move, ?calm, ?tap⟩
  case hold =>
    intro s t ht
    refine ⟨fun h => idle_of_same rfl ?_, fun h => completes_with rfl ?_⟩
    all_goals
      unfold alarmHold
      rw [show s.here.pipe.alarmAt = some t from ht]
    · exact if_pos h
    · exact if_neg (by change ¬ s.dev.alarmStands = true; simp [h])
  case test =>
    intro s seen
    refine ⟨fun h => idle_of_same rfl (if_neg (by change ¬ s.dev.is P.TEST_GO = true; simp [h])), fun h => ?_⟩
    have lane : ((s.here.put P.TEST_GO [] false).put P.TEST_OK [] seen).rd P.TEST_LANE = s.dev.rd P.TEST_LANE :=
      (Dev.rd_wr_other _ _ _ _ _ _ (by decide)).trans (Dev.rd_wr_other _ _ _ _ _ _ (by decide))
    refine completes_with rfl ((if_pos h).trans ?_)
    dsimp only
    rw [lane]
    rfl
  case lines =>
    intro s b alive hb
    have on : (s.here.alive && decide (b < 2)) = true := by
      change (s.dev.alive && decide (b < 2)) = true
      simp [alive, hb]
    have live : ¬ (!s.here.alive || decide (2 ≤ b)) = true := by
      change ¬ (!s.dev.alive || decide (2 ≤ b)) = true
      simp [alive, hb]
    refine ⟨completes_with rfl (if_pos on), completes_with rfl (if_pos on), fun n again hn h3 => ?_, fun h3 => ?_⟩
    · subst hn
      exact completes_with rfl ((if_neg live).trans (if_pos h3))
    · exact completes_with rfl ((if_neg live).trans (if_neg (Nat.not_lt.2 h3)))
  case window =>
    intro s r rate aw hr period w w' d m low rest e
    obtain ⟨hm, hease, hraise⟩ := rateRecorded_keeps (rate := rate) hr s.here
    have hd : rateRecorded r rate s.here = d := rfl
    rw [hd] at hm hease hraise
    replace hease : d.pipe.easing = s.dev.pipe.easing := hease
    replace hraise : d.pipe.raised = s.dev.pipe.raised := hraise
    have he : d.easeRegion r (low (2 * m)) = e := by
      unfold Dev.easeRegion e
      rw [hease]
      cases low (2 * m) <;> rfl
    have run := rateWindow_awake (m := m) aw hr hd hm (low := low) fun k => by rw [clustersOf_eq]
    rw [he, hease, hraise] at run
    refine ⟨fun h1 h2 => ?_, fun h1 h2 => ?_, fun h1 h2 => ?_, fun h1 h2 h3 => ?_⟩
    all_goals refine completes_with rfl (run.trans ?_)
    · rw [h1, h2]
      rfl
    · rw [h1, h2]
      rfl
    · rw [h1]
      exact (if_pos rfl).trans (if_neg (by rcases h2 with h | h <;> rw [h] <;> simp))
    · rw [h1, h2, h3]
      rfl
  case move =>
    intro s r aw hrun hc
    refine completes_with rfl (if_pos ?_)
    change (s.dev.awake && s.dev.boot.running && s.dev.pipe.raised.contains r) = true
    rw [aw, hrun, hc]
    rfl
  case calm =>
    intro s r hc
    refine idle_of_same rfl (if_neg ?_)
    change ¬ (s.dev.awake && s.dev.boot.running && s.dev.pipe.raised.contains r) = true
    rw [hc, Bool.and_false]
    exact Bool.false_ne_true
  case tap =>
    intro s t n ht hs u size prod cons x hne hu hp hn body head addr d
    subst hn
    refine completes_with rfl (if_neg ?_)
    change ¬ (!s.dev.is P.STREAMING [t] || decide (16 ≤ t) || decide (prod = cons) || !s.dev.uplinkOn u || decide (s.dev.kcp.paused.get u 0 ≠ 0)) = true
    simp [ht, hs, hne, hu, hp]

end Sys2Proof.Machine

/-! ## Shutter cycles and their grants (O47) -/

namespace Sys2Proof.Machine

/-! ### Giving grants back leaves the start-up state -/

theorem refreshHeld_boot (d : Dev) (p : Nat) : (d.refreshHeld p).boot = d.boot := by
  unfold Dev.refreshHeld
  split <;> rfl

theorem takeBack_boot (d : Dev) (p dev core : Nat) : (d.takeBack p dev core).boot = d.boot := refreshHeld_boot _ p

theorem seamSend_boot (d : Dev) (type dest : Nat) (es : List (List Byte)) : (d.seamSend type dest es).boot = d.boot :=
  (each_trails _ _ d (fun _ _ => ask_trails ..)).parts .boot (by simp) |>.symm

theorem releaseGrants_boot (d : Dev) (k : Nat) : (d.releaseGrants k).boot = d.boot := by
  unfold Dev.releaseGrants
  split
  · rfl
  · extract_lets mine here away d1 d2
    have h1 : d1.boot = d.boot :=
      Dev.each_keeps (fun a b => b.boot = a.boot) (fun _ => rfl) (fun h g => g.trans h) _ _ d fun g _ e => takeBack_boot e ..
    have h2 : d2.boot = d1.boot :=
      Dev.each_keeps (fun a b => b.boot = a.boot) (fun _ => rfl) (fun h g => g.trans h) _ _ d1 fun o _ e => seamSend_boot e ..
    exact h2.trans h1

/-! ### A cycle in hand -/

section
variable {s : State} {k : Nat} {c : Cycle} (hc : (s.dev.calCore k).cycle = some c)
include hc

theorem retryCycle_due {t : Nat} (ht : c.retryAt = some t) : retryCycle k s.here = (s.here.reach t).reserveAgain k := by
  unfold retryCycle
  rw [show (s.here.calCore k).cycle = some c from hc]
  dsimp only
  rw [ht]

theorem retryCycle_idle (ht : c.retryAt = none) : retryCycle k s.here = s.here := by
  unfold retryCycle
  rw [show (s.here.calCore k).cycle = some c from hc]
  dsimp only
  rw [ht]

theorem grantStartLimit_due {g : Grant} {l : List Grant} (hg : (c.grants.filter fun g => decide (g.decision = some 0 ∨ g.decision = some 1)) = g :: l)
    (hs : s.dev.rd P.CYC_STATE [k] = 1) (hr : c.retryAt = none) : grantStartLimit k s.here =
      ((s.here.reach ((l.map (·.at_)).foldl min g.at_ + startLimit (s.dev.period k))).releaseGrants k).reserveAgain k := by
  unfold grantStartLimit
  rw [show (s.here.calCore k).cycle = some c from hc]
  dsimp only
  rw [hg]
  refine if_neg ?_
  change ¬ (decide (s.dev.rd P.CYC_STATE [k] ≠ 1) || c.retryAt.isSome) = true
  simp [hs, hr]

theorem maxDefer_due (hs : s.dev.rd P.CYC_STATE [k] = 1) (hr : c.refusals ≠ 0) (hf : c.force = false) : maxDefer k s.here =
    let d := s.here.reach (c.first + sec (s.dev.rd P.MAX_DEFER))
    if c.duty && c.ticket.isSome then ((d.endTicket k .duty 0x3201).releaseGrants k).dropCycle k
    else (d.setCycle k (some { c with force := true })).setCalF 2 k := by
  unfold maxDefer
  rw [show (s.here.calCore k).cycle = some c from hc]
  refine if_neg ?_
  change ¬ (decide (s.dev.rd P.CYC_STATE [k] ≠ 1) || decide (c.refusals = 0) || c.force) = true
  simp [hs, hr, hf]

end

theorem inPhase_none {s : State} {k ph : Nat} (hc : (s.dev.calCore k).cycle = none) : s.here.inPhase k ph = none := by
  unfold Dev.inPhase
  split
  · exact hc
  · rfl

theorem inPhase_some {s : State} {k ph : Nat} {c : Cycle} (hc : (s.dev.calCore k).cycle = some c) (hp : s.dev.rd P.CYC_STATE [k] = ph) :
    s.here.inPhase k ph = some c := (if_pos hp).trans hc

/-- Without a cycle none of its timers has anything to end. -/
theorem noCycle_idle {s : State} {k : Nat} (hc : (s.dev.calCore k).cycle = none) {c : Instr}
    (h : c ∈ [Instr.retry k, .grantStartLimit k, .maxDefer k, .releasePhaseEnd k, .openSettleEnd k, .openConfirmation k,
      .openConfirmationTimeout k, .flagClosedFault k, .gatherResult k]) : Idle c s := by
  have here : (s.here.calCore k).cycle = none := hc
  have phase : ∀ ph, s.here.inPhase k ph = none := fun ph => inPhase_none hc
  simp only [List.mem_cons, List.not_mem_nil, or_false] at h
  rcases h with rfl | rfl | rfl | rfl | rfl | rfl | rfl | rfl | rfl
  all_goals refine idle_of_same rfl ?_
  · unfold retryCycle; rw [here]
  · unfold grantStartLimit; rw [here]
  · unfold maxDefer; rw [here]
  · unfold releasePhaseEnd; rw [phase]
  · unfold openSettleEnd; rw [phase]
  · unfold openConfirmation; rw [phase]
  · unfold openConfirmationTimeout; rw [phase]
  · unfold flagClosedFault; rw [phase]
  · unfold gatherResult; rw [phase]

/-- Settles O47: what begins a cycle, and what each timer of a cycle that waits for its grants does. -/
theorem cyclesAndGrants : Obligations.CyclesAndGrants := by
  refine ⟨?request, ?not, ?none, ?cycle, ?noGrant, ?void⟩
  case request =>
    intro s k hk hm
    have may : ¬ (decide (64 ≤ k) || !s.here.mayCycle k) = true := by
      change ¬ (decide (64 ≤ k) || !s.dev.mayCycle k) = true
      simp [hm]
      omega
    have no : s.dev.triggered k = false → ¬ s.here.triggered k = true := fun h => by
      change ¬ s.dev.triggered k = true
      simp [h]
    refine ⟨fun h => completes_with rfl ((if_neg may).trans (if_pos h)),
      fun t l h ht => completes_with rfl ((if_neg may).trans ((if_neg (no h)).trans ?_)),
      fun h ht => idle_of_same rfl ((if_neg may).trans ((if_neg (no h)).trans ?_))⟩
    · rw [show s.here.timeDue k = t :: l from ht]
    · rw [show s.here.timeDue k = [] from ht]
  case not =>
    intro s k h
    refine idle_of_same rfl (if_pos ?_)
    change (decide (64 ≤ k) || !s.dev.mayCycle k) = true
    rcases h with h | h <;> simp [h]
  case none => exact fun s k hc c h => noCycle_idle hc h
  case cycle =>
    intro s k c hc
    have again : ∀ {d : Dev}, d.boot = s.dev.boot →
        (s.dev.boot.running = true → d.reserveAgain k = d.reserve k) ∧ (s.dev.boot.running = false → d.reserveAgain k = d.abandonCycle k) :=
      fun hb => ⟨fun h => if_pos (by rw [hb]; exact h), fun h => if_neg (by rw [hb, h]; exact Bool.false_ne_true)⟩
    refine ⟨fun t ht => ?_, fun ht => idle_of_same rfl (retryCycle_idle hc ht), fun g l hg hs hr => ?_, fun hs hr hf => ?_⟩
    · obtain ⟨h1, h2⟩ := again (d := s.here.reach t) rfl
      exact ⟨fun h => completes_with rfl ((retryCycle_due hc ht).trans (h1 h)), fun h => completes_with rfl ((retryCycle_due hc ht).trans (h2 h))⟩
    · intro t d
      obtain ⟨h1, h2⟩ := again (d := d) (releaseGrants_boot _ k)
      exact ⟨fun h => completes_with rfl ((grantStartLimit_due hc hg hs hr).trans (h1 h)),
        fun h => completes_with rfl ((grantStartLimit_due hc hg hs hr).trans (h2 h))⟩
    · refine ⟨fun h => completes_with rfl ((maxDefer_due hc hs hr hf).trans (if_neg ?_)),
        fun h1 h2 => completes_with rfl ((maxDefer_due hc hs hr hf).trans (if_pos ?_))⟩
      · rcases h with h | h <;> simp [h]
      · rw [h1, Option.isSome_iff_ne_none.2 h2]
        rfl
  case noGrant =>
    intro s p h
    refine idle_of_same rfl ?_
    unfold grantVoid
    rw [show (s.here.cal.given.find? fun g => decide (g.patch = p)) = none from h]
  case void =>
    intro s p g h
    refine completes_with rfl ?_
    unfold grantVoid
    rw [show (s.here.cal.given.find? fun g => decide (g.patch = p)) = some g from h]
    rfl

end Sys2Proof.Machine

/-! ## The phases of a cycle (O48) -/

namespace Sys2Proof.Machine

/-- The first learned set that waits for the store, and the jobs without it. -/
theorem find_learned {q l m : List BulkJob} {j : BulkJob} {k : Nat} (hq : q = l ++ j :: m) (hw : j.why = .learned k)
    (hl : ∀ x ∈ l, ∀ k, x.why ≠ .learned k) {p : BulkJob → Bool} (hp : ∀ x, p x = true ↔ ∃ n, x.why = .learned n) :
    q.find? p = some j ∧ q.erase j = l ++ m := by
  have no : ∀ x ∈ l, ¬ p x = true := fun x hx h => by
    obtain ⟨n, hn⟩ := (hp x).1 h
    exact hl x hx n hn
  refine ⟨?_, ?_⟩
  · rw [hq, List.find?_append, List.find?_eq_none.2 no, List.find?_cons_of_pos ((hp j).2 ⟨k, hw⟩)]
    rfl
  · rw [hq, List.erase_append_right _ (fun h => hl j h k hw), List.erase_cons_head]

/-- The store's answer for the first learned set that waits. -/
theorem learnedSetStore_first {s : State} {k : Nat} {j : BulkJob} {l m : List BulkJob} (hq : s.dev.nv.bulkQ = l ++ j :: m)
    (hw : j.why = .learned k) (hl : ∀ x ∈ l, ∀ k, x.why ≠ .learned k) (ok : Bool) : learnedSetStore ok s.here =
      let d : Dev := { s.here with nv := { s.dev.nv with bulkQ := l ++ m } }
      if ok && s.dev.bulkUp then (d.bulkCommit j.rid j.area j.data).bump P.STORE_SEQ [k] else d.setCalF 8 k := by
  unfold learnedSetStore
  extract_lets learned
  have hlearned : learned j = some k := by
    unfold learned
    rw [hw]
  obtain ⟨hf, he⟩ := find_learned hq hw hl (p := fun x => (learned x).isSome) fun x => by
    unfold learned
    cases x.why <;> simp
  rw [show (s.here.nv.bulkQ.find? fun x => (learned x).isSome) = some j from hf]
  dsimp only
  rw [hlearned, show s.here.nv.bulkQ.erase j = l ++ m from he]
  rfl

/-- Settles O48: each phase's timer on a cycle in that phase, the gather's result, and the store's answer for a learned set. -/
theorem cyclePhases : Obligations.CyclePhases := by
  refine ⟨?release, ?open_, ?gather, ?store⟩
  case release =>
    intro s k c hc hp d
    refine completes_with rfl ?_
    unfold releasePhaseEnd
    rw [inPhase_some hc hp]
  case open_ =>
    intro s k c hc hp ch
    have phase := inPhase_some hc hp
    refine ⟨fun hs => completes_with rfl ?_, fun hs ho hl => completes_with rfl ?_, fun hl => idle_of_same rfl ?_, fun hs => completes_with rfl ?_,
      fun hs => completes_with rfl ?_⟩
    · unfold openSettleEnd
      rw [phase]
      exact if_neg (by simp [hs])
    · unfold openConfirmation
      rw [phase]
      refine if_pos ?_
      change (c.settled && (s.dev.sh ch).openOk && !(s.dev.sh ch).latch) = true
      simp [hs, ho, hl]
    · unfold openConfirmation
      rw [phase]
      refine if_neg ?_
      change ¬ (c.settled && (s.dev.sh ch).openOk && !(s.dev.sh ch).latch) = true
      simp [hl]
    · unfold openConfirmationTimeout
      rw [phase]
      exact if_pos hs
    · unfold flagClosedFault
      rw [phase]
      refine (if_pos hs).trans ?_
      extract_lets d
      rw [show (d.calCore k).cycle = some c from hc]
  case gather =>
    intro s k c hc hp
    have run : gatherResult k s.here =
        if s.dev.gatherPending k c then s.here
        else if c.aborted then s.here.dropCycle k
        else if !s.here.coverageGood k c then (s.here.countFail k).dropCycle k
        else
          let d := ((s.here.gatherUpdate k c).bump P.CYCLES [k]).wr P.CONSEC_FAIL [k] 0
          let d := if c.ticket.isSome then d.put P.SUSP [k] false else d
          (d.endTicket k .ok 0).dropCycle k := by
      unfold gatherResult
      rw [inPhase_some hc hp]
      rfl
    refine ⟨fun h => idle_of_same rfl (run.trans (if_pos h)), fun h1 h2 => ?_, fun h1 h2 h3 => ?_, fun h1 h2 h3 => ?_⟩
    all_goals
      have h1 : ¬ s.dev.gatherPending k c = true := by simp [h1]
      refine completes_with rfl (run.trans ((if_neg h1).trans ?_))
    · exact if_pos h2
    · exact (if_neg (by simp [h2])).trans (if_pos (by simp [h3]))
    · exact (if_neg (by simp [h2])).trans (if_neg (by simp [h3]))
  case store =>
    intro s k j l m hq hw hl d
    refine ⟨fun h => completes_with rfl ((learnedSetStore_first hq hw hl true).trans (if_pos (by simp [h]))),
      completes_with rfl ((learnedSetStore_first hq hw hl false).trans (if_neg (by simp)))⟩

end Sys2Proof.Machine

/-! ## Seam samples, periods and solves (O49) -/

namespace Sys2Proof.Machine

/-! ### What a solve's end does leaves the solves that run -/

theorem Records.cal {a b : Dev} (h : Records a b) : b.cal = a.cal := by
  obtain ⟨_, _, _, rfl⟩ := h
  rfl

theorem seamSend_cal (d : Dev) (type dest : Nat) (es : List (List Byte)) : (d.seamSend type dest es).cal = d.cal :=
  (each_trails _ _ d (fun _ _ => ask_trails ..)).parts .cal (by simp) |>.symm

/-- The solves that run are as they were. -/
def SolvesKept (a b : Dev) : Prop := b.cal.solves = a.cal.solves

theorem SolvesKept.of_cal {a b : Dev} (h : b.cal = a.cal) : SolvesKept a b := congrArg Cal.solves h

theorem SolvesKept.refl (a : Dev) : SolvesKept a a := rfl

theorem SolvesKept.trans {a b c : Dev} (h : SolvesKept a b) (g : SolvesKept b c) : SolvesKept a c := Eq.trans g h

theorem SolvesKept.ite {p : Prop} [Decidable p] {a b c : Dev} (hb : SolvesKept a b) (hc : SolvesKept a c) : SolvesKept a (if p then b else c) := by
  split
  · exact hb
  · exact hc

section
variable (d : Dev)

theorem setCalF_solves (n k : Nat) : SolvesKept d (d.setCalF n k) := .of_cal (set_records d _ _ _).cal

theorem sendNodes_solves (z : Solved) (sums : KMap Pair) (num : Nat) : SolvesKept d (d.sendNodes z sums num) := by
  unfold Dev.sendNodes
  extract_lets nodes c e met far
  have he : SolvesKept d e := rfl
  exact he.trans (Dev.each_keeps SolvesKept .refl .trans _ _ e fun o _ x => .of_cal (seamSend_cal x ..))

theorem noteReady_cal (k : Nat) (b : Bool) : (d.noteReady k b).cal = d.cal := by
  unfold Dev.noteReady
  dsimp only
  split
  · split <;> rfl
  · split <;> rfl

theorem refreshStaged_cal (k : Nat) : (d.refreshStaged k).cal = d.cal := by
  unfold Dev.refreshStaged
  extract_lets s b bits e
  have he : e.cal = d.cal := noteReady_cal _ k _
  split
  · exact he
  · exact he

theorem storeLearned_solves (k : Nat) : SolvesKept d (d.storeLearned k) := by
  unfold Dev.storeLearned
  extract_lets nv e
  have he : SolvesKept d e := rfl
  exact .ite he (he.trans ((setCalF_solves e 8 k).trans (.of_cal (set_records _ _ _ _).cal)))

theorem stageTrim_solves (k : Nat) (trim : Int) : SolvesKept d (d.stageTrim k trim) := by
  unfold Dev.stageTrim
  extract_lets knots x y e f
  have he : SolvesKept d e := SolvesKept.trans (b := d.setCal k _) rfl (.of_cal (refreshStaged_cal _ k))
  exact he.trans (SolvesKept.trans (b := f) rfl (storeLearned_solves _ k))

theorem applyTrim_solves (z : Solved) (notes : List (Nat × Nat × Bool)) (i : Nat) : SolvesKept d (d.applyTrim z notes i) := by
  unfold Dev.applyTrim
  extract_lets k same raw lim trim e
  refine .ite (.refl d) (SolvesKept.trans ?_ (stageTrim_solves e k trim))
  exact .ite (setCalF_solves d 7 k) (.refl d)

theorem noteResidual_solves (z : Solved) (i : Nat) : SolvesKept d (d.noteResidual z i) := by
  unfold Dev.noteResidual
  extract_lets k res isOver x e
  have he : SolvesKept d e := rfl
  exact .ite (he.trans (setCalF_solves e 6 k)) he

end

/-- Settles O49: samples, the period's sums, and the end of a region's solve. -/
theorem seamPeriods : Obligations.SeamPeriods := by
  refine ⟨?asleep, ?sample, ?period, ?none, ?ends⟩
  case asleep =>
    intro s aw
    refine ⟨idle_of_same rfl (if_pos ?_), idle_of_same rfl (if_pos ?_)⟩
    · change (!s.dev.awake) = true
      simp [aw]
    · change (!s.dev.awake || !s.dev.boot.running) = true
      simp [aw]
  case sample =>
    intro s aw
    exact completes_with rfl (if_neg (by change ¬ (!s.dev.awake) = true; simp [aw]))
  case period =>
    intro s aw hr es d₁ d₂
    refine completes_with rfl ((if_neg (by change ¬ (!s.dev.awake || !s.dev.boot.running) = true; simp [aw, hr])).trans ?_)
    have he : s.here.cal.pairs.cells.filterMap s.here.sumsEntry = es := rfl
    rw [he, show List.range 4 = [0, 1, 2, 3] from rfl]
  case none =>
    intro s g h
    refine idle_of_same rfl ?_
    unfold solveEnd
    rw [show s.here.cal.solves.get? g = none from h]
  case ends =>
    intro s g v h z paired d d₁ d₂ d₃
    have kept : d₃.cal.solves = s.dev.cal.solves.del g := by
      have h1 : SolvesKept d d₁ := rfl
      have h2 : SolvesKept d₁ d₂ := .ite (.refl _) (.of_cal (set_records _ _ _ _).cal)
      have h3 : SolvesKept d₂ d₃ := (sendNodes_solves d₂ z v.sums _).trans
        (Dev.each_keeps SolvesKept .refl .trans _ _ _ fun i _ x => (applyTrim_solves x z v.notes i).trans (noteResidual_solves _ z i))
      exact (h1.trans h2).trans h3
    have run : solveEnd g s.here = v.ticket.elim (d₃.report 146 (5, g) (d₃.calData 0 0)) fun t =>
        if d₃.cal.solves.vals.any fun w => decide (w.ticket = some t) then d₃ else d₃.complete t .ok 0 (leBytes 2 (d₃.rd P.LAST_RES)) := by
      unfold solveEnd
      rw [show s.here.cal.solves.get? g = some v from h]
      dsimp -zeta only
      extract_lets num c e res e₁ e₂ e₃ e₄
      have hd : e₄ = d₃ := rfl
      rw [hd]
      clear_value d₃
      cases v.ticket <;> rfl
    clear_value d₃
    refine ⟨fun ht => completes_with rfl (run.trans ?_), fun t ht hw => completes_with rfl (run.trans ?_)⟩
    · rw [ht]
      rfl
    · rw [ht]
      refine if_neg ?_
      rw [kept]
      simpa using hw

end Sys2Proof.Machine

/-! ## Publication, registration and hit records (O50) -/

namespace Sys2Proof.Machine

/-- The patch's publication where its lead view is recent, has come to its last line and is published here. -/
theorem publication_lead {s : State} {p i c : Nat} {x : Slot} {v : View} (hx : s.dev.slot? p = some x) (aw : s.dev.awake = true)
    (hl : x.lead = some i) (hv : x.views[i]? = some v) (hr : v.recent s.dev.now = true) (hc : v.capture = some c) (hd : v.done = false)
    (hp : s.dev.publishes p c = true) : publication p s.here =
      if x.pubs ≠ 0 && c < x.lastPub + s.dev.pubGap then
        (s.here.setSlot p x).setSlot p { x with views := x.views.map fun w => if w = v then { w with done := true } else w }
      else
        let d := (s.here.setSlot p x).publishLead p c v.origin
        match d.slot? p with
        | some y => (d.setSlot p { y with lead := d.leadAt p y d.now }).tryState p
        | none => d := by
  have bound : (x.lead.bind fun i => x.views[i]?) = some v := by rw [hl]; exact hv
  unfold publication
  rw [show s.here.slot? p = some x from hx]
  refine (if_neg (by change ¬ (!s.dev.awake) = true; simp [aw])).trans ?_
  extract_lets lead
  have hlead : lead = x.lead := by
    unfold lead
    rw [bound]
    exact if_pos hr
  clear_value lead
  subst hlead
  rw [bound]
  dsimp -zeta only
  rw [hc]
  refine if_neg ?_
  change ¬ (v.done || !s.dev.publishes p c) = true
  simp [hd, hp]

/-- Settles O50: publication and its hold, the two ends of a registration session, and a hit record by what maps and owns it. -/
theorem publicationAndHits : Obligations.PublicationAndHits := by
  refine ⟨?none, ?lead, ?hold, ?noSession, ?begins, ?ends, ?noHit, ?hit⟩
  case none =>
    intro s p h
    have here : s.here.slot? p = none := h
    refine ⟨idle_of_same rfl ?_, idle_of_same rfl ?_⟩
    · unfold publication; rw [here]
    · unfold holdPeriod; rw [here]
  case lead =>
    intro s p i c x v hx aw hl hv hr hc hd hp gap
    have run := publication_lead hx aw hl hv hr hc hd hp
    refine ⟨fun h1 h2 => completes_with rfl (run.trans (if_pos ?_)), fun h => completes_with rfl (run.trans (if_neg ?_))⟩
    · have h2' : c < x.lastPub + s.dev.pubGap := h2
      simp [h1, h2']
    · have h' : x.pubs = 0 ∨ x.lastPub + s.dev.pubGap ≤ c := h
      rcases h' with h | h
      · simp [h]
      · simp [h]
  case hold =>
    intro s p x hx aw hm ho e
    have run : holdPeriod p s.here = if (e.leadAt p x e.now).isSome then s.here else
        let h := e.publish p none e.clk
        match h.slot? p with
        | some y => h.setSlot p { y with lead := none }
        | none => h := by
      unfold holdPeriod
      rw [show s.here.slot? p = some x from hx]
      refine if_neg ?_
      change ¬ (!s.dev.awake || s.dev.mute || !s.dev.owns p) = true
      simp [aw, hm, ho]
    refine ⟨fun h => idle_of_same rfl (run.trans (if_pos (Option.isSome_iff_ne_none.2 h))), fun h => completes_with rfl (run.trans (if_neg ?_))⟩
    rw [h]
    exact Bool.false_ne_true
  case noSession =>
    intro s h
    refine ⟨idle_of_same rfl ?_, idle_of_same rfl ?_⟩
    · unfold registrationSession
      rw [show s.here.fus.regs = [] from h]
      rfl
    · unfold registrationEnd
      rw [show s.here.fus.regs = [] from h]
      rfl
  case begins =>
    intro s g aw hg
    refine completes_with rfl ?_
    unfold registrationSession
    rw [show (s.here.fus.regs.find? fun x => !x.blinking) = some g from hg]
    exact if_neg (by change ¬ (!s.dev.awake) = true; simp [aw])
  case ends =>
    intro s g aw hg d e
    have run : registrationEnd s.here = if g.cores.isEmpty then e.complete g.ticket .ok else e.each g.cores fun k d => d.registerCore k g := by
      unfold registrationEnd
      rw [show (s.here.fus.regs.find? (·.blinking)) = some g from hg]
      exact if_neg (by change ¬ (!s.dev.awake) = true; simp [aw])
    exact ⟨fun h => completes_with rfl (run.trans (if_pos (by simp [h]))), fun h => completes_with rfl (run.trans (if_neg (by simp [h])))⟩
  case noHit =>
    intro s h
    refine idle_of_same rfl ?_
    unfold hitRecord
    rw [show s.here.fus.hits = [] from h]
  case hit =>
    intro s h rest aw hh a d
    have run : hitRecord s.here = match d.mapPixel (a 0) (a 1) (a 2) with
        | none => d.setOut 7 (2, a 0)
        | some (t, cell, _) =>
          match d.tile? t with
          | none => d
          | some row => if d.mute then d else d.routeHit row.patch ⟨d.addr, a 0, a 3, a 4, a 5, a 6, a 7, a 8, t, cell⟩ := by
      unfold hitRecord
      rw [show s.here.fus.hits = h :: rest from hh]
      exact if_neg (by change ¬ (!s.dev.awake) = true; simp [aw])
    refine ⟨fun hn => completes_with rfl (run.trans ?_), fun t cell ang row hm ht => ?_⟩
    · rw [hn]
    · intro x o
      have routed : hitRecord s.here = if d.mute then d else d.routeHit row.patch x := by
        rw [run, hm]
        dsimp only
        rw [ht]
      have heard : d.mute = false → hitRecord s.here = d.routeHit row.patch x := fun hm => routed.trans (if_neg (by simp [hm]))
      refine ⟨fun h => completes_with rfl (routed.trans (if_pos h)), fun h ho hv => completes_with rfl ((heard h).trans ?_),
        fun h ho hv => completes_with rfl ((heard h).trans ?_), fun h ho hr => completes_with rfl ((heard h).trans ?_),
        fun h ho hr => completes_with rfl ((heard h).trans ?_)⟩
      · exact (if_pos ho).trans (if_pos hv)
      · exact (if_pos ho).trans (if_neg hv)
      · exact (if_neg ho).trans (if_pos (by rw [Option.isNone_iff_eq_none]; exact hr))
      · exact (if_neg ho).trans (if_neg (by rw [Option.isNone_iff_eq_none]; exact Option.isSome_iff_ne_none.1 hr))

end Sys2Proof.Machine

/-! ## Tile buses (O51) -/

namespace Sys2Proof.Machine

/-! ### What asking the directory leaves -/

theorem Trails.place_eq {e t : Dev} (h : Trails e t) (p : Nat) : t.place p = e.place p := by
  unfold Dev.place
  rw [h.array]

theorem Trails.addr_eq {e t : Dev} (h : Trails e t) : t.addr = e.addr :=
  Dev.rd_congr (h.fields _ (by decide))

/-- A query of the directory notes itself in the patch's place and changes nothing that decides on a message. -/
theorem query_keeps (d : Dev) (p : Nat) : ((d.query p).place p).lost = (d.place p).lost ∧ ((d.query p).place p).owner = (d.place p).owner ∧
    (d.query p).addr = d.addr := by
  unfold Dev.query
  split
  · exact ⟨rfl, rfl, rfl⟩
  · split
    · exact ⟨rfl, rfl, rfl⟩
    · have ht := ask_trails (d.setPlace p { d.place p with asked := some d.clk })
      rw [(ht ..).place_eq, (ht ..).addr_eq, place_setPlace_same]
      exact ⟨rfl, rfl, rfl⟩

/-! ### What a message of a patch is worth -/

section
variable {d : Dev} {p cap : Nat}

theorem verdict_use (ho : d.owns p = true) (h : (d.place p).kept.isSome = true ∨ (d.place p).tc < cap) : d.verdict p cap = .use :=
  (if_pos ho).trans (if_pos (by simpa using h))

theorem verdict_late (ho : d.owns p = true) (hk : (d.place p).kept = none) (hc : cap ≤ (d.place p).tc) : d.verdict p cap = .stale :=
  (if_pos ho).trans (if_neg (by simp [hk, hc]))

theorem verdict_pass {x : Nat × Nat × Nat × Nat} (ho : d.owns p = false) (hl : (d.place p).lost = some x) (hf : (d.place p).forwards = true)
    (hc : x.2.2.1 < cap) (hw : (d.place p).owner ≠ 0x3FF) : d.verdict p cap = .pass (d.place p).owner := by
  refine (if_neg (by simp [ho])).trans ?_
  rw [hl]
  exact (if_neg (by simp [hf])).trans ((if_pos hc).trans (if_neg hw))

theorem verdict_stranger (ho : d.owns p = false) (hl : (d.place p).lost = none) : d.verdict p cap = .stale := by
  refine (if_neg (by simp [ho])).trans ?_
  rw [hl]

end

/-- What a verdict makes of a message of a patch. -/
def Dev.judged (d : Dev) (p : Nat) (m : List Byte) : Verdict → Dev
  | .use => if byteAt m 19 = 0 then d.takeHit p (hitOf m d.clk) else d.contribute p (contribOf m d.clk)
  | .pass o => d.sendTo 5 o m
  | .stale => d.stale (d.coreUnit (leAt m 16 2 % 1024) (byteAt m 18))

section
variable {s : State} {f : SeamHdr} {m : List Byte} {p : Nat} (hr : Receives f s.dev) (aw : s.dev.awake = true)
  (hp : leAt m 0 4 % 2 ^ 22 = p)
include hr aw hp

/-- A message that reaches an awake device: the directory is asked about an epoch not known, then the verdict decides. -/
theorem contributionMsg_receives : contributionMsg f m s.here =
    let d := if !s.dev.owns p && decide ((s.dev.place p).epoch < leAt m 4 4) then s.here.query p else s.here
    d.judged p m (d.verdict p (leAt m 8 8)) := by
  unfold contributionMsg
  rw [arriving_receives hr]
  refine (if_neg (by change ¬ (!s.dev.awake) = true; simp [aw])).trans ?_
  rw [hp]
  rfl

theorem contributionMsg_known (hk : s.dev.owns p = true ∨ leAt m 4 4 ≤ (s.dev.place p).epoch) {v : Verdict}
    (hv : s.dev.verdict p (leAt m 8 8) = v) : contributionMsg f m s.here = s.here.judged p m v := by
  have no : ¬ (!s.dev.owns p && decide ((s.dev.place p).epoch < leAt m 4 4)) = true := by
    rcases hk with h | h <;> simp [h]
  rw [contributionMsg_receives hr aw hp, if_neg no, ← hv]
  rfl

end

/-- Settles O51: records, queries, replies and carried messages of the tile buses, each by its own guard. -/
theorem tileBuses : Obligations.TileBuses := by
  refine ⟨?send, ?off, ?tile, ?shut, ?reply, ?carriage, ?contribution, ?asleep⟩
  case send =>
    intro s b aw hb he hw
    have free : ¬ (!s.here.awake || decide (200 ≤ b) || !s.here.is P.BUS_EN [b] || (s.here.bus b).window.isSome) = true := by
      change ¬ (!s.dev.awake || decide (200 ≤ b) || !s.dev.is P.BUS_EN [b] || (s.dev.bus b).window.isSome) = true
      simp [aw, he, hw]
      omega
    refine ⟨fun h => completes_with rfl ((if_neg free).trans ?_), fun q r h => completes_with rfl ((if_neg free).trans ?_),
      fun h => idle_of_same rfl ((if_neg free).trans ?_), fun t h => ?_⟩
    · rw [show s.here.nextRecord b = none from h]
      rfl
    · rw [show s.here.nextRecord b = some (q, r) from h]
    · rw [show s.here.nextQuery b = none from h]
    · intro d keys e
      have kept : (d.busTiles b).map (·.tile) ++ [allQueue b] = keys ∧ ∀ q, d.queue q = s.dev.queue q := by
        unfold d
        cases (s.dev.attach t).queried <;> exact ⟨rfl, fun _ => rfl⟩
      have run : healthQuery b s.here =
          if keys.any fun q => (s.dev.queue q).any fun r => decide (r.kind ≠ 1 ∨ r.origin + ms 1 < d.clk) then s.here
          else (e.setBus b { e.bus b with window := some t, burst := false }).useBus b 75 := by
        refine (if_neg free).trans ?_
        rw [show s.here.nextQuery b = some t from h]
        dsimp -zeta only
        extract_lets a d' keys' waits e₁ e₂
        have hd : d' = d := rfl
        have hw : waits = keys.any fun q => (s.dev.queue q).any fun r => decide (r.kind ≠ 1 ∨ r.origin + ms 1 < d.clk) := by
          unfold waits keys'
          rw [hd, kept.1]
          simp only [kept.2]
        rw [hw]
        rfl
      refine ⟨fun ha => completes_with rfl (run.trans (if_neg ?_)), fun q r hq hr ho => idle_of_same rfl (run.trans (if_pos ?_))⟩
      · simp only [List.any_eq_true, decide_eq_true_eq, not_exists, not_and]
        intro q hq r hr
        obtain ⟨hk, hc⟩ := ha q hq r hr
        omega
      · exact List.any_eq_true.2 ⟨q, hq, List.any_eq_true.2 ⟨r, hr, decide_eq_true ho⟩⟩
  case off =>
    intro s b h
    have off : (!s.here.awake || decide (200 ≤ b) || !s.here.is P.BUS_EN [b] || (s.here.bus b).window.isSome) = true := by
      change (!s.dev.awake || decide (200 ≤ b) || !s.dev.is P.BUS_EN [b] || (s.dev.bus b).window.isSome) = true
      rcases h with h | h <;> simp [h]
    exact ⟨idle_of_same rfl (if_pos off), idle_of_same rfl (if_pos off)⟩
  case tile =>
    intro s t row ht aw hrow a
    have here : s.here.tile? t = some row := ht
    refine ⟨completes_with rfl ?_, fun hs => completes_with rfl ?_, fun hs => idle_of_same rfl ?_, fun tspec pay hs hl => completes_with rfl ?_⟩
    · unfold heldNoticeRepeat
      rw [here]
      refine if_neg ?_
      change ¬ (!s.dev.awake || decide (row.dev ≠ s.dev.addr)) = true
      simp [aw, hrow]
    · unfold tileSilent
      rw [here]
      refine if_neg ?_
      change ¬ (!s.dev.awake || decide (row.dev ≠ s.dev.addr) || a.silent) = true
      simp [aw, hrow, hs]
    · unfold tileSilent
      rw [here]
      refine if_pos ?_
      change (!s.dev.awake || decide (row.dev ≠ s.dev.addr) || a.silent) = true
      simp [hs]
    · unfold silentRecordRepeat
      extract_lets a'
      have due : ((s.here.tile? t).bind fun row => if row.dev = s.here.addr ∧ a'.silent then a'.last else none) = some (tspec, pay) := by
        rw [here]
        exact (if_pos ⟨hrow, hs⟩).trans hl
      rw [due]
      exact if_neg (by change ¬ (!s.dev.awake) = true; simp [aw])
  case shut =>
    intro s b h
    have here : (s.here.bus b).window = none := h
    refine ⟨idle_of_same rfl ?_, fun lead codes rest => idle_of_same rfl ?_⟩
    · unfold replyWindowClose
      rw [here]
    · unfold healthReply Dev.takeReply
      rw [here]
  case reply =>
    intro s b t hw a d e
    have here : (s.here.bus b).window = some t := hw
    have closed : replyWindowClose b s.here = if 3 ≤ a.missed + 1 then e.setOut 6 (e.tileUnit t) else e := by
      unfold replyWindowClose
      rw [here]
      rfl
    have taken : ∀ codes r, recordIn codes = some r → s.here.takeReply b codes =
        if !recordCrcOk r then ((s.here.bump P.REPLY_ERR [b]).setOut 5 (s.dev.tileUnit t), none)
        else if !isReplyOf t r then (s.here, none)
        else
          let d := (s.here.tblWrite 0x23F1 (32 * t) ((r.drop 11).take 30 ++ [0, 0])).setAttach t { a with missed := 0 }
          (d.setBus b { d.bus b with window := none }, some (t, (r.drop 11).take 30)) := fun codes r hr => by
      unfold Dev.takeReply
      rw [here, hr]
      rfl
    refine ⟨fun h => completes_with rfl (closed.trans (if_neg (by omega))), fun h => completes_with rfl (closed.trans (if_pos (by omega))),
      fun lead codes rest h => idle_of_same rfl ?_, fun lead codes rest r h => ?_⟩
    · unfold healthReply Dev.takeReply
      rw [here, h]
    · have took := taken _ r h
      refine ⟨fun hc => completes_with rfl ?_, fun hc hr => idle_of_same rfl ?_, fun row hc hr hf => ?_⟩
      · rw [if_pos (by simp [hc])] at took
        unfold healthReply
        rw [took]
      · rw [if_neg (by simp [hc]), if_pos (by simp [hr])] at took
        unfold healthReply
        rw [took]
      · intro pay d
        rw [if_neg (by simp [hc]), if_neg (by simp [hr])] at took
        refine completes_with rfl ?_
        unfold healthReply
        rw [took]
        dsimp only
        rw [show (d.setBus b { d.bus b with window := none }).attached.find? (fun r => decide (r.tile = t)) = some row from hf]
  case carriage =>
    intro s f m t row hr ht hrow aw hd c len hsof hlen h14 hcrc r
    subst ht
    have hcar : carried (m.drop 16) s.here.clk = some r := by
      refine if_neg ?_
      change ¬ (decide (byteAt (m.drop 16) 0 ≠ 0xBC) || decide ((m.drop 16).length ≠ len) || decide (len < 14) || !recordCrcOk c) = true
      rw [hsof, hlen, hcrc, decide_eq_false (Nat.not_lt.2 h14)]
      simp
    refine completes_with rfl ?_
    unfold tileRecordCarriage
    rw [arriving_receives hr]
    dsimp only
    rw [show s.here.tile? (leAt m 0 4 % 2 ^ 18) = some row from hrow, hcar]
    refine if_neg ?_
    change ¬ (!s.dev.awake || decide (row.dev ≠ s.dev.addr)) = true
    simp [aw, hd]
  case contribution =>
    intro s f m p hr aw hp d pl cap stale
    have known : ∀ {v : Verdict}, (s.dev.owns p = true ∨ leAt m 4 4 ≤ pl.epoch) → s.dev.verdict p cap = v →
        contributionMsg f m s.here = d.judged p m v := fun hk hv => contributionMsg_known hr aw hp hk hv
    refine ⟨fun ho h => completes_with rfl (known (.inl ho) (verdict_use ho h)),
      fun ho hk hc => completes_with rfl (known (.inl ho) (verdict_late ho hk hc)),
      fun x ho he hl hf hc hw => completes_with rfl (known (.inr he) (verdict_pass ho hl hf hc hw)), fun ho hl he => completes_with rfl ?_,
      fun ho hl he => completes_with rfl (known (.inr he) (verdict_stranger ho hl))⟩
    obtain ⟨hlost, howner, haddr⟩ := query_keeps s.here p
    have ho' : (s.here.query p).owns p = false := by
      refine Eq.trans ?_ ho
      unfold Dev.owns Dev.addressed
      rw [howner, haddr]
      rfl
    rw [contributionMsg_receives hr aw hp, if_pos (by rw [ho, decide_eq_true he]; rfl)]
    dsimp only
    rw [verdict_stranger ho' (hlost.trans hl)]
    have hu : (s.here.query p).coreUnit (leAt m 16 2 % 1024) (byteAt m 18) =
        s.dev.coreUnit (leAt m 16 2 % 1024) (byteAt m 18) := by
      unfold Dev.coreUnit
      rw [haddr]
      rfl
    exact congrArg (Dev.stale _) hu
  case asleep =>
    intro s f m hr aw
    have dead : (!s.here.awake) = true := by change (!s.dev.awake) = true; simp [aw]
    refine ⟨idle_of_same rfl ?_, idle_of_same rfl ?_⟩
    · unfold contributionMsg
      rw [arriving_receives hr]
      exact if_pos dead
    · unfold tileRecordCarriage
      rw [arriving_receives hr]
      dsimp only
      split
      · exact if_pos (by rw [Bool.or_eq_true]; exact .inl dead)
      · rfl

end Sys2Proof.Machine

/-! ## Memory events (O52) -/

namespace Sys2Proof.Machine

/-! ### Refresh -/

/-- Settling what a rank owes writes its OWED alone, so what it may owe stays. -/
theorem settleOwed_limits (d : Dev) {n : Nat} (hn : n < 16) :
    (d.settleOwed n).rd P.MR4_CODE [n] = d.rd P.MR4_CODE [n] ∧ (d.settleOwed n).rd P.REF_POSTPONE = d.rd P.REF_POSTPONE := by
  unfold Dev.settleOwed
  split
  · exact ⟨Dev.rd_wr_other _ _ _ _ _ _ (by simp [Row.key, Row.addr, P.MR4_CODE, P.OWED] <;> omega),
      Dev.rd_wr_other _ _ _ _ _ _ (by simp [Row.key, Row.addr, P.REF_POSTPONE, P.OWED]; omega)⟩
  · exact ⟨rfl, rfl⟩

/-- What the banks of the device owe after a refresh of a rank's bank comes due. -/
def Dev.owedAfter (d : Dev) (n b limit : Nat) (busy : Bool) : KMap Nat :=
  if (d.mem.paying.get? n).isSome then d.mem.owed
  else if busy then
    (if d.mem.owed.get (8 * n + b) 0 < limit then d.mem.owed.put (8 * n + b) (d.mem.owed.get (8 * n + b) 0 + 1) else d.mem.owed)
  else d.mem.owed.del (8 * n + b)

section OwedAfter
variable (d : Dev) (n b limit : Nat) (busy : Bool)

theorem owedAfter_paying (h : (d.mem.paying.get? n).isSome = true) : d.owedAfter n b limit busy = d.mem.owed := if_pos h

theorem owedAfter_busy (h : d.mem.paying.get? n = none) (room : d.mem.owed.get (8 * n + b) 0 < limit) :
    d.owedAfter n b limit true = d.mem.owed.put (8 * n + b) (d.mem.owed.get (8 * n + b) 0 + 1) := by
  rw [Dev.owedAfter, if_neg (by simp [h]), if_pos rfl, if_pos room]

theorem owedAfter_limit (h : d.mem.paying.get? n = none) (full : limit ≤ d.mem.owed.get (8 * n + b) 0) :
    d.owedAfter n b limit true = d.mem.owed := by
  rw [Dev.owedAfter, if_neg (by simp [h]), if_pos rfl, if_neg (Nat.not_lt.mpr full)]

theorem owedAfter_idle (h : d.mem.paying.get? n = none) : d.owedAfter n b limit false = d.mem.owed.del (8 * n + b) := by
  rw [Dev.owedAfter, if_neg (by simp [h]), if_neg Bool.false_ne_true]

end OwedAfter

/-- The device with what its banks owe, and OWED of a rank after it. -/
def Dev.owing (d : Dev) (n : Nat) (owed : KMap Nat) : Dev := ({ d with mem := { d.mem with owed := owed } } : Dev).refreshOwed n

theorem refreshDue_eq (d : Dev) {n b : Nat} (busy : Bool) (al : d.alive = true) (hn : n < 16) (hb : b < 8) (sr : d.is P.SR [n] = false) :
    refreshDue n b busy d =
      let limit := if d.rd P.MR4_CODE [n] ≤ 3 then d.rd P.REF_POSTPONE else 0
      ((d.settleOwed n).wr P.PD [n] 0).owing n ((d.settleOwed n).owedAfter n b limit busy) := by
  have live : ¬ (!d.alive || d.is P.SR [n] || decide (16 ≤ n) || decide (8 ≤ b)) = true := by simp [al, sr]; omega
  obtain ⟨mr4, post⟩ := settleOwed_limits d hn
  rw [← mr4, ← post]
  exact if_neg live

theorem powerDownEntry_eq (d : Dev) {n : Nat} (al : d.alive = true) (hn : n < 16) (sr : d.is P.SR [n] = false) :
    powerDownEntry n d = if (d.settleOwed n).rankBusy n then d.settleOwed n else (d.settleOwed n).wr P.PD [n] 1 :=
  if_neg (by simp [al, sr]; omega)

/-! ### Read errors -/

/-- The error registers after a finding of the code. -/
def Dev.errorNoted (d : Dev) (n bank row col port kind : Nat) : Dev :=
  d.wrs [(P.ERR_RANK, [], n), (P.ERR_BANK, [], bank), (P.ERR_ROW, [], row), (P.ERR_KIND, [], kind),
    (P.ERR_MODE, [], d.rd P.MEM_MODE), (P.ERR_COL, [], col), (P.ERR_PORT, [], port), (P.PD, [n], 0)]

/-- A corrected error counts, and at the limit of its hour the rank fails (R291). -/
def Dev.correctedError (d : Dev) (n bank row col port : Nat) : Dev :=
  let e := (((d.errorNoted n bank row col port 1).bump P.CE_CNT [n]).countHour n).setMem 0 n
  if e.rd P.CE_LIMIT ≤ e.rd P.CE_HOUR [n] then e.failRank n else e

section ReadErrors
variable (d : Dev) (n bank row col port : Nat) (merge : Bool) (live : ¬ (!d.alive || decide (16 ≤ n) || d.is P.SR [n]) = true)
include live

theorem readError_none {e : DramErr} (h : d.codeFinds e = (none, d)) :
    dramReadError n bank row col port merge e d = d.wr P.PD [n] 0 := by
  refine (if_neg live).trans ?_
  rw [h]

theorem readError_corrected {e : DramErr} (h : d.codeFinds e = (some .corrected, d)) :
    dramReadError n bank row col port merge e d = d.correctedError n bank row col port := by
  refine (if_neg live).trans ?_
  rw [h]
  rfl

theorem readError_uncorrectable {e : DramErr} (h : d.codeFinds e = (some .uncorrectable, d)) :
    dramReadError n bank row col port merge e d =
      (((d.errorNoted n bank row col port 2).countUe n).ueFollows n).emit (.memError port merge) := by
  refine (if_neg live).trans ?_
  rw [h]
  rfl

end ReadErrors

/-! ### Margin scans -/

theorem marginScanStep_some {d : Dev} {c n : Nat} {x : Scan} (h : d.mem.scans.get? c = some x) :
    marginScanStep c n d =
      let y : Scan := { x with counts := x.counts ++ [n] }
      let put (d : Dev) (s : Scan) : Dev := { d with mem := { d.mem with scans := d.mem.scans.put c s } }
      if x.stopping then (put d y).abortScan c
      else if y.counts.length < (scanRange x.type).2 then put d y
      else match x.todo with
        | l :: t => put (d.writeMargin c y) { y with lane := l, todo := t, counts := [] }
        | [] => ((d.writeMargin c y).dropScan c).complete x.ticket .ok := by
  unfold marginScanStep
  rw [h]
  rfl

/-- Settles O52, by the account of each event of the memory. -/
theorem memoryEvents : Obligations.MemoryEvents := by
  unfold Obligations.MemoryEvents
  refine ⟨fun s n b al hn hb sr => ?_, fun s n b busy sr => ⟨?_, ?_⟩, fun s codes al ds => ?_, fun s c => idle_of_same rfl rfl,
    fun s => ⟨fun h => ?_, fun h aw => ?_⟩, fun s n bank row col port merge al hn sr => ?_,
    fun s => ⟨fun h => ?_, fun h aw => ?_⟩, fun s c n h => ?_, fun s c n x h => ?_⟩
  · have due busy := refreshDue_eq s.here busy al hn hb sr
    have down := powerDownEntry_eq s.here al hn sr
    refine ⟨fun free => ⟨fun h => ?_, fun h => ?_, ?_⟩, fun h busy => ?_, fun h => ?_, fun h => ?_⟩
    · exact completes_with rfl ((due true).trans (congrArg (Dev.owing _ n) (owedAfter_busy _ _ _ _ free h)))
    · exact completes_with rfl ((due true).trans (congrArg (Dev.owing _ n) (owedAfter_limit _ _ _ _ free h)))
    · exact completes_with rfl ((due false).trans (congrArg (Dev.owing _ n) (owedAfter_idle _ _ _ _ free)))
    · exact completes_with rfl ((due busy).trans (congrArg (Dev.owing _ n) (owedAfter_paying _ _ _ _ _ h)))
    · exact completes_with rfl (down.trans (if_neg (by simp [h])))
    · exact completes_with rfl (down.trans (if_pos h))
  · exact idle_of_same rfl (if_pos (by change (!s.dev.alive || s.dev.is P.SR [n] || _ || _) = true; simp [sr]))
  · exact idle_of_same rfl (if_pos (by change (!s.dev.alive || s.dev.is P.SR [n] || _) = true; simp [sr]))
  · exact completes_with rfl (if_neg (by change ¬ (!s.dev.alive || s.dev.dozing) = true; simp [al, Dev.dozing, ds]))
  · exact idle_of_same rfl (if_neg (by change ¬ (s.dev.is P.FSP_BUSY && s.dev.awake) = true; simp [h]))
  · exact completes_with rfl (if_pos (by change (s.dev.is P.FSP_BUSY && s.dev.awake) = true; simp [h, aw]))
  · have live : ¬ (!s.here.alive || decide (16 ≤ n) || s.here.is P.SR [n]) = true := by
      change ¬ (!s.dev.alive || decide (16 ≤ n) || s.dev.is P.SR [n]) = true
      simp [al, sr]; omega
    refine ⟨?_, fun e he => ?_, fun e he => ?_, ?_, ?_, ?_⟩
    · exact completes_with rfl (readError_none _ _ _ _ _ _ _ live rfl)
    · have found : s.here.codeFinds e = (some .corrected, s.here) := by
        simp only [List.mem_cons, List.not_mem_nil, or_false] at he
        obtain rfl | rfl := he <;> rfl
      have run := readError_corrected _ n bank row col port merge live found
      exact ⟨fun h => completes_with rfl (run.trans (if_neg (Nat.not_le.mpr h))), fun h => completes_with rfl (run.trans (if_pos h))⟩
    · have found : s.here.codeFinds e = (some .uncorrectable, s.here) := by
        simp only [List.mem_cons, List.not_mem_nil, or_false] at he
        obtain rfl | rfl | rfl := he <;> rfl
      exact completes_with rfl (readError_uncorrectable _ n bank row col port merge live found)
    · exact completes_with rfl (if_neg live)
    · exact completes_with rfl (if_neg live)
    · exact completes_with rfl (if_neg live)
  · exact idle_of_same rfl (if_pos (by change (!s.dev.is P.MIG_ACTIVE || !s.dev.awake) = true; simp [h]))
  · intro src dst x hx
    refine completes_with rfl ((if_neg (by change ¬ (!s.dev.is P.MIG_ACTIVE || !s.dev.awake) = true; simp [h, aw])).trans ?_)
    dsimp only
    rw [show ((List.range (s.here.rd P.N_SVC)).find? fun x => decide (s.here.rankOf x = s.here.rd P.MIG_SRC)) = some x from hx]
    rfl
  · refine idle_of_same rfl ?_
    unfold marginScanStep
    rw [show s.here.mem.scans.get? c = none from h]
  · have run := marginScanStep_some (n := n) (d := s.here) h
    refine ⟨fun st => ?_, fun st short => ?_, fun st done todo => ?_, fun l todo st done ht => ?_⟩
    · exact completes_with rfl (run.trans (if_pos st))
    · exact completes_with rfl (run.trans ((if_neg (by simp [st])).trans (if_pos short)))
    · refine completes_with rfl (run.trans ((if_neg (by simp [st])).trans ((if_neg (Nat.not_lt.mpr done)).trans ?_)))
      rw [todo]
    · refine completes_with rfl (run.trans ((if_neg (by simp [st])).trans ((if_neg (Nat.not_lt.mpr done)).trans ?_)))
      rw [ht]

end Sys2Proof.Machine

/-! ## Converter events (O53) -/

namespace Sys2Proof.Machine

/-- The gain coefficient that a full-scale step takes from the mean of its conversions (R318). -/
def fullScaleGain (mean zero : Int) (code : Nat) : Int :=
  if mean = zero then 0 else rndDiv ((if mean < zero then -1 else 1) * (code : Int) * 2 ^ 22) (mean - zero).natAbs

/-- What a calibration step with its conversions leaves (R318). -/
theorem calStepDone_some {d : Dev} {m : Nat} {c : CalStep} (h : (d.mod m).cal = some c) :
    calStepDone m d =
      if c.waiting || c.raws.length < 8 || !d.alive then d
      else if c.step = 0 then
        (((d.setMod m { d.mod m with zero := some ⟨c.ch, d.rd P.GAIN [c.ch], meanRaw c.raws, d.clk⟩ }).calOver m).complete c.ticket .ok 0
          (leBytes 4 (wrapInt 32 (meanRaw c.raws))))
      else
        let zero := ((d.mod m).zero.map (·.raw)).getD 0
        let g := fullScaleGain (meanRaw c.raws) zero (d.rd P.CAL_FS_CODE [m])
        if g < 0x200000 ∨ 0x600000 < g then ((d.calOver m).set (.conv 7)).complete c.ticket .badParam 0x3107
        else ((d.setCoef m (d.rd P.GAIN [c.ch]) zero g.toNat).calOver m).complete c.ticket .ok 0
          (leBytes 4 (wrapInt 32 zero) ++ leBytes 4 g.toNat) := by
  unfold calStepDone
  rw [h]
  rfl

/-- Settles O53, by the account of a conversion's end, of a calibration step and of the Doze watch. -/
theorem converterEvents : Obligations.ConverterEvents := by
  unfold Obligations.ConverterEvents
  refine ⟨fun s m raw ov up down al rc hm => ?_, fun s m raw ov up down rc => ?_, fun s m h => ?_,
    fun s m c h => ⟨fun early => ?_, fun al w full => ?_⟩, fun s => ⟨fun al ds => ?_, fun ds => ?_⟩⟩
  · refine completes_with rfl (if_neg ?_)
    change ¬ (!s.dev.alive || s.dev.recalling || decide (4 ≤ m)) = true
    simp [al, rc]; omega
  · refine idle_of_same rfl (if_pos ?_)
    change (!s.dev.alive || s.dev.recalling || decide (4 ≤ m)) = true
    simp [rc]
  · refine idle_of_same rfl ?_
    unfold calStepDone
    rw [show (s.here.mod m).cal = none from h]
  · refine idle_of_same rfl ((calStepDone_some (d := s.here) h).trans (if_pos ?_))
    obtain w | short := early
    · simp [w]
    · simp [short]
  · have live : ¬ (c.waiting || decide (c.raws.length < 8) || !s.here.alive) = true := by
      change ¬ (c.waiting || decide (c.raws.length < 8) || !s.dev.alive) = true
      simp [w, al]; omega
    have run := (calStepDone_some (d := s.here) h).trans (if_neg live)
    intro mean gain zero g
    refine ⟨fun st => ?_, fun st out => ?_, fun st lo hi => ?_⟩
    · exact completes_with rfl (run.trans (if_pos st))
    · exact completes_with rfl (run.trans ((if_neg st).trans (if_pos out)))
    · exact completes_with rfl (run.trans ((if_neg st).trans (if_neg (not_or.mpr ⟨Int.not_lt.mpr lo, Int.not_lt.mpr hi⟩))))
  · refine completes_with rfl (if_pos ?_)
    change (s.dev.alive && s.dev.dozing) = true
    simp [al, Dev.dozing, ds]
  · refine idle_of_same rfl (if_neg ?_)
    change ¬ (s.dev.alive && s.dev.dozing) = true
    simp [Dev.dozing, ds]

end Sys2Proof.Machine

/-! ## Shutter driver events (O54) -/

namespace Sys2Proof.Machine

/-- What a channel's pull-in leaves on the channel itself (R332, R333). -/
def Dev.pulledIn (d : Dev) (n mA : Nat) : Dev :=
  let d := d.reach ((d.sh n).since + ms (d.rd P.PULL_T [n]))
  let d := (d.wrs [(P.I_MEAS, [n], min 2047 mA), (P.DRV_STATE, [n], 3)]).refreshPair n
  let d := if 100 * mA < 90 * d.rd P.PULL_I [n] then d.set (.shd 8) (8, n) (d.shData n 0) else d
  d.flagSettles n

theorem pullInEnd_eq (d : Dev) {n : Nat} (mA : Nat) (hn : n < 64) (h : d.drv n = 2) :
    pullInEnd n mA d =
      if (d.pulledIn n mA).drv (partner n) = 1 then (d.pulledIn n mA).endWait (partner n) okay else d.pulledIn n mA :=
  if_neg (by simp [h]; omega)

/-- What MAX_ON leaves on the channel itself (R333). -/
def Dev.maxedOut (d : Dev) (n : Nat) : Dev :=
  ((d.reach ((d.sh n).since + ms (d.rd P.MAX_ON [n]))).setShd 5 n).releaseCh n

theorem maxOn_none {d : Dev} {n : Nat} (hn : n < 64) (on : d.energised n = true) (h : d.cycleOn n = none) :
    maxOn n d = d.maxedOut n := by
  refine (if_neg (by simp [on]; omega)).trans ?_
  extract_lets e cycle engine e'
  rw [show cycle = none from h]
  rfl

theorem maxOn_some {d : Dev} {n k : Nat} (hn : n < 64) (on : d.energised n = true) (h : d.cycleOn n = some k) :
    maxOn n d = if decide (d.rd P.OWNER [n] = 1) then (d.maxedOut n).cycleFault k else d.maxedOut n := by
  refine (if_neg (by simp [on]; omega)).trans ?_
  extract_lets e cycle engine e'
  rw [show cycle = some k from h]
  rfl

theorem onStateFault_live {d : Dev} {n : Nat} {f : ShFault} (hn : n < 64)
    (h : (d.energised n = true ∧ (f = .openLoad → d.shut.low = false)) ∨ (d.drv n = 4 ∧ f ≠ .openLoad)) :
    onStateFault n f d = tellCycles (d.faultCh n f) := by
  refine if_neg ?_
  cases f <;> simp <;> grind

theorem onStateFault_dead {d : Dev} {n : Nat} (f : ShFault) (off : d.energised n = false) (h : d.drv n ≠ 4) :
    onStateFault n f d = d := by
  refine if_pos ?_
  cases f <;> simp [off, h]

/-- What a diagnosis of a channel measures and latches, before it answers a clear (R336 to R338). -/
def Dev.diagnosed (d : Dev) (n mv : Nat) (low : Bool) : Dev :=
  let code := diagCode (decide (d.drv (partner n) ∈ [2, 3, 4])) mv
  let d := (d.wr P.DIAG [n] code).setSh n { d.sh n with diag := none, openOk := (d.sh n).openOk || (decide (code ≤ 2) && low) }
  (diagFault code).elim (d.refreshRest n) fun f => tellCycles (d.faultCh n f)

theorem offStateDiagnosis_plain {d : Dev} {n mv hs : Nat} {low : Bool} {why : DiagWhy} (h : (d.sh n).diag = some why)
    (off : d.energised n = false) (plain : ∀ c, why ≠ .clear c) : offStateDiagnosis n mv hs low d = d.diagnosed n mv low := by
  unfold offStateDiagnosis Dev.diagnosed
  rw [h]
  refine (if_neg (by simp [off])).trans ?_
  dsimp only
  generalize diagFault (diagCode _ mv) = fault
  cases why with
  | clear c => exact absurd rfl (plain c)
  | plain => cases fault <;> rfl
  | openCheck => cases fault <;> rfl

theorem offStateDiagnosis_clear {d : Dev} {n mv hs c : Nat} {low : Bool} (h : (d.sh n).diag = some (.clear c))
    (off : d.energised n = false) :
    offStateDiagnosis n mv hs low d =
      let e := d.diagnosed n mv low
      (e.setSh n { e.sh n with
        clearOk := some (decide (diagCode (decide (d.drv (partner n) ∈ [2, 3, 4])) mv = 1)) }).finishClear c hs := by
  unfold offStateDiagnosis Dev.diagnosed
  rw [h]
  refine (if_neg (by simp [off])).trans ?_
  dsimp only
  generalize diagFault (diagCode _ mv) = fault
  cases fault <;> rfl

/-- VSHUT as an awake device has measured it. -/
def Dev.supplyMeasured (d : Dev) (mv : Nat) : Dev :=
  let d := d.wr P.VSHUT_MV [] (min 65535 mv)
  { d with shut := { d.shut with low := decide (mv < 10500) } }

/-- A low VSHUT is told to the cycles of the energised channels, once (R335, R340). -/
def Dev.supplyTold (d : Dev) (mv : Nat) : Dev :=
  let e := (d.supplyMeasured mv).set (.shd 9) noUnit ((d.supplyMeasured mv).shData 0 0)
  if d.shut.low then d.supplyMeasured mv
  else tellCycles (e, ((List.range 64).filter (d.supplyMeasured mv).energised).filterMap e.cycleOn)

theorem supplyMeasured_awake (d : Dev) (mv : Nat) : (d.supplyMeasured mv).awake = d.awake := by
  have state : (d.supplyMeasured mv).rd P.DEV_STATE = d.rd P.DEV_STATE := Dev.rd_wr_other d P.VSHUT_MV P.DEV_STATE [] [] _ (by decide)
  change (!d.boot.inReset && !decide ((d.supplyMeasured mv).rd P.DEV_STATE = 3)) = _
  rw [state]
  rfl

theorem vshutLow_eq {d : Dev} (mv : Nat) (al : d.alive = true) :
    vshutLow mv d =
      if 10500 ≤ mv || !d.awake then d.supplyMeasured mv
      else if mv < 8000 then (d.supplyTold mv).releaseAll false else d.supplyTold mv := by
  rw [← supplyMeasured_awake d mv]
  exact if_neg (by simp [al])

/-- Settles O54, by the account of each event of a driver. -/
theorem shutterEvents : Obligations.ShutterEvents := by
  unfold Obligations.ShutterEvents
  refine ⟨fun s n hn => ⟨fun h mA => ?_, fun h => ?_, fun h => ?_, fun h mv hs low => ?_, fun off h f => ?_⟩,
    fun s n mA hn h => ?_, fun s n hn on => ⟨fun h => ?_, fun k hk own => ?_⟩, fun s n hn h => ?_, fun s n f hn h => ?_,
    fun s n mv hs low why h off plain => ⟨fun hf => ?_, fun f hf => ?_⟩, fun s n mv hs c low h off => ?_,
    fun s n hn aw rc => ⟨fun hp en free => ?_, fun h => ?_⟩, fun s j hj aw => ⟨fun h => ?_, fun on st => ?_⟩,
    fun s mv aw => ?_, fun s mv al aw => ?_⟩
  · exact idle_of_same rfl (if_pos (by change (_ || decide (s.dev.drv n ≠ 2)) = true; simp [h]))
  · exact idle_of_same rfl (if_pos (by change (_ || !s.dev.energised n) = true; simp [h]))
  · exact idle_of_same rfl (if_pos (by change (_ || decide (s.dev.drv n ≠ 4)) = true; simp [h]))
  · refine idle_of_same rfl ?_
    unfold offStateDiagnosis
    rw [show (s.here.sh n).diag = none from h]
  · exact idle_of_same rfl (onStateFault_dead (d := s.here) f off h)
  · have run := pullInEnd_eq s.here mA hn h
    exact ⟨fun hp => completes_with rfl (run.trans (if_neg hp)), fun hp => completes_with rfl (run.trans (if_pos hp))⟩
  · obtain none | host := h
    · exact completes_with rfl (maxOn_none (d := s.here) hn on none)
    · cases hc : s.dev.cycleOn n with
      | none => exact completes_with rfl (maxOn_none (d := s.here) hn on hc)
      | some k => exact completes_with rfl ((maxOn_some (d := s.here) hn on hc).trans (if_neg fun own => host (of_decide_eq_true own)))
  · exact completes_with rfl ((maxOn_some (d := s.here) hn on hk).trans (if_pos (decide_eq_true own)))
  · exact completes_with rfl (if_neg (by change ¬ (decide (64 ≤ n) || decide (s.dev.drv n ≠ 4)) = true; simp [h]; omega))
  · exact completes_with rfl (onStateFault_live (d := s.here) hn h)
  · refine completes_with rfl ((offStateDiagnosis_plain (d := s.here) h off plain).trans ?_)
    change (diagFault (diagCode (decide (s.dev.drv (partner n) ∈ [2, 3, 4])) mv)).elim _ _ = _
    rw [hf]
    rfl
  · refine completes_with rfl ((offStateDiagnosis_plain (d := s.here) h off plain).trans ?_)
    change (diagFault (diagCode (decide (s.dev.drv (partner n) ∈ [2, 3, 4])) mv)).elim _ _ = _
    rw [hf]
    rfl
  · refine completes_with rfl ((offStateDiagnosis_clear (d := s.here) h off).trans ?_)
    unfold Dev.diagnosed
    dsimp only
    rw [show s.here.drv (partner n) = s.dev.drv (partner n) from rfl]
    generalize diagFault _ = fault
    cases fault <;> rfl
  · refine completes_with rfl (if_neg ?_)
    change ¬ (decide (64 ≤ n) || !s.dev.awake || s.dev.recalling || decide (s.dev.rd P.DIAG_PERIOD = 0) || !s.dev.is P.CH_EN [n] ||
      (s.dev.sh (partner n)).diag.isSome) = true
    simp [aw, rc, hp, en, free]; omega
  · refine idle_of_same rfl (if_pos ?_)
    change (decide (64 ≤ n) || !s.dev.awake || s.dev.recalling || decide (s.dev.rd P.DIAG_PERIOD = 0) || !s.dev.is P.CH_EN [n] ||
      (s.dev.sh (partner n)).diag.isSome) = true
    obtain h | h := h <;> simp [h]
  · refine idle_of_same rfl (if_pos ?_)
    change (decide (32 ≤ j) || !s.dev.awake || s.dev.is P.HS_ON [j] || s.dev.shut.stuck.contains j) = true
    obtain h | h := h <;> rw [h] <;> simp
  · refine completes_with rfl (if_neg ?_)
    change ¬ (decide (32 ≤ j) || !s.dev.awake || s.dev.is P.HS_ON [j] || s.dev.shut.stuck.contains j) = true
    rw [aw, on, st]; simp; omega
  · have al : s.dev.alive = true := (Bool.and_eq_true_iff.mp aw).1
    have run := vshutLow_eq (d := s.here) mv al
    have up (h : mv < 10500) : ¬ (decide (10500 ≤ mv) || !s.here.awake) = true := by
      change ¬ (decide (10500 ≤ mv) || !s.dev.awake) = true
      simp [aw]; omega
    exact ⟨fun h => completes_with rfl (run.trans (if_pos (by simp [h]))),
      fun lo hi => completes_with rfl (run.trans ((if_neg (up hi)).trans (if_neg (Nat.not_lt.mpr lo)))),
      fun h => completes_with rfl (run.trans ((if_neg (up (by omega))).trans (if_pos h)))⟩
  · refine completes_with rfl ((vshutLow_eq (d := s.here) mv al).trans (if_pos ?_))
    change (decide (10500 ≤ mv) || !s.dev.awake) = true
    simp [aw]

end Sys2Proof.Machine

/-! ## A compaction that VIEWs follow (O55) -/

namespace Sys2Proof.Machine

/-- A running device at address 5 whose core 0, one pixel wide, sees tile 0 of patch 9; device 6, which attaches the tile, is live and
so the patch's directory. Its H_PEN is not what the device's state makes it, so VIEWs are due with the next command (R231). -/
def viewDueDev : Dev :=
  let d := State.reset.dev.wrs [(P.ADDR, [], 5), (P.DEV_STATE, [], 1), (P.NV_STATE, [], 1), (P.CFG_GEN, [], 1), (P.H_PEN, [], 5),
    (P.WIDTH, [0], 1), (P.HEIGHT, [0], 1), (P.CELLS_X, [], 1), (P.CELLS_Y, [], 1)]
  let d := d.tblWrite 0x2300 0 (List.replicate 4 (leBytes 8 (2 ^ 52))).flatten
  { d with
    boot := { d.boot with inReset := false, running := true }
    plc := { d.plc with
      image := leBytes 4 0x10000 ++ leBytes 2 1 ++ List.replicate 6 0 ++ [1, 0, 0, 0] ++ ([2, 0] ++ leBytes 4 24 ++ leBytes 2 1) ++
        (leBytes 4 9 ++ leBytes 4 6 ++ leBytes 8 0 ++ List.replicate 24 0xFF)
      topo := d.plc.topo.put 6 ⟨6, 6, 1, 1, [], none, 0⟩ } }

/-- That device with nothing waiting. -/
def viewDue : State := ⟨viewDueDev, []⟩

/-- The VIEW that follows the compaction takes the next sequence number towards the directory. -/
theorem viewDue_asks : (viewDue.dev.run (compaction 8)).kcp.rseqTx.get (1024 * ownHid + 6) 0 = 1 := by decide +kernel

theorem viewDue_unasked : viewDue.dev.kcp.rseqTx.get (1024 * ownHid + 6) 0 = 0 := by decide +kernel

/-- Refutes O55: the clause of a bulk area's compaction keeps the packet engine as it was, but the VIEW that is due with every command
goes to the patch's directory as a request of the device's own, under a sequence number that the engine counts. -/
theorem not_storeEvents : ¬ Obligations.StoreEvents := by
  intro h
  obtain ⟨-, -, -, -, compacts, -⟩ := h
  obtain ⟨-, -, bulk⟩ := compacts viewDue 8 (by decide +kernel) (by decide +kernel)
  obtain ⟨t, ht, -, untouched, -⟩ := bulk (by decide)
  obtain rfl : viewDue.run (compaction 8) = t := Host.Outcome.next.inj ht
  have kept : viewDue.dev.kcp = (viewDue.dev.run (compaction 8)).kcp := untouched .kcp (by decide)
  have same := viewDue_asks
  rw [← kept, viewDue_unasked] at same
  exact absurd same (by decide)

end Sys2Proof.Machine

/-! ## A reset over a field beyond its width (O56) -/

namespace Sys2Proof.Machine

/-- A device out of reset whose cell of SUP_RAIL, a field of four bits, holds 16. No write of the model leaves such a cell, but the
statement is of every state. -/
def wideRail : State := ⟨{ State.reset.dev with prm := KMap.empty.put (P.SUP_RAIL.key []) 16 }, []⟩

theorem wideRail_reads : wideRail.dev.rd P.SUP_RAIL = 16 := by decide +kernel

/-- The reset writes SUP_RAIL again, cut to its width. -/
theorem wideRail_cut : (wideRail.dev.run (resetN 1000 ⟨0, 0⟩)).rd P.SUP_RAIL = 0 := by decide +kernel

/-- Refutes O56: a RESET_N low of 1.0 µs is said to leave what SUP_RAIL read, but the model writes the field anew, cut to its four
bits, so a cell that holds 16 reads 0 afterwards. -/
theorem not_resetCauses : ¬ Obligations.ResetCauses := by
  intro h
  obtain ⟨-, low, -⟩ := h
  obtain ⟨long, -⟩ := low wideRail 1000 ⟨0, 0⟩ rfl
  obtain ⟨t, ht, -, -, rail⟩ := long (Nat.le_refl _)
  obtain rfl : wideRail.run (resetN 1000 ⟨0, 0⟩) = t := Host.Outcome.next.inj ht
  have kept : (wideRail.dev.run (resetN 1000 ⟨0, 0⟩)).rd P.SUP_RAIL = wideRail.dev.rd P.SUP_RAIL := rail
  rw [wideRail_cut, wideRail_reads] at kept
  exact absurd kept (by decide)

end Sys2Proof.Machine

/-! ## Start-up (O57) -/

namespace Sys2Proof.Machine

/-! ### Fields that records leave alone -/

/-- The parameter fields below those of the events' chapter are as they were. -/
def BelowEvents (a b : Dev) : Prop := ∀ k < 32 * 0x410000, b.prm.get? k = a.prm.get? k

theorem BelowEvents.refl (a : Dev) : BelowEvents a a := fun _ _ => rfl

theorem BelowEvents.trans {a b c : Dev} (h : BelowEvents a b) (g : BelowEvents b c) : BelowEvents a c :=
  fun k hk => (g k hk).trans (h k hk)

theorem wr_belowEvents (d : Dev) (r : Row) (ix : List Nat) (v : Nat) (h : 32 * 0x410000 ≤ r.key ix) : BelowEvents d (d.wr r ix v) :=
  fun _ hk => Dev.get?_wr_other _ _ _ _ _ (Nat.ne_of_lt (Nat.lt_of_lt_of_le hk h))

theorem bump_belowEvents (d : Dev) (r : Row) (ix : List Nat) (h : 32 * 0x410000 ≤ r.key ix) : BelowEvents d (d.bump r ix) :=
  wr_belowEvents _ _ _ _ h

theorem BelowEvents.rd_eq {a b : Dev} (h : BelowEvents a b) (r : Row) (ix : List Nat) (hk : r.key ix < 32 * 0x410000) :
    b.rd r ix = a.rd r ix := Dev.rd_congr (h _ hk)

section
variable (d : Dev)

theorem restartHold_belowEvents (n : Nat) : BelowEvents d (d.restartHold n) := by
  unfold Dev.restartHold
  split
  · exact fun _ _ => rfl
  · exact .refl d

theorem ringPush_belowEvents (e : EvRec) : BelowEvents d (d.ringPush e).1 := by
  have far : 32 * 0x410000 ≤ P.SRC_CNT.key [e.source] := by simp [Row.key, Row.addr, P.SRC_CNT]; omega
  exact fun k hk => (bump_belowEvents _ P.SRC_CNT [e.source] far k hk).trans (bump_belowEvents _ P.RING_HEAD [] (by decide) k hk)

theorem queueFor_belowEvents (e : EvRec) (n : Nat) : BelowEvents d (d.queueFor e n).1 := by
  unfold Dev.queueFor
  split
  · exact .refl d
  · dsimp only
    split
    · exact .refl d
    · exact bump_belowEvents _ P.EVT_DROP_CNT [] (by decide)

theorem queueLog_belowEvents (e : EvRec) : BelowEvents d (d.queueLog e).1 := by
  unfold Dev.queueLog
  split
  · exact .refl d
  · split
    · exact .refl d
    · exact bump_belowEvents _ P.LOG_DROP_CNT [] (by decide)

/-- A flag set changes its own field and its occurrences alone. -/
theorem markFlag_get? (f : Flag) (k : Nat) (hf : k ≠ f.home.row.key []) (ho : ∀ o ∈ f.home.occ, k ≠ o.1.key [o.2]) :
    (d.markFlag f).prm.get? k = d.prm.get? k := by
  unfold Dev.markFlag
  dsimp only
  split
  · exact Dev.get?_wr_other _ _ _ _ _ hf
  · rename_i o i heq
    exact (Dev.get?_wr_other _ _ _ _ _ (ho (o, i) heq)).trans (Dev.get?_wr_other _ _ _ _ _ hf)

theorem setRecord_get? (f : Flag) (u : Unit') (b : List Byte) (k : Nat) (hf : k ≠ f.home.row.key [])
    (ho : ∀ o ∈ f.home.occ, k ≠ o.1.key [o.2]) : (d.setRecord f u b).1.prm.get? k = d.prm.get? k := by
  rw [← markFlag_get? d f k hf ho]
  exact (apply_ite (fun x : Dev × Option EvRec => x.1.prm.get? k) _ _ _).trans (ite_self _)

theorem evtFlag_belowEvents (n : Nat) (u : Unit') (b : List Byte) : BelowEvents d (d.setRecord (.evt n) u b).1 := by
  intro k hk
  refine setRecord_get? d _ u b k (Nat.ne_of_lt (Nat.lt_of_lt_of_le hk (by decide : 32 * 0x410000 ≤ P.EVT_FLAGS.key []))) fun o ho => ?_
  obtain rfl : (P.OCC_EVT, n) = o := Option.some.inj ho
  have far : 32 * 0x410000 ≤ P.OCC_EVT.key [n] := by simp [Row.key, Row.addr, P.OCC_EVT]; omega
  exact Nat.ne_of_lt (Nat.lt_of_lt_of_le hk far)

theorem routeRec_belowEvents (next : EvRec → Dev → Dev) (h : ∀ e x, BelowEvents x (next e x)) (e : EvRec) :
    BelowEvents d (d.routeRec next e) := by
  unfold Dev.routeRec
  extract_lets drop a
  have hdrop : ∀ n x, BelowEvents x (drop n x) := by
    intro n x
    dsimp only [drop]
    have hset := (restartHold_belowEvents x (Flag.evt n).home.source).trans (evtFlag_belowEvents _ n noUnit [])
    split <;> rename_i heq <;> rw [heq] at hset
    · exact hset.trans (h _ _)
    · exact hset
  have ha : BelowEvents d a := by
    refine Dev.each_keeps BelowEvents .refl .trans _ _ d fun n _ x => ?_
    dsimp only
    split
    · exact (queueFor_belowEvents x e n).trans (hdrop 0 _)
    · exact queueFor_belowEvents x e n
  dsimp only
  split
  · exact ha.trans ((queueLog_belowEvents a e).trans (hdrop 1 _))
  · exact ha.trans (queueLog_belowEvents a e)

theorem delivered_belowEvents (n : Nat) (e : EvRec) : BelowEvents d (Machine.deliver n e d) := by
  induction n generalizing d e with
  | zero => exact ringPush_belowEvents d e
  | succ n ih =>
    unfold Machine.deliver
    dsimp only
    split
    · exact ringPush_belowEvents d e
    · exact (ringPush_belowEvents d e).trans (routeRec_belowEvents _ _ (fun e x => ih x e) _)

/-- A hardware set leaves every field below the events' chapter but the flag's own and its occurrences. -/
theorem set_get? (f : Flag) (u : Unit') (b : List Byte) (k : Nat) (hk : k < 32 * 0x410000) (hf : k ≠ f.home.row.key [])
    (ho : ∀ o ∈ f.home.occ, k ≠ o.1.key [o.2]) : (d.set f u b).prm.get? k = d.prm.get? k := by
  have hset := (setRecord_get? (d.restartHold f.home.source) f u b k hf ho).trans (restartHold_belowEvents d _ k hk)
  unfold Dev.set
  split <;> rename_i heq <;> rw [heq] at hset
  · exact (delivered_belowEvents _ 4 _ k hk).trans hset
  · exact hset

end

/-! ### Recovery -/

/-- Recovery leaves DEV_STATE 7 and Workroom stopped (R376). -/
theorem recover_enters (d : Dev) : d.recover.rd P.DEV_STATE = 7 ∧ d.recover.boot.running = false := by
  unfold Dev.recover
  extract_lets boot e f
  have state : f.rd P.DEV_STATE = 7 := (Dev.rd_wr_other _ _ _ _ _ _ (by decide)).trans (Dev.rd_wr_same ..)
  have kept : (if f.boot.memTested = true then f.wr P.MEM_MODE [] 3 else f).rd P.DEV_STATE = 7 ∧
      (if f.boot.memTested = true then f.wr P.MEM_MODE [] 3 else f).boot.running = false := by
    split
    · exact ⟨(Dev.rd_wr_other _ _ _ _ _ _ (by decide)).trans state, rfl⟩
    · exact ⟨state, rfl⟩
  refine ⟨(Dev.rd_congr (set_get? _ (.trust 2) noUnit [] _ (by decide) (by decide) (by decide))).trans kept.1, ?_⟩
  obtain ⟨_, _, _, h⟩ := set_records (if f.boot.memTested = true then f.wr P.MEM_MODE [] 3 else f) (.trust 2) noUnit []
  rw [h]
  exact kept.2

/-! ### The stored configuration -/

/-- The configuration images of the bulk store that are good. -/
def Dev.goodImages (d : Dev) : List (List Byte) :=
  if d.bulkUp then ([0x0B0000, 0x0B0001] : List Nat).filterMap fun r => (d.nv.bulkGood r).map (·.data) else []

/-- A device with an image of the surface in force, or as it was. -/
def Dev.underStored (d : Dev) : Option (List Byte) → Dev
  | some img => (d.underSurface img).wrs [(P.CFG_GEN, [], leAt img 0 4), (P.CFG_DIG_LO, [], leAt (digestOf img) 0 4),
      (P.CFG_DIG_HI, [], leAt (digestOf img) 4 4)]
  | none => d

/-- A newer image of the store is staged where nothing is. -/
def Dev.stageNewer (d : Dev) : Option (List Byte) → Dev
  | some img => if d.plc.stage.isNone then d.setStage (some (stageOf img)) else d
  | none => d

/-- The device once the images of the bulk store have been read. -/
def Dev.imagesRead (d : Dev) : Dev :=
  (({ d with boot := { d.boot with confRecalled := true } } : Dev).bulkRead 0x0B0000).bulkRead 0x0B0001

/-- The image whose activation the store holds. -/
def Dev.activeImage (d : Dev) : Option (List Byte) :=
  (d.nv.stored 2 activationRid).bind fun a => d.goodImages.find? fun i => digestOf i == a.drop 4

theorem configRecalled_eq {d : Dev} (sv : d.serving = true) (h : d.boot.confRecalled = false) :
    configRecalled d =
      let e := d.imagesRead.underStored d.imagesRead.activeImage
      (e.stageNewer (d.imagesRead.goodImages.find? fun i => decide (e.rd P.CFG_GEN < leAt i 0 4) && surfaceValid i)).sendViews := by
  refine (if_neg (by simp [sv, h])).trans ?_
  rfl

theorem stageNewer_kept {d : Dev} {newer : Option (List Byte)} (h : newer = none ∨ d.plc.stage ≠ none) : d.stageNewer newer = d := by
  cases newer with
  | none => rfl
  | some img => exact if_neg (by simpa [Option.isNone_iff_eq_none] using h)

theorem stageNewer_some {d : Dev} (img : List Byte) (h : d.plc.stage = none) :
    d.stageNewer (some img) = d.setStage (some (stageOf img)) := if_pos (by rw [h]; rfl)

/-- A command that moves the time on and changes the part of start-up and trust alone completes with both as it sets them. -/
theorem completes_timed {c : Instr} {s : State} {f : Dev → Dev} {at_ : Nat} {b : Boot} (hx : exec c s = .next (s.run f))
    (h : f s.here = { s.here.reach at_ with boot := b }) : Completes c s fun t =>
      t.boot = b ∧ t.clk = max s.dev.clk at_ ∧ Follows { s.here with clk := t.clk, boot := t.boot } t := by
  obtain ⟨t, ht, hp, follows⟩ := completes_with hx h
  have boot : b = t.dev.boot := follows.parts .boot (by decide)
  have clk : max s.dev.clk at_ = t.dev.clk := follows.parts .clk (by decide)
  refine ⟨t, ht, hp, boot.symm, clk.symm, ?_⟩
  rw [← boot, ← clk]
  exact follows

/-- Settles O57, by the account of each step of start-up, of the restarts and of what runs out of time. -/
theorem startUp : Obligations.StartUp := by
  unfold Obligations.StartUp
  refine ⟨fun s failed al rc mt => ?_, fun s failed h => ?_, fun s al mt vf ds => ?_, fun s al vf st ds => ?_, fun s h => ?_,
    fun s sv cr => ?_, fun s h => ?_, fun s => ⟨fun al early ds => ?_, fun h => ?_⟩,
    fun s addr => ⟨fun al rn => ⟨?_, ?_, ?_⟩, fun rn => ⟨?_, ?_, ?_⟩⟩, fun s => ⟨fun al rn st ha ds => ?_, fun h => ?_⟩,
    fun s => ⟨fun h => ?_, fun x h => ?_⟩, fun s => ⟨fun h => ?_, fun x h c => ?_, fun x h c => ?_⟩,
    fun s => ⟨fun h => ?_, fun x h => ?_⟩⟩
  · refine completes_with rfl (if_neg ?_)
    change ¬ (!s.dev.alive || s.dev.recalling || s.dev.boot.memTested) = true
    simp [al, rc, mt]
  · refine idle_of_same rfl (if_pos ?_)
    change (!s.dev.alive || s.dev.recalling || s.dev.boot.memTested) = true
    obtain h | h := h <;> simp [h]
  · have live : ¬ (!s.here.alive || !s.here.boot.memTested || s.here.boot.verified || decide (s.here.rd P.DEV_STATE ≠ 0)) = true := by
      change ¬ (!s.dev.alive || !s.dev.boot.memTested || s.dev.boot.verified || decide (s.dev.rd P.DEV_STATE ≠ 0)) = true
      simp [al, mt, vf, ds]
    have run : imageVerified s.here = _ := if_neg live
    intro ok a
    by_cases first : s.here.bankVerifies a = true
    · rw [if_pos first]
      exact completes_with rfl (run.trans (if_pos first))
    · rw [if_neg first]
      by_cases other : s.here.bankVerifies (1 - a) = true
      · rw [if_pos other]
        exact completes_with rfl (run.trans ((if_neg first).trans (if_pos other)))
      · rw [if_neg other]
        exact completes_with rfl (run.trans ((if_neg first).trans (if_neg other)))
  · refine completes_with rfl (if_neg ?_)
    change ¬ (!s.dev.alive || !s.dev.boot.verified || s.dev.boot.started || decide (s.dev.rd P.DEV_STATE ≠ 0)) = true
    simp [al, vf, st, ds]
  · refine idle_of_same rfl (if_pos ?_)
    change (!s.dev.alive || !s.dev.boot.verified || s.dev.boot.started || decide (s.dev.rd P.DEV_STATE ≠ 0)) = true
    obtain h | h := h <;> simp [h]
  · have run := configRecalled_eq (d := s.here) sv cr
    exact ⟨fun h => completes_with rfl (run.trans (congrArg Dev.sendViews (stageNewer_kept h))), fun img newer h =>
      completes_with rfl (run.trans (congrArg Dev.sendViews ((congrArg _ newer).trans (stageNewer_some img h))))⟩
  · refine idle_of_same rfl (if_pos ?_)
    change (!s.dev.serving || s.dev.boot.confRecalled) = true
    simp [h]
  · have run : holdFrame s.here = s.here.recover := if_pos (by
      change (s.dev.alive && decide (s.dev.clk ≤ ms 20 ∧ s.dev.rd P.DEV_STATE = 0)) = true
      simp [al, early, ds])
    obtain ⟨t, ht, hp, follows⟩ := completes_with (c := .hold) (s := s) rfl run
    obtain ⟨state, stopped⟩ := recover_enters s.here
    refine ⟨t, ht, hp, (Dev.rd_congr (follows.fields _ (by decide))).trans state, ?_, follows⟩
    have boot : s.here.recover.boot = t.dev.boot := follows.parts .boot (by decide)
    rw [← boot]
    exact stopped
  · refine idle_of_same rfl (if_neg ?_)
    change ¬ (s.dev.alive && decide (s.dev.clk ≤ ms 20 ∧ s.dev.rd P.DEV_STATE = 0)) = true
    simp only [Bool.and_eq_true, decide_eq_true_eq]
    rintro ⟨-, early, ds⟩
    exact h.elim (Nat.not_lt.mpr early) (· ds)
  · exact completes_with rfl (if_pos (by change (s.dev.alive && s.dev.boot.running) = true; simp [al, rn]))
  · exact completes_with rfl (if_pos (by change (s.dev.alive && s.dev.boot.running) = true; simp [al, rn]))
  · exact completes_with rfl (if_pos (by change (s.dev.alive && s.dev.boot.running) = true; simp [al, rn]))
  · exact idle_of_same rfl (if_neg (by change ¬ (s.dev.alive && s.dev.boot.running) = true; simp [rn]))
  · exact idle_of_same rfl (if_neg (by change ¬ (s.dev.alive && s.dev.boot.running) = true; simp [rn]))
  · exact idle_of_same rfl (if_neg (by change ¬ (s.dev.alive && s.dev.boot.running) = true; simp [rn]))
  · refine completes_with rfl (if_pos ?_)
    change (s.dev.alive && !s.dev.boot.running && s.dev.boot.started && !s.dev.halted && !s.dev.inRecovery) = true
    simp [al, rn, st, ha, Dev.inRecovery, ds]
  · refine idle_of_same rfl (if_neg ?_)
    change ¬ (s.dev.alive && !s.dev.boot.running && s.dev.boot.started && !s.dev.halted && !s.dev.inRecovery) = true
    obtain h | h | h := h <;> simp [Dev.inRecovery, h]
  · refine idle_of_same rfl ?_
    unfold trialTime
    rw [show s.here.boot.trial = none from h]
  · refine completes_with rfl ?_
    unfold trialTime
    rw [show s.here.boot.trial = some x from h]
    rfl
  · refine idle_of_same rfl ?_
    unfold sessionTimeout
    rw [show s.here.boot.session = none from h]
  · refine idle_of_same rfl ?_
    unfold sessionTimeout
    rw [show s.here.boot.session = some x from h]
    exact if_pos c
  · have run : sessionTimeout s.here = (s.here.reach (x.at_ + sec 600)).closeSession := by
      unfold sessionTimeout
      rw [show s.here.boot.session = some x from h]
      exact if_neg (by simp [c])
    exact completes_timed rfl run
  · refine idle_of_same rfl ?_
    unfold challengeExpiry
    rw [show s.here.boot.challenge = none from h]
  · have run : challengeExpiry s.here =
        { s.here.reach (x.at_ + sec 60) with boot := { s.dev.boot with challenge := none } } := by
      unfold challengeExpiry
      rw [show s.here.boot.challenge = some x from h]
      rfl
    exact completes_timed rfl run

end Sys2Proof.Machine

/-! ## The service port (O58) -/

namespace Sys2Proof.Machine

/-! ### A frame of the port read back -/

section Framed
variable (type : Nat) (m : List Byte)

theorem framed_split : framed type m = leBytes 1 type ++ (leBytes 2 m.length ++ (m ++ leBytes 2
    (crc16 (leBytes 1 type ++ leBytes 2 m.length ++ m)))) := by
  simp [framed]

theorem framed_len (h : m.length < 65536) : leAt (framed type m) 1 2 = m.length := by
  have drop : ((framed type m).drop 1).take 2 = leBytes 2 m.length := by
    rw [framed_split, List.drop_left' (by simp), List.take_left' (by simp)]
  rw [leAt, drop, leNat_leBytes]
  exact Nat.mod_eq_of_lt h

theorem framedPayload_framed (h : m.length < 65536) : framedPayload (framed type m) = m := by
  rw [framedPayload, framed_len type m h, framed_split, ← List.append_assoc, List.drop_left' (by simp), List.take_left' rfl]

theorem framedOk_framed (h : m.length < 65536) : framedOk (framed type m) = true := by
  have body : (leBytes 1 type ++ leBytes 2 m.length ++ m).length = 3 + m.length := by simp; omega
  have crc : crc16 (leBytes 1 type ++ leBytes 2 m.length ++ m) < 256 ^ 2 := BitVec.isLt _
  simp only [framedOk, framed_len type m h, decide_eq_true_eq]
  refine ⟨by simp [framed]; omega, ?_⟩
  rw [framed, List.take_left' body, leAt, List.drop_left' body, List.take_of_length_le (by simp), leNat_leBytes]
  exact Nat.mod_eq_of_lt crc

theorem framed_type (h : type < 256) : byteAt (framed type m) 0 = type := by
  rw [framed_split]
  exact byteAt_first rfl h

end Framed

/-! ### Debug requests -/

/-- A debug request frame is its payload's request. -/
theorem svcSend_debug {d : Dev} {m : List Byte} (aw : d.awake = true) (h : m.length < 65536) :
    svcSend (svcFrame 4 m) true d = debugRequest m d := by
  have ok := framedOk_framed 4 m h
  have type := framed_type 4 m (by decide)
  refine (if_neg (by simp [aw])).trans ((if_neg (by rw [svcFrame, ok]; decide)).trans ?_)
  rw [svcFrame, type, framedPayload_framed 4 m h]
  rfl

/-- Both forms in which a debug request comes run it. -/
theorem debug_exec {s : State} {m : List Byte} {c : Instr} (aw : s.dev.awake = true) (h : m.length < 65536)
    (hc : c ∈ [Instr.debugRequest m, .svcSend (svcFrame 4 m) true]) :
    ∃ f, exec c s = .next (s.run f) ∧ f s.here = debugRequest m s.here := by
  simp only [List.mem_cons, List.not_mem_nil, or_false] at hc
  obtain rfl | rfl := hc
  · exact ⟨_, rfl, rfl⟩
  · exact ⟨_, rfl, svcSend_debug (d := s.here) aw h⟩

section Debug
variable {d : Dev} {m : List Byte} (aw : d.awake = true)
include aw

theorem debugRequest_none (h : debugLevel (byteAt m 1) = none) : debugRequest m d = d.debugReply 2 [] := by
  refine (if_neg (by simp [aw])).trans ?_
  rw [h]

theorem debugRequest_low {l : Nat} (h : debugLevel (byteAt m 1) = some l) (low : d.boot.access < l) :
    debugRequest m d = d.debugReply 1 [] := by
  refine (if_neg (by simp [aw])).trans ?_
  rw [h]
  exact if_pos low

/-- A debug request whose level is open is answered by its operation. -/
theorem debugRequest_open {l : Nat} (h : debugLevel (byteAt m 1) = some l) (access : l ≤ d.boot.access) :
    debugRequest m d =
      let target := byteAt m 1
      let count := leAt m 2 2
      if byteAt m 0 = 0 then
        (if m.length = 12 ∧ 1 ≤ count ∧ count ≤ 256 then d.debugRead target (leAt m 4 8) count else d.debugReply 2 [])
      else if byteAt m 0 = 1 then
        (if 1 ≤ count ∧ count ≤ 256 ∧ m.length = 12 + 4 * count then d.debugWrite target (leAt m 4 8) (m.drop 12) else d.debugReply 2 [])
      else if 4 < byteAt m 0 ∨ 4 < target then d.debugReply 2 []
      else if byteAt m 0 = 2 then
        ({ d with boot := { d.boot with halted := target :: d.boot.halted.filter (· ≠ target) } } : Dev).debugReply 0 []
      else if byteAt m 0 = 3 then
        ({ d with boot := { d.boot with halted := d.boot.halted.filter (· ≠ target) } } : Dev).debugReply 0 []
      else d.debugReply 0 [] := by
  refine (if_neg (by simp [aw])).trans ?_
  rw [h]
  exact if_neg (Nat.not_lt.mpr access)

end Debug

/-- Settles O58: the port live and dead, a frame sent by its TYPE, and a debug request by its target, level and operation. -/
theorem servicePort : Obligations.ServicePort := by
  unfold Obligations.ServicePort
  refine ⟨fun s b m space aw => ?_, fun s aw => ⟨fun out => ?_, fun t b rest out => ?_, fun space => ?_⟩, fun s b aw => ?_,
    fun s m c aw hm hc => ?_⟩
  · have dead : (!s.here.awake) = true := by change (!s.dev.awake) = true; simp [aw]
    exact ⟨idle_of_same rfl (if_pos dead), idle_of_same rfl (if_pos dead), idle_of_same rfl (if_pos dead), idle_of_same rfl (if_pos dead)⟩
  · refine completes_with rfl ((if_neg (by change ¬ (!s.dev.awake) = true; simp [aw])).trans ?_)
    rw [show s.here.boot.svcOut = [] from out]
  · refine completes_with rfl ((if_neg (by change ¬ (!s.dev.awake) = true; simp [aw])).trans ?_)
    rw [show s.here.boot.svcOut = (t, b) :: rest from out]
    rfl
  · refine completes_with rfl ((if_neg (by change ¬ (!s.dev.awake) = true; simp [aw])).trans ?_)
    dsimp only
    rw [show (if !s.here.boot.svcOut.isEmpty then 1 else 0) = if s.dev.boot.svcOut.isEmpty then 0 else 1 from by
      change (if !s.dev.boot.svcOut.isEmpty then 1 else 0) = _
      cases s.dev.boot.svcOut.isEmpty <;> rfl]
    rfl
  · have live : ¬ (!s.here.awake) = true := by change ¬ (!s.dev.awake) = true; simp [aw]
    intro len pay whole
    have sound (h : whole) : ¬ (!true || !framedOk b) = true := by
      rw [show framedOk b = true from decide_eq_true h]; decide
    refine ⟨completes_with rfl ((if_neg live).trans (if_pos rfl)), fun damaged => completes_with rfl ((if_neg live).trans (if_pos ?_)),
      fun h type => completes_with rfl ((if_neg live).trans ((if_neg (sound h)).trans (if_pos type))), fun h type early ds => ?_,
      fun h type => ?_⟩
    · rw [show framedOk b = false from decide_eq_false damaged]; decide
    · refine completes_with rfl ((if_neg live).trans ((if_neg (sound h)).trans ((if_neg (by omega)).trans ((if_pos type).trans
        (if_pos ?_)))))
      change (s.dev.alive && decide (s.dev.clk ≤ ms 20 ∧ s.dev.rd P.DEV_STATE = 0)) = true
      simp [(Bool.and_eq_true_iff.mp aw).1, early, ds]
    · simp only [List.mem_cons, List.not_mem_nil, or_false, not_or] at type
      obtain ⟨h1, h3, h4⟩ := type
      exact idle_of_same rfl ((if_neg live).trans ((if_neg (sound h)).trans ((if_neg h1).trans ((if_neg h3).trans (if_neg h4)))))
  · obtain ⟨f, hx, hf⟩ := debug_exec aw hm hc
    refine ⟨fun h => completes_with hx (hf.trans (debugRequest_none (d := s.here) aw h)), fun l h low =>
      completes_with hx (hf.trans (debugRequest_low (d := s.here) aw h low)), fun l h access => ?_⟩
    have run := hf.trans (debugRequest_open (d := s.here) aw h access)
    refine ⟨fun op len lo hi => ?_, fun op lo hi len => ?_, fun op target => ?_, fun op target => ?_, fun op => ?_⟩
    · exact completes_with hx (run.trans ((if_pos op).trans (if_pos ⟨len, lo, hi⟩)))
    · exact completes_with hx (run.trans ((if_neg (by omega)).trans ((if_pos op).trans (if_pos ⟨lo, hi, len⟩))))
    · exact completes_with hx (run.trans ((if_neg (by omega)).trans ((if_neg (by omega)).trans ((if_neg (by omega)).trans (if_pos op)))))
    · exact completes_with hx (run.trans ((if_neg (by omega)).trans ((if_neg (by omega)).trans ((if_neg (by omega)).trans
        ((if_neg (by omega)).trans (if_pos op))))))
    · exact completes_with hx (run.trans ((if_neg (by omega)).trans ((if_neg (by omega)).trans (if_pos (Or.inl op)))))

end Sys2Proof.Machine

/-! ## Health events (O59) -/

namespace Sys2Proof.Machine

theorem eventDelivery_some {d : Dev} {n : Nat} {e : EvRec} {t : List EvRec} (h : d.evt.dq.get n [] = e :: t) :
    eventDelivery n d =
      if !d.alive || !d.destFree n then d
      else
        let dq := if t.isEmpty then d.evt.dq.del n else d.evt.dq.put n t
        let f : Dev := { d with evt := { d.evt with dq := dq, gap := d.evt.gap.filter (· ≠ n) } }
        (f.sendEvent n (f.eventPacket e (d.evt.gap.contains n))).bump P.DSENT [n] := by
  unfold eventDelivery
  rw [h]

theorem logWrite_some {d : Dev} {p : Prog} {e : EvRec} {b : Bool} {t : List (EvRec × Bool)} (h : d.evt.logQ = (e, b) :: t) :
    logWrite p d =
      if !d.alive || d.recalling || !d.nv.imm.isEmpty then d
      else if p = .failed then (d.logTurn t).setNv 4 0xFF0000 ((d.logTurn t).rd P.LOG_HEAD) 4
      else (if p = .retired then (d.logTurn t).retireFor ⟨0xFF0000, 4, List.replicate 72 0⟩ else d.logTurn t).programLog e := by
  unfold logWrite
  rw [h]

/-- The device with the baselines of its attached supplies in their table. -/
def Dev.baselined (d : Dev) : Dev :=
  d.each (d.attached.map supplyKey) fun n d => d.tblWrite 0x4103 (2 * n) (leBytes 2 (match (d.supplyAt n).base with
    | some b => min 65535 (F32.toInt (F32.mul b (F32.ofNat 10000))).toNat
    | none => 0))

theorem baselineStore_eq {d : Dev} (aw : d.awake = true) (rc : d.recalling = false) :
    baselineStore d =
      if (d.attached.map supplyKey).isEmpty then d.baselined
      else d.baselined.buffer [tableRecord 0x4103 (d.baselined.tblRead 0x4103 0 (2 * ((d.attached.map supplyKey).foldl max 0 + 1)))] :=
  if_neg (by simp [aw, rc])

/-- Settles O59, by the account of each event of health and of the log. -/
theorem healthEvents : Obligations.HealthEvents := by
  unfold Obligations.HealthEvents
  refine ⟨fun s x last e h => ?_, fun s x h => ?_, fun s n h => ?_, fun s n e t h => ⟨fun busy => ?_, fun al free => ?_⟩, fun s p h => ?_,
    fun s e b t h al rc im => ?_, fun s aw c hc => ?_, fun s aw => ⟨?_, ?_, ?_, fun rc h => ?_, fun rc h => ?_⟩,
    fun s tj al rc => ?_, fun s al => ?_⟩
  · refine completes_with rfl ?_
    unfold evtHoldoff
    rw [show s.here.evt.hold.get? x = some ⟨last, some e⟩ from h]
    rfl
  · refine idle_of_same rfl ?_
    unfold evtHoldoff
    rw [show s.here.evt.hold.get? x = none from h]
  · refine idle_of_same rfl ?_
    unfold eventDelivery
    rw [show s.here.evt.dq.get n [] = [] from h]
  · refine idle_of_same rfl ((eventDelivery_some (d := s.here) h).trans (if_pos ?_))
    change (!s.dev.alive || !s.dev.destFree n) = true
    simp [busy]
  · refine completes_with rfl ((eventDelivery_some (d := s.here) h).trans (if_neg ?_))
    change ¬ (!s.dev.alive || !s.dev.destFree n) = true
    simp [al, free]
  · refine idle_of_same rfl ?_
    cases hq : s.dev.evt.logQ with
    | nil =>
      unfold logWrite
      rw [show s.here.evt.logQ = [] from hq]
    | cons x t =>
      refine (logWrite_some (d := s.here) (e := x.1) (b := x.2) hq).trans (if_pos ?_)
      change (!s.dev.alive || s.dev.recalling || !s.dev.nv.imm.isEmpty) = true
      simp [h.resolve_left (by simp [hq])]
  · have live : ¬ (!s.here.alive || s.here.recalling || !s.here.nv.imm.isEmpty) = true := by
      change ¬ (!s.dev.alive || s.dev.recalling || !s.dev.nv.imm.isEmpty) = true
      simp [al, rc, im]
    have run (p : Prog) := (logWrite_some (d := s.here) (p := p) h).trans (if_neg live)
    exact ⟨completes_with rfl (run .good), completes_with rfl (run .retired), completes_with rfl (run .failed)⟩
  · have dead : (!s.here.awake) = true := by change (!s.dev.awake) = true; simp [aw]
    simp only [List.mem_cons, List.not_mem_nil, or_false] at hc
    obtain rfl | rfl | rfl | rfl := hc
    · exact idle_of_same rfl (if_pos dead)
    · exact idle_of_same rfl (if_pos (by rw [dead]; rfl))
    · exact idle_of_same rfl (if_pos dead)
    · exact idle_of_same rfl (if_pos dead)
  · exact completes_with rfl (if_neg (by change ¬ (!s.dev.awake) = true; simp [aw]))
  · exact completes_with rfl (if_neg (by change ¬ (!s.dev.awake) = true; simp [aw]))
  · exact completes_with rfl (if_neg (by change ¬ (!s.dev.awake) = true; simp [aw]))
  · refine idle_of_same rfl ((baselineStore_eq (d := s.here) aw rc).trans ?_)
    have none : s.here.attached = [] := h
    rw [Dev.baselined, none]
    rfl
  · refine completes_with rfl ((baselineStore_eq (d := s.here) aw rc).trans (if_neg ?_))
    change ¬ (s.dev.attached.map supplyKey).isEmpty = true
    simp [h]
  · refine completes_with rfl (if_neg ?_)
    change ¬ (!s.dev.alive || s.dev.recalling) = true
    simp [al, rc]
  · refine completes_with rfl (if_neg ?_)
    change ¬ (!s.dev.alive) = true
    simp [al]

end Sys2Proof.Machine

/-! ## Named forms (O60) -/

namespace Sys2Proof.Machine

/-! ### Packets of a stream whose header is good -/

section GoodPacket
variable {d : Dev} {l vc x : Nat}

/-- A good header names the stream and changes nothing. -/
theorem header_good (at_ : d.streamAt l vc = some x) : d.header l vc .good = (some x, d) := by
  unfold Dev.header
  dsimp only
  rw [show (if Hdr.good = .fixed then (d.bump P.ECC_CORR [l]).set (.ing 0) (1, l) (leBytes 1 l) else d) = d from if_neg nofun, at_]

variable (on : d.linkOn l = true) (at_ : d.streamAt l vc = some x)
include on at_

theorem packet_good (f : Nat → Dev → Dev) : d.packet l vc .good f = f x (d.setStrm x { d.strm x with heard := d.clk }) := by
  refine (if_pos on).trans ?_
  rw [header_good at_]
  rfl

theorem frameStart_good (n : Nat) :
    frameStart l vc n .good d = (d.setStrm x { d.strm x with heard := d.clk }).startFrame l x n .good := by
  refine (if_pos on).trans ?_
  rw [header_good at_]

end GoodPacket

/-- The stream hears the packet and keeps its frames. -/
theorem openFrame_heard {d : Dev} {x : Nat} {f : Frame} (h : (d.strm x).openFrame = some f) (t : Nat) :
    ((d.setStrm x { d.strm x with heard := t }).strm x).openFrame = some f := by
  unfold Dev.strm Dev.setStrm
  rw [KMap.get_put_same]
  exact h

/-- Settles O60: each form from the statement of its family, the packets of a sensor link from what a good header leaves. -/
theorem namedFormsComplete : Obligations.NamedFormsComplete := by
  unfold Obligations.NamedFormsComplete
  refine ⟨fun s r len count => ⟨fun hs most => ?_, fun hs most => ?_⟩, fun s r hs hp => ?_, fun s r x hs len source route hx known store => ?_,
    fun s r p hs len patch known => ?_, fun s r p hs len patch known epoch => ?_, fun s r e hs he one => ?_, fun s u on => ?_,
    fun s u seq on => ?_, fun s l vc x f on at_ opened => ?_, fun s x last e h => ?_, fun s n e queue al free gap => ?_,
    fun s e b q queue al rc im => ?_, fun s aw => ⟨?_, ?_, ?_, fun x rc one none => ?_⟩, fun s tj al rc => ?_, fun s al => ?_⟩
  · obtain ⟨reads, -⟩ := eventRequests
    obtain ⟨t, ht, hp, replied⟩ := reads s r hs len count most
    exact ⟨t, _, ht, hp, replied⟩
  · obtain ⟨-, logs, -⟩ := eventRequests
    obtain ⟨t, ht, hp, replied⟩ := logs s r hs len count most
    exact ⟨t, _, ht, hp, replied⟩
  · obtain ⟨-, -, health, -⟩ := eventRequests
    exact (health s r 0 hs (by simp [hp]) (by rw [hp]; rfl)).1 rfl
  · obtain ⟨-, -, -, routes, -⟩ := eventRequests
    have run := routes s r x 0x81 hs len source route hx known (fun _ => rfl) store
    have low : (if (flagOfSource x).isSome then 0x81 % 128 else 0x81 % 32) = 1 := by split <;> rfl
    rw [low] at run
    exact run
  · obtain ⟨-, -, places, -⟩ := placementMessages
    obtain ⟨view, withdraw, query, commit, -⟩ := places s r p hs len patch known
    exact ⟨view, withdraw, commit, query⟩
  · obtain ⟨-, -, -, hands⟩ := placementMessages
    obtain ⟨ready, -, -, -, -, state, done⟩ := hands s r p hs len patch known
    refine ⟨fun kind role => ?_, fun h kind owns found => state h kind owns (Nat.le_of_eq epoch.symm) found, fun kind role other => ?_⟩
    · have run := ready kind role (Nat.le_of_eq epoch.symm)
      rw [if_neg (by omega)] at run
      exact run
    · have run := done kind role (Nat.le_of_eq epoch.symm)
      rw [other] at run
      exact run
  · obtain ⟨reserve, -, grant, -, release, sums, nodes⟩ := seamMessages s r e hs he one
    refine ⟨fun v kind len view => ?_, grant, release, sums, nodes⟩
    have run := reserve kind len
    dsimp only at run
    rw [view] at run
    exact run
  · obtain ⟨answers, drops, pauses, ends, -⟩ := uplinkFrames
    refine ⟨fun vlan mac ip target tag own quiet => ?_, fun vlan v6 src dst body tag own quiet => ?_, fun vlan src target tag own quiet => ?_,
      fun n some_ low => (pauses s u n on low).2 some_, fun t0 paused => ?_, (drops s u on).1⟩
    · exact (answers s u vlan _ _ _ on (.inl ⟨mac, ip, target, rfl, rfl, rfl⟩)).1 tag own quiet
    · exact (answers s u vlan _ _ _ on (.inr (.inl ⟨v6, src, dst, body, rfl, rfl, rfl⟩))).1 tag own quiet
    · exact (answers s u vlan _ _ _ on (.inr (.inr ⟨src, target, rfl, rfl, rfl⟩))).1 tag own quiet
    · obtain ⟨t, ht, hp, queue, clk, -⟩ := ends s u t0 paused
      exact ⟨t, ht, hp, clk, queue⟩
  · obtain ⟨sync, -, -, followUp, -, delayReq, delayResp, announce, -⟩ := ptpMessages s u (s.dev.rd P.PTP_DOMAIN) seq on rfl
    exact ⟨sync, followUp, fun q t1 t2 t3 t4 h1 h2 h3 other => (delayResp q t1 t2 t3 t4 h1 h2 h3).1 other, announce, delayReq⟩
  · have opened' := openFrame_heard (d := s.here) opened s.here.clk
    refine ⟨fun n => completes_with rfl (frameStart_good (d := s.here) on at_ n), fun n comp => ?_, fun n line => ?_,
      completes_with rfl (packet_good (d := s.here) on at_ _), completes_with rfl (packet_good (d := s.here) on at_ _)⟩
    · refine completes_with rfl ((packet_good (d := s.here) on at_ _).trans ((if_neg ?_).trans (if_pos comp)))
      rw [opened']
      exact Bool.false_ne_true
    · refine completes_with rfl ((packet_good (d := s.here) on at_ _).trans ?_)
      rw [opened']
      exact if_pos line
  · obtain ⟨held, -⟩ := healthEvents
    exact held s x last e h
  · obtain ⟨-, -, -, delivers, -⟩ := healthEvents
    have run := (delivers s n e [] queue).2 al free
    rw [gap] at run
    exact run
  · obtain ⟨-, -, -, -, -, writes, -⟩ := healthEvents
    exact (writes s e b q queue al rc im).1
  · obtain ⟨-, -, -, -, -, -, -, grades, -⟩ := healthEvents
    exact (grades s aw).1
  · obtain ⟨-, -, -, -, -, -, -, grades, -⟩ := healthEvents
    exact (grades s aw).2.1
  · obtain ⟨-, -, -, -, -, -, -, grades, -⟩ := healthEvents
    exact (grades s aw).2.2.1
  · have row : s.here.attached = [x] := one
    have base : (s.here.supplyAt (supplyKey x)).base = .none := none
    have stored : s.here.baselined = s.here.tblWrite 0x4103 (2 * supplyKey x) [0, 0] := by
      unfold Dev.baselined
      rw [row]
      simp only [Dev.each, List.map_cons, List.map_nil, List.foldl_cons, List.foldl_nil]
      rw [base]
      rfl
    refine completes_with rfl ((baselineStore_eq (d := s.here) aw rc).trans ?_)
    rw [stored, row, List.map_cons, List.map_nil, if_neg (by simp), List.foldl_cons, List.foldl_nil, Nat.zero_max]
  · obtain ⟨-, -, -, -, -, -, -, -, junctions, -⟩ := healthEvents
    exact junctions s tj al rc
  · obtain ⟨-, -, -, -, -, -, -, -, -, hours⟩ := healthEvents
    exact hours s al

end Sys2Proof.Machine
